-- ==== Sys2Proof/Word.lean ====
section
/-! DEFINITION. The words of the FT7240 (00_scope.md, "Words and containers"): the 24-bit native word, the bit-field reads
and writes that the field tables use, and stroke time. -/

namespace Sys2Proof

/-- The native word: bits [23:0] of a container (R2 holds the mark apart). -/
abbrev Word := BitVec 24

/-- One byte of a frame, a buffer or a key. -/
abbrev Byte := BitVec 8

/-- A byte string, first byte first. -/
abbrev Bytes := List (BitVec 8)

/-- The value of bits [hi:lo] of a word, as the field tables name them. -/
def Word.slice (w : Word) (hi lo : Nat) : Nat := w.toNat / 2 ^ lo % 2 ^ (hi + 1 - lo)

/-- The word `w` with bits [hi:lo] replaced by the low bits of `v`. -/
def Word.put (w : Word) (hi lo v : Nat) : Word :=
  BitVec.ofNat 24 (w.toNat - Word.slice w hi lo * 2 ^ lo + v % 2 ^ (hi + 1 - lo) * 2 ^ lo)

/-- Bit `i` of a word. -/
def Word.bit (w : Word) (i : Nat) : Bool := w.toNat / 2 ^ i % 2 == 1

/-- Stroke time (R39): an 8-bit era followed by the 48-bit stroke number. -/
structure StrokeTime where
  /-- STK_ERA. -/
  era : BitVec 8
  /-- The 48-bit stroke number. -/
  num : BitVec 48
deriving DecidableEq, Repr

/-- Stroke time as one 56-bit count, era first. -/
def StrokeTime.toNat (t : StrokeTime) : Nat := t.era.toNat * 2 ^ 48 + t.num.toNat

/-- The stroke time of a 56-bit count. -/
def StrokeTime.ofNat (n : Nat) : StrokeTime := ⟨BitVec.ofNat 8 (n / 2 ^ 48), BitVec.ofNat 48 n⟩

end Sys2Proof
end

