-- ==== Sys2Proof/Syntax.lean ====
section
/-! DEFINITION. The commands of the FT7240: one constructor per row of spec/opcode_table.json, in the table's order. The
table gives the rows no operands, so the operands are the model's (assumption log 3, DESIGN CHOICE): the unit a step names, the master
and the word of a register access, and what only the outside of the device decides (a received frame, a sensor, a
token's answer). -/

namespace Sys2Proof

/-- The masters of R6 and R29. `pier n user`: a pier at SUPER (`user = false`) or USER. `vf t` serves tenant t (R190). -/
inductive Master where
  | keep
  | pier (n : Fin 67) (user : Bool)
  | pf
  | vf (t : Fin 256)
  | debug
deriving DecidableEq, Repr

/-- How a register is accessed: by its word address in I/O space, or by the host at a byte offset of BAR0 of a function (0 = PF,
t + 1 = VF of tenant t) with the byte enables of the dword (R3, R4). -/
inductive RegAccess where
  | io (m : Master) (a : BitVec 24)
  /-- A write that names switch slot `k` (R54, R69). -/
  | named (m : Master) (k : Fin 4) (a : BitVec 24)
  | bar (fn : Fin 257) (off : BitVec 26) (be : BitVec 4)
deriving DecidableEq, Repr

/-- Who issued a command of R330 or a keystone call of R246: a function's ring entry (`fn` 0 = PF, t + 1 = VF of tenant t;
`g` the global ring number; `idx` the command-ring index), or a pier with the domain the keystone attached (R242). -/
inductive Caller where
  | host (fn : Fin 257) (g : Fin 520) (idx : Nat)
  | pier (core : Fin 67) (dom : Nat)
deriving DecidableEq, Repr

/-- The EFFECTIVE field of a descriptor (R324): absent, a stroke time (EFF_AT), or a switch slot (EFF_SW). -/
inductive Effective where
  | none
  | at (t : StrokeTime)
  | slot (k : Fin 4)
deriving DecidableEq, Repr

/-- What the scrub of a slot finds (R129): every beat good, a corrected bit of data or of check bits, a plate line whose MAC fails, or
a leaf whose MAC fails; a MAC may fail for an uncorrectable beat. -/
inductive LineCheck where
  | good
  | correctedData
  | correctedCheck
  | lineFail (beat : Bool)
  | leafFail (beat : Bool)
deriving DecidableEq, Repr

/-- What a fetch finds (R129, R136): the lines and the walk verify, with so many beats corrected in data and in check bits; a plate
line's MAC fails; or the MAC of the node at a level of the walk. A MAC may fail for an uncorrectable beat. -/
inductive FetchCheck where
  | verified (data check : Nat)
  | lineFail (beat : Bool)
  | treeFail (level : Nat) (beat : Bool)
deriving DecidableEq, Repr

/-- The kinds of a PLATE_INSTALL's arguments (R333). -/
structure InstallArgs where
  /-- Plate index, bytes 44–46. -/
  plate : BitVec 24
  /-- AN, byte 47 [1:0]. -/
  an : BitVec 2
  /-- SUITE, byte 47 [4:2]. -/
  suite : BitVec 3
  /-- TX_CURRENT, byte 47 [5]. -/
  txCurrent : Bool
  /-- Channel, bytes 48–50. -/
  chan : BitVec 24
  /-- SAK handle, bytes 52–54. -/
  sak : BitVec 24
  /-- SSCI, bytes 56–59. -/
  ssci : BitVec 32
  /-- The optional input buffer: initial PN, PN threshold, LOW_PN. -/
  pns : Option (BitVec 64 × BitVec 64 × BitVec 64)
deriving DecidableEq, Repr

/-- CHANNEL_OPEN's optional input buffer (R332). -/
structure ChannelExtra where
  /-- MINLEN. -/
  minLen : Nat
  /-- Channel group, 0 = none. -/
  group : Nat
  /-- SIZE of R104. -/
  size : Nat
  /-- COUNT of R104. -/
  count : Nat
  /-- PLOG of R104. -/
  plog : Nat
  /-- PHASE of R104. -/
  phase : Nat
  /-- BURST of R104. -/
  burst : Nat
  /-- STIP_DA. -/
  stipDa : BitVec 48
  /-- STIP_SA. -/
  stipSa : BitVec 48
deriving DecidableEq, Repr

/-- CHANNEL_OPEN's arguments (R332). -/
structure ChannelArgs where
  /-- Byte 44 bit 0: `true` = receive. -/
  rx : Bool
  /-- Byte 44 bit 1. -/
  replay : Bool
  /-- Byte 44 bit 2. -/
  stipple : Bool
  /-- Byte 45: 0, 30 or 50. -/
  offset : Nat
  /-- Byte 46 [1:0]. -/
  sciMode : Nat
  /-- Byte 46 [3:2]. -/
  clearTags : Nat
  /-- Byte 46 [6:4]. -/
  suite : Nat
  /-- Byte 46 [7]. -/
  suiteEn : Bool
  /-- Byte 47. -/
  window : Nat
  /-- Byte 48: 0–15. -/
  clientPort : Nat
  /-- Byte 49: 16–31. -/
  linePort : Nat
  /-- Bytes 50–51. -/
  vid : BitVec 12
  /-- Bytes 52–59. -/
  sci : BitVec 64
  /-- Bytes 60–63, Mb/s. -/
  rate : Nat
  /-- The optional input buffer. -/
  extra : Option ChannelExtra
deriving DecidableEq, Repr

/-- GRAVER_JOB's arguments (R331) and its public operands. -/
structure GraverArgs where
  /-- KIND of R163. -/
  kind : BitVec 8
  /-- CURVE. -/
  curve : Bool
  /-- KOUT: the result is returned as a key object. -/
  kout : Bool
  /-- JOB_SIZE. -/
  size : Nat
  /-- H0–H3. -/
  handles : List (BitVec 24)
  /-- Public operands (IN). -/
  inp : Bytes
deriving DecidableEq, Repr

/-- The seven quotas of TENANT_CREATE and TENANT_QUOTA, in the order of R192. -/
structure Quotas where
  /-- Key slots. -/
  slots : Nat
  /-- Persistent slots. -/
  pslots : Nat
  /-- Channels. -/
  chans : Nat
  /-- Plates. -/
  plates : Nat
  /-- Deck cells. -/
  deck : Nat
  /-- Plate-cache share. -/
  share : Nat
  /-- Graver share. -/
  graver : Nat
deriving DecidableEq, Repr

/-- A token that answers a search (R374, R378). -/
structure Token where
  /-- Utvetos family. -/
  utvetos : Bool
  /-- UID or serial, byte 0 first: 4, 7 or 10 bytes. -/
  uid : Bytes
  /-- SAK. -/
  sak : Byte
deriving DecidableEq, Repr

/-- How a card or token answers an operation in progress: a response, a timeout after every retry, a protocol or CRC
failure, or an answer the operation's own rule names. -/
inductive Answer where
  | ok (rx : Bytes)
  | timeout
  | protocol
  | tooLong
deriving DecidableEq, Repr

/-- What an SD transfer is for (R393–R395): blocks of the program's own; a WRITE of a recipient record, of the backup last made, or of an
audit export; a READ of a recipient record for which a backup is then made, or of a backup that is then imported. (log 153, DESIGN CHOICE) -/
inductive BoxUse where
  | raw
  | record
  | backup
  | audit
  | offer
  | restore
deriving DecidableEq, Repr

/-- A stamp (R345): a stroke time followed by a fabric cycle, 0 to 999. -/
structure Stamp where
  time : StrokeTime
  cycle : BitVec 10
deriving DecidableEq, Repr

/-- What a heartbeat carries (R345), and when it arrives. -/
structure Beat where
  /-- The peer's stroke time. -/
  time : StrokeTime
  /-- The fabric cycle of the send stamp. -/
  cycle : BitVec 10
  /-- The echo of the last stamp that this device sent, with the peer's receive stamp. -/
  echo : Option (Stamp × Stamp)
  /-- The fabric cycle of this device's present stroke in which it arrives. -/
  arrival : BitVec 10
  /-- The peer's role: 0 SOLO, 1 ACTIVE, 2 STANDBY. -/
  role : BitVec 2
  /-- The peer's pair state (R346). -/
  pair : BitVec 3
  /-- The peer's HOLD_OUT. -/
  holdOut : Bool
  /-- The frame's ICV and PN test (R344). -/
  icvOk : Bool
deriving DecidableEq, Repr

/-- What a peer's agreement message holds (R195): certificate, X25519 value, ML-KEM encapsulation key or ciphertext,
signatures. -/
structure AgreeMsg where
  /-- The owner identity certificate (R174); empty in message 3. -/
  cert : Bytes
  /-- X25519 public value. -/
  x25519 : Bytes
  /-- ML-KEM-1024 encapsulation key (message 1) or ciphertext (message 2). -/
  kem : Bytes
  /-- ECDSA P-384 signature over the transcript hash (messages 2 and 3). -/
  ecSig : Bytes
  /-- ML-DSA-87 signature over the transcript hash (messages 2 and 3). -/
  dsaSig : Bytes
deriving DecidableEq, Repr


/-- An open channel's record (R83, R332). -/
structure Chan where
  /-- Owning domain: tenant or 256 OWN. -/
  dom : Nat
  /-- `true` = receive. -/
  rx : Bool
  replay : Bool
  stipple : Bool
  offset : Nat
  sciMode : Nat
  clearTags : Nat
  suite : Nat
  window : Nat
  /-- Client port 0–15 and line port 16–31. -/
  client : Nat
  line : Nat
  vid : Nat
  sci : BitVec 64
  /-- Declared rate, Mb/s. -/
  rate : Nat
  minLen : Nat
  /-- Channel group, 0 = none. -/
  group : Nat
  size : Nat
  count : Nat
  plog : Nat
  phase : Nat
  burst : Nat
  stipDa : BitVec 48
  stipSa : BitVec 48
  /-- The plate index of each AN, where valid. -/
  plates : List (Option Nat)
  /-- The current AN of a transmit channel. -/
  current : Option Nat
deriving DecidableEq, Repr

/-- The content of a setup change. -/
inductive Change where
  /-- PLATE_INSTALL: the plate's new words as R118 lays them out, by the command's domain (R120). -/
  | install (plate dom : Nat) (words : List Word) (txCurrent : Bool)
  | retire (plate dom : Nat)
  | recycle (plate dom : Nat)
  | pin (plate : Nat) (on : Bool)
  | openChan (c : Nat) (r : Chan)
  | closeChan (c : Nat)
  | rateChan (c rate : Nat)
  /-- TRUSS_PIN: a home of R111, or an unpin. -/
  | pinChan (c : Nat) (target : Option Nat)
  /-- A set of registers that change together: a clear-class rule, quotas. -/
  | regs (l : List (Nat × Word))
  /-- A change of a tenant's state (R191, R194). -/
  | tenant (t state : Nat)
deriving DecidableEq, Repr

/-- When a change takes effect: at a stroke (56-bit count), or at S of a switch slot. -/
inductive When where
  | stroke (n : Nat)
  | slot (k : Nat)
deriving DecidableEq, Repr

/-- A change written and not yet in force. -/
structure Pending where
  /-- The object: its kind (0 plate, 1 channel, 2 clear-class rule, 3 tenant) and its number. -/
  kind : Nat
  num : Nat
  change : Change
  eff : When
deriving DecidableEq, Repr

/-- A key object as the active of a pair sends it: wrapped with AES-KW, with its place (R348). -/
structure ObjectImage where
  dom : Nat
  ty : Nat
  size : Nat
  usage : BitVec 8
  exportable : Bool
  persist : Bool
  /-- GEN of the head slot. -/
  gen : BitVec 8
  /-- The object's slots, head first. -/
  slots : List Nat
  wrapped : Bytes
deriving DecidableEq, Repr

/-- The stored configuration of the CONFIG class (R331, R441 step 9), with the stored plan (R49). -/
structure StoredConfig where
  regs : List (Nat × Word)
  chans : List (Nat × Option Chan)
  /-- Pinned homes by channel. -/
  pins : List (Nat × Nat)
  plan : Option (List (Nat × Word))
deriving DecidableEq, Repr

/-- The content of a SETUP message (R345, R348, R353). -/
inductive Mirrored where
  /-- A committed setup with its effective stroke or switch slot. -/
  | change (c : Pending)
  /-- A key object. -/
  | object (o : ObjectImage)
  /-- Registers that hold quotas, tenant states, clear classes. -/
  | registers (l : List (Nat × BitVec 24))
  /-- What the CONFIG class stores. -/
  | config (c : Option StoredConfig)
  /-- A plan: the one in force (RESYNC), or a checked shadow plan. -/
  | plan (inForce : Bool) (words : List (Nat × Word))
  /-- A key object is gone: its head slot, and GEN. -/
  | destroyed (slot : Nat) (gen : BitVec 8)
  /-- A switch slot is armed, with its kind and its participants so far. -/
  | arm (k : Nat) (at_ : StrokeTime) (kind mask : Nat)
  /-- A switch slot is cancelled. -/
  | cancel (k : Nat)
  /-- The last message of a resynchronisation. -/
  | last
deriving DecidableEq, Repr

/-- What boot finds outside the device (R433, R441, R443, R444). -/
structure BootEnv where
  /-- The fabric PLL locks. -/
  fabricPll : Bool
  /-- The image of bank 0, of bank 1 verifies under the vendor keys. -/
  image0 : Bool
  image1 : Bool
  /-- SDRAM size code fitted and each channel's training outcome. -/
  sdramSize : Nat
  train0 : Bool
  train1 : Bool
  /-- The entropy known-answer test passes (R315). -/
  kat : Bool
  /-- The stored pier image passes its digest; the NVA holds one. -/
  pierImage : Bool
  /-- The seal check row verifies (R172). -/
  sealCheck : Bool
  /-- The strokes that the boot takes. -/
  strokes : Nat
deriving DecidableEq, Repr

/-- The commands. One constructor per row of the opcode table. -/
inductive Instr where
  | strokeBoundary
  | setupEffect
  | applianceModeEntry
  | applianceModeEnd
  | applianceModeTry (g : Fin 4)
  | strokeWrap
  | stkFwdGo (m : Master) (w : Word)
  | forwardSetEffect
  | stkPlanData (m : Master) (w : Word)
  | stkPlanCheck (m : Master) (w : Word)
  | planCheckDone
  | arm (m : Master) (k : Fin 4) (w : Word)
  | cancel (m : Master) (k : Fin 4) (w : Word)
  | switchPartAdd (m : Master) (k : Fin 4) (j : Fin 6) (w : Word)
  | stkSwPack (m : Master) (w : Word)
  | switchAck (k : Fin 4) (i : Fin 60)
  | switchDecision (k : Fin 4)
  | switchStroke (k : Fin 4)
  | stkTreq (m : Master) (w : Word)
  | testStep (col : Fin 115) (pass : Bool)
  | taskUrgent (t : Fin 8)
  | urgClr (m : Master) (t : Fin 8) (w : Word)
  | sdramScrub (c : Fin 2) (plate : BitVec 24) (r : LineCheck)
  | plateWriteBack (plate : BitVec 24)
  | integrityTreeRefresh (c : Fin 2) (level : Fin 9) (node : BitVec 24) (ok : Bool)
  | plateCacheScrub (plate : BitVec 24) (uncorrectable : Bool)
  | deckScrub
  | nvaWearLevelling (b : Fin 2) (sector : Nat)
  | nvaCheckpointWrite (b : Fin 2)
  | tenantQuotaRebalance
  | stkCntClr (m : Master) (w : Word)
  | groupModeChange (g : Fin 8)
  | portDisable (g : Fin 8) (p : Fin 4)
  | bringupTimeout (g : Fin 8) (p : Fin 4)
  | portUp (g : Fin 8) (p : Fin 4)
  | portLinkDown (g : Fin 8) (p : Fin 4)
  | marginRecalQueue (lane : Fin 34) (margin : Nat)
  | cellTake (port : Fin 33) (bytes : Bytes)
  | pauseRepeat (g : Fin 4) (p : Fin 4)
  | frameBind (port : Fin 32) (fcsOk : Bool) (fecCorr fecUnc : Nat)
  | frameAgeOut (id : Nat)
  | frameTransmit (port : Fin 32) (whole : Bool)
  | cqRxdescRead (m : Master) (q : Fin 8)
  | cqRxdataRead (m : Master) (q : Fin 8)
  | cqRxdone (m : Master) (q : Fin 8) (w : Word)
  | cqTxdata (m : Master) (q : Fin 8) (w : Word)
  | cqTxsend (m : Master) (q : Fin 8) (w : Word)
  | prtCntClr (m : Master) (g : Fin 8) (w : Word)
  | dckCntClr (m : Master) (w : Word)
  | stippleEmission (chan : BitVec 18)
  | batchRelease (n : Fin 28)
  | spanFault (n : Fin 28)
  | spanFaultCover (n : Fin 28)
  | spanTestReturn (n : Fin 28)
  | spnSwap (m : Master) (w : Word)
  | spanSwapEffect
  | pnevStatRead (m : Master)
  | pnevPop (m : Master) (w : Word)
  | trussNumberFree (i : Fin 32)
  | spnCntClr (m : Master) (w : Word)
  | plateChangeEffect (plate : BitVec 24)
  | recycleComplete (plate : BitVec 24)
  | plateFetch (c : Fin 2)
  | plateFetchDone (plate : BitVec 24) (r : FetchCheck)
  | missLate (plate : BitVec 24)
  | scoreHalving
  | pinRegionMove (plate : BitVec 24)
  | plateSnapshot (m : Master) (w : Word)
  | snapshotTaken
  | drain (m : Master) (c : Fin 2) (w : Word)
  | drainReturn (m : Master) (c : Fin 2) (w : Word)
  | drained (c : Fin 2)
  | plcCntClr (m : Master) (w : Word)
  | sdcCntClr (m : Master) (c : Fin 2) (w : Word)
  | sdcCalibrationQueue (c : Fin 2)
  | claim (m : Master) (n : Fin 16) (w : Word)
  | commit (m : Master) (n : Fin 16) (w : Word)
  | release (m : Master) (n : Fin 16) (w : Word)
  | graverWipe (n : Fin 16)
  | jobStart (n : Fin 16)
  | jobComplete (n : Fin 16)
  | jobAbort (m : Master) (n : Fin 16) (w : Word)
  | jobAbortTake (n : Fin 16)
  | listWrite (m : Master) (n : Fin 16) (w : Word)
  | bankAccess (m : Master) (n : Fin 16) (w : Option Word)
  | graverDrain (m : Master) (w : Word)
  | graverCheckFail (n : Fin 16)
  | endList (n : Fin 16)
  | mac (n : Fin 16)
  | macw (n : Fin 16)
  | ash (n : Fin 16)
  | aclr (n : Fin 16)
  | graverMov (n : Fin 16)
  | ldk (n : Fin 16) (stalled : Bool)
  | ldkDelivery (n : Fin 16)
  | graverCmp (n : Fin 16)
  | lmod (n : Fin 16)
  | loop (n : Fin 16)
  | next (n : Fin 16)
  | grvCntClr (m : Master) (w : Word)
  | keySlotsFree (slot : BitVec 16)
  | tenantEraseComplete (t : Fin 256)
  | quorumRequest (c : Caller) (cls : Fin 6) (digest : Bytes)
  | quorumApprove (c : Caller) (cls : Fin 6) (u : Fin 32) (sig : Bytes)
  | quorumTimeout (cls : Fin 6)
  | agreementStart (site : Fin 5)
  | agreementMessage1 (site : Fin 5) (msg : AgreeMsg)
  | agreementMessage2 (site : Fin 5) (msg : AgreeMsg)
  | agreementMessage3 (site : Fin 5) (msg : AgreeMsg)
  | agreementRetry (site : Fin 5)
  | keyCntClr (m : Master) (w : Word)
  | mov (n : Fin 67) (d s : Fin 32)
  | add (n : Fin 67) (d s : Fin 32)
  | sub (n : Fin 67) (d s : Fin 32)
  | cmp (n : Fin 67) (d s : Fin 32)
  | and (n : Fin 67) (d s : Fin 32)
  | or (n : Fin 67) (d s : Fin 32)
  | xor (n : Fin 67) (d s : Fin 32)
  | addq (n : Fin 67) (d : Fin 32) (i : BitVec 5)
  | movq (n : Fin 67) (d : Fin 32) (i : BitVec 5)
  | shli (n : Fin 67) (d : Fin 32) (k : Fin 24)
  | shri (n : Fin 67) (d : Fin 32) (k : Fin 24)
  | asri (n : Fin 67) (d : Fin 32) (k : Fin 24)
  | bcc (n : Fin 67) (cc : Fin 15) (long : Bool) (o : BitVec 18)
  | call (n : Fin 67) (o : BitVec 21)
  | not (n : Fin 67) (d : Fin 32)
  | neg (n : Fin 67) (d : Fin 32)
  | jmp (n : Fin 67) (s : Fin 32)
  | callr (n : Fin 67) (s : Fin 32)
  | ret (n : Fin 67) (bad : Option Word)
  | nop (c : Caller)
  | coreNop (n : Fin 67)
  | push (n : Fin 67) (s : Fin 32)
  | pop (n : Fin 67) (d : Fin 32) (markOk : Bool)
  | ldi (n : Fin 67) (d : Fin 32) (i : BitVec 16)
  | ldh (n : Fin 67) (d : Fin 32) (i : BitVec 16)
  | addi (n : Fin 67) (d : Fin 32) (i : BitVec 16)
  | andi (n : Fin 67) (d : Fin 32) (i : BitVec 16)
  | ori (n : Fin 67) (d : Fin 32) (i : BitVec 16)
  | xori (n : Fin 67) (d : Fin 32) (i : BitVec 16)
  | cmpi (n : Fin 67) (d : Fin 32) (i : BitVec 16)
  | tsti (n : Fin 67) (d : Fin 32) (i : BitVec 16)
  | ld (n : Fin 67) (d b : Fin 32) (o : BitVec 10) (markOk : Bool)
  | st (n : Fin 67) (s b : Fin 32) (o : BitVec 10)
  | inp (n : Fin 67) (d b : Fin 32) (o : BitVec 10) (markOk : Bool)
  | out (n : Fin 67) (s b : Fin 32) (o : BitVec 10)
  | adc (n : Fin 67) (d s : Fin 32)
  | sbc (n : Fin 67) (d s : Fin 32)
  | tst (n : Fin 67) (d s : Fin 32)
  | mul (n : Fin 67) (d s : Fin 32)
  | mulhu (n : Fin 67) (d s : Fin 32)
  | mulhs (n : Fin 67) (d s : Fin 32)
  | divu (n : Fin 67) (d s : Fin 32)
  | remu (n : Fin 67) (d s : Fin 32)
  | shlv (n : Fin 67) (d s : Fin 32)
  | shrv (n : Fin 67) (d s : Fin 32)
  | asrv (n : Fin 67) (d s : Fin 32)
  | rori (n : Fin 67) (d : Fin 32) (k : Fin 24)
  | clz (n : Fin 67) (d s : Fin 32)
  | movc (n : Fin 67) (d s : Fin 32) (cc : Fin 15)
  | mfs (n : Fin 67) (d : Fin 32) (sr : Fin 32)
  | mts (n : Fin 67) (sr : Fin 32) (s : Fin 32)
  | trap (n : Fin 67) (num : Fin 128)
  | eret (n : Fin 67) (bad : Option Word)
  | wait (n : Fin 67)
  | fence (n : Fin 67)
  | flush (n : Fin 67)
  | bkpt (n : Fin 67)
  | interrupt (n : Fin 67)
  | coreLockstepMismatch (n : Fin 67)
  | pierSpareStart (n : Fin 67) (answers : Bool)
  | run (m : Master) (n : Fin 67) (w : Word)
  | coreReset (m : Master) (n : Fin 67) (w : Word)
  | coreResetDone (n : Fin 67)
  | pclr (m : Master) (n : Fin 67) (w : Word)
  | pclrDone (n : Fin 67)
  | dig (m : Master) (n : Fin 67) (w : Word)
  | digDone (n : Fin 67)
  | loadEn (m : Master) (n : Fin 67) (w : Word)
  | pldData (m : Master) (n : Fin 67) (w : Word)
  | kdone (m : Master) (n : Fin 67) (w : Word)
  | kcallRelease (n : Fin 67)
  | ddata (m : Master) (n : Fin 67) (w : Option Word)
  | safeHold
  | program (m : Master) (b : Fin 2) (w : Word)
  | erase (m : Master) (b : Fin 2) (w : Word)
  | sealWrite (m : Master) (b : Fin 2) (w : Word)
  | sealRead (m : Master) (b : Fin 2) (w : Word)
  | nvaOpStart (b : Fin 2)
  | nvaOpDone (b : Fin 2) (pulses : Nat) (verified : Bool) (errors : List (Nat × Nat))
  | readWindow (m : Master) (b : Fin 2) (w : Word)
  | readWindowDone (b : Fin 2) (bitErrors : Nat)
  | remapCopyDone (b : Fin 2) (errors : List (Nat × Nat))
  | reserveSlotErase (b : Fin 2)
  | nvaSwap (m : Master) (w : Word)
  | bankSwap
  | digest (m : Master) (w : Word)
  | digestDone (errors : List (Nat × Nat))
  | nvaCntClr (m : Master) (w : Word)
  | lcsNext (m : Master) (w : Word)
  | transitionMode
  | transitionStepDone
  | provisionTimeout
  | certExpiry
  | dbgHalt (core : Fin 67)
  | dbgStep (core : Fin 67)
  | dbgResume (core : Fin 67)
  | dbgRead (core : Fin 67) (space : Fin 8) (markOk : Bool)
  | dbgWrite (core : Fin 67) (space : Fin 8) (w : Word)
  | traceOn (core : Fin 67)
  | traceOff
  | dbgData (w : Option Word)
  | lcsr
  | dbgacc (reg : Fin 3) (w : Option Word)
  | caseSwitchFire (i : Fin 8) (samples : Nat)
  | guardLoopFire (i : Fin 16) (samples : Nat)
  | supplyWindowFire (v : Fin 7) (copy : Fin 2) (mv ns : Nat)
  | supplyGlitchFire (v : Fin 7) (mv ns : Nat)
  | clockMonitorFire (i : Fin 4) (copy : Fin 2) (value cycles : Nat)
  | temperatureSample (q0 q1 q2 q3 : Byte)
  | lightFire (i : Fin 24) (ns : Nat)
  | parapetResponse
  | eraseDone
  | parapetRelease (m : Master) (w : Word)
  | lockdownRelease
  | parapetErase (m : Master) (w : Word)
  | trecClr (m : Master) (w : Word)
  | guardSeed (m : Master) (i : Fin 16) (w : Word)
  | pptCntClr (m : Master) (w : Word)
  | backupPowerOn
  | vbatSwitch (auxMillivolt : Nat)
  | healthTestFail (k : Fin 4) (apt : Bool) (bits : List Bool)
  | conditionedBlock (raw : List Bool)
  | startupPass (k : Fin 4)
  | sourceTestEnd (k : Fin 4)
  | instantiate (i : Fin 6)
  | reseed (i : Fin 6)
  | blockedReseed (i : Fin 6)
  | entDataRead (m : Master) (i : Fin 6)
  | entStatRead (m : Master) (i : Fin 6)
  | entCntClr (m : Master) (w : Word)
  | doorbell (m : Master) (g : Fin 520) (w : Word)
  | descriptorFetch (g : Fin 520) (desc : Bytes) (dmaOk : Bool)
  | commandCommit
  | completionWrite (g : Fin 520) (ok : Bool)
  | msixMessage (g : Fin 520) (masked : Bool)
  | ringEnable (m : Master) (g : Fin 520) (w : Word)
  | ringDisable (m : Master) (g : Fin 520) (w : Word)
  | flr (f : Fin 257)
  | flrTake (f : Fin 257)
  | pcieHotReset
  | pcieLinkDown
  | hifCntClr (m : Master) (w : Word)
  | cmdAbort (c : Caller) (tag : BitVec 32)
  | cmdLost (c : Caller)
  | channelOpen (c : Caller) (eff : Effective) (a : ChannelArgs)
  | channelClose (c : Caller) (eff : Effective) (chan : BitVec 24)
  | channelRate (c : Caller) (eff : Effective) (chan : BitVec 24) (rate : Nat)
  | trussPin (c : Caller) (eff : Effective) (chan : BitVec 24) (target : Byte)
  | plateInstall (c : Caller) (eff : Effective) (a : InstallArgs)
  | plateRetire (c : Caller) (eff : Effective) (plate : BitVec 24)
  | plateRecycle (c : Caller) (eff : Effective) (plate : BitVec 24)
  | platePin (c : Caller) (eff : Effective) (plate : BitVec 24)
  | plateUnpin (c : Caller) (eff : Effective) (plate : BitVec 24)
  | plateRead (c : Caller) (plate : BitVec 24)
  | graverJob (c : Caller) (a : GraverArgs)
  | keyGenerate (c : Caller) (ty usage flags : Byte) (size : Nat)
  | keyDerive (c : Caller) (parent : BitVec 24) (method ty usage flags : Byte) (label context : Bytes)
  | keyWrap (c : Caller) (wrap target : BitVec 24) (format : Byte)
  | keyUnwrap (c : Caller) (wrap : BitVec 24) (format mask flags : Byte) (salt : Bytes) (blob : Bytes)
  | keyMac (c : Caller) (handle : BitVec 24) (alg : Byte) (data : Bytes)
  | keyRestrict (c : Caller) (handle : BitVec 24) (usageMask flagsMask : Byte)
  | keyPersist (c : Caller) (handle : BitVec 24)
  | keyDestroy (c : Caller) (handle : BitVec 24)
  | keyInfo (c : Caller) (handle : BitVec 24)
  | switchArm (c : Caller) (s : StrokeTime) (kind : Byte)
  | switchCancel (c : Caller) (slot : Byte)
  | readOpenPeriod (c : Caller)
  | readRecords (c : Caller) (seq : BitVec 32)
  | setClock (c : Caller) (w : BitVec 64)
  | setPeriod (c : Caller) (secs : BitVec 32)
  | tenantCreate (c : Caller) (t : Fin 256) (q : Quotas)
  | tenantQuota (c : Caller) (t : Fin 256) (q : Quotas)
  | tenantSuspend (c : Caller) (t : Fin 256)
  | tenantResume (c : Caller) (t : Fin 256)
  | tenantErase (c : Caller) (eff : Effective) (t : Fin 256)
  | planLoad (c : Caller) (words : List Word)
  | clearClassSet (c : Caller) (eff : Effective) (side : Fin 2) (k : Fin 16) (mtch act : Word) (da : BitVec 48)
  | configStore (c : Caller)
  | configErase (c : Caller)
  | custodianEnroll (c : Caller) (u : Fin 32) (key : Bytes)
  | custodianRemove (c : Caller) (u : Fin 32)
  | quorumSet (c : Caller) (cls : Byte) (size : Nat)
  | lifecycle (c : Caller) (target : Word) (package : Bytes)
  | debugCert (c : Caller) (cert : Bytes)
  | debugCertEnd (c : Caller)
  | graverClaim (c : Caller) (n : Fin 16)
  | graverCommit (c : Caller) (n : Fin 16) (dur : Nat)
  | graverRelease (c : Caller) (n : Fin 16)
  | plateKeyInstall (c : Caller) (plate : BitVec 24) (sak : BitVec 24)
  | ledgerSign (c : Caller) (record : Bytes)
  | heartbeatSend
  | heartbeat (b : Beat)
  | res (plate : BitVec 24) (value : BitVec 64)
  | resAck (plate : BitVec 24) (value : BitVec 64)
  | mark (stroke : StrokeTime) (marks : List (Nat × BitVec 64))
  | markAck (stroke : StrokeTime)
  | markAckTimeout
  | setup (id : Nat) (content : Mirrored)
  | setupAck (id : Nat)
  | setupAckLate (id : Nat)
  | ledger (image : List Nat)
  | relinquish
  | handover (s : StrokeTime)
  | handoverAck
  | vdtHandover (m : Master) (w : Word)
  | handoverStroke
  | unpair (m : Master) (w : Word)
  | resync (m : Master) (w : Word)
  | sweepStart
  | sweepDone
  | viaductLinkUp
  | viaductLinkDown
  | pairSilence
  | takeover
  | vdtCntClr (m : Master) (w : Word)
  | clrSearch (m : Master) (w : Word) (found : List Token) (restarts : Nat)
  | clrActivate (m : Master) (w : Word) (a : Answer) (rate : BitVec 2)
  | clrExchange (m : Master) (w : Word) (a : Answer)
  | clrDeactivate (m : Master) (w : Word) (a : Answer)
  | clrQuiet (m : Master) (w : Word)
  | clrUnlock (m : Master) (w : Word) (reply : Option Byte)
  | clrAbort (m : Master) (w : Word) (acked : Bool)
  | fieldOff (m : Master) (w : Word)
  | clrOpDone
  | fieldSettled
  | fieldFault
  | clrBlockTimeout (badCrc : Bool)
  | clrWtx (wtxm : Byte)
  | lpcdPing (amplitude phase : BitVec 12)
  | quietExpiry (e : Fin 8)
  | clrCntClr (m : Master) (w : Word)
  | iccActivate (m : Master) (w : Word) (atr : Option Bytes)
  | iccExchange (m : Master) (w : Word) (a : Answer)
  | iccDeactivate (m : Master) (w : Word)
  | iccAbort (m : Master) (w : Word)
  | iccResynch (m : Master) (w : Word) (ok : Bool)
  | iccOpDone
  | iccBlockTimeout
  | iccWtx (mult : Byte)
  | iccClassRetry (atr : Option Bytes)
  | iccCardRemoved
  | iccCardInserted
  | iccOvercurrent (milliamp : Nat)
  | iccCntClr (m : Master) (w : Word)
  | rmcInit (m : Master) (w : Word) (ccs : Bool) (mode : Fin 6) (blocks : BitVec 32) (tuned : Bool)
  | rmcRead (m : Master) (w : Word) (data : List Bytes) (crcOk retryOk r1Ok : Bool) (use : BoxUse)
  | rmcWrite (m : Master) (w : Word) (r1Ok : Bool) (use : BoxUse)
  | rmcAbort (m : Master) (w : Word)
  | rmcPowerOff (m : Master) (w : Word)
  | rmcOpDone
  | rmcRetune (taps : Bool)
  | rmcBusyTimeout
  | rmcCardRemoved
  | rmcCardInserted
  | rmcCntClr (m : Master) (w : Word)
  | periodClose
  | snapRelease (m : Master) (w : Word)
  | channelTimeAdd
  | lgrSetGo (m : Master) (w : Word)
  | lampPeriodStart (k : Fin 6) (imeas : Byte)
  | lampShort (k : Fin 6)
  | lampRetry (k : Fin 6)
  | lampRetriesReset (k : Fin 6)
  | clrShort (m : Master) (k : Fin 6) (w : Word)
  | counterWrap (n : Fin 32)
  | cntLoad (m : Master) (n : Fin 32) (w : Word)
  | freeze (m : Master) (w : Word)
  | pmcStart
  | clrAll (m : Master) (w : Word)
  | histClr (m : Master) (h : Fin 4) (w : Word)
  | mainPowerOn (microseconds : Nat)
  | rstN (nanoseconds : Nat)
  | pwrCtl (m : Master) (w : Word)
  | deviceReset
  | pllLockTimeout (pll : Fin 38)
  | boot (env : BootEnv)
  | dataPlaneReady
  | powerFailWarning (pin : Bool) (mv ns : Nat)
  | powerFailHold
  | powerReturn (ticks mv : Nat)
  | pwrWdog (m : Master) (w : Word)
  | wdogWarn
  | watchdogExpiry
  | safeHoldTimer
  | registerWrite (x : RegAccess) (d : BitVec 32)
  | anComplete (g : Fin 8) (p : Fin 4)
  | trainingComplete (g : Fin 8) (p : Fin 4)
  | laneLock (lane : Fin 32) (locked localFault remoteFault : Bool)
  | pauseQuantaExpiry (port : Fin 16)
  | sdramRetrainDone (c : Fin 2) (pass : Bool)
  | vbatLow
  | strokeGeneratorMismatch
  | sourceConditionCleared (src : Fin 64)
  | backupTick (csw : BitVec 8) (loops : BitVec 16)
  | pcieLinkUp (speed : Nat) (width : Nat)
  | pciPerstN
  | vfEnableClear
  | holdInSample (level : Bool)
  | illegalInstruction (n : Fin 67) (p0 p1 : BitVec 14) (bad : Option (Fin 2))
  | hostRegisterRead (fn : Fin 257) (off : BitVec 26) (markOk : Bool)
deriving DecidableEq, Repr

end Sys2Proof
end

