-- ==== Sys2Proof/Decode.lean ====
section
/-! DEFINITION. The command that a word of the opcode table spells. No row of spec/opcode_table.json gives bits: the FT7240 takes
its commands as register writes, events and tables of operands, so no word spells one (log 3, DESIGN CHOICE). The encoding of Konus-24
instructions (R215–R221), which the cores fetch, is in Machine/Konus.lean. -/

namespace Sys2Proof

/-- The command that the `nbits` bits of `w` spell: none, for every row has no bits. -/
def decodeTableWord (_nbits _w : Nat) : Option Instr := none

end Sys2Proof
end

