-- ==== Sys2Proof/Config.lean ====
section
/-! DEFINITION. What the manual leaves open or takes from another standard: free values with no body (assumption log 4, DESIGN CHOICE)
and the cryptographic primitives that the manual names but does not define (assumption log 5, DESIGN CHOICE). Nothing here can be
evaluated, so a statement holds for every value. -/

namespace Sys2Proof.Config

/-- Log 4. A fresh word that the manual does not fix, by the step's free-value counter. -/
opaque freeWord : Nat → BitVec 24
/-- Log 4. A fresh bit that the manual does not fix. -/
opaque freeBit : Nat → Bool
/-- Log 4. The hatch in which a read is served (STK_PHASE.HATCH, R65). -/
opaque hatch : Nat → BitVec 3
/-- Log 4. Fresh conditioned noise or expander output of 384 bits, where only its freshness is stated (R305, R311). -/
opaque freshBlock : Nat → BitVec 384
/-- Log 4. Whether a job of kind 0x03 or 0x41 finds no result within its fixed budget (R164): status RETRY. -/
opaque jobRetry : Nat → Bool

/-- Log 5. AES-GCM encryption (R91, R94, R256): key bytes, IV, additional data, plaintext; ciphertext and 16-byte tag. -/
opaque gcmSeal : List (BitVec 8) → List (BitVec 8) → List (BitVec 8) → List (BitVec 8) →
  List (BitVec 8) × List (BitVec 8)
/-- Log 5. AES-GCM decryption: key bytes, IV, additional data, ciphertext, tag; `none` where the tag fails. -/
opaque gcmOpen : List (BitVec 8) → List (BitVec 8) → List (BitVec 8) → List (BitVec 8) → List (BitVec 8) →
  Option (List (BitVec 8))
/-- Log 5. AES-KW of SP 800-38F (R188, R189): key, plaintext. -/
opaque kwWrap : List (BitVec 8) → List (BitVec 8) → List (BitVec 8)
/-- Log 5. AES-KW unwrap; `none` where authentication fails. -/
opaque kwUnwrap : List (BitVec 8) → List (BitVec 8) → Option (List (BitVec 8))
/-- Log 5. AES-CMAC (R184). -/
opaque aesCmac : List (BitVec 8) → List (BitVec 8) → List (BitVec 8)
/-- Log 5. HMAC-SHA-384 (R172, R176, R184, R403): key, data; 48 bytes. -/
opaque hmacSha384 : List (BitVec 8) → List (BitVec 8) → List (BitVec 8)
/-- Log 155. Whether the keystone's verified image manifest gives this digest for a pier image (R228, R366): the manifest's form is not given. -/
opaque manifestHolds : List (BitVec 8) → Bool
/-- Log 5. SHA-384 (R228, R260): 48 bytes. -/
opaque sha384 : List (BitVec 8) → List (BitVec 8)
/-- Log 5. The AES-CMAC KDF of IEEE 802.1X (R177): CAK, label, context, output length in bytes. -/
opaque mkaKdf : List (BitVec 8) → List (BitVec 8) → List (BitVec 8) → Nat → List (BitVec 8)
/-- Log 5. Verification of an ECDSA signature (R174, R199, R280): public key, message, signature. -/
opaque ecdsaVerify : List (BitVec 8) → List (BitVec 8) → List (BitVec 8) → Bool
/-- Log 5. Verification of an ML-DSA-87 signature. -/
opaque mldsaVerify : List (BitVec 8) → List (BitVec 8) → List (BitVec 8) → Bool
/-- Log 5. A signature by a device key: which key (0 ECDSA P-384, 1 ML-DSA-87), device secret, message. -/
opaque identitySign : Nat → List (BitVec 8) → List (BitVec 8) → List (BitVec 8)
/-- Log 5. The fingerprint response of the die (R170, R173). -/
opaque fingerprint : List (BitVec 8)
/-- Log 5. Key material of a generated object, by type, size and fresh randomness (R184). -/
opaque keyGen : Nat → Nat → BitVec 384 → List (BitVec 24)
/-- Log 5. The X25519 public value of a private value; the shared secret; the ML-KEM-1024 encapsulation key,
ciphertext with secret, and decapsulation (R195, R196). -/
opaque x25519Pub : List (BitVec 8) → List (BitVec 8)
opaque x25519Shared : List (BitVec 8) → List (BitVec 8) → List (BitVec 8)
opaque kemPub : List (BitVec 8) → List (BitVec 8)
opaque kemEncap : List (BitVec 8) → List (BitVec 8) → List (BitVec 8) × List (BitVec 8)
opaque kemDecap : List (BitVec 8) → List (BitVec 8) → List (BitVec 8)
/-- Log 5. CTR_DRBG of SP 800-90A (R311): instantiate from entropy, nonce and personalisation; reseed; generate.
The working state is one string. -/
opaque drbgInstantiate : List (BitVec 8) → List (BitVec 8) → List (BitVec 8) → List (BitVec 8)
opaque drbgReseed : List (BitVec 8) → List (BitVec 8) → List (BitVec 8)
opaque drbgGenerate : List (BitVec 8) → List (BitVec 8) × List (BitVec 24)
/-- Log 4. The permutation of plate indices, keyed anew at each boot (R124): boot key, CAP_LOG. -/
opaque platePerm : BitVec 384 → (n : Nat) → Equiv.Perm (Fin (2 ^ n))
/-- Log 5. The AES-256 counter-mode stream of a line (R126), 64 bytes: key, physical address, version counter. How the counter block is
laid out is open. -/
opaque lineStream : List (BitVec 8) → Nat → Nat → List (BitVec 8)
/-- Log 5. The MAC of a plate line (R126): key, ciphertext, physical address, version counter. -/
opaque lineMac : List (BitVec 8) → List (BitVec 8) → Nat → Nat → BitVec 64
/-- Log 5. The MAC of a leaf or an upper node (R127): key, its counters and MACs, its address, its counter in the level above. -/
opaque nodeMac : List (BitVec 8) → List (BitVec 8) → Nat → Nat → BitVec 64
/-- Log 4. The GEN of a free head slot as drawn from the expander at a boot (R182), by draw and slot. -/
opaque slotGen : Nat → Nat → BitVec 8
/-- Log 4. The fixed string of the seal check (R172), which the manual does not give. -/
opaque sealString : List (BitVec 8)
/-- Log 16. The authorised digest of the driver list of a kind and size (R160 rule 1): part of the pier release. -/
opaque authorisedDigest : Nat → Nat → List (BitVec 8)
/-- Log 16. The ranges JOB_OUT and JOB_KOUT that the list of a kind and size declares (R160 rule 3). -/
opaque authorisedRanges : Nat → Nat → BitVec 24 × BitVec 24
/-- Log 16. The banks of the designated compare of a curve kind (R157): CHK_X, CHK_Y as JOB_CHK holds them. -/
opaque authorisedCheck : Nat → Nat → BitVec 24
/-- Log 4. The USAGE of a key object that a job of a kind returns (R186), which the manual does not state. -/
opaque resultUsage : Nat → BitVec 8
/-- Log 4. Whether the verification before release of an RSA private operation fails (R161). -/
opaque rsaVerifyFails : Nat → Bool
/-- Log 149. The generate calls whose output a job of a kind and size needs (R161); R164 states those of kind 0x03. Where the k-th word
lands: bank and word. -/
opaque jobDraws : Nat → Nat → Nat
opaque drawPlace : Nat → Nat → Nat → Nat × Nat
/-- Log 149. The strokes of a job, counted from its start, in which the utility cipher unit runs a phase (R162), and what the phase writes into the
banks, by kind, size, stroke and the words of the banks: bank, word, value. -/
opaque cipherPhases : Nat → Nat → List Nat
opaque cipherPhase : Nat → Nat → Nat → List (Nat × BitVec 24) → List (Nat × Nat × BitVec 24)

/-- Log 4. The source address of a PAUSE frame that a port sends (R79), which the manual does not give. -/
opaque portAddress : Nat → BitVec 48

/-- Log 152. The addresses of a viaduct frame, by direction 1 or 2 (R344): destination, source, SCI. The content of a SETUP, by its identity. -/
opaque viaductAddress : Nat → BitVec 48 × BitVec 48 × BitVec 64
opaque setupBytes : Nat → List (BitVec 8)

/-- Log 132. The source address of the frames that arrive on a port, as SCI_MODE 1 needs it when its channel is opened (R93). -/
opaque sourceAddress : Nat → BitVec 48

/-- Log 4. The mean verify-pulse count per row program that vendor test measured, by bank and physical sector (R265). -/
opaque pulseBaseline : Nat → Nat → BitVec 12

/-- Log 4. What a card or token answers to an operation that a register write began: 0 a response, 1 silence, 2 a failure, 3 a
response that is too long; its bytes; and the tokens that a search finds (family, UID, SAK). -/
opaque answerKind : Nat → BitVec 2
opaque answerBytes : Nat → List (BitVec 8)
opaque tokensFound : Nat → List (Bool × List (BitVec 8) × BitVec 8)

/-- Log 4. The strokes that the utility cipher unit takes for a command (by opcode of R330) and a public length (R184). -/
opaque cipherStrokes : Nat → Nat → Nat

/-- Log 39. What an ownership package holds (R275), whose layout the manual does not give: the owner anchors, the first
custodians' public keys, the owner identity certificate, and the two signatures. -/
opaque packageAnchors : List (BitVec 8) → List (BitVec 8) × List (BitVec 8)
opaque packageCustodians : List (BitVec 8) → List (List (BitVec 8))
opaque packageCert : List (BitVec 8) → List (BitVec 8)
opaque packageSigs : List (BitVec 8) → List (BitVec 8) × List (BitVec 8)
/-- Log 39. The vendor's public keys (R275): ECDSA P-384 and ML-DSA-87. -/
opaque vendorKeys : List (BitVec 8) × List (BitVec 8)
/-- Log 5. The public keys of an identity secret (R173): which key (0 ECDSA P-384, 1 ML-DSA-87). -/
opaque identityPub : Nat → List (BitVec 8) → List (BitVec 8)
/-- Log 16. The authorised list of a kind and size, and where the driver puts a job's public operands: bank, word, value. -/
opaque authorisedList : Nat → Nat → List (BitVec 24)
opaque jobOperands : Nat → Nat → List (BitVec 8) → List (Nat × Nat × BitVec 24)

end Sys2Proof.Config
end

