-- ==== Sys2Proof/Machine/Tab.lean ====
section
/-! DEFINITION. Sparse tables: a list of (key, value) pairs with strictly rising keys and no entry equal to what its key
reads as when it is not listed. Every register file, memory and per-unit table of State has this form. -/

namespace Sys2Proof.Machine

/-- A sparse table. -/
abbrev Tab (α : Type) := List (Nat × α)

/-- The value at key `k`; `d` where the key is not listed. (log 8, DEDUCED) -/
def Tab.get {α : Type} (d : α) : Tab α → Nat → α
  | [], _ => d
  | (j, v) :: t, k => if j = k then v else Tab.get d t k

/-- Every entry of key `k` taken out. -/
def Tab.drop {α : Type} : Tab α → Nat → Tab α
  | [], _ => []
  | (j, v) :: t, k => if j = k then Tab.drop t k else (j, v) :: Tab.drop t k

/-- An entry put in at its place in the rising order. -/
def Tab.insert {α : Type} : Tab α → Nat → α → Tab α
  | [], k, v => [(k, v)]
  | (j, u) :: t, k, v => if k < j then (k, v) :: (j, u) :: t else (j, u) :: Tab.insert t k v

/-- Writes `v` at key `k`: the value that an unlisted key reads as removes the entry. -/
def Tab.set {α : Type} [DecidableEq α] (d : α) (t : Tab α) (k : Nat) (v : α) : Tab α :=
  if v = d then Tab.drop t k else Tab.insert (Tab.drop t k) k v

/-- The keys rise strictly. -/
def Tab.rising {α : Type} : Tab α → Bool
  | [] => true
  | [_] => true
  | (j, _) :: (k, v) :: t => decide (j < k) && Tab.rising ((k, v) :: t)

/-- No entry equals what its key reads as when unlisted. -/
def Tab.lean {α : Type} [DecidableEq α] (d : Nat → α) (t : Tab α) : Bool :=
  t.all fun (k, v) => decide (v ≠ d k)

/-- The canonical form. -/
def Tab.wf {α : Type} [DecidableEq α] (d : Nat → α) (t : Tab α) : Bool := t.rising && t.lean d

/-- Every entry whose key satisfies `p` taken out: those keys read as unlisted again. -/
def Tab.clear {α : Type} (p : Nat → Bool) (t : Tab α) : Tab α := t.filter fun (k, _) => !p k

/-- Every listed value changed by `g`; what becomes the unlisted value leaves the table. -/
def Tab.update {α : Type} [DecidableEq α] (d : α) (g : α → α) (t : Tab α) : Tab α :=
  (t.map fun x => (x.1, g x.2)).filter fun x => decide (x.2 ≠ d)

end Sys2Proof.Machine
end

