-- ==== Sys2Proof/Machine/RegMap.lean ====
section
/-! DEFINITION. The register tables of the manual as data: for every writable register its address, its index ranges, the
bits each access code covers (R7), its lock bit (R8) and its reserved encodings (R10); and the reset value of every
register that does not reset to 0 (R11). -/

namespace Sys2Proof.Machine

/-- One register of a register table, with the fields of its field table gathered by access code. -/
structure RegDesc where
  /-- Address with every index 0. -/
  base : Nat
  /-- Count and stride of each index, widest stride first. -/
  dims : List (Nat × Nat)
  /-- Bits with access RW. -/
  rw : Nat
  /-- Bits with access W1C. -/
  w1c : Nat
  /-- Bits with access RWK. -/
  rwk : Nat
  /-- Bits with access RWL. -/
  rwl : Nat
  /-- Lock bits (R8), written from KEEP. -/
  lockBits : Nat
  /-- The lock of the RWL bits: register and bit. -/
  lock : Option (Nat × Nat)
  /-- Fields with reserved encodings: high bit, low bit, the valid ranges (R10). -/
  valid : List (Nat × Nat × List (Nat × Nat))
deriving DecidableEq, Repr

/-- Whether offset `o` is one of the words of an index pattern. -/
def inDims : List (Nat × Nat) → Nat → Bool
  | [], o => o == 0
  | (c, st) :: ds, o => decide (o / st < c) && inDims ds (o % st)

/-- Whether `a` is an address of the register. -/
def RegDesc.covers (r : RegDesc) (a : Nat) : Bool := decide (r.base ≤ a) && inDims r.dims (a - r.base)

/-- The writable registers of block 0x00. -/
def stkRegs : List RegDesc := [
  ⟨0x5, [], 0x0, 0xff, 0x0, 0x0, 0x0, none, []⟩, -- STK_EVT
  ⟨0x6, [], 0x0, 0x0, 0xff, 0x0, 0x0, none, []⟩, -- STK_EVT_EN
  ⟨0x8, [], 0x0, 0x0, 0xffffff, 0x0, 0x0, none, []⟩, -- STK_FWD_LO
  ⟨0x9, [], 0x0, 0x0, 0xffffff, 0x0, 0x0, none, []⟩, -- STK_FWD_HI
  ⟨0xa, [], 0x0, 0x0, 0xff, 0x0, 0x0, none, []⟩, -- STK_FWD_ERA
  ⟨0x10, [], 0x0, 0x0, 0xffff, 0x0, 0x0, none, []⟩, -- STK_PLAN_ADDR
  ⟨0x11, [], 0x0, 0x0, 0xffffff, 0x0, 0x0, none, []⟩, -- STK_PLAN_DATA
  ⟨0x40, [(4, 0x20)], 0x0, 0x0, 0x300, 0x0, 0x0, none, [(9, 8, [(0, 1)])]⟩, -- STK_SWk_CTL
  ⟨0x42, [(4, 0x20)], 0x0, 0x0, 0xffffff, 0x0, 0x0, none, []⟩, -- STK_SWk_S_LO
  ⟨0x43, [(4, 0x20)], 0x0, 0x0, 0xffffff, 0x0, 0x0, none, []⟩, -- STK_SWk_S_HI
  ⟨0x44, [(4, 0x20)], 0x0, 0x0, 0xff, 0x0, 0x0, none, []⟩, -- STK_SWk_S_ERA
  ⟨0x48, [(4, 0x20), (6, 0x1)], 0x0, 0x0, 0xffffff, 0x0, 0x0, none, []⟩, -- STK_SWk_PART0–5
  ⟨0x100, [(8, 0x4)], 0x0, 0x0, 0x3f, 0x0, 0x0, none, []⟩] -- STK_TASKt_CFG

/-- The writable registers of block 0x01. -/
def prtRegs : List RegDesc := [
  ⟨0x10000, [(8, 0x100)], 0x31f1f, 0x0, 0x0, 0x0, 0x0, none, [(17, 16, [(0, 2)]), (11, 8, [(0, 6)]), (4, 0, [(16, 31)])]⟩, -- PRT_GRPg_CFG
  ⟨0x10002, [(8, 0x100)], 0x0, 0xff, 0x0, 0x0, 0x0, none, []⟩, -- PRT_GRPg_EVT
  ⟨0x10020, [(4, 0x100), (4, 0x20)], 0xe03fff, 0x0, 0x0, 0x0, 0x0, none, [(13, 0, [(1518, 9216)])]⟩, -- PRT_PORTgp_CFG (client; R72, log 129, DESIGN CHOICE)
  ⟨0x10420, [(4, 0x100), (4, 0x20)], 0x80c000, 0x0, 0x0, 0x0, 0x0, none, [(15, 14, [(0, 2)])]⟩, -- PRT_PORTgp_CFG (line)
  ⟨0x10022, [(8, 0x100), (4, 0x20)], 0xffffff, 0x0, 0x0, 0x0, 0x0, none, []⟩, -- PRT_PORTgp_SCI_LO
  ⟨0x10023, [(8, 0x100), (4, 0x20)], 0xffffff, 0x0, 0x0, 0x0, 0x0, none, []⟩, -- PRT_PORTgp_SCI_MID
  ⟨0x10024, [(8, 0x100), (4, 0x20)], 0xffff, 0x0, 0x0, 0x0, 0x0, none, []⟩, -- PRT_PORTgp_SCI_HI
  ⟨0x100a0, [(8, 0x100), (4, 0x8)], 0xffffff, 0x0, 0x0, 0x0, 0x0, none, []⟩, -- PRT_LANEgl_CFG
  ⟨0x11000, [(2, 0x40), (16, 0x4)], 0x0, 0x0, 0xe0ffff, 0x0, 0x0, none, []⟩, -- PRT_CCsk_MATCH
  ⟨0x11001, [(2, 0x40), (16, 0x4)], 0x0, 0x0, 0xffffff, 0x0, 0x0, none, []⟩, -- PRT_CCsk_DA_HI
  ⟨0x11002, [(2, 0x40), (16, 0x4)], 0x0, 0x0, 0xffffff, 0x0, 0x0, none, []⟩, -- PRT_CCsk_DA_LO
  ⟨0x11003, [(2, 0x40), (16, 0x4)], 0x0, 0x0, 0xff0003, 0x0, 0x0, none, [(1, 0, [(0, 2)])]⟩, -- PRT_CCsk_ACT
  ⟨0x18000, [], 0xf8, 0x0, 0x0, 0x3, 0x800000, some (0x18000, 23), [(7, 3, [(10, 20)]), (1, 0, [(0, 2)])]⟩, -- DCK_CFG
  ⟨0x18003, [], 0x0, 0xf, 0x0, 0x0, 0x0, none, []⟩, -- DCK_EVT
  ⟨0x18010, [(9, 0x8)], 0x3ffff, 0x0, 0x0, 0x0, 0x0, none, []⟩, -- DCK_PGg_RES
  ⟨0x18011, [(9, 0x8)], 0x3ffff, 0x0, 0x0, 0x0, 0x0, none, []⟩, -- DCK_PGg_LIMIT
  ⟨0x18013, [(9, 0x8)], 0xffffff, 0x0, 0x0, 0x0, 0x0, none, []⟩, -- DCK_PGg_PAUSE
  ⟨0x18100, [(257, 0x2)], 0x0, 0x0, 0x3ffff, 0x0, 0x0, none, []⟩] -- DCK_Tt_LIMIT

/-- The writable registers of block 0x02. -/
def spnRegs : List RegDesc := [
  ⟨0x21c01, [], 0x0, 0x3f, 0x0, 0x0, 0x0, none, []⟩, -- SPN_EVT
  ⟨0x21c02, [], 0x0, 0x0, 0x3f, 0x0, 0x0, none, []⟩, -- SPN_EVT_EN
  ⟨0x21c03, [], 0x0, 0x0, 0x80001f, 0x0, 0x0, none, []⟩] -- SPN_SWAP

/-- The writable registers of block 0x03. -/
def plcRegs : List RegDesc := [
  ⟨0x30000, [], 0x40f800, 0x0, 0x0, 0x38001f, 0x800000, some (0x30000, 23), [(21, 19, [(0, 4)]), (15, 11, [(10, 20)]), (4, 0, [(17, 24)])]⟩, -- PLC_CFG
  ⟨0x30002, [], 0x0, 0x7f, 0x0, 0x0, 0x0, none, []⟩, -- PLC_EVT
  ⟨0x30003, [], 0x0, 0x0, 0x7f, 0x0, 0x0, none, []⟩, -- PLC_EVT_EN
  ⟨0x30030, [], 0xffffff, 0x0, 0x0, 0x0, 0x0, none, []⟩, -- PLC_PWIN_IDX
  ⟨0x30100, [(257, 0x2)], 0x0, 0x0, 0xfff, 0x0, 0x0, none, []⟩, -- PLC_Tt_SHARE
  ⟨0x38000, [(2, 0x1000)], 0x800, 0x0, 0x0, 0x8ff000, 0x400000, some (0x30000, 23), [(19, 16, [(0, 8)]), (15, 12, [(0, 5)])]⟩, -- SDC_c_CFG
  ⟨0x38002, [(2, 0x1000)], 0x0, 0xf, 0x0, 0x0, 0x0, none, []⟩] -- SDC_c_EVT

/-- The writable registers of block 0x04. -/
def grvRegs : List RegDesc := [
  ⟨0x40001, [(16, 0x100)], 0x0, 0x3f, 0x0, 0x0, 0x0, none, []⟩, -- GRV_n_EVT
  ⟨0x40003, [(16, 0x100)], 0x0, 0x0, 0xc001ff, 0x0, 0x0, none, [(8, 0, [(0, 256), (511, 511)])]⟩, -- GRV_n_AUTH
  ⟨0x40004, [(16, 0x100)], 0x8000ff, 0x0, 0x0, 0x0, 0x0, none,
    [(7, 0, [(0x00, 0x04), (0x10, 0x13), (0x20, 0x24), (0x30, 0x32), (0x40, 0x42), (0xF0, 0xF0)])]⟩, -- GRV_n_JOB_KIND
  ⟨0x40005, [(16, 0x100)], 0x7fff, 0x0, 0x0, 0x0, 0x0, none, []⟩, -- GRV_n_JOB_SIZE
  ⟨0x40006, [(16, 0x100)], 0x0, 0x0, 0xffffff, 0x0, 0x0, none, []⟩, -- GRV_n_JOB_DUR
  ⟨0x40007, [(16, 0x100)], 0x7fffff, 0x0, 0x0, 0x0, 0x0, none, [(22, 20, [(0, 3)])]⟩, -- GRV_n_JOB_OUT
  ⟨0x40008, [(16, 0x100)], 0x7fffff, 0x0, 0x0, 0x0, 0x0, none, [(22, 20, [(0, 3)])]⟩, -- GRV_n_JOB_KOUT
  ⟨0x40009, [(16, 0x100)], 0x3f, 0x0, 0x0, 0x0, 0x0, none, [(5, 3, [(0, 4), (7, 7)]), (2, 0, [(0, 4), (7, 7)])]⟩, -- GRV_n_JOB_CHK
  ⟨0x4000a, [(16, 0x100), (4, 0x1)], 0xffffff, 0x0, 0x0, 0x0, 0x0, none, []⟩, -- GRV_n_JOB_Hh
  ⟨0x4000e, [(16, 0x100)], 0xffffff, 0x0, 0x0, 0x0, 0x0, none, []⟩, -- GRV_n_JOB_TAG
  ⟨0x40010, [(16, 0x100)], 0xfff, 0x0, 0x0, 0x0, 0x0, none, []⟩, -- GRV_n_LADDR
  ⟨0x40011, [(16, 0x100)], 0xffffff, 0x0, 0x0, 0x0, 0x0, none, []⟩, -- GRV_n_LDATA
  ⟨0x40012, [(16, 0x100)], 0x73ff, 0x0, 0x0, 0x0, 0x0, none, [(14, 12, [(0, 4), (7, 7)])]⟩, -- GRV_n_BADDR
  ⟨0x40013, [(16, 0x100)], 0xffffff, 0x0, 0x0, 0x0, 0x0, none, []⟩, -- GRV_n_BDATA
  ⟨0x41001, [], 0x0, 0x0, 0xffff, 0x0, 0x0, none, []⟩, -- GRV_DRAIN
  ⟨0x41002, [], 0x0, 0xffff, 0x0, 0x0, 0x0, none, []⟩] -- GRV_EVT

/-- The writable registers of block 0x05. -/
def keyRegs : List RegDesc := [
  ⟨0x50000, [], 0x0, 0x0, 0x0, 0x1f, 0x800000, some (0x50000, 23), [(4, 0, [(20, 30)])]⟩, -- KEY_CFG
  ⟨0x50002, [], 0x0, 0x1f, 0x0, 0x0, 0x0, none, []⟩, -- KEY_EVT
  ⟨0x50003, [], 0x0, 0x0, 0x1f, 0x0, 0x0, none, []⟩, -- KEY_EVT_EN
  ⟨0x50008, [], 0xffff, 0x0, 0x0, 0x0, 0x0, none, []⟩, -- KEY_DIR_IDX
  ⟨0x51001, [(256, 0x10)], 0x0, 0x0, 0xffff, 0x0, 0x0, none, []⟩, -- KEY_Tt_SLOT_LIM
  ⟨0x51003, [(256, 0x10)], 0x0, 0x0, 0x3fff, 0x0, 0x0, none, []⟩, -- KEY_Tt_PSLOT_LIM
  ⟨0x51005, [(256, 0x10)], 0x0, 0x0, 0x3ffff, 0x0, 0x0, none, []⟩, -- KEY_Tt_CHAN_LIM
  ⟨0x51007, [(256, 0x10)], 0x0, 0x0, 0xffffff, 0x0, 0x0, none, []⟩, -- KEY_Tt_PLATE_LIM
  ⟨0x51009, [(256, 0x10)], 0x0, 0x0, 0x1ffff, 0x0, 0x0, none, []⟩] -- KEY_Tt_GRV_SHARE

/-- The writable registers of block 0x06. -/
def nvaRegs : List RegDesc := [
  ⟨0x60000, [], 0x0, 0x0, 0x1, 0x0, 0x0, none, []⟩, -- NVA_CFG
  ⟨0x60002, [], 0x0, 0xff, 0x0, 0x0, 0x0, none, []⟩, -- NVA_EVT
  ⟨0x60003, [], 0x0, 0x0, 0xff, 0x0, 0x0, none, []⟩, -- NVA_EVT_EN
  ⟨0x60005, [], 0x0, 0x0, 0xffffff, 0x0, 0x0, none, []⟩, -- NVA_MINVER
  ⟨0x60008, [], 0x0, 0x0, 0x400000, 0x0, 0x0, none, []⟩, -- NVA_DIG_CTL
  ⟨0x60009, [], 0x0, 0x0, 0x7ffff, 0x0, 0x0, none, []⟩, -- NVA_DIG_FIRST
  ⟨0x6000a, [], 0x0, 0x0, 0xfffff, 0x0, 0x0, none, []⟩, -- NVA_DIG_COUNT
  ⟨0x60100, [(2, 0x100)], 0x0, 0x0, 0xf00000, 0x0, 0x0, none, []⟩, -- NVA_Bb_CMD
  ⟨0x60101, [(2, 0x100)], 0x0, 0x0, 0x7ffff, 0x0, 0x0, none, []⟩, -- NVA_Bb_ADDR
  ⟨0x60102, [(2, 0x100)], 0x0, 0x0, 0x1ffff, 0x0, 0x0, none, []⟩, -- NVA_Bb_DADDR
  ⟨0x60104, [(2, 0x100)], 0x0, 0x0, 0xffffff, 0x0, 0x0, none, []⟩, -- NVA_Bb_RADDR
  ⟨0x60110, [(2, 0x100), (7, 0x1)], 0x0, 0x0, 0xffffff, 0x0, 0x0, none, []⟩, -- NVA_Bb_WDATAk
  ⟨0x60118, [(2, 0x100)], 0x0, 0x0, 0x7ff, 0x0, 0x0, none, []⟩] -- NVA_Bb_SIDX

/-- The writable registers of block 0x07. -/
def lcsRegs : List RegDesc := [
  ⟨0x70002, [], 0x0, 0x0, 0xffffff, 0x0, 0x0, none, []⟩, -- LCS_NEXT
  ⟨0x70004, [], 0x0, 0xf, 0x0, 0x0, 0x0, none, []⟩, -- LCS_EVT
  ⟨0x70005, [], 0x0, 0x0, 0xf, 0x0, 0x0, none, []⟩, -- LCS_EVT_EN
  ⟨0x78001, [], 0x0, 0xf, 0x0, 0x0, 0x0, none, []⟩, -- DBG_EVT
  ⟨0x78002, [], 0x0, 0x0, 0xf, 0x0, 0x0, none, []⟩, -- DBG_EVT_EN
  ⟨0x78010, [], 0xfc007f, 0x0, 0x0, 0x0, 0x0, none, [(20, 18, [(0, 4)]), (6, 0, [(0, 66)])]⟩, -- DBG_OP
  ⟨0x78011, [], 0xffffff, 0x0, 0x0, 0x0, 0x0, none, []⟩, -- DBG_ADDR
  ⟨0x78012, [], 0xffffff, 0x0, 0x0, 0x0, 0x0, none, []⟩] -- DBG_DATA

/-- The writable registers of block 0x08. -/
def pptRegs : List RegDesc := [
  ⟨0x80001, [], 0x0, 0x0, 0x0, 0x0, 0x800000, none, []⟩, -- PPT_CTL
  ⟨0x80002, [], 0x0, 0x1f, 0x0, 0x0, 0x0, none, []⟩, -- PPT_EVT
  ⟨0x80003, [], 0x0, 0x0, 0x1f, 0x0, 0x0, none, []⟩, -- PPT_EVT_EN
  ⟨0x80008, [(6, 0x1)], 0x0, 0x0, 0xffffff, 0x0, 0x0, none, []⟩, -- PPT_CLASSc
  ⟨0x80010, [(3, 0x1)], 0x0, 0xffffff, 0x0, 0x0, 0x0, none, []⟩, -- PPT_LATCHk
  ⟨0x80020, [(7, 0x1)], 0x0, 0x0, 0xffffff, 0x0, 0x0, none, []⟩, -- PPT_VLIMv
  ⟨0x80028, [], 0x0, 0x0, 0xffff, 0x0, 0x0, none, []⟩, -- PPT_TLIM
  ⟨0x8002e, [], 0x0, 0x0, 0xffffff, 0x0, 0x0, none, []⟩, -- PPT_LIGHT_EN
  ⟨0x80040, [], 0x0, 0x0, 0x0, 0x0, 0x800000, none, []⟩, -- PPT_B_CFG
  ⟨0x80048, [(8, 0x1)], 0x0, 0x0, 0x0, 0xc0000f, 0x0, some (0x80040, 23), []⟩, -- PPT_CSWn_CFG
  ⟨0x80050, [(16, 0x1)], 0x0, 0x0, 0x0, 0xc0000f, 0x0, some (0x80040, 23), []⟩] -- PPT_GRDn_CFG

/-- The writable registers of block 0x09. -/
def entRegs : List RegDesc := [
  ⟨0x90000, [], 0x0, 0x0, 0xf, 0x0, 0x0, none, []⟩, -- ENT_CTL
  ⟨0x90002, [], 0x0, 0x1f, 0x0, 0x0, 0x0, none, []⟩, -- ENT_EVT
  ⟨0x90003, [], 0x0, 0x0, 0x1f, 0x0, 0x0, none, []⟩] -- ENT_EVT_EN

/-- The writable registers of block 0x0A. -/
def hifRegs : List RegDesc := [
  ⟨0xa0001, [], 0x0, 0x1f, 0x0, 0x0, 0x0, none, []⟩, -- HIF_EVT
  ⟨0xa0002, [], 0x0, 0x0, 0x1f, 0x0, 0x0, none, []⟩, -- HIF_EVT_EN
  ⟨0xa0400, [(520, 0x1)], 0x0, 0x0, 0x7f, 0x0, 0x0, none, []⟩, -- HIF_Rg_PIER
  ⟨0xa0800, [(8, 0x10)], 0xbfffff, 0x0, 0x0, 0x0, 0x0, none, [(15, 12, [(4, 12)])]⟩, -- RING_CTL
  ⟨0xa0802, [(8, 0x10)], 0xffffff, 0x0, 0x0, 0x0, 0x0, none, []⟩, -- CQ_BASE_LO
  ⟨0xa0803, [(8, 0x10)], 0xffffff, 0x0, 0x0, 0x0, 0x0, none, []⟩, -- CQ_BASE_MID
  ⟨0xa0804, [(8, 0x10)], 0xffff, 0x0, 0x0, 0x0, 0x0, none, []⟩, -- CQ_BASE_HI
  ⟨0xa0805, [(8, 0x10)], 0xfff, 0x0, 0x0, 0x0, 0x0, none, []⟩, -- CQ_TAIL
  ⟨0xa0807, [(8, 0x10)], 0xffffff, 0x0, 0x0, 0x0, 0x0, none, []⟩, -- CP_BASE_LO
  ⟨0xa0808, [(8, 0x10)], 0xffffff, 0x0, 0x0, 0x0, 0x0, none, []⟩, -- CP_BASE_MID
  ⟨0xa0809, [(8, 0x10)], 0xffff, 0x0, 0x0, 0x0, 0x0, none, []⟩, -- CP_BASE_HI
  ⟨0xa080a, [(8, 0x10)], 0xfff, 0x0, 0x0, 0x0, 0x0, none, []⟩] -- CP_HEAD

/-- The writable registers of block 0x0B. -/
def vdtRegs : List RegDesc := [
  ⟨0xb0000, [], 0x0, 0x0, 0x0, 0x5f0000, 0x800000, some (0xb0000, 23), [(19, 18, [(0, 2)]), (17, 16, [(0, 1)])]⟩, -- VDT_CFG
  ⟨0xb0002, [], 0x0, 0x1ff, 0x0, 0x0, 0x0, none, []⟩, -- VDT_EVT
  ⟨0xb0003, [], 0x0, 0x0, 0x1ff, 0x0, 0x0, none, []⟩, -- VDT_EVT_EN
  ⟨0xb0008, [], 0xffffff, 0x0, 0x0, 0x0, 0x0, none, []⟩, -- VDT_HO_S_LO
  ⟨0xb0009, [], 0xffffff, 0x0, 0x0, 0x0, 0x0, none, []⟩, -- VDT_HO_S_HI
  ⟨0xb000a, [], 0xff, 0x0, 0x0, 0x0, 0x0, none, []⟩] -- VDT_HO_S_ERA

/-- The writable registers of block 0x0C. -/
def cusRegs : List RegDesc := [
  ⟨0xc0000, [], 0xfbc000, 0x0, 0x0, 0x0, 0x0, none, []⟩, -- CLR_CFG
  ⟨0xc0002, [], 0x0, 0x3f, 0x0, 0x0, 0x0, none, []⟩, -- CLR_EVT
  ⟨0xc0003, [], 0x0, 0x0, 0x3f, 0x0, 0x0, none, []⟩, -- CLR_EVT_EN
  ⟨0xc0007, [], 0x1ff, 0x0, 0x0, 0x0, 0x0, none, []⟩, -- CLR_TXLEN
  ⟨0xc000c, [], 0xffffff, 0x0, 0x0, 0x0, 0x0, none, [(15, 0, [(625, 65535)])]⟩, -- CLR_LPCD_CFG
  ⟨0xc000f, [], 0xff0f00, 0x0, 0x0, 0x0, 0x0, none, [(11, 8, [(0, 14)])]⟩, -- CLR_TIMING
  ⟨0xc1000, [], 0xffffc0, 0x0, 0x0, 0x0, 0x0, none, [(21, 20, [(0, 2)]), (19, 15, [(3, 19)]), (14, 10, [(0, 19)]), (9, 6, [(1, 9)])]⟩, -- ICC_CFG
  ⟨0xc1002, [], 0x0, 0x1f, 0x0, 0x0, 0x0, none, []⟩, -- ICC_EVT
  ⟨0xc1003, [], 0x0, 0x0, 0x1f, 0x0, 0x0, none, []⟩, -- ICC_EVT_EN
  ⟨0xc1007, [], 0x1ff, 0x0, 0x0, 0x0, 0x0, none, []⟩, -- ICC_TXLEN
  ⟨0xc2000, [], 0xf80000, 0x0, 0x0, 0x0, 0x0, none, [(21, 19, [(0, 5)])]⟩, -- RMC_CFG
  ⟨0xc2002, [], 0x0, 0x1f, 0x0, 0x0, 0x0, none, []⟩, -- RMC_EVT
  ⟨0xc2003, [], 0x0, 0x0, 0x1f, 0x0, 0x0, none, []⟩, -- RMC_EVT_EN
  ⟨0xc2007, [], 0xffffff, 0x0, 0x0, 0x0, 0x0, none, []⟩, -- RMC_ADDR_LO
  ⟨0xc2008, [], 0xff, 0x0, 0x0, 0x0, 0x0, none, []⟩, -- RMC_ADDR_HI
  ⟨0xc2009, [], 0xffff, 0x0, 0x0, 0x0, 0x0, none, []⟩] -- RMC_COUNT

/-- The writable registers of block 0x0D. -/
def lgrRegs : List RegDesc := [
  ⟨0xd0000, [], 0x0, 0x0, 0x3fffff, 0x0, 0x0, none, []⟩, -- LGR_CFG
  ⟨0xd0002, [], 0x0, 0x1f, 0x0, 0x0, 0x0, none, []⟩, -- LGR_EVT
  ⟨0xd0003, [], 0x0, 0x0, 0x1f, 0x0, 0x0, none, []⟩, -- LGR_EVT_EN
  ⟨0xd000c, [(3, 0x1)], 0x0, 0x0, 0xffffff, 0x0, 0x0, none, []⟩] -- LGR_SET_W

/-- The writable registers of block 0x0E. -/
def lmpRegs : List RegDesc := [
  ⟨0xe0000, [], 0xf, 0x0, 0x0, 0x0, 0x0, none, []⟩, -- LMP_CFG
  ⟨0xe0002, [], 0x0, 0xfff, 0x0, 0x0, 0x0, none, []⟩, -- LMP_EVT
  ⟨0xe0003, [], 0xfff, 0x0, 0x0, 0x0, 0x0, none, []⟩, -- LMP_EVT_EN
  ⟨0xe0010, [(6, 0x4)], 0xfc003f, 0x0, 0x0, 0x0, 0x0, none, [(20, 18, [(0, 5)])]⟩, -- LMP_k_CFG
  ⟨0xe0011, [(6, 0x4)], 0xc000ff, 0x0, 0x0, 0x0, 0x0, none, [(23, 22, [(0, 2)])]⟩] -- LMP_k_DUTY

/-- The writable registers of block 0x0F. -/
def pmcRegs : List RegDesc := [
  ⟨0xf0000, [], 0xe00000, 0x0, 0x0, 0x0, 0x0, none, []⟩, -- PMC_GCTL
  ⟨0xf0001, [], 0x0, 0x7, 0x0, 0x0, 0x0, none, []⟩, -- PMC_EVT
  ⟨0xf0002, [], 0x7, 0x0, 0x0, 0x0, 0x0, none, []⟩, -- PMC_EVT_EN
  ⟨0xf0004, [], 0x0, 0xffffff, 0x0, 0x0, 0x0, none, []⟩, -- PMC_OVF0
  ⟨0xf0005, [], 0x0, 0xff, 0x0, 0x0, 0x0, none, []⟩, -- PMC_OVF1
  ⟨0xf0008, [], 0xffffff, 0x0, 0x0, 0x0, 0x0, none, []⟩, -- PMC_START_LO
  ⟨0xf0009, [], 0xffffff, 0x0, 0x0, 0x0, 0x0, none, []⟩, -- PMC_START_HI
  ⟨0xf000a, [], 0xff, 0x0, 0x0, 0x0, 0x0, none, []⟩, -- PMC_START_ERA
  ⟨0xf0100, [(32, 0x8)], 0xffe0ff, 0x0, 0x0, 0x0, 0x0, none, []⟩, -- PMC_Cn_CTL
  ⟨0xf0101, [(32, 0x8)], 0xff01ff, 0x0, 0x0, 0x0, 0x0, none, []⟩, -- PMC_Cn_FILT0
  ⟨0xf0102, [(32, 0x8)], 0xff, 0x0, 0x0, 0x0, 0x0, none, []⟩, -- PMC_Cn_FILT1
  ⟨0xf0103, [(32, 0x8)], 0xffffff, 0x0, 0x0, 0x0, 0x0, none, []⟩, -- PMC_Cn_ALO
  ⟨0xf0104, [(32, 0x8)], 0xffffff, 0x0, 0x0, 0x0, 0x0, none, []⟩, -- PMC_Cn_AHI
  ⟨0xf0105, [(32, 0x8)], 0xffffff, 0x0, 0x0, 0x0, 0x0, none, []⟩, -- PMC_Cn_CNT_LO
  ⟨0xf0106, [(32, 0x8)], 0xffffff, 0x0, 0x0, 0x0, 0x0, none, []⟩, -- PMC_Cn_CNT_HI
  ⟨0xf1000, [(4, 0x80)], 0xffdf07, 0x0, 0x0, 0x0, 0x0, none, [(12, 8, [(0, 20)])]⟩, -- PMC_Hh_CTL
  ⟨0xf1001, [(4, 0x80)], 0xffff1f, 0x0, 0x0, 0x0, 0x0, none, [(4, 0, [(0, 20)])]⟩, -- PMC_Hh_BIN
  ⟨0xf1002, [(4, 0x80)], 0x1fff, 0x0, 0x0, 0x0, 0x0, none, []⟩] -- PMC_Hh_FILT

/-- The writable registers of block 0x10. -/
def pwrRegs : List RegDesc := [
  ⟨0x100002, [], 0x0, 0x3, 0x0, 0x0, 0x0, none, []⟩, -- PWR_EVT
  ⟨0x100003, [], 0x0, 0x0, 0x3, 0x0, 0x0, none, []⟩, -- PWR_EVT_EN
  ⟨0x100005, [], 0x0, 0x0, 0x0, 0x40f81f, 0x800000, some (0x100005, 23), [(15, 11, [(18, 26)]), (4, 0, [(0, 0), (20, 26)])]⟩, -- PWR_CFG
  ⟨0x100007, [], 0x0, 0x0, 0x0, 0xf, 0x0, some (0x100005, 23), [(3, 0, [(0, 8)])]⟩] -- PWR_PFW_CFG

/-- The writable registers of block 0x20. -/
def coreRegs : List RegDesc := [
  ⟨0x200000, [(67, 0x1000)], 0x0, 0x0, 0x880000, 0x0, 0x0, none, []⟩, -- CORE_n_CTL
  ⟨0x200008, [(67, 0x1000)], 0x0, 0x0, 0xffff, 0x0, 0x0, none, []⟩, -- CORE_n_PLD_ADDR
  ⟨0x200005, [(67, 0x1000)], 0x7f, 0x0, 0x0, 0x0, 0x0, none, []⟩, -- CORE_n_IEN
  ⟨0x200006, [(67, 0x1000)], 0x0, 0x0, 0x1ff, 0x0, 0x0, none, [(8, 0, [(0, 256), (511, 511)])]⟩, -- CORE_n_KDOM
  ⟨0x200050, [(67, 0x1000), (8, 0x1)], 0x0, 0x0, 0xffffff, 0x0, 0x0, none, []⟩, -- CORE_n_KRESk
  ⟨0x200058, [(67, 0x1000)], 0x0, 0x0, 0x83ffff, 0x0, 0x0, none, []⟩, -- CORE_n_KDONE
  ⟨0x200060, [(67, 0x1000)], 0x0, 0x0, 0x7fff, 0x0, 0x0, none, []⟩, -- CORE_n_DADDR
  ⟨0x200061, [(67, 0x1000)], 0x0, 0x0, 0xffffff, 0x0, 0x0, none, []⟩] -- CORE_n_DDATA

/-- The writable registers of block 0x80. -/
def tenantRegs : List RegDesc := [
  ⟨0x800000, [(256, 0x8000), (2, 0x10)], 0xbfffff, 0x0, 0x0, 0x0, 0x0, none, [(15, 12, [(4, 12)])]⟩, -- RING_CTL
  ⟨0x800002, [(256, 0x8000), (2, 0x10)], 0xffffff, 0x0, 0x0, 0x0, 0x0, none, []⟩, -- CQ_BASE_LO
  ⟨0x800003, [(256, 0x8000), (2, 0x10)], 0xffffff, 0x0, 0x0, 0x0, 0x0, none, []⟩, -- CQ_BASE_MID
  ⟨0x800004, [(256, 0x8000), (2, 0x10)], 0xffff, 0x0, 0x0, 0x0, 0x0, none, []⟩, -- CQ_BASE_HI
  ⟨0x800005, [(256, 0x8000), (2, 0x10)], 0xfff, 0x0, 0x0, 0x0, 0x0, none, []⟩, -- CQ_TAIL
  ⟨0x800007, [(256, 0x8000), (2, 0x10)], 0xffffff, 0x0, 0x0, 0x0, 0x0, none, []⟩, -- CP_BASE_LO
  ⟨0x800008, [(256, 0x8000), (2, 0x10)], 0xffffff, 0x0, 0x0, 0x0, 0x0, none, []⟩, -- CP_BASE_MID
  ⟨0x800009, [(256, 0x8000), (2, 0x10)], 0xffff, 0x0, 0x0, 0x0, 0x0, none, []⟩, -- CP_BASE_HI
  ⟨0x80000a, [(256, 0x8000), (2, 0x10)], 0xfff, 0x0, 0x0, 0x0, 0x0, none, []⟩] -- CP_HEAD

/-- The writable registers of the block that holds address `a`. -/
def regsAt (a : Nat) : List RegDesc :=
  match a / 0x10000 with
  | 0x0 => stkRegs
  | 0x1 => prtRegs
  | 0x2 => spnRegs
  | 0x3 => plcRegs
  | 0x4 => grvRegs
  | 0x5 => keyRegs
  | 0x6 => nvaRegs
  | 0x7 => lcsRegs
  | 0x8 => pptRegs
  | 0x9 => entRegs
  | 0xa => hifRegs
  | 0xb => vdtRegs
  | 0xc => cusRegs
  | 0xd => lgrRegs
  | 0xe => lmpRegs
  | 0xf => pmcRegs
  | 0x10 => pwrRegs
  | b => if b < 0x20 then [] else if b < 0x25 then coreRegs else if 0x80 ≤ b then tenantRegs else []

/-- The register at address `a`, if it is writable. -/
def regAt (a : Nat) : Option RegDesc := (regsAt a).find? (·.covers a)

/-- Reset values of block 0x00 that are not 0: base, indices, value. -/
def stkResets : List (Nat × List (Nat × Nat) × Word) := [
  (0x100, [], 0x24), -- STK_TASK0_CFG (R64)
  (0x104, [], 0x1e), -- STK_TASK1_CFG (R64)
  (0x108, [], 0x20), -- STK_TASK2_CFG (R64)
  (0x10c, [], 0x1c), -- STK_TASK3_CFG (R64)
  (0x110, [], 0x1a), -- STK_TASK4_CFG (R64)
  (0x114, [], 0x22), -- STK_TASK5_CFG (R64)
  (0x118, [], 0x10), -- STK_TASK6_CFG (R64)
  (0x11c, [], 0x16)] -- STK_TASK7_CFG (R64)

/-- Reset values of block 0x01 that are not 0: base, indices, value. -/
def prtResets : List (Nat × List (Nat × Nat) × Word) := [
  (0x10000, [(8, 0x100)], 0x16), -- PRT_GRPg_CFG
  (0x10020, [(4, 0x100), (4, 0x20)], 0x2400), -- PRT_PORTgp_CFG (client)
  (0x10420, [(4, 0x100), (4, 0x20)], 0x2440), -- PRT_PORTgp_CFG (line)
  (0x18000, [], 0x71), -- DCK_CFG
  (0x18011, [(9, 0x8)], 0x8000), -- DCK_PGg_LIMIT
  (0x11000, [], 0x80888e), -- PRT_CCs0_MATCH
  (0x11003, [], 0x2), -- PRT_CCs0_ACT
  (0x11040, [], 0x80888e), -- PRT_CCs0_MATCH
  (0x11043, [], 0x2)] -- PRT_CCs0_ACT

/-- Reset values of block 0x02 that are not 0: base, indices, value. -/
def spnResets : List (Nat × List (Nat × Nat) × Word) := [
  (0x20000, [(28, 0x100)], 0xbf0100), -- SPN_n_STAT
  (0x20002, [(28, 0x100)], 0x3e8), -- SPN_n_CAP
  (0x21c00, [], 0x1c), -- SPN_GLB
  (0x24000, [(32, 0x100)], 0x3f0000)] -- TRS_m_STAT

/-- Reset values of block 0x03 that are not 0: base, indices, value. -/
def plcResets : List (Nat × List (Nat × Nat) × Word) := [
  (0x30000, [], 0x487011)] -- PLC_CFG

/-- Reset values of block 0x04 that are not 0: base, indices, value. -/
def grvResets : List (Nat × List (Nat × Nat) × Word) := [
  (0x40000, [(16, 0x100)], 0x1ff), -- GRV_n_STAT
  (0x40003, [(16, 0x100)], 0x1ff), -- GRV_n_AUTH
  (0x41000, [], 0x10)] -- GRV_GLB_STAT

/-- Reset values of block 0x05 that are not 0: base, indices, value. -/
def keyResets : List (Nat × List (Nat × Nat) × Word) := [
  (0x50000, [], 0x1c), -- KEY_CFG
  (0x50004, [], 0x2000)] -- KEY_PFREE

/-- Reset values of block 0x06 that are not 0: base, indices, value. -/
def nvaResets : List (Nat × List (Nat × Nat) × Word) := [
  (0x60103, [(2, 0x100)], 0x80)] -- NVA_Bb_STAT

/-- Reset values of block 0x08 that are not 0: base, indices, value. -/
def pptResets : List (Nat × List (Nat × Nat) × Word) := [
  (0x80028, [], 0xbd0e), -- PPT_TLIM
  (0x8002e, [], 0xffffff), -- PPT_LIGHT_EN
  (0x8000a, [], 0x55000d), -- PPT_CLASS2 (R284)
  (0x8000b, [], 0xb5add5), -- PPT_CLASS3 (R284)
  (0x8000c, [], 0x155), -- PPT_CLASS4 (R284)
  (0x80020, [], 0x32a2b2), -- PPT_VLIM0 (R292)
  (0x80021, [], 0x3602e0), -- PPT_VLIM1 (R292)
  (0x80022, [], 0x32a2b2), -- PPT_VLIM2 (R292)
  (0x80023, [], 0x510450), -- PPT_VLIM3 (R292)
  (0x80024, [], 0x4a43f4), -- PPT_VLIM4 (R292)
  (0x80025, [], 0x798678), -- PPT_VLIM5 (R292)
  (0x80026, [], 0xdecbdc), -- PPT_VLIM6 (R292)
  (0x80041, [], 0x100000)] -- PPT_B_STAT.BPOR (log 9, DEDUCED)

/-- Reset values of block 0x09 that are not 0: base, indices, value. -/
def entResets : List (Nat × List (Nat × Nat) × Word) := [
  (0x90000, [], 0xf)] -- ENT_CTL

/-- Reset values of block 0x0A that are not 0: base, indices, value. -/
def hifResets : List (Nat × List (Nat × Nat) × Word) := [
  (0xa0800, [(8, 0x10)], 0x6000)] -- RING_CTL

/-- Reset values of block 0x0C that are not 0: base, indices, value. -/
def cusResets : List (Nat × List (Nat × Nat) × Word) := [
  (0xc0000, [], 0x1ac000), -- CLR_CFG
  (0xc000c, [], 0xc3d09), -- CLR_LPCD_CFG
  (0xc000f, [], 0x320e00), -- CLR_TIMING
  (0xc1000, [], 0x20240), -- ICC_CFG
  (0xc2000, [], 0x280000)] -- RMC_CFG

/-- Reset values of block 0x0D that are not 0: base, indices, value. -/
def lgrResets : List (Nat × List (Nat × Nat) × Word) := [
  (0xd0000, [], 0xe10)] -- LGR_CFG

/-- Reset values of block 0x0E that are not 0: base, indices, value. -/
def lmpResets : List (Nat × List (Nat × Nat) × Word) := [
  (0xe0000, [], 0x6), -- LMP_CFG
  (0xe0010, [], 0x680009), -- LMP_0_CFG
  (0xe0014, [], 0x680009), -- LMP_1_CFG
  (0xe0018, [], 0x280009), -- LMP_2_CFG
  (0xe001c, [], 0x280009), -- LMP_3_CFG
  (0xe0020, [], 0x680009), -- LMP_4_CFG
  (0xe0024, [], 0x280009), -- LMP_5_CFG
  (0xe0011, [(6, 0x4)], 0xff)] -- LMP_k_DUTY

/-- Reset values of block 0x0F that are not 0: base, indices, value. -/
def pmcResets : List (Nat × List (Nat × Nat) × Word) := [
  (0xf0100, [(32, 0x8)], 0x7f0000), -- PMC_Cn_CTL
  (0xf0101, [(32, 0x8)], 0xff01ff), -- PMC_Cn_FILT0
  (0xf0102, [(32, 0x8)], 0xff), -- PMC_Cn_FILT1
  (0xf0104, [(32, 0x8)], 0xffffff), -- PMC_Cn_AHI
  (0xf1000, [(4, 0x80)], 0x7f0000), -- PMC_Hh_CTL
  (0xf1002, [(4, 0x80)], 0x1fff)] -- PMC_Hh_FILT

/-- Reset values of block 0x10 that are not 0: base, indices, value. -/
def pwrResets : List (Nat × List (Nat × Nat) × Word) := [
  (0x100005, [], 0x40b017), -- PWR_CFG
  (0x100007, [], 0x2)] -- PWR_PFW_CFG

/-- Reset values of block 0x20 that are not 0: base, indices, value. -/
def coreResets : List (Nat × List (Nat × Nat) × Word) := [
  (0x200006, [(67, 0x1000)], 0x1ff)] -- CORE_n_KDOM

/-- Reset values of block 0x80 that are not 0: base, indices, value. -/
def tenantResets : List (Nat × List (Nat × Nat) × Word) := [
  (0x800000, [(256, 0x8000), (2, 0x10)], 0x6000)] -- RING_CTL

/-- The reset values of the block that holds address `a`. -/
def resetsAt (a : Nat) : List (Nat × List (Nat × Nat) × Word) :=
  match a / 0x10000 with
  | 0x0 => stkResets
  | 0x1 => prtResets
  | 0x2 => spnResets
  | 0x3 => plcResets
  | 0x4 => grvResets
  | 0x5 => keyResets
  | 0x6 => nvaResets
  | 0x8 => pptResets
  | 0x9 => entResets
  | 0xa => hifResets
  | 0xc => cusResets
  | 0xd => lgrResets
  | 0xe => lmpResets
  | 0xf => pmcResets
  | 0x10 => pwrResets
  | b => if b < 0x20 then [] else if b < 0x25 then coreResets else if 0x80 ≤ b then tenantResets else []

/-- The reset value of the register at address `a` (R11); 0 for every address the tables give no other value. -/
def ioReset (a : Nat) : Word :=
  match (resetsAt a).find? fun (b, ds, _) => decide (b ≤ a) && inDims ds (a - b) with
  | some (_, _, v) => v
  | none => 0

end Sys2Proof.Machine
end

