-- ==== Sys2Proof/Machine/State.lean ====
section
/-! DEFINITION. The state of the FT7240 as plain data: the I/O registers, one structure per block for what the manual
gives the block beside its registers, and the queue of commands that wait. -/

namespace Sys2Proof.Machine

/-! ### The stroke unit (02_stroke.md) -/

/-- A queued test request (R60). -/
structure TestReq where
  /-- Plan column of R45. -/
  col : Nat
  /-- Test kind. -/
  kind : Nat
  /-- The stroke in which the request counts as queued, as a 56-bit count. -/
  queued : Nat
deriving DecidableEq, Repr

/-- The stroke unit beside its registers. -/
structure Stk where
  /-- Stroke time (R39): STK_NOW and STK_ERA show it. -/
  time : StrokeTime
  /-- Wraps of the stroke number at era 0xFF (R39): with them stroke numbers keep their order (R40). -/
  laps : Nat
  /-- Strokes that have passed since the device reset: what an operation's fixed count of strokes is counted in (R51). A forward
  set does not move it. -/
  ticks : Nat
  /-- Plan buffer A, 61,440 words (R46). -/
  planA : Tab Word
  /-- Plan buffer B. -/
  planB : Tab Word
  /-- A plan check in progress: the strokes it still may take, the shadow it began with, and whether the shadow has been
  written since (R47). -/
  check : Option (Nat × Tab Word × Bool)
  /-- The accepted forward set that waits for its boundary (R43). -/
  forward : Option StrokeTime
  /-- The journal write of a new era is outstanding (R39). -/
  eraWrite : Bool
  /-- Slots with a cancel written in the stroke just ended (R53 item 4). -/
  cancels : List Nat
  /-- The queued test requests, in the order in which they were queued (R60). -/
  tests : List TestReq
  /-- Units under a test of several steps: column, kind, and 1 while every step has passed, 2 once one has failed (R61). -/
  underTest : List (Nat × Nat × Nat)
  /-- Columns whose TEST cell of this stroke has served its request (R60). -/
  served : List Nat
  /-- Age of each background task in strokes (R63). -/
  ages : Tab Nat
  /-- The tasks that are URGENT. -/
  urgent : List Nat
  /-- The stroke is lost: PLL lock lost or a generator mismatch (R38). -/
  lost : Bool
  /-- Strokes since the data plane was declared ready without a host mailbox command (R33); `none` once one came. -/
  quiet : Option Nat
  /-- Appliance mode is in force (R33), and its end is due at the next boundary (R35). -/
  appliance : Bool
  endAppliance : Bool
  /-- Appliance mode: the MODE that each line group tries, as its place in the list of R70 (5: a port has reached UP), and the stroke
  of its beginning. -/
  tries : Tab (Nat × Nat)
  /-- What this stroke's boundary has done by its stroke number alone: 0 the halving of scores, 1 and 2 the
  calibrations, 3 the channel time, 16 + c the emission of channel c. -/
  done : List Nat
deriving DecidableEq, Repr

/-! ### The Konus-24 cores (08_konus_processor.md, 09_exceptions_and_firmware.md) -/

/-- An entry of a store buffer (R224). -/
inductive StbEntry where
  | data (a : Nat) (w : Word)
  | io (a : Nat) (w : Word) (user : Bool)
deriving DecidableEq, Repr

/-- A multi-stroke operation on a held core (R228, R229) and the stroke at whose boundary it ends. -/
inductive CoreBusy where
  | reset (endAt : Nat)
  | pclr (endAt : Nat)
  | dig (endAt : Nat)
deriving DecidableEq, Repr

/-- One core beside the registers of its window. -/
structure CoreState where
  /-- g0 to g7 (R207). -/
  g : Tab Word
  /-- The 240 windowed registers, frame f register k at 16f + k (R211). -/
  w : Tab Word
  /-- Program counter. -/
  pc : Word
  /-- SR 0, PSR (R209). -/
  psr : Word
  /-- SR 1, RP. -/
  rp : Word
  /-- SR 2, SLIM. -/
  slim : Word
  /-- SR 3, SSP. -/
  ssp : Word
  /-- WSTAT.CWP, current frame 0–14. -/
  cwp : Nat
  /-- WSTAT.RES, resident windows 1–14. -/
  res : Nat
  /-- SR 5, EPC. -/
  epc : Word
  /-- SR 6, ESR. -/
  esr : Word
  /-- SR 7, ECAUSE. -/
  ecause : Word
  /-- SR 8, EVAL. -/
  eval : Word
  /-- SR 9, VBASE. -/
  vbase : Word
  /-- SR 10, UDLO. -/
  udlo : Word
  /-- SR 11, UDHI. -/
  udhi : Word
  /-- SR 12, UPLO. -/
  uplo : Word
  /-- SR 13, UPHI. -/
  uphi : Word
  /-- Core cycles since reset up to the last boundary (SR 14–15). -/
  cyc : Nat
  /-- Core cycles of the instructions issued since the last boundary. -/
  used : Nat
  /-- Data SRAM with its shadow region (R204, R206). -/
  data : Tab Word
  /-- Program SRAM, 65,536 parcels of 14 bits (R228). -/
  prog : Tab (BitVec 14)
  /-- `record_of`: the record address of each frame (R212). -/
  recordOf : Tab Word
  /-- The store buffer, oldest entry first (R224). -/
  stb : List StbEntry
  /-- Idle in WAIT until the next boundary or an enabled interrupt (R221). -/
  idle : Bool
  /-- An operation on the held core in progress. -/
  busy : Option CoreBusy
  /-- The stroke at whose boundary an accepted KDONE releases the call, and whether it is late (R244). -/
  release : Option (Nat × Bool)
  /-- Bits of CORE_n_IPEND that a boundary has made pending (R239). -/
  ipend : Nat
  /-- A spare pier (R28): loaded and not in service. -/
  spare : Bool
  /-- Taken out of service, and not tested since (R28). -/
  out : Bool
  /-- Being restarted in place, for want of a spare (R237). -/
  restart : Bool
  /-- The keystone has written the results of the outstanding call (R243). -/
  answered : Bool
deriving DecidableEq, Repr

/-- Core `n` right after a device reset (R207, R208, R229). (log 71, DESIGN CHOICE) (log 121, DESIGN CHOICE) -/
def CoreState.init (n : Nat) : CoreState where
  g := []
  w := []
  pc := if n = 0 then 0xF00000 else 0
  psr := if n = 0 then 0x0C0000 else 0x040000
  rp := 0
  slim := 0
  ssp := if n = 0 then 0x020000 else 0x008000
  cwp := 0
  res := 1
  epc := 0
  esr := 0
  ecause := 0
  eval := 0
  vbase := if n = 0 then 0xF00000 else 0
  udlo := 0
  udhi := 0
  uplo := 0
  uphi := 0
  cyc := 0
  used := 0
  data := []
  prog := []
  recordOf := []
  stb := []
  idle := false
  busy := none
  release := none
  ipend := 0
  spare := n == 65 || n == 66
  out := false
  restart := false
  answered := false

/-- An outcome of a keystone call that was withdrawn (R245): context tag, call number, result words. -/
structure KeptOutcome where
  tag : Nat
  num : Nat
  res : List Word
deriving DecidableEq, Repr

/-- The keystone's fetch path (R225). Rows are numbered from program address 0, those of the boot ROM from 2^20. -/
structure FetchPath where
  /-- The prefetch buffer: the current row, `none` while it is empty, and how many of the following rows it holds. -/
  row : Option Nat
  ahead : Nat
  /-- Core cycles spent on the read of the next row. -/
  credit : Nat
  /-- The branch cache: target addresses with their rows, used last first. -/
  branch : List (Nat × Nat)
deriving DecidableEq, Repr

/-! ### The performance counters (20_performance_counters.md) -/

/-- What the counters hold for the next boundary (R419–R422). -/
structure Pmc where
  /-- Contributions of the stroke in progress, by counter. -/
  add : Tab Nat
  /-- Histogram measurements of the stroke in progress: histogram, u. -/
  meas : List (Nat × Nat)
  /-- Held low words and the loads due at the next boundary: counter, (low word, load due with this high word). -/
  loads : Tab (Option Word × Option Word)
  /-- CLR_ALL is due. -/
  clearAll : Bool
  /-- Histograms whose CLR is due. -/
  clearHist : List Nat
deriving DecidableEq, Repr

/-! ### The parapet and the backup domain (12_parapet.md) -/

/-- A firing that waits for its boundary (R287): source, class applied, and whether the backup domain has counted and
recorded it already (R301). -/
structure Firing where
  src : Nat
  cls : Nat
  counted : Bool
deriving DecidableEq, Repr

/-- The tamper record (R303). -/
structure TamperRecord where
  source : Nat
  cls : Nat
  stamp : StrokeTime
  ticks : Nat
  flags : Nat
  count : Nat
deriving DecidableEq, Repr

/-- The parapet beside its registers. The backup domain's part survives a main reset. -/
structure Ppt where
  /-- Firings whose class is applied at the next boundary (R287). -/
  fired : List Firing
  /-- The source that put the parapet in LOCKDOWN (R298). -/
  lockdown : Option Nat
  /-- The source that put the parapet in ERASED (R299). -/
  erased : Option Nat
  /-- A RELEASE written in the stroke just ended (R298). -/
  release : Bool
  /-- Strokes that step 2 of R299 may still take. -/
  eraseLeft : Option Nat
  /-- Backup domain: consecutive samples of each case switch that disagree with POL (R288). -/
  swRun : Tab Nat
  /-- Backup domain: consecutive mismatches of each guard loop (R289, R290). -/
  loopRun : Tab Nat
  /-- Backup domain: the 31-bit shift register of each loop (R290). -/
  lfsr : Tab (BitVec 31)
  /-- Backup domain: the low words written to the SEAL registers PPT_GRDn_SEED_LO. -/
  seedLo : Tab Word
  /-- Backup domain: the stroke time current at the last tick with main power (R302). -/
  stamp : StrokeTime
  /-- Backup domain: ticks since main power was lost; 0 while it is present (R302). -/
  stampTicks : Nat
  /-- Backup domain: the tamper record (R303). -/
  trec : Option TamperRecord
  /-- Backup domain: the 256-bit seal key; `none` once it is zero (R171). -/
  sealKey : Option Bytes
  /-- The test kind of the monitor copy or light-sensor group under test in this stroke, whose firing is suppressed (R296). -/
  testing : Option Nat
deriving DecidableEq, Repr

/-! ### Power, clocks and reset (21_power_clocks_reset_boot.md) -/

/-- What holds the device. -/
inductive PowerPhase where
  /-- No main power. -/
  | off
  /-- Main power present, RST_N low: the device is held in reset. -/
  | reset
  /-- Boot in progress or done: PWR_STAT shows the step. -/
  | run
  /-- A power-fail warning was given: hold-up duties (R438). -/
  | warned
  /-- Power-fail hold (R438, R439). -/
  | hold
deriving DecidableEq, Repr

/-- The power block beside its registers. -/
structure Pwr where
  phase : PowerPhase
  /-- SAFE-HOLD in force, with its cause 1–4 (R247). -/
  safeHold : Option Nat
  /-- A cause of SAFE-HOLD met in the present stroke. -/
  safeHoldDue : Option Nat
  /-- Strokes in SAFE-HOLD (R437). -/
  holdAge : Nat
  /-- Watchdog: strokes since the last service (R436). -/
  wdAge : Nat
  /-- Strokes since the release of reset (PWR_BOOTT, R442). -/
  bootAge : Nat
  /-- The hold-up duties of the present warning are done (R438, R439). -/
  holdDone : Bool
  /-- The stroke in which the warning was taken. -/
  warnAt : Nat
  /-- The cause of a device reset that waits for the hold-up duties (R435). -/
  resetDue : Option Nat
  /-- Backup domain: the SAFE-HOLD cause latched for the next boot (R437). -/
  heldCause : Nat
  /-- Locks tried in vain since the device reset (R433), by PLL: 0 fabric, 1 SDRAM, 2 PCIe, 3 SD, 4 + l lane l. -/
  pllTries : Tab Nat
  /-- Backup domain: a backup power-on has come since the last main power-on (PWR_RCAUSE.CAUSE = 7). -/
  backupReset : Bool
deriving DecidableEq, Repr

/-! ### The key store and the tenants (07_keys_and_tenants.md) -/

/-- The state of a slot (KEY_DIR_0.STATE). -/
inductive SlotState where
  | free
  | inUse
  | destroying
  | reserved
deriving DecidableEq, Repr

/-- One slot with its directory entry (R178, R180, R200). -/
structure Slot where
  gen : BitVec 8
  head : Bool
  persist : Bool
  exportable : Bool
  state : SlotState
  /-- 0–255 tenant, 256 OWN, 511 keystone. -/
  dom : Nat
  /-- TYPE of R179. -/
  ty : Nat
  usage : BitVec 8
  /-- Length of the object in slots; head slot only. -/
  slots : Nat
  /-- Size code of KEY_DIR_2. -/
  size : Nat
  /-- Next slot of the object; 0 = last. -/
  next : Nat
  /-- The 24 words of key material. -/
  words : List Word
deriving DecidableEq, Repr

/-- A slot that no object holds. -/
def Slot.empty : Slot := ⟨0, false, false, false, .free, 0, 0, 0, 0, 0, 0, []⟩

/-- A key object to be made. -/
structure NewObject where
  ty : Nat
  size : Nat
  usage : BitVec 8
  exportable : Bool
  persist : Bool
  words : List Word
  /-- Its key comes from the expander (R314). -/
  fresh : Bool
deriving DecidableEq, Repr

/-- The graver jobs of a KEY_GENERATE (R184). -/
structure KeyJobs where
  /-- Kinds and sizes of the jobs still to end, the next or running one first. -/
  todo : List (Nat × Nat)
  /-- Jobs that have run. -/
  ran : Nat
  /-- The temporary primes made so far. -/
  parts : List Nat
  /-- The graver that holds the job. -/
  graver : Option Nat
  /-- How the job ended: host status and handle. -/
  last : Option (Nat × Nat)
deriving DecidableEq, Repr

/-- What a key operation does when its last stroke has ended. -/
inductive KeyAct where
  /-- Nothing but the answer. -/
  | answer
  | make (o : NewObject)
  /-- The object with this head slot becomes persistent: its commit block is programmed (R182). -/
  | persist (head : Nat)
  | destroy (head : Nat)
  /-- An asymmetric key that gravers make. -/
  | generate (o : NewObject) (j : KeyJobs)
  /-- One approval of the pending action of a class (R199). -/
  | approve (cls u : Nat) (sig : Bytes)
deriving DecidableEq, Repr

/-- A key operation in progress: nothing of it is visible before its last stroke has ended (R15). -/
structure KeyOp where
  caller : Caller
  /-- A pier's call that was withdrawn (R245): context tag and call number. -/
  withdrawn : Option (Nat × Nat)
  /-- The tick of its start, and the tick whose boundary ends its last stroke. -/
  began : Nat
  due : Nat
  status : Nat
  r0 : Nat
  out : Bytes
  /-- The KEY counters that it increments. -/
  counts : List Nat
  act : KeyAct
deriving DecidableEq, Repr

/-- What a quorum lets happen (R198). -/
inductive QuorumAct where
  /-- What its caller asks for next (QUORUM_REQUEST). -/
  | caller
  | enroll (u : Nat) (key : Bytes)
  | remove (u : Nat)
  | setM (cls m : Nat)
  | lifecycle (target : Word) (p : Bytes)
  | cert (c : Bytes)
  | erase (e : Effective) (t : Nat)
  /-- The import of the active's owner root (R347). -/
  | root
  /-- A backup for the recipient record in these blocks (R394). -/
  | backup (record : List Bytes)
  /-- The import of the backup in these blocks (R395). -/
  | restore (backup : List Bytes)
deriving DecidableEq, Repr

/-- A pending quorum action (R199). -/
structure QuorumAction where
  caller : Caller
  /-- SHA-384 digest of the action. -/
  digest : Bytes
  act : QuorumAct
  challenge : Bytes
  /-- Stroke time of the request. -/
  since : Nat
  /-- The custodians whose approval is valid. -/
  approved : List Nat
deriving DecidableEq, Repr

/-- A device-to-device agreement in progress (R195). -/
structure Agreement where
  /-- Last message sent or taken: 1, 2 or 3; 0 = waiting to retry. -/
  step : Nat
  /-- The exact bytes of the messages so far. -/
  transcript : Bytes
  /-- The ephemeral X25519 private value of this side. -/
  xPriv : Bytes
  /-- The initiator's ML-KEM-1024 private value; at the responder, the initiator's certificate. -/
  kemPriv : Bytes
  /-- The two shared secrets, once known. -/
  z : Bytes
  /-- The stroke at which the agreement ended without a key (R195: retry after 2^22 strokes). -/
  failedAt : Nat
deriving DecidableEq, Repr

/-- The key store beside its registers. -/
structure KeyStore where
  /-- The slots that have been used or loaded since the directory was drawn. -/
  slots : Tab Slot
  /-- The draw that gave every free head slot its GEN at boot (R182): a free value's number; `none` before. -/
  genDraw : Option Nat
  /-- Owner root (R175), held in reserved slots. -/
  ownerRoot : Option Bytes
  /-- Owner anchors: EC P-384 and ML-DSA-87 public keys. -/
  anchors : Option (Bytes × Bytes)
  /-- Owner identity certificate (R174). -/
  ownerCert : Bytes
  /-- Device identity secrets (R173): EC and ML-DSA seeds; empty while the fingerprint circuit is off. -/
  identity : Bytes
  /-- Roots by domain, 0–255 tenant and 256 OWN (R175). -/
  roots : Tab Bytes
  /-- Metering keys by tenant (R175). -/
  metering : Tab Bytes
  /-- Custodian public keys by number (R197). -/
  custodians : Tab Bytes
  /-- Pending actions by class (R199). -/
  quorum : Tab (Option QuorumAction)
  /-- The quorum sizes that QUORUM_SET has set, by class (R198); the others are the defaults. -/
  setM : Tab (Option Nat)
  /-- Callers whose request of a class has reached its quorum: their action of that class may proceed. -/
  granted : List (Nat × Caller)
  /-- Actions that have reached their quorum and proceed in the stroke after (R199): class, caller, action. -/
  due : List (Nat × Caller × QuorumAct)
  /-- Key operations in progress, in the order in which they started. -/
  ops : List KeyOp
  /-- Head slots whose KEY_DESTROY takes effect at the next boundary (R185). -/
  doomed : List Nat
  /-- Agreements by site: 0–3 line port groups, 4 the viaduct. -/
  agree : Tab (Option Agreement)
  /-- The keys agreed by site: CAK of a port group, pair key (R196). -/
  agreed : Tab Bytes
  /-- The sites whose agreement has reached class 0 activation (R34). -/
  activated : Bool
deriving DecidableEq, Repr

/-! ### The host interface (14_host_interface.md) -/

/-- A completion entry (R325) with the output buffer that goes before it (R323). -/
structure Completion where
  tag : BitVec 32
  status : Nat
  epoch : Nat
  commit : StrokeTime
  res0 : Nat
  res1 : Nat
  out : Bytes
  phase : Bool
deriving DecidableEq, Repr

/-- A fetched descriptor (R324) that is not committed. -/
structure Descriptor where
  g : Nat
  idx : Nat
  bytes : Bytes
  /-- The stroke in which it arrived. -/
  arrived : Nat
  /-- Its DMA reads ended well (R318). -/
  dmaOk : Bool
deriving DecidableEq, Repr

/-- A committed command that is not complete (R321, R322). -/
structure Flight where
  fn : Nat
  g : Nat
  idx : Nat
  opcode : Nat
  tag : BitVec 32
  fence : Bool
  epoch : Nat
  /-- Commit stroke time, and the tick of the commit. -/
  commit : StrokeTime
  began : Nat
  outCap : Nat
  /-- The command has started. -/
  started : Bool
  /-- The graver that runs its job, for a GRAVER_JOB. -/
  graver : Option Nat
  /-- The key handles that its descriptor names (R187). -/
  handles : List Nat
deriving DecidableEq, Repr

/-- The host interface beside its registers. -/
structure Hif where
  fetched : List Descriptor
  flights : List Flight
  /-- Completions whose entry is to be written, with function, ring and the tick from whose boundary on. -/
  due : List (Nat × Nat × Nat × Completion)
  /-- The completion rings as written: key 4096·g + index. -/
  written : Tab (Option Completion)
  /-- Lost logs by function (R335). -/
  lost : Tab (List Completion)
  /-- Rings with a completion that no interrupt has signalled, and each ring's last message: 0 none, else one more than its tick (R337). -/
  unsignalled : List Nat
  lastMessage : Tab Nat
  /-- MSI-X messages sent in the present stroke: function, vector. -/
  messages : List (Nat × Nat)
  /-- Functions whose FLR was received and not yet taken at a boundary (R334). -/
  flr : List Nat
  /-- CMD_ABORTs that the next boundary evaluates (R328): who gave them, and the TAG. -/
  aborts : List (Caller × BitVec 32)
  /-- The MSI-X pending bits: function and vector whose message a mask holds back (R337). -/
  pba : List (Nat × Nat)
deriving DecidableEq, Repr

/-! ### The gravers (06_gravers.md) -/

/-- A charge to a domain's graver share (R160 rule 6). -/
structure GrvCharge where
  dom : Nat
  /-- The stroke of the commit, or of the first later stroke that a long job runs. -/
  first : Nat
  /-- Strokes charged. -/
  amount : Nat
  /-- One stroke a stroke from `first` on; else the whole amount in stroke `first`. -/
  spread : Bool
deriving DecidableEq, Repr

/-- One graver beside its registers. -/
structure GraverState where
  /-- The banks A, B, N, T and ACC (codes 0–4 of R147): word w of bank b at key 1024·b + w. -/
  mem : Tab Word
  /-- The list memory, 4,096 words. -/
  list : Tab Word
  /-- The entry that executes next. -/
  entry : Nat
  /-- The loop indices i0, i1, i2 (R148). -/
  index : Tab Nat
  /-- The open loops, innermost first: count and the entry after the LOOP. -/
  loops : List (Nat × Nat)
  /-- The list has reached END. -/
  ended : Bool
  /-- The graver holds after a fault of the list, a key or a check: the job's status (R150, R154, R157, R165). -/
  halt : Option Nat
  /-- The designated compare of the job was found equal (R157). -/
  curveOk : Bool
  /-- An LDK waits for the key store (R154), since this stroke. -/
  stalled : Option Nat
  /-- Cycles used by the commands of the job (R149). -/
  cycles : Nat
  /-- The boundary at which the running job completes: START + JOB_DUR (R153). -/
  endAt : Nat
  /-- An abort was written in the stroke just ended (R155). -/
  abort : Bool
  /-- A wipe is due at the next boundary (R151), and the stroke of the last wipe. -/
  wipeDue : Bool
  wipeAt : Nat
  /-- The caller of the commit: a host command gets the completion. -/
  caller : Option Caller
  /-- The pier that drives the graver, which gets its interrupts (R159). -/
  driver : Option Nat
  /-- The tick of the commit (R52). -/
  committedAt : Nat
  /-- The commands whose abort the next boundary answers (R155). -/
  abortBy : List Caller
  /-- A GRAVER_JOB whose claim waits for the wipe that it made due, with the duration of its job (R151). -/
  staged : Option (Caller × GraverArgs × Nat)
  /-- Generate calls of the expander that the job still needs, and the words that it has been given (R161, R164). -/
  draws : Nat
  drawn : Nat
  /-- Slots reserved for the key result (R186). -/
  reserved : List Nat
  /-- What the graver's jobs have charged to the shares of their domains, as far as a window may still hold it. -/
  charges : List GrvCharge
deriving DecidableEq, Repr

/-- A graver at reset (R168). -/
def GraverState.init : GraverState :=
  ⟨[], [], 0, [], [], false, none, false, none, 0, 0, false, false, 0, none, none, 0, [], none, 0, 0, [], []⟩

/-! ### Plates and placement (05_plates_and_placement.md) -/

/-- A cache entry that holds a plate. -/
structure Line where
  /-- In the pinned region. -/
  pinned : Bool
  /-- The way of the plate's set; meaningless in the pinned region. -/
  way : Nat
  dirty : Bool
deriving DecidableEq, Repr

/-- A queued fetch (R135). -/
structure Miss where
  plate : Nat
  /-- The stroke of its request. -/
  since : Nat
  /-- The stroke of the cell in which the fetch was begun, and the way it claimed (16 = the pinned region). -/
  started : Option Nat
  way : Nat
  /-- Counted in MISS_LATE. -/
  late : Bool
  /-- The domain that asks (R133); 512 = none. -/
  dom : Nat
  /-- A snapshot's fetch: background work (PLC_PWIN_CTL.BUSY). -/
  slow : Bool
deriving DecidableEq, Repr

/-- The placement engine, the plate cache and SDRAM beside their registers. -/
structure Plc where
  /-- The content of every plate that the cache holds: word w of plate p at key 64·p + w (R118). Of a plate that is not resident, the
  words other than the key fields 4–18, as its slot holds them: the key fields lie in SDRAM alone. -/
  words : Tab Word
  /-- Outgoing content by plate (R120): 64 words; `[]` = none. -/
  outgoing : Tab (List Word)
  /-- Way of the outgoing content's cache entry, where it has one. -/
  outWay : Tab (Option Nat)
  /-- References to the current generation and to the outgoing content. -/
  refs : Tab Nat
  outRefs : Tab Nat
  /-- Cache entries by plate. -/
  cache : Tab (Option Line)
  /-- The miss queues, oldest first, and the requests that wait for an entry (R135). -/
  queue : List Miss
  waiting : List Miss
  /-- Effective stroke of each recycle in progress. -/
  recycles : Tab Nat
  /-- Plates used by a span in the present stroke (SCORE). -/
  used : List Nat
  /-- The plate of a snapshot in progress. -/
  snapshot : Option Nat
  /-- The spare slot of the other channel in which a plate's slot lies (R139). -/
  moved : Tab (Option Nat)
  /-- The draw of the boot that keys the permutation (R124). -/
  bootKey : Nat
  /-- An extension of PL_PN_RES that the peer has not acknowledged, by plate (R137). -/
  extending : Tab (Option Nat)
  /-- SDRAM: the ciphertext of plate lines 0–2, by physical address (R126); line `l` of slot `i` of channel `c` at key
  2^27·c + 4·i + l. -/
  lines : Tab Bytes
  /-- SDRAM, in the leaf of the slot: version counter and MAC of each line (R127). -/
  versions : Tab (BitVec 56)
  lineMacs : Tab (BitVec 64)
  /-- The counter that the level above holds for each leaf and node, the top level's in the root on chip; and the node MACs (R127).
  Node `i` of level `k` of channel `c` at key 2^32·c + 2^26·k + i; level 0 holds the leaves. -/
  counts : Tab (BitVec 56)
  nodeMacs : Tab (BitVec 64)
  /-- The tree cache of each channel beside its top three levels (R128): the nodes and leaves that it holds, used last first, and
  whether each has changed since it was written. -/
  tree : Tab (List (Nat × Bool))
  /-- The encryption and the MAC key of each channel (R126). -/
  sdKeys : Tab (Bytes × Bytes)
  /-- Plate content whose last PN has been given (R101): plate and generation. -/
  exhausted : List (Nat × Nat)
deriving DecidableEq, Repr

/-! ### Ports, deck, spans (03_ports_and_deck.md, 04_spans_and_trusses.md) -/

/-- Where a frame stands. -/
inductive Stage where
  /-- Being received; `true` once a cell take has failed (R76). -/
  | arriving (failed : Bool)
  /-- Bound, and waiting for dispatch. -/
  | waiting
  /-- In the batch of span `n`, dispatched at the boundary of stroke `k`; void after a span fault. -/
  | batch (n k : Nat) (void : Bool)
  /-- Decrypted, and held until the MARK_ACK of stroke `k` (R356). -/
  | held (k : Nat)
  /-- Ready for transmission. -/
  | ready
  /-- Its transmission has begun. -/
  | sending
deriving DecidableEq, Repr

/-- A frame in the deck. -/
structure Frame where
  /-- Arrival order. -/
  id : Nat
  /-- Port of arrival; 32 = viaduct; 64 + q = control transmit queue q; 128 = a stipple cover frame. -/
  port : Nat
  /-- The frame from its destination address through its FCS; after its batch, its other form. -/
  bytes : Bytes
  /-- Cells charged to the group of arrival, and to the egress group (R78). -/
  cells : Nat
  extra : Nat
  /-- Domain charged; 512 = none. -/
  dom : Nat
  /-- Channel of a bound frame. -/
  chan : Option Nat
  seq : Nat
  /-- Binding stroke. -/
  bind : Nat
  /-- Plate and the generation in force at the binding stroke. -/
  plate : Nat
  gen : Nat
  /-- The channel record in force at the binding stroke (R17). -/
  record : Option Chan
  /-- Egress port. -/
  egress : Nat
  /-- PN given. -/
  pn : Option Nat
  /-- Its plate was looked at by the dispatcher (HIT counts once). -/
  seen : Bool
  /-- The leaf spans of the home and of each enclosing truss, innermost first, at the binding stroke (R112). -/
  levels : List (List Nat)
  /-- The trusses whose counters count the frame. -/
  trusses : List Nat
  /-- Bytes of the tags that the line port skipped (R96). -/
  tags : Nat
  /-- A frame of a stipple emission. -/
  stipple : Bool
  /-- PL_HIGH_PN and PL_RMAP as they were at dispatch (R97). -/
  high : Nat
  rmap : Nat
  /-- Its egress port went down while it was in its batch: it is dropped at the release (R69). -/
  cut : Bool
  stage : Stage
deriving DecidableEq, Repr

/-- A frame that nothing has been said of yet. -/
def Frame.blank : Frame :=
  ⟨0, 0, [], 0, 0, 512, none, 0, 0, 0, 0, none, 0, none, false, [], [], 0, false, 0, 0, false, .waiting⟩

/-- A truss (R109, R111). -/
structure Truss where
  /-- Client port group of a top-level truss. -/
  top : Option Nat
  /-- Enclosing truss of a nested home. -/
  parent : Nat
  /-- Channel of a nested home. -/
  chan : Option Nat
  /-- Spans of a nested home; of a top-level truss, all its leaves. -/
  leaves : List Nat
  /-- Removed; its number waits for the last frame bound under it. -/
  removed : Bool
deriving DecidableEq, Repr

/-- The layout that the span allocator has made (R109–R111). -/
structure Layout where
  trusses : Tab (Option Truss)
  /-- The spans of each client port group's top-level truss, ascending. -/
  groups : Tab (List Nat)
  /-- The home of each open channel: span n, or 32 + m for truss m; 64 = none. -/
  homes : Tab Nat
  /-- Channels whose home is pinned. -/
  pins : List Nat
  /-- Load of each open channel. -/
  loads : Tab Nat
  /-- Client port group of each open channel. -/
  groupOf : Tab Nat
  /-- The rotation of each group: spans handed out so far. -/
  turn : Tab Nat
  /-- Spans that the allocator may take. -/
  free : List Nat
deriving DecidableEq, Repr

/-- The spans beside their registers. -/
structure Spn where
  layout : Layout
  /-- Unused cycles carried into the stroke, at most 6 (R89); 0 at reset. -/
  carry : Tab Nat
  /-- Cycles dispatched to each span at the last boundary. -/
  spent : Tab Nat
  /-- Spans with a fault that no cover has answered, and the stroke of each fault (R115). -/
  faults : List Nat
  faultAt : Tab Nat
  /-- The PN event queue: kind (0 THRESHOLD, 1 EXHAUSTED) and plate. -/
  events : List (Nat × Nat)
  /-- A test of a span has ended its last step: the span, its kind, passed, and the stroke of that step. -/
  tested : List (Nat × Nat × Bool × Nat)
  /-- The span whose place a covering span fills, directly or for a span that covered it (R114). -/
  owner : Tab (Option Nat)
  /-- The stroke in which SPN_SWAP.GO was taken. -/
  swapAt : Nat
  /-- Dispatch pauses before this stroke (R259, R365). -/
  pausedUntil : Nat
deriving DecidableEq, Repr

/-- The ports and the deck beside their registers. -/
structure Dck where
  chans : Tab (Option Chan)
  /-- Client VID map: channel + 1 at key 4096·port + VID. -/
  vids : Tab Nat
  /-- Line SCI buckets: (line port, SCI, channel). -/
  buckets : Tab (List (Nat × BitVec 64 × Nat))
  /-- Next sequence number of each channel. -/
  seqs : Tab Nat
  frames : List Frame
  nextId : Nat
  /-- Control receive queues: port p and frame without FCS. -/
  rxq : Tab (List (Nat × Bytes))
  /-- Bytes of the head frame already read, and whether a read has fixed the head. -/
  rxRead : Tab Nat
  rxFixed : Tab Bool
  /-- The frames being built for the control transmit queues (R464). -/
  build : Tab Bytes
  /-- Deficit of each channel, and the channel each port served last (R82). -/
  deficit : Tab Nat
  served : Tab Nat
  /-- Client ports paused by the partner until a stroke, in pause quanta left (R72, R73). -/
  paused : Tab Nat
  /-- Last PAUSE with quanta 0xFFFF of each client port (R79): the stroke, + 1. -/
  pauseSent : Tab Nat
  /-- The group settings in force: PRT_GRPg_CFG as taken at the last change (R69). -/
  active : Tab Word
  /-- The stroke at which each port entered its present state. -/
  since : Tab Nat
  /-- Frames that the MACs transmitted in the present stroke: port and bytes. -/
  wire : List (Nat × Bytes)
deriving DecidableEq, Repr

/-! ### The viaduct (15_pair_and_in_service.md) -/

/-- A viaduct message that this device has sent (R345). -/
inductive Message where
  /-- With the echo of the last peer stamp and its receive stamp. -/
  | heartbeat (time : StrokeTime) (role pair : Nat) (holdOut : Bool) (echo : Option (Stamp × Stamp))
  | res (plate value : Nat)
  | resAck (plate value : Nat)
  | mark (stroke : Nat) (marks : List (Nat × Nat))
  | markAck (stroke : Nat)
  | setup (id : Nat) (content : Mirrored)
  | setupAck (id : Nat)
  | ledger (image : List (BitVec 168))
  | relinquish
  | handover (s : StrokeTime)
  | handoverAck
  /-- Messages 1–3 of an agreement (R195), at a site: 0–3 a line port group, 4 the viaduct. -/
  | agreement (site number : Nat) (body : Bytes)
deriving DecidableEq, Repr

/-- What the viaduct sends (R344, R345). -/
structure ViaductWire where
  /-- The frames of the present stroke, oldest first. -/
  frames : List Bytes
  /-- The PN given last under the pair key in force. -/
  pn : Nat
  /-- SEQ of the next message of each TYPE. -/
  seqs : Tab Nat
deriving DecidableEq, Repr

/-- What the active of an INTACT pair has told the standby beside what it sent when it was written (R353). -/
structure Told where
  /-- The key objects: head slot, GEN, USAGE, EXPORT, PERSIST. -/
  objects : List (Nat × BitVec 8 × BitVec 8 × Bool × Bool)
  regs : List (Nat × Word)
  config : Option StoredConfig
  /-- Armed switch slots with their S. -/
  slots : List (Nat × Nat)
deriving DecidableEq, Repr

/-- The viaduct beside its registers. -/
structure Vdt where
  /-- Messages sent in the present stroke, oldest first. -/
  sent : List Message
  /-- Consecutive strokes in which HOLD_IN was sampled low, and the tick of the last sample. -/
  holdLow : Nat
  holdAt : Option Nat
  /-- A RELINQUISH has arrived. -/
  relinquished : Bool
  /-- The pair state at the last valid heartbeat. -/
  lastPair : Nat
  /-- A valid heartbeat has arrived in the present stroke. -/
  beatNow : Bool
  /-- Standby: reservations and marks stored (R355, R356). -/
  reservations : Tab Nat
  marks : Tab Nat
  /-- Active: receive plates whose H changed in the batch of the present stroke, and the strokes whose MARK_ACK is
  awaited. -/
  changed : List (Nat × Nat)
  markWait : List Nat
  /-- Active: mirrored setups not acknowledged, with the effective stroke; the next identity. -/
  setups : List (Nat × Nat)
  nextSetup : Nat
  /-- RESYNC: messages of the resynchronisation still unacknowledged. -/
  resync : Option Nat
  /-- A sweep in progress: its first stroke (R350). -/
  sweep : Option Nat
  /-- The last peer stamp with its receive stamp, which the next heartbeat echoes (R345). -/
  stamp : Option (Stamp × Stamp)
  /-- The exchanges of the sweep in progress: 2θ and δ of each, in fabric cycles (R350). -/
  samples : List (Int × Int)
  /-- Active: what the standby has been told. -/
  told : Told
  /-- Standby: messages on a switch slot not yet acknowledged, with the slot (R354). -/
  owed : List (Nat × Nat)
  /-- The armed handover's acknowledgment, recorded no later than the end of S − 4 (R361). -/
  handoverAcked : Bool
  /-- Standby: the handover stroke that the active has sent. -/
  handoverTo : Option Nat
  /-- Active: switch slots with a mirrored setup that the standby has not acknowledged (R354), and that setup. -/
  slotWait : List (Nat × Nat)
  /-- The roots were compared in this formation, and found equal (R347). -/
  rootsEqual : Option Bool
  /-- Standby: a ledger image that waits for a bank (R357). -/
  image : Option (List (BitVec 168))
deriving DecidableEq, Repr

/-! ### The nonvolatile array (10_nonvolatile_array.md) -/

/-- The work of an NVA bank (R254). Rows and sectors are logical. -/
inductive NvaWork where
  | program (row : Nat) (data : BitVec 168)
  | erase (sector : Nat)
  /-- SEAL_WRITE; the eight rows are made at the start. -/
  | sealWrite (row daddr : Nat) (block : List (BitVec 168))
  | sealRead (row daddr : Nat)
  /-- Remap copy of a retired sector, with the rows to write again into its replacement (R265). -/
  | copy (sector : Nat) (again : List (Nat × BitVec 168))
  /-- Levelling exchange (R267). -/
  | move (a b : Nat)
  /-- Checkpoint into a sector of the JOURNAL ring (R261). -/
  | checkpoint (sector : Nat) (rows : List (BitVec 168))
  /-- Erase of the sector of the following RESERVE slot (R262). -/
  | slotErase (sector : Nat)
  /-- A boot record or an era record: one row of the next RESERVE slot (R257, R39). -/
  | header (cause row : Nat) (data : BitVec 168)
  | digest (first count : Nat)
deriving DecidableEq, Repr

/-- Work in progress: its first stroke and the stroke whose boundary ends it. -/
structure NvaJob where
  work : NvaWork
  since : Nat
  endAt : Nat
deriving DecidableEq, Repr

/-- One bank beside its registers. All of it but `job`, `pend`, `read` and `remapDue` survives every reset. -/
structure NvaBank where
  job : Option NvaJob
  /-- The pending keystone command (R255). -/
  pend : Option NvaWork
  /-- Retired sectors that wait for their copy, with rows to write again. -/
  copies : List (Nat × List (Nat × BitVec 168))
  /-- The row that the read window waits for. -/
  read : Option Nat
  /-- Next sector of the JOURNAL ring, 0–31, and next RESERVE slot, 0–255. -/
  ring : Nat
  slot : Nat
  /-- Physical sector of each logical sector; unlisted = the sector of the same number. -/
  remap : Tab (Option Nat)
  /-- Remap entries written, in effect at the next boundary: logical, physical. -/
  remapDue : List (Nat × Nat)
  /-- Spares taken, of the 128 from physical sector 1,920. -/
  taken : Nat
  /-- By physical sector: the verify-pulse counts of the last 256 row programs, in units of 1/16 pulse; erases; grade. -/
  pulses : Tab (List Nat)
  erases : Tab Nat
  grade : Tab Nat
  /-- The ticks of the CMD write of the keystone command that is pending, and of the one that runs (R425). -/
  asked : Nat
  ran : Nat
deriving DecidableEq, Repr

/-- A bank as it leaves wafer test. -/
def NvaBank.init : NvaBank := ⟨none, none, [], none, 0, 0, [], [], 0, [], [], [], 0, 0⟩

/-- A sealed block of the key region (R182). -/
inductive SealedBlock where
  /-- Part `part` of the object with head slot `head`: two slots. -/
  | data (head part : Nat) (slots : List (Nat × Slot))
  /-- The commit block: the object's slots, GEN and domain, and the SHA-384 digest of its other blocks. -/
  | commit (head gen dom : Nat) (slots : List Nat) (digest : Bytes)
deriving DecidableEq, Repr

/-- What the keystone has sealed under a seal key (R175, R182, R194, R197, R281): it is readable only while that key
stands. (log 84, DESIGN CHOICE) -/
structure Vault where
  /-- The seal key of the SEAL_WRITEs. -/
  under : Bytes
  /-- The seal check row: a tag of a fixed string under the seal key (R172). -/
  sealTag : Bytes
  ownerRoot : Bytes
  anchors : Bytes × Bytes
  ownerCert : Bytes
  custodians : Tab Bytes
  quorums : Tab (Option Nat)
  /-- Registers that the sealed tenant states, epochs, quorums and DBG_SERIAL_MAX restore. -/
  regs : List (Nat × Word)
  /-- The sealed blocks of the key region, in the order in which they were programmed (R182). -/
  blocks : List SealedBlock
deriving DecidableEq, Repr

/-- The NVA beside its registers. -/
structure Nva where
  /-- Programmed rows by bank and physical row: bank · 2^19 + row; `none` = erased (R250). -/
  rows : Tab (Option (BitVec 168))
  banks : Tab NvaBank
  /-- SYSTEM class: BOOT_BANK and the minimum image version (R251). -/
  bootBank : Nat
  minVersion : Word
  /-- A swap of the running bank is due at the next boundary (R259). -/
  swapDue : Bool
  /-- The boot record of R257 is in the array. -/
  booted : Bool
  /-- Sequence number of the next checkpoint, and the stroke from which it is due (R261). -/
  seq : Nat
  nextAt : Nat
  /-- A digest asked for and not begun: bank, first row, count (R260). -/
  digest : Option (Nat × Nat × Nat)
  /-- The operation interrupted by the last abandonment, as bytes 14–16 of the record (R262). -/
  interrupted : Nat
  /-- What the SEALED class holds for the keystone. -/
  vault : Option Vault
  /-- The stored configuration. -/
  config : Option StoredConfig
  /-- Next record of the RECORD ring, of 39,424 (R403). -/
  recordAt : Nat
  /-- Records in the ring. -/
  recordCount : Nat
deriving DecidableEq, Repr

/-! ### Life cycle and debug (11_lifecycle_and_debug.md) -/

/-- What the life-cycle controller is doing in a transition (R276). -/
inductive TransitStep where
  /-- INTENT is being programmed. -/
  | intent
  /-- The step of mark k and its mark. -/
  | mark (k : Nat)
  /-- Awaiting the keystone's confirmation of provisioning, since this stroke. -/
  | provision (since : Nat)
  /-- The copies are being programmed. -/
  | copies
  /-- Over; the device reset is due. -/
  | over
deriving DecidableEq, Repr

/-- A transition in progress. -/
structure Transit where
  target : Word
  source : Word
  /-- CAUSE of the INTENT row. -/
  cause : Nat
  record : Nat
  step : TransitStep
  /-- The boundary at which the step ends. -/
  endAt : Nat
  /-- Marks still to come. -/
  todo : List Nat
  /-- The transition is being abandoned: M7 in place of copies. -/
  abandon : Bool
deriving DecidableEq, Repr

/-- A certificate that a boundary puts in force (R281). -/
structure DebugCert where
  rights : Nat
  piers : Nat
  serial : Nat
  expiry : StrokeTime
deriving DecidableEq, Repr

/-- The life-cycle controller and the debug block beside their registers. -/
structure Lcs where
  transit : Option Transit
  /-- A transition accepted in the present stroke: target, CAUSE (R275). -/
  accepted : Option (Word × Nat)
  /-- The certificate whose activation is due at the next boundary. -/
  certDue : Option DebugCert
  /-- DEBUG_CERT with OP = END was called in the present stroke. -/
  certEnd : Bool
  /-- Cores halted by debug. -/
  halted : List Nat
  /-- Piers traced, and the trace buffer, oldest first (R281). -/
  traced : List Nat
  trace : List Word
  /-- The private TAP instruction in force: 0 = another, 1 = LCSR, 2 = DBGACC, and the register it captured (R272). -/
  tap : Nat
  tapWord : Word
  /-- The ownership package of the transition accepted last (R275, R276). -/
  package : Option Bytes
deriving DecidableEq, Repr

/-! ### The entropy source and expander (13_entropy.md) -/

/-- One CTR_DRBG instance (R311). -/
structure Drbg where
  /-- Working state; `[]` before it is instantiated. -/
  work : Bytes
  /-- The output buffer, next word first. -/
  buf : List Word
  /-- Generate calls of the present stroke. -/
  calls : Nat
  /-- The stroke of the last scheduled reseed. -/
  reseedAt : Option Nat
deriving DecidableEq, Repr

/-- The entropy block beside its registers. -/
structure Ent where
  /-- The conditioner's shift register (R307). -/
  reg : BitVec 521
  /-- Conditioned blocks, oldest first. -/
  pool : List (BitVec 384)
  drbg : Tab Drbg
  /-- The stroke since which a source in STARTUP or UNDER_TEST has passed every bit. -/
  since : Tab Nat
  /-- Sources whose off-line test is in progress (R310), and the stroke of its beginning. -/
  testing : List (Nat × Nat)
  /-- Raw bits that the conditioner has been offered for the block in progress (R306, R307). -/
  bits : Nat
deriving DecidableEq, Repr

/-! ### The contactless reader (16_contactless_custodian.md) -/

/-- What the field and the token answer to an operation. -/
inductive ClrOutcome where
  /-- Nobody outside has said: the answer is free (log 4, DESIGN CHOICE). -/
  | open_
  | tokens (found : List Token) (restarts : Nat)
  | answer (a : Answer) (rate : Nat)
  | unlock (reply : Option Byte)
deriving DecidableEq, Repr

/-- An operation of CLR_CMD, written or in progress. -/
structure ClrOp where
  op : Nat
  entry : Nat
  outcome : ClrOutcome
  /-- The stroke in which it was written, or begun. -/
  since : Nat
deriving DecidableEq, Repr

/-- The reader beside its registers. -/
structure Clr where
  /-- Transmit and receive buffers of CLR_FIFO; the receive buffer holds what is not yet read. -/
  tx : Bytes
  rx : Bytes
  /-- Operations written and not yet taken; the operation in progress. -/
  written : List ClrOp
  busy : Option ClrOp
  /-- An ABORT of the present stroke, and whether the token acknowledges its S(DESELECT). -/
  abort : Option Bool
  /-- The stroke from which the field has settled. -/
  settled : Nat
  /-- The stroke since which the field is off. -/
  offSince : Nat
  /-- FIELD_EN has been written 0 since the last FAULT (R371). -/
  faultCleared : Bool
  /-- The field is held by a search of low-power detection. -/
  hold : Bool
  /-- Stamp of each QUIET entry. -/
  quiet : Tab Nat
  /-- Wrong passwords by serial, oldest first (R380). -/
  wrong : List (Bytes × Nat)
  /-- Retries of the block on the air (R373). -/
  retries : Nat
  /-- The last ping, and consecutive detections whose searches found nothing (R381). -/
  pinged : Nat
  empty : Nat
  /-- FWI of the ACTIVE token, the multiplier of an S(WTX) for the block on the air, and the tick since which its answer is awaited (R373). -/
  fwi : Nat
  wtx : Nat
  awaited : Nat
  /-- The frames that the operation in progress, or the last one, has sent, without CRC_A. -/
  air : List Bytes
deriving DecidableEq, Repr

/-! ### Contact cards and the removable card (17_contact_and_removable_cards.md) -/

/-- What a contact card answers to an operation. -/
inductive IccOutcome where
  /-- Nobody outside has said: free (log 4, DESIGN CHOICE). -/
  | open_
  | atr (b : Option Bytes)
  | answer (a : Answer)
  | resynch (ok : Bool)
deriving DecidableEq, Repr

/-- An operation of ICC_CMD. -/
structure IccOp where
  op : Nat
  outcome : IccOutcome
  since : Nat
deriving DecidableEq, Repr

/-- The contact card interface beside its registers. -/
structure Icc where
  tx : Bytes
  rx : Bytes
  written : List IccOp
  busy : Option IccOp
  abort : Bool
  /-- Recoveries of the block in progress (R386). -/
  retries : Nat
  /-- The boundary of a second activation at class B (R385). -/
  retryAt : Option Nat
deriving DecidableEq, Repr

/-- What an SD card answers to an operation. -/
inductive RmcOutcome where
  | open_
  /-- INIT: CCS, the highest mode the card supports, capacity in blocks, a tap passed. -/
  | init (ccs : Bool) (mode : Nat) (blocks : Nat) (tuned : Bool)
  /-- READ: blocks, CRC good, CRC good in the retry of R390, no error bit in R1. -/
  | read (data : List Bytes) (crcOk retryOk r1Ok : Bool)
  | write (r1Ok : Bool)
deriving DecidableEq, Repr

/-- An operation of RMC_CMD. -/
structure RmcOp where
  op : Nat
  outcome : RmcOutcome
  since : Nat
  /-- What the transfer is for. -/
  use : BoxUse
  /-- A READ that failed its CRC is in its retry (R390). -/
  retried : Bool
deriving DecidableEq, Repr

/-- A recipient record that this device has written (R394): the CHAIN of its last block, and the handles of the X25519 and ML-KEM-1024
private values, volatile objects of OWN. -/
structure Recipient where
  chain : Bytes
  x : Nat
  kem : Nat
deriving DecidableEq, Repr

/-- The keystone's containers (R393–R395). -/
structure Box where
  /-- The recipient records whose private values are held, until the next import or reset. -/
  recipients : List Recipient
  /-- The backup last made. -/
  ready : List Bytes
  /-- How the last export or import ended: status, and the first failing INDEX. -/
  result : Option (Nat × Option Nat)
deriving DecidableEq, Repr

/-- The removable card interface beside its registers. -/
structure Rmc where
  tx : Bytes
  rx : Bytes
  written : List RmcOp
  busy : Option RmcOp
  abort : Bool
  /-- The stroke of the last tuning, and a tuning due after a read CRC error (R390). -/
  tunedAt : Nat
  retune : Bool
  /-- The blocks read by the READ in progress or last ended. -/
  seen : List Bytes
  /-- The blocks of the container that a WRITE still has to write, once it is made. -/
  out : Option (List Bytes)
  box : Box
deriving DecidableEq, Repr

/-! ### The usage ledger (18_usage_ledger.md) -/

/-- The ledger beside its registers. -/
structure Lgr where
  /-- The anchor pair of R399: stroke time A and wall time W_A. -/
  anchorS : Nat
  anchorW : Nat
  /-- A W′ that the next boundary sets (R406, R407). -/
  setDue : Option Nat
  /-- P of the open period, in seconds (R400). -/
  period : Nat
  /-- Wall time and stroke time at which the open period opened. -/
  openW : Nat
  openS : Nat
  /-- A period boundary fell due while the snapshot was held (R401), and by a set of the clock, so that an EMPTY_RUN is due with the
  late close (R407). -/
  late : Bool
  advanced : Bool
  /-- Wall time and stroke time at which a tenant's period opened, where it was created within the open period (R402). -/
  opens : Tab (Nat × Nat)
  /-- Device-wide totals since boot by quantity (R404). -/
  totals : Tab Nat
  /-- Next SEQ of each domain (R403). -/
  seqs : Tab Nat
deriving DecidableEq, Repr

/-! ### The lamps (19_lamps.md) -/

/-- One lamp channel beside its registers. -/
structure Lamp where
  /-- LMP_k_CFG and LMP_k_DUTY as taken at the start of the present period; `none` before the first. -/
  cfg : Option (Word × Word)
  /-- The present pulse ends here, counted in half strokes of stroke time; 0 = no pulse. -/
  lit : Nat
  /-- Consecutive open and good measurements (R413). -/
  opens : Nat
  goods : Nat
  /-- The present pulse is stretched: STAT, EVT and the two counts as they were before its measurement (R415). -/
  undo : Option (Word × Word × Nat × Nat)
  /-- The stroke from which a retry may start (R415). -/
  retryAt : Option Nat
  /-- The stroke since which the channel runs without a short. -/
  since : Nat
deriving DecidableEq, Repr

/-- A lamp channel at reset. -/
def Lamp.init : Lamp := ⟨none, 0, 0, 0, none, none, 0⟩

/-! ### The whole machine -/

/-- What the FT7240 and the queue of its waiting commands hold. (log 125, DEDUCED) -/
structure State where
  /-- The commands that wait, first in, first out. -/
  pending : List Instr
  /-- The I/O registers that hold another value than their reset value, by I/O-space word address (R29). -/
  io : Tab Word
  /-- The stroke unit. -/
  stk : Stk
  /-- The cores 0–66. -/
  cores : Tab CoreState
  /-- The keystone's prefetch buffer and branch cache (R225). -/
  kfetch : FetchPath
  /-- Kept outcomes of withdrawn keystone calls (R245). -/
  kept : List KeptOutcome
  /-- The performance counters. -/
  pmc : Pmc
  /-- The parapet and the backup domain. -/
  ppt : Ppt
  /-- Power, clocks and reset. -/
  pwr : Pwr
  /-- The key store, tenants, quorums and agreements. -/
  key : KeyStore
  /-- The host interface. -/
  hif : Hif
  /-- The gravers 0–15. -/
  gravers : Tab GraverState
  /-- Setup changes written and not in force (R16). -/
  setup : List Pending
  /-- Placement, plate cache and SDRAM. -/
  plc : Plc
  /-- Spans and trusses. -/
  spn : Spn
  /-- Ports and the deck. -/
  dck : Dck
  /-- The viaduct. -/
  vdt : Vdt
  vwire : ViaductWire
  /-- The nonvolatile array. -/
  nva : Nva
  /-- Life cycle and debug. -/
  lcy : Lcs
  /-- Entropy. -/
  ent : Ent
  /-- The word that the last register read returned, and whether it was answered at all (a failed word mark is not). -/
  answer : Word
  answered : Bool
  /-- The dword that the last read of BAR0 returned (R4). -/
  dword : BitVec 32
  /-- The contactless reader. -/
  clr : Clr
  /-- The contact card interface. -/
  icc : Icc
  /-- The removable card interface. -/
  rmc : Rmc
  /-- The usage ledger. -/
  lgr : Lgr
  /-- The lamp channels 0–5. -/
  lamps : Tab Lamp
  /-- The latches of R6: master · 2^24 + address of an upper word (masters: 0–66 core, 67 debug, 68 PF, 69 + t VF). -/
  latch : Tab (Option Word)
  /-- What the upper words held when the latches were last reset with their blocks, and, by master, at a later core reset or
  FLR of that master. -/
  latchBase : Tab Word
  latchOwn : Tab (Option (Tab Word))
  /-- The number of free values used so far: the model's own field (assumption log 4, DESIGN CHOICE). -/
  free : Nat
deriving DecidableEq, Repr

/-- Reasons for which no hardware could perform a command as it is written: its operands name nothing that exists. (log 123, DEDUCED) -/
inductive Fault where
  /-- Raised by the commands whose operands carry bytes from outside (a descriptor, a token's UID, raw entropy bits, a cell)
  when their number is not one that the interface can deliver. Safe: the model stops. -/
  | malformed
deriving DecidableEq, Repr

/-- Reasons for which the model does not perform a command. -/
inductive Refusal where
  /-- Raised by `exec` for a command with no meaning yet. Safe: the model stops. -/
  | notModelled (mnemonic : String)
deriving DecidableEq, Repr

/-- The outcome of a command. -/
abbrev Out := Host.Outcome State Fault Refusal

/-- The INTENT row and the copy rows of life-cycle record 0, which wafer test has written (R273, log 36, PRESUMED): target TEST, CAUSE
vendor test, stroke time 0, and the CRC of the INTENT. -/
def waferIntent : BitVec 168 := 0x55f33d000000000000000000020000fff000fff000
def waferCopy : BitVec 168 := 0xFFF000

/-- The device right after reset, as a device reset out of a first power-on leaves it: released, in boot step 0, its life
cycle TEST (log 36, PRESUMED). Every register holds its reset value (R11, `ioReset`) but LCS_STATE and LCS_CODE, which show what the
log holds (R274), and PWR_RCAUSE, which names a main and backup power-on (R446). (log 10, DESIGN CHOICE) (log 11, DESIGN CHOICE) -/
def State.reset : State where
  pending := []
  io := [(0x070000, 0x000500), (0x070001, 0xFFF000), (0x100001, 0x700000)]
  stk := ⟨⟨0, 0⟩, 0, 0, [], [], none, none, false, [], [], [], [], [], [], false, none, false, false, [], []⟩
  cores := []
  kfetch := ⟨none, 0, 0, []⟩
  kept := []
  pmc := ⟨[], [], [], false, []⟩
  ppt := ⟨[], none, none, false, none, [], [], [], [], ⟨0, 0⟩, 0, none, none, none⟩
  pwr := ⟨.run, none, none, 0, 0, 0, false, 0, none, 0, [], false⟩
  key := ⟨[], none, none, none, [], [], [], [], [], [], [], [], [], [], [], [], [], false⟩
  hif := ⟨[], [], [], [], [], [], [], [], [], [], []⟩
  gravers := []
  setup := []
  plc := ⟨[], [], [], [], [], [], [], [], [], [], none, [], 0, [], [], [], [], [], [], [], [], []⟩
  spn := ⟨⟨[], [], [], [], [], [], [], List.range 28⟩, [], [], [], [], [], [], [], 0, 0⟩
  dck := ⟨[], [], [], [], [], 0, [], [], [], [], [], [], [], [], [], [], []⟩
  vdt := ⟨[], 0, none, false, 0, false, [], [], [], [], [], 0, none, none, none, [], ⟨[], [], none, []⟩, [], false, none, [], none, none⟩
  vwire := ⟨[], 0, []⟩
  nva := ⟨[(0x2000, some waferIntent), (0x2009, some waferCopy), (0x200A, some waferCopy), (0x200B, some waferCopy),
    (0x82000, some waferIntent), (0x82009, some waferCopy), (0x8200A, some waferCopy)],
    [], 0, 0, false, false, 0, 0, none, 0, none, none, 0, 0⟩
  lcy := ⟨none, none, none, false, [], [], [], 0, 0, none⟩
  ent := ⟨0, [], [], [], [], 0⟩
  answer := 0
  answered := true
  dword := 0
  clr := ⟨[], [], [], none, none, 0, 0, false, false, [], [], 0, 0, 0, 0, 0, 0, []⟩
  icc := ⟨[], [], [], none, false, 0, none⟩
  rmc := ⟨[], [], [], none, false, 0, false, [], none, ⟨[], [], none⟩⟩
  lgr := ⟨0, 0, none, 3600, 0, 0, false, false, [], [], []⟩
  lamps := []
  latch := []
  latchBase := []
  latchOwn := []
  free := 0

end Sys2Proof.Machine
end

