-- ==== Sys2Proof/Machine/Ops.lean ====
section
/-! DEFINITION. The named operations over the registers: reads, writes, fields, events and counters, and the reports that
every block makes to the performance counters (R423) and to the parapet (R287). -/

namespace Sys2Proof.Machine

/-! ### Registers -/

/-- The stored word of the register at `a`. -/
def State.rd (s : State) (a : Nat) : Word := Tab.get (ioReset a) s.io a

/-- Stores `w` in the register at `a`. -/
def State.wr (s : State) (a : Nat) (w : Word) : State := { s with io := Tab.set (ioReset a) s.io a w }

/-- Bits [hi:lo] of the register at `a`. -/
def State.fld (s : State) (a hi lo : Nat) : Nat := Word.slice (s.rd a) hi lo

/-- Replaces bits [hi:lo] of the register at `a`. -/
def State.put (s : State) (a hi lo v : Nat) : State := s.wr a (Word.put (s.rd a) hi lo v)

/-- Bit `i` of the register at `a`. -/
def State.bit (s : State) (a i : Nat) : Bool := Word.bit (s.rd a) i

/-- Sets bit `i` of the register at `a`: an event flag, a latch. -/
def State.raise (s : State) (a i : Nat) : State := s.put a i i 1

/-- Writes bit `i` of the register at `a`. -/
def State.flag (s : State) (a i : Nat) (b : Bool) : State := s.put a i i (if b then 1 else 0)

/-- The value of `n` consecutive registers from `a`, least significant word first (R5). -/
def State.rdN (s : State) : Nat → Nat → Nat
  | _, 0 => 0
  | a, n + 1 => (s.rd a).toNat + 2 ^ 24 * s.rdN (a + 1) n

/-- Writes `v` to `n` consecutive registers from `a`, least significant word first (R5). -/
def State.wrN (s : State) : Nat → Nat → Nat → State
  | _, 0, _ => s
  | a, n + 1, v => (s.wr a (BitVec.ofNat 24 v)).wrN (a + 1) n (v / 2 ^ 24)

/-- Adds `k` to the saturating 48-bit counter at `a`. -/
def State.count (s : State) (a : Nat) (k : Nat := 1) : State := s.wrN a 2 (min (s.rdN a 2 + k) (2 ^ 48 - 1))

/-- Adds 1 to the saturating field [hi:lo] of the register at `a`. -/
def State.bump (s : State) (a hi lo : Nat) : State :=
  s.put a hi lo (min (s.fld a hi lo + 1) (2 ^ (hi + 1 - lo) - 1))

/-- Zeroes `n` consecutive registers from `a`. -/
def State.zero (s : State) : Nat → Nat → State
  | _, 0 => s
  | a, n + 1 => (s.wr a 0).zero (a + 1) n

/-- `f` applied for each index of a list. -/
def State.each {α : Type} (s : State) (l : List α) (f : α → State → State) : State := l.foldl (fun t i => f i t) s

/-- `f` where `b`. -/
def State.onlyIf (s : State) (b : Bool) (f : State → State) : State := if b then f s else s

/-- The next free value's number, and the state that has used it (assumption log 4, DESIGN CHOICE). -/
def State.useFree (s : State) : Nat × State := (s.free, { s with free := s.free + 1 })

/-! ### The access codes (R7–R10) -/

/-- Takes the new bits of `mask` from `w`. -/
def maskWrite (old w : Word) (mask : Nat) : Word :=
  (old &&& ~~~ (BitVec.ofNat 24 mask)) ||| (w &&& BitVec.ofNat 24 mask)

/-- A field written with a reserved encoding keeps its value (R10). -/
def keepReserved (r : RegDesc) (old new : Word) : Word :=
  r.valid.foldl (fun v (hi, lo, ranges) =>
    if ranges.any fun (a, b) => decide (a ≤ Word.slice v hi lo ∧ Word.slice v hi lo ≤ b) then v
    else Word.put v hi lo (Word.slice old hi lo)) new

/-- The value that a write of `w` leaves in a register with no rule of its own. -/
def plainValue (s : State) (keep : Bool) (r : RegDesc) (a : Nat) (w : Word) : Word :=
  let old := s.rd a
  let locked := match r.lock with | some (l, b) => s.bit l b | none => false
  let v := maskWrite old w r.rw
  let v := v &&& ~~~ (w &&& BitVec.ofNat 24 r.w1c)
  let v := if keep then maskWrite v w r.rwk else v
  let v := if locked then v else maskWrite v w r.rwl
  let v := if keep then v ||| (w &&& BitVec.ofNat 24 r.lockBits) else v
  keepReserved r old v

/-- A write of a register with no rule of its own (R7). -/
def plainWrite (keep : Bool) (a : Nat) (w : Word) (s : State) : State :=
  match regAt a with
  | some r => s.wr a (plainValue s keep r a w)
  | none => s

/-! ### Stroke time -/

/-- The present stroke time as one count of strokes, which goes on past the wraps at era 0xFF (R39, R40). -/
def State.now (s : State) : Nat := s.stk.time.toNat + s.stk.laps * 2 ^ 48

/-- The strokes that have passed: what an operation's count of strokes is measured in (R51). -/
def State.tick (s : State) : Nat := s.stk.ticks

/-- The lead from stroke `a` to stroke `b`, modulo 2^48. -/
def lead (a b : Nat) : Nat :=
  if a % 2 ^ 48 ≤ b % 2 ^ 48 then b % 2 ^ 48 - a % 2 ^ 48 else 2 ^ 48 - (a % 2 ^ 48 - b % 2 ^ 48)

/-- Two stroke numbers that no order holds for (R40). -/
def unordered (a b : Nat) : Bool := lead a b == 2 ^ 47

/-- Serial-number order over 48 bits (R40): `a` precedes `b`. -/
def precedes (a b : Nat) : Bool := decide (1 ≤ lead a b ∧ lead a b ≤ 2 ^ 47 - 1)

/-- The count of strokes at which stroke time `t` lies, by the serial order of stroke numbers (R40): ahead of the present, or
behind it. -/
def State.countOf (s : State) (t : StrokeTime) : Nat :=
  if s.stk.laps = 0 then t.toNat
  else if lead s.stk.time.num.toNat t.num.toNat < 2 ^ 47 then s.now + lead s.stk.time.num.toNat t.num.toNat
  else s.now - lead t.num.toNat s.stk.time.num.toNat

/-- The slot class of the cell of column `c` at plan position `p` in a plan buffer (R44, R46). -/
def planCellOf (plan : Tab Word) (p c : Nat) : Nat := Word.slice (Tab.get 0 plan (15 * p + c / 8)) (3 * (c % 8) + 2) (3 * (c % 8))

/-- The active plan (STK_STAT.PLAN_BUF, R48). -/
def State.activePlan (s : State) : Tab Word := if s.bit 0x0004 1 then s.stk.planB else s.stk.planA

/-- The slot class of column `c` in the present stroke. -/
def State.cell (s : State) (c : Nat) : Nat := planCellOf s.activePlan (s.now % 4096) c

/-! ### Register content that waits (R16) -/

/-- The values that waiting changes give the register at `a`, in the order of their writing, with when they take effect. -/
def State.coming (s : State) (a : Nat) : List (When × Word) :=
  s.setup.filterMap fun p => match p.change with
    | .regs l => (l.find? fun x => x.1 == a).map fun x => (p.eff, x.2)
    | _ => none

/-- What the register at `a` holds once every waiting change has taken effect. -/
def State.willBe (s : State) (a : Nat) : Word := ((s.coming a).map (·.2)).getLast?.getD (s.rd a)

/-- Whether a change takes effect at the next boundary in any case. -/
def State.sure (s : State) : When → Bool
  | .stroke n => decide (n ≤ s.now + 1)
  | .slot _ => false

/-- The most that the register at `a` may hold from the next stroke on: what a sum that must stay within a total counts. -/
def State.atMost (s : State) (a : Nat) : Nat :=
  let l := s.coming a
  let base := ((l.filter fun x => s.sure x.1).map (·.2)).getLast?.getD (s.rd a)
  (l.filter fun x => !s.sure x.1).foldl (fun m x => max m x.2.toNat) base.toNat

/-! ### Reports to the performance counters -/

/-- An event as R423 and R424 describe it; a part that does not apply is `none`. -/
structure PmcEvent where
  code : Nat
  /-- The source as MSEL codes it. -/
  src : Option Nat := none
  dom : Option Nat := none
  /-- The slot class of R44. -/
  cls : Option Nat := none
  /-- The privilege at the event: 3 KEEP, 1 SUPER, 0 USER. -/
  priv : Option Nat := none
  addr : Option Nat := none
  amount : Nat := 1
deriving DecidableEq, Repr

/-- Whether an event passes the filters of counter `n` (R424). -/
def pmcPasses (s : State) (n : Nat) (e : PmcEvent) : Bool :=
  let a := 0x0F0100 + 8 * n
  let msel := s.fld (a + 2) 7 0
  let dom := s.fld (a + 1) 8 0
  s.bit a 23 && s.fld a 7 0 == e.code
    && !(s.bit a 14 && n % 2 == 1)
    && (match e.src with | some k => msel == 0xFF || msel == k | none => true)
    && (match e.dom with | some d => dom == 0x1FF || dom == d | none => true)
    && (match e.cls with | some c => s.bit (a + 1) (16 + c) | none => true)
    && (match e.priv with | some p => s.bit (a + 1) (if p = 3 then 23 else if p = 1 then 22 else 21) | none => true)
    && (match e.addr with
        | some x => !(s.bit a 13) || (decide ((s.rd (a + 3)).toNat ≤ x) && decide (x ≤ (s.rd (a + 4)).toNat))
        | none => true)

/-- Whether the keystone's core events count (R419): only in TEST and ANALYSIS. -/
def pmcCoreZero (s : State) (e : PmcEvent) : Bool :=
  !(decide (2 ≤ e.code) && decide (e.code ≤ 9) && (e.src == some 0)) || s.fld 0x070000 2 0 == 0 || s.fld 0x070000 2 0 == 4

/-- An event adds its amount, for the next boundary, to every counter whose filters it passes (R419, R424). -/
def State.pmcEvent (s : State) (e : PmcEvent) : State :=
  { s with pmc := { s.pmc with add := (List.range 32).foldl (fun t n =>
      if pmcPasses s n e && pmcCoreZero s e then Tab.set 0 t n (Tab.get 0 t n + e.amount) else t) s.pmc.add } }

/-- Whether histogram `h` takes a measurement of source `src` (R425). -/
def pmcMeasures (s : State) (h src : Nat) (dom pg : Option Nat) : Bool :=
  let a := 0x0F1000 + 0x80 * h
  s.bit a 23 && s.fld a 2 0 == src
    && (match dom with | some d => s.fld (a + 2) 8 0 == 0x1FF || s.fld (a + 2) 8 0 == d | none => true)
    && (match pg with | some g => s.fld (a + 2) 12 9 == 0xF || s.fld (a + 2) 12 9 == g | none => true)

/-- A latency of `cycles` fabric cycles measured by the histograms of source `src` (R425, R426). -/
def State.pmcLatency (s : State) (src cycles : Nat) (dom pg : Option Nat) : State :=
  let ms := (List.range 4).filterMap fun h =>
    if pmcMeasures s h src dom pg then some (h, cycles / 2 ^ s.fld (0x0F1000 + 0x80 * h) 12 8) else none
  { s with pmc := { s.pmc with meas := s.pmc.meas ++ ms } }

end Sys2Proof.Machine
end

