-- ==== Sys2Proof/Machine/Stroke.lean ====
section
/-! DEFINITION. The stroke unit (02_stroke.md): stroke time, the stroke plan and its check, forward sets, switch slots, test
requests and background deadlines. The shared operations; the commands call them. -/

namespace Sys2Proof.Machine

/-! ### Stroke time (R39) -/

/-- Stroke time after `d` strokes, d < 2^48: the era counts the wraps and stays at 0xFF (R39). -/
def strokeAdd (t : StrokeTime) (d : Nat) : StrokeTime :=
  let n := t.num.toNat + d
  ⟨if n < 2 ^ 48 then t.era else if t.era = 0xFF then 0xFF else t.era + 1, BitVec.ofNat 48 n⟩

/-- Whether `d` strokes from `t` pass the end of the stroke number. -/
def strokeWraps (t : StrokeTime) (d : Nat) : Bool := decide (2 ^ 48 ≤ t.num.toNat + d)

/-- The events of a stroke-number wrap (R39): STK_EVT.WRAP; with the era below 0xFF its journal write starts, and an era
that comes to 0xFF sets STK_STAT.ERA_FULL. At era 0xFF the wrap is counted: what waits for a stroke goes on waiting for it
(R40). -/
def strokeWrapEvents (old new : StrokeTime) (s : State) : State :=
  let s := s.raise 0x0005 6
  let s := { s with stk := if old.era = 0xFF then { s.stk with laps := s.stk.laps + 1 } else { s.stk with eraWrite := true } }
  s.flag 0x0004 0 (new.era = 0xFF)

/-- A boundary at which stroke time moves by `d`: the ages of the background tasks advance by `d` (R43, R63), and one stroke has
passed. -/
def moveTime (d : Nat) (s : State) : State :=
  let t := strokeAdd s.stk.time d
  let s' := { s with stk := { s.stk with time := t, ticks := s.stk.ticks + 1, ages := (List.range 8).foldl (fun a i => Tab.set 0 a i (Tab.get 0 a i + d)) s.stk.ages } }
  if strokeWraps s.stk.time d then strokeWrapEvents s.stk.time t s' else s'

/-! ### Forward sets (R43) -/

/-- A switch slot's register: `o` is its offset from STK_SWk_CTL. -/
def swReg (k o : Nat) : Nat := 0x0040 + 0x20 * k + o

/-- STK_SWk_STAT.STATE: 0 IDLE, 1 ARMED, 2 COMMITTED, 3 CANCELLED, 4 DONE. -/
def swState (s : State) (k : Nat) : Nat := s.fld (swReg k 1) 2 0

/-- The stroke time named by three registers from `a`: number low, number high, era. -/
def timeAt (s : State) (a : Nat) : StrokeTime :=
  ⟨BitVec.ofNat 8 (s.rd (a + 2)).toNat, BitVec.ofNat 48 (s.rdN a 2)⟩

/-- How far `t` lies ahead of the present, counted in strokes; `none` where it does not lie in the next 2^48 strokes
that the era and the number can show. -/
def aheadBy (s : State) (t : StrokeTime) : Option Nat :=
  let d := lead s.stk.time.num.toNat t.num.toNat
  if strokeAdd s.stk.time d = t then some d else none

/-- STK_FWD_GO with bit 0 set (R43): the forward set is accepted, or refused with FWD_ERR. -/
def stkFwdGo (s : State) : State :=
  let t := timeAt s 0x0008
  let busy := (List.range 4).any fun k => swState s k == 1 || swState s k == 2
  match aheadBy s t, s.stk.forward with
  | some d, none =>
    if 1 ≤ d ∧ d ≤ 2 ^ 46 ∧ !busy then
      ({ s with stk := { s.stk with forward := some t } }.put 0x0004 4 4 0).put 0x0004 3 3 1
    else s.put 0x0004 4 4 1
  | _, _ => s.put 0x0004 4 4 1

/-- The accepted forward set takes effect at this boundary (R43): stroke time becomes its target. -/
def forwardEffect (s : State) : State :=
  match s.stk.forward with
  | none => s
  | some t =>
    let d := lead s.stk.time.num.toNat t.num.toNat
    let s := moveTime d { s with stk := { s.stk with forward := none } }
    (s.put 0x0004 3 3 0).raise 0x0005 3

/-! ### The plan (R46–R50) -/

/-- Number of plan words. -/
def planWords : Nat := 61440

/-- The shadow plan. -/
def State.shadowPlan (s : State) : Tab Word := if s.bit 0x0004 1 then s.stk.planA else s.stk.planB

/-- Word `i` of a plan as it is kept (R46): word 14 of a row holds three cells, and its bits [23:9] are reserved (R9). -/
def planWord (i : Nat) (w : Word) : Word := if i % 15 = 14 then BitVec.ofNat 24 (Word.slice w 8 0) else w

/-- A write of STK_PLAN_DATA (R46): the shadow word is stored, the address steps and wraps, PLAN_CHECKED clears.
The last word of a row holds three cells; its other bits are reserved (R9). -/
def planData (w : Word) (s : State) : State :=
  let a := (s.rd 0x0010).toNat
  let w := planWord a w
  let stk := if s.bit 0x0004 1 then { s.stk with planA := Tab.set 0 s.stk.planA a w }
    else { s.stk with planB := Tab.set 0 s.stk.planB a w }
  let stk := { stk with check := stk.check.map fun (n, p, _) => (n, p, true) }
  ({ s with stk := stk }.wr 0x0010 (BitVec.ofNat 24 (if a + 1 = planWords then 0 else a + 1))).put 0x0004 2 2 0

/-- STK_PLAN_CHECK with bit 0 set (R47): the check starts unless one is in progress. While it runs RULE, COLUMN and ROW keep
what the last check left there (log 127, DESIGN CHOICE). -/
def planCheckGo (s : State) : State :=
  if s.bit 0x0013 20 then s
  else { s with stk := { s.stk with check := some (64, s.shadowPlan, false) } }.put 0x0013 20 20 1

/-- The columns of each kind (R45). -/
def spnCols : List Nat := List.range 28
def grvCols : List Nat := (List.range 16).map (· + 28)
def pierCols : List Nat := (List.range 66).map (· + 44)
def sdcCols : List Nat := [110, 111]
def nvaCols : List Nat := [112, 113]

/-- How many rows of column `c` satisfy `p`. -/
def countCol (plan : Tab Word) (c : Nat) (p : Nat → Bool) : Nat :=
  ((List.range 4096).filter fun r => p (planCellOf plan r c)).length

/-- Rule 2 of R47 at a column. -/
def rule2Bad (plan : Tab Word) (c : Nat) : Bool :=
  countCol plan c (fun x => x == 0 || x == 2) != 4096 || countCol plan c (· == 2) == 0

/-- Rule 4 of R47 at a row: more than one TEST cell within one kind of column. -/
def rule4Bad (plan : Tab Word) (r : Nat) : Bool :=
  [spnCols, grvCols, pierCols, sdcCols, nvaCols].any fun cs =>
    decide (1 < (cs.filter fun c => planCellOf plan r c == 2).length)

/-- Rule 5 of R47 at a window that begins at `p`: fewer than 53 GUARANTEED cells in 64 positions. -/
def rule5Bad (plan : Tab Word) (c p : Nat) : Bool :=
  decide (((List.range 64).filter fun i => planCellOf plan ((p + i) % 4096) c == 0).length < 53)

/-- Rule 6 of R47 at a column. -/
def rule6Bad (plan : Tab Word) (c : Nat) : Bool :=
  countCol plan c (· == 2) == 0 || countCol plan c (fun x => x == 3 || x == 4) == 0

/-- The first failure of R47 as (rule, column, row); `none` for a valid plan. -/
def planFailure (plan : Tab Word) : Option (Nat × Nat × Nat) :=
  let rows := List.range 4096
  let bad1 := rows.findSome? fun r => ((List.range 115).find? fun c => decide (4 < planCellOf plan r c)).map fun c => (1, c, r)
  let bad2 := (spnCols.find? (rule2Bad plan)).map fun c => (2, c, 0)
  let bad3 := if countCol plan 114 (fun x => x == 0 || x == 2) != 4096 then some (3, 114, 0) else none
  let bad4 := (rows.find? (rule4Bad plan)).map fun r => (4, 0, r)
  let bad5 := sdcCols.findSome? fun c => (rows.find? (rule5Bad plan c)).map fun p => (5, c, p)
  let bad6 := ((grvCols ++ pierCols ++ sdcCols ++ nvaCols).find? (rule6Bad plan)).map fun c => (6, c, 0)
  let bad7 := (pierCols.find? fun c => decide (countCol plan c (· == 1) < 256)).map fun c => (7, c, 0)
  bad1 <|> bad2 <|> bad3 <|> bad4 <|> bad5 <|> bad6 <|> bad7

/-- The plan check ends (R47): it reports the first failure and, where the shadow has not been written since the check
began, sets PLAN_CHECKED on a pass. What a check of a changed shadow reports may reflect either content: a free bit
chooses (log 4, DESIGN CHOICE). -/
def planCheckEnd (s : State) : State :=
  match s.stk.check with
  | none => s
  | some (_, began, dirty) =>
    let (k, s) := s.useFree
    let plan := if dirty && Config.freeBit k then began else s.shadowPlan
    let s := { s with stk := { s.stk with check := none } }
    match planFailure plan with
    | none => (s.wr 0x0013 0).onlyIf (!dirty) (·.put 0x0004 2 2 1)
    | some (r, c, p) => (s.wr 0x0013 (BitVec.ofNat 24 (r * 2 ^ 21 + c * 2 ^ 12 + p))).raise 0x0005 4

/-- The default plan's cell at position `p` and column `c` (R50). -/
def defaultCell (p c : Nat) : Nat :=
  if c < 28 then (if p = 128 * c + 64 then 2 else 0)
  else if c < 44 then
    (if p = 256 * (c - 28) + 128 then 2 else if p % 256 = 71 then 4 else if p % 256 = 7 then 3
     else if p % 16 = 15 then 1 else 0)
  else if c < 110 then
    (if p = 60 * (c - 44) + 1 then 2 else if p % 64 = 63 then 4 else if p % 4 = 3 then 3
     else if p % 4 = 1 ∨ p % 4 = 2 then 1 else 0)
  else if c < 112 then
    (if p = 2048 * (c - 110) + 1024 then 2 else if p % 64 = 13 then 4 else if p % 8 = 5 then 3 else 0)
  else if c < 114 then
    (if p = 2048 * (c - 112) + 512 then 2 else if p % 64 = 34 then 4 else if p % 4 = 2 then 3 else 1)
  else if c = 114 then (if p % 16 = 8 then 2 else 0)
  else 0

/-- Word `a` of the default plan (R46, R50). -/
def defaultPlanWord (a : Nat) : Word :=
  BitVec.ofNat 24 ((List.range 8).foldl (fun v j => v + defaultCell (a / 15) (8 * (a % 15) + j) * 2 ^ (3 * j)) 0)

/-- The default plan as a buffer. -/
def defaultPlan : Tab Word :=
  ((List.range planWords).map fun a => (a, defaultPlanWord a)).filter fun (_, w) => decide (w ≠ 0)

/-! ### Switch slots (R54–R59) -/

/-- The participant mask held by six registers from `a`. -/
def maskAt (s : State) (a : Nat) : Nat := s.rdN a 6

/-- Whether two armed switches overlap (R55): a common participant, or either of kind PLAN. -/
def swOverlap (s : State) (k j : Nat) (kindK maskK : Nat) : Bool :=
  k != j && swState s j == 1 && decide (timeAt s (swReg k 2) = timeAt s (swReg j 2))
    && (kindK == 1 || s.fld (swReg j 0) 9 8 == 1 || (maskK &&& maskAt s (swReg j 8)) != 0)

/-- The CAUSE with which an arm of slot `k` is refused (R55), 0 where it is accepted. Where several cases of R55 hold, the
first in the order of the rule's list is reported (log 12, DEDUCED). -/
def armCause (s : State) (k : Nat) : Nat :=
  let t := timeAt s (swReg k 2)
  let kind := s.fld (swReg k 0) 9 8
  let mask := maskAt s (swReg k 8)
  let inRange := match aheadBy s t with
    | some d => decide (16 ≤ d ∧ d ≤ 2 ^ 26)
    | none => false
  if !inRange then 3
  else if kind == 1 && (t.num.toNat % 4096 != 0 || mask != 0 || !s.bit 0x0004 2) then 5
  else if swState s k == 1 || swState s k == 2 then 6
  else if (List.range 4).any fun j => swOverlap s k j kind mask then 4
  else if s.stk.forward.isSome then 7
  else 0

/-- OP = ARM for slot `k` (R55): refused with a CAUSE and SW_REFUSED, or ARMED with acknowledgments and MISS cleared. -/
def swArm (k : Nat) (s : State) : State :=
  match armCause s k with
  | 0 =>
    ((s.zero (swReg k 0x10) 6).zero (swReg k 0x18) 6).wr (swReg k 1) 1
  | c => (s.put (swReg k 1) 7 4 c).raise 0x0005 2

/-- OP = CANCEL for slot `k` (R59): noted for the next boundary; a slot that is committed or whose
stroke has come returns "already committed". -/
def swCancelWrite (k : Nat) (s : State) : State :=
  match swState s k with
  | 1 => { s with stk := { s.stk with cancels := s.stk.cancels ++ [k] } }
  | 2 | 4 => s.put (swReg k 1) 7 4 8
  | _ => s

/-- A write of STK_SWk_CTL from KEEP: KIND, unless the slot is armed or committed or the code is reserved (R55, R10), then
the operation. KIND is written whether or not the arm of the same write is refused (log 126, DESIGN CHOICE). -/
def swCtlWrite (k : Nat) (w : Word) (s : State) : State :=
  let held := swState s k == 1 || swState s k == 2
  let kind := Word.slice w 9 8
  let s := if held || decide (1 < kind) then s else s.put (swReg k 0) 9 8 kind
  match Word.slice w 1 0 with
  | 1 => swArm k s
  | 2 => swCancelWrite k s
  | _ => s

/-- A write of STK_SWk_S_LO, S_HI or S_ERA (offset 2, 3, 4): discarded while the slot is armed or committed (R55). -/
def swTimeWrite (k o : Nat) (w : Word) (s : State) : State :=
  if swState s k == 1 || swState s k == 2 then s
  else s.wr (swReg k o) (if o = 4 then BitVec.ofNat 24 (w.toNat % 256) else w)

/-- A write of STK_SWk_PARTj (R55). Participants 127 to 143 are reserved (R54): their bits are not stored (R9). -/
def swPartWrite (k j : Nat) (w : Word) (s : State) : State :=
  let a := swReg k (8 + j)
  let w := if j = 5 then BitVec.ofNat 24 (Word.slice w 6 0) else w
  match swState s k with
  | 2 => s
  | 1 =>
    let s' := s.wr a (s.rd a ||| w)
    if (List.range 4).any fun i => swOverlap s' k i (s.fld (swReg k 0) 9 8) (maskAt s' (swReg k 8))
    then s.raise 0x0005 2 else s'
  | _ => s.wr a w

/-- Whether an acknowledgment recorded now counts for slot `k`: no later than the end of stroke S − 4 (R56). -/
def ackInTime (s : State) (k : Nat) : Bool :=
  match aheadBy s (timeAt s (swReg k 2)) with
  | some d => decide (4 ≤ d)
  | none => false

/-- Participant `i` acknowledges slot `k` (R56). -/
def swAck (k i : Nat) (s : State) : State :=
  if swState s k == 1 && ackInTime s k then s.raise (swReg k (0x10 + i / 24)) (i % 24) else s

/-- A participant that faults or leaves service before the boundary that begins S − 2 loses its acknowledgments (R56). -/
def swLoseAck (i : Nat) (s : State) : State :=
  s.each (List.range 4) fun k s => if swState s k == 1 then s.put (swReg k (0x10 + i / 24)) (i % 24) (i % 24) 0 else s

/-- The number of participant `i` of R54 for a pier or the keystone. -/
def pierParticipant (n : Nat) : Nat := 60 + n

/-- STK_SW_PACK (R56): core `n` acknowledges for its own index only; any other index is discarded. -/
def swPack (n : Nat) (w : Word) (s : State) : State :=
  if Word.slice w 6 0 = pierParticipant n then swAck (Word.slice w 17 16) (Word.slice w 6 0) s else s

/-- The decision of slot `k` (R57), due at the boundary that begins S − 2: `some true` commits, `some false` cancels. A
PLAN switch takes its participants from the plan: it commits while the shadow is still the checked one (R54, log 13, DEDUCED). -/
def swDecision (s : State) (k : Nat) : Option Bool :=
  if swState s k == 1 && aheadBy s (timeAt s (swReg k 2)) == some 2 then
    let mask := maskAt s (swReg k 8)
    if s.fld (swReg k 0) 9 8 == 1 then some (s.bit 0x0004 2)
    else some (mask != 0 && (mask &&& maskAt s (swReg k 0x10)) == mask)
  else none

/-- The cancel of slot `k` with a cause: CANCELLED, SW_CANCEL; the setup in force is unchanged (R57, R59). The shadow
content of the slot is discarded by `dropSlot` of the setup list. -/
def swCancel (k cause : Nat) (s : State) : State :=
  (s.wr (swReg k 1) (BitVec.ofNat 24 (cause * 16 + 3))).raise 0x0005 1

/-- The commit of slot `k` (R57). -/
def swCommit (k : Nat) (s : State) : State := (s.wr (swReg k 1) 2).raise 0x0005 0

/-- A missing acknowledgment: the participants without one are recorded, then the switch is cancelled (R57). -/
def swMiss (k : Nat) (s : State) : State :=
  let mask := maskAt s (swReg k 8)
  if s.fld (swReg k 0) 9 8 = 1 then swCancel k 1 s
  else if mask = 0 then swCancel k 9 s
  else swCancel k 1 (s.wrN (swReg k 0x18) 6 (mask &&& (mask ^^^ (mask &&& maskAt s (swReg k 0x10)))))

/-- The boundary that begins S of a committed PLAN switch: the shadow becomes the active plan, and PLAN_CHECKED is 1
(R48). -/
def planSwitch (s : State) : State := (s.flag 0x0004 1 (!s.bit 0x0004 1)).put 0x0004 2 2 1

/-! ### Tests (R60) and tasks (R63, R64) -/

/-- Whether the chapter of the unit of column `c` defines test kind `k` (R71, R116, R167, R203, R269, R296, R309, R444
for the SDRAM controllers). -/
def testKindOk (c k : Nat) : Bool :=
  if c < 28 then decide (1 ≤ k ∧ k ≤ 3)
  else if c < 44 then decide (1 ≤ k ∧ k ≤ 3)
  else if c < 110 then decide (1 ≤ k ∧ k ≤ 3)
  else if c < 112 then k == 1 || k == 2
  else if c < 114 then k == 1
  else decide (0x40 ≤ k ∧ k ≤ 0x61) || decide (0x80 ≤ k ∧ k ≤ 0x94) || decide (0x20 ≤ k ∧ k ≤ 0x23) || k == 0x28

/-- Queues a test request of column `c` and kind `k` in the present stroke (R60): merged into a pending one of the same
column and kind and counted, discarded with TREQ_BAD where the kind is not defined. -/
def testRequest (c k : Nat) (s : State) : State :=
  if 114 < c then s
  else if !testKindOk c k then s.raise 0x0005 7
  else if s.stk.tests.any fun r => r.col == c && r.kind == k then s.bump 0x0004 15 8
  else { s with stk := { s.stk with tests := s.stk.tests ++ [⟨c, k, s.now⟩] } }

/-- The request that a TEST cell of column `c` beginning now would serve (R60). -/
def testHead (s : State) (c : Nat) : Option TestReq :=
  match s.stk.tests.find? (·.col == c) with
  | some r => if r.queued < s.now then some r else none
  | none => none

/-- Takes the request of column `c` and kind `k` out of the queue. -/
def testDone (c k : Nat) (s : State) : State :=
  { s with stk := { s.stk with tests := s.stk.tests.filter fun r => !(r.col == c && r.kind == k) } }

/-- STK_TASKt_CFG. -/
def taskReg (t : Nat) : Nat := 0x0100 + 4 * t

/-- Task `t` becomes URGENT once its age exceeds its deadline (R63). -/
def taskPromote (t : Nat) (s : State) : State :=
  if 2 ^ s.fld (taskReg t) 5 0 < Tab.get 0 s.stk.ages t ∧ t ∉ s.stk.urgent then
    ((({ s with stk := { s.stk with urgent := s.stk.urgent ++ [t] } }.bump (taskReg t + 2) 23 0).raise 0x0005 5).pmcEvent
      { code := 0x23 })
  else s

/-- A round of task `t` completes: the task starts a new round as a non-urgent task (R63). -/
def taskRound (t : Nat) (s : State) : State :=
  { s with stk := { s.stk with urgent := s.stk.urgent.filter (· != t), ages := Tab.set 0 s.stk.ages t 0 } }

/-- A write of STK_TASKt_CFG from KEEP (R64): URG_CLR clears the promotion counter; a write whose deadline is longer than the
default or below 2^12 is discarded. -/
def taskCfgWrite (t : Nat) (w : Word) (s : State) : State :=
  let dl := Word.slice w 5 0
  if 12 ≤ dl ∧ dl ≤ Word.slice (ioReset (taskReg t)) 5 0 then
    (s.onlyIf (Word.bit w 23) (·.wr (taskReg t + 2) 0)).put (taskReg t) 5 0 dl
  else s

/-- The columns that a background task uses (R64): SDC, PIER or NVA. -/
def taskCols (t : Nat) : Nat := if t ≤ 3 then 110 else if t = 4 ∨ t = 7 then 44 else 112

/-- Whether URGENT task `i` goes before URGENT task `j` (R63): the larger fraction of its deadline, then the lower number. -/
def urgentFirst (s : State) (i j : Nat) : Bool :=
  let a := Tab.get 0 s.stk.ages i * 2 ^ s.fld (taskReg j) 5 0
  let b := Tab.get 0 s.stk.ages j * 2 ^ s.fld (taskReg i) 5 0
  decide (b < a) || (a == b && decide (i ≤ j))

/-- Whether task `t` may use a cell of class `cl` (R44, R63): URGENT work goes first in CONTROL, BACKGROUND and URGENT cells, in
its own order; other background work uses BACKGROUND and URGENT cells, and a CONTROL cell that no CONTROL work takes. -/
def taskTakes (s : State) (t cl : Nat) (control : Bool) : Bool :=
  let rivals := s.stk.urgent.filter fun u => taskCols u == taskCols t
  if s.stk.urgent.contains t then (cl == 1 || cl == 3 || cl == 4) && rivals.all fun u => urgentFirst s t u
  else rivals.isEmpty && (cl == 3 || cl == 4 || (cl == 1 && !control))

/-- CNT_CLR in STK_EVT: both counters of STK_STAT clear (R65); the other bits of the write clear their events. -/
def stkEvtWrite (w : Word) (s : State) : State :=
  let s := s.wr 0x0005 (s.rd 0x0005 &&& ~~~ (w &&& 0x0000FF))
  s.onlyIf (Word.bit w 23) fun s => (s.put 0x0004 23 16 0).put 0x0004 15 8 0

/-- STK_PLAN_ADDR: a value above 61,439 is discarded (R46). -/
def planAddrWrite (w : Word) (s : State) : State :=
  if Word.slice w 15 0 < planWords then s.wr 0x0010 (BitVec.ofNat 24 (Word.slice w 15 0)) else s

end Sys2Proof.Machine
end

