-- ==== Sys2Proof/Machine/Parapet.lean ====
section
/-! DEFINITION. The parapet (12_parapet.md): sources and classes, the backup domain's sampling, the tamper record. What a
LOCKDOWN or an ERASE does to the other blocks is in Machine/Response.lean. -/

namespace Sys2Proof.Machine

/-- The life-cycle state as LCS_STATE shows it (R274): 0 TEST, 1 BLANK, 2 OWNED, 3 RELEASED, 4 ANALYSIS, 5 END. -/
def State.lcs (s : State) : Nat := s.fld 0x070000 2 0

/-- Whether the life-cycle state lets masters read the directory, plate words, unsealed banks and NVA rows (R278): not in TEST, where only
the vendor test path does, nor in END. A read there gives 0 (log 156, DESIGN CHOICE). -/
def memoriesShown (s : State) : Bool := decide (s.lcs ≠ 0 ∧ s.lcs ≠ 5)

/-- The class set for source `src` in PPT_CLASSc (R304). -/
def pptClass (s : State) (src : Nat) : Nat := s.fld (0x080008 + src / 12) (2 * (src % 12) + 1) (2 * (src % 12))

/-- The class that acts (R286): in TEST and ANALYSIS every class above ALERT acts as ALERT. -/
def pptActing (s : State) (src : Nat) : Nat :=
  if src = 63 then 3
  else if s.lcs = 0 ∨ s.lcs = 4 then min 1 (pptClass s src) else pptClass s src

/-- Sources whose condition lasts (PPT_ACTIVE): the switches, loops, monitors and SAFE-HOLD; the others report single
events. -/
def pptLasting (src : Nat) : Bool := decide (src ≤ 46) || src == 52

/-- The state PPT_STATE shows: the highest that applies of LOCKDOWN, FAULT and ERASED, with its source (R304). -/
def pptShow (s : State) : State :=
  match s.ppt.erased, s.pwr.safeHold, s.ppt.lockdown with
  | some c, _, _ => s.wr 0x080000 (BitVec.ofNat 24 (3 * 2 ^ 21 + c))
  | none, some _, _ => s.wr 0x080000 (BitVec.ofNat 24 (2 * 2 ^ 21 + 52))
  | none, none, some c => s.wr 0x080000 (BitVec.ofNat 24 (2 ^ 21 + c))
  | none, none, none => s.wr 0x080000 0

/-- Whether the key store refuses every access and no graver job may run (R247, R276, R298, R299, R438). -/
def State.keysClosed (s : State) : Bool :=
  s.bit 0x070000 23 || s.ppt.lockdown.isSome || s.ppt.erased.isSome || s.pwr.safeHold.isSome || decide (s.pwr.phase ≠ .run)

/-- Whether the data plane carries frames (R32, R38, R247, R276, R298, R443). -/
def State.dataPlane (s : State) : Bool :=
  s.lcs == 2 && !s.bit 0x070000 23 && s.bit 0x100000 23 && !s.bit 0x100000 22 && s.pwr.safeHold.isNone && s.ppt.lockdown.isNone
    && s.ppt.erased.isNone && !s.stk.lost && decide (s.pwr.phase = .run)

/-- Whether frames leave by the ports: the data plane carries frames, and the device is not STANDBY, whose MACs transmit idle only (R341). -/
def State.transmits (s : State) : Bool := s.dataPlane && s.fld 0x0B0001 23 22 != 2

/-- Step 1 of R299: the seal key is zeroed and ERASE_PEND set. -/
def eraseStepOne (s : State) : State := { s with ppt := { s.ppt with sealKey := none } }.raise 0x080041 23

/-- The stroke time and tick count that a firing records now (R302). -/
def pptStamp (s : State) : StrokeTime × Nat :=
  if s.pwr.phase = .off then (s.ppt.stamp, s.ppt.stampTicks) else (s.stk.time, 0)

/-- The seven words of PPT_TREC for a record (R303), byte 3j in [23:16] of word j. -/
def trecBytes (t : TamperRecord) : List Nat :=
  [t.source, t.cls, t.stamp.era.toNat] ++ (List.range 6).map (fun i => t.stamp.num.toNat / 2 ^ (8 * (5 - i)) % 256)
    ++ (List.range 6).map (fun i => t.ticks / 2 ^ (8 * (5 - i)) % 256) ++ [t.flags, t.count / 256, t.count % 256, 0, 0, 0]

/-- Shows the tamper record in PPT_TREC0–6 and PPT_B_STAT.TREC_VALID. -/
def trecShow (s : State) : State :=
  match s.ppt.trec with
  | none => (s.zero 0x080080 7).put 0x080041 22 22 0
  | some t =>
    let b := trecBytes t
    (s.each (List.range 7) fun j s => s.wr (0x080080 + j)
      (BitVec.ofNat 24 (b.getD (3 * j) 0 * 2 ^ 16 + b.getD (3 * j + 1) 0 * 2 ^ 8 + b.getD (3 * j + 2) 0))).put 0x080041 22 22 1

/-- Records a firing of class ALERT or above (R303): the first one since the record was cleared is taken; a later one
sets FLAGS bit 2 and is counted, and an erase sets FLAGS bit 1. (log 69, DEDUCED) -/
def trecTake (src cls : Nat) (s : State) : State :=
  if cls = 0 then s
  else
    let (st, tk) := pptStamp s
    let off := decide (s.pwr.phase = .off)
    let t : TamperRecord := match s.ppt.trec with
      | none => ⟨src, cls, st, tk, (if off then 1 else 0) + (if cls = 3 then 2 else 0), 1⟩
      | some t => { t with
          flags := (t.flags ||| 4) ||| (if cls = 3 then 2 else 0)
          count := min (t.count + 1) 0xFFFF }
    trecShow { s with ppt := { s.ppt with trec := some t } }

/-- The latch bit, event and counter of one firing (R285). -/
def pptCountLatch (src cls : Nat) (s : State) : State :=
  let s := s.bump (0x080100 + src) 23 0
  if cls = 0 then s else (s.raise (0x080010 + src / 24) (src % 24)).raise 0x080002 0

/-- A source fires (R287): its class is applied at the next boundary. A firing while main power is absent is counted,
latched and recorded at once by the backup domain (R301). A class that erases acts at once with step 1 of R299. -/
def pptFire (src : Nat) (s : State) : State :=
  let c := pptActing s src
  let off := decide (s.pwr.phase = .off)
  let s := s.onlyIf (pptLasting src) (·.raise (0x080004 + src / 24) (src % 24))
  let s := s.onlyIf off fun s => trecTake src c (pptCountLatch src c s)
  let s := { s with ppt := { s.ppt with fired := s.ppt.fired ++ [Firing.mk src c off] } }
  s.onlyIf (c == 3) eraseStepOne

/-- The condition of a source ends. -/
def pptClear (src : Nat) (s : State) : State := s.put (0x080004 + src / 24) (src % 24) (src % 24) 0

/-- A condition begins: the source fires unless its condition is already present (R287). -/
def pptBegin (src : Nat) (s : State) : State :=
  if s.bit (0x080004 + src / 24) (src % 24) then s else pptFire src s

/-- A word-mark mismatch found by a receiver (R2, R297). -/
def markMismatch (s : State) : State := pptFire 47 s

/-- PPT_CSWn_CFG and PPT_GRDn_CFG. -/
def cswReg (n : Nat) : Nat := 0x080048 + n
def grdReg (n : Nat) : Nat := 0x080050 + n

/-- One sample of case switch `n` (R288): `level` is the sampled level, true = high. POL 0 rests low, POL 1 rests high. (log 110, DEDUCED) -/
def switchSample (n : Nat) (level : Bool) (s : State) : State :=
  if !s.bit (cswReg n) 23 then pptClear n { s with ppt := { s.ppt with swRun := Tab.set 0 s.ppt.swRun n 0 } }
  else if level == s.bit (cswReg n) 22 then
    pptClear n { s with ppt := { s.ppt with swRun := Tab.set 0 s.ppt.swRun n 0 } }
  else
    let r := Tab.get 0 s.ppt.swRun n + 1
    let s := { s with ppt := { s.ppt with swRun := Tab.set 0 s.ppt.swRun n r } }
    if s.fld (cswReg n) 3 0 + 1 ≤ r then pptBegin n s else s

/-- Whether loop `n` is armed: EN, and in sequence mode a seed loaded (R290, PPT_GRDn_CFG.SEEDED). -/
def loopArmed (s : State) (n : Nat) : Bool := s.bit (grdReg n) 23 && (!s.bit (grdReg n) 22 || s.bit (grdReg n) 21)

/-- The level that the backup domain drives on loop `n` at this tick (R289, R290). -/
def loopDriven (s : State) (n : Nat) : Bool :=
  if s.bit (grdReg n) 22 then (Tab.get 0 s.ppt.lfsr n).getLsbD 30 else s.rdN 0x080044 2 % 256 != 0

/-- One shift of a loop's register, x^31 + x^28 + 1 (R290). -/
def lfsrStep (v : BitVec 31) : BitVec 31 := (v <<< 1) ||| (if v.getLsbD 30 ^^ v.getLsbD 27 then 1 else 0)

/-- One sample of guard loop `n` (R289, R290). -/
def loopSample (n : Nat) (level : Bool) (s : State) : State :=
  if !loopArmed s n then pptClear (8 + n) { s with ppt := { s.ppt with loopRun := Tab.set 0 s.ppt.loopRun n 0 } }
  else
    let ok := level == loopDriven s n
    let r := if ok then 0 else Tab.get 0 s.ppt.loopRun n + 1
    let lf := if s.bit (grdReg n) 22 then Tab.set 0 s.ppt.lfsr n (lfsrStep (Tab.get 0 s.ppt.lfsr n)) else s.ppt.lfsr
    let s := { s with ppt := { s.ppt with loopRun := Tab.set 0 s.ppt.loopRun n r, lfsr := lf } }
    if ok then pptClear (8 + n) s
    else if s.fld (grdReg n) 3 0 + 1 ≤ r then pptBegin (8 + n) s else s

/-! ### The main domain's monitors (R292–R296) -/

/-- A monitor's firing counts: the copy or group of test kind `k` is not under test (R296). -/
def monitorWatches (s : State) (k : Nat) : Bool := s.ppt.testing != some k

/-- Nominal millivolts of supply `v` (R292). -/
def nominalMv (v : Nat) : Nat := [750, 800, 750, 1200, 1100, 1800, 3300].getD v 0

/-- Copy `c` of the window of supply `v` sees `mv` millivolts for `ns` nanoseconds: outside the limits for 1 µs, the source fires.
PWR_STAT.PGOOD shows whether the supply is in range (R446). -/
def supplyWindow (v c mv ns : Nat) (s : State) : State :=
  let out : Bool := decide (mv < s.fld (0x080020 + v) 11 0 ∨ s.fld (0x080020 + v) 23 12 < mv)
  let s := s.flag 0x100000 (8 + v) (!out)
  if out ∧ 1000 ≤ ns ∧ monitorWatches s (0x80 + 2 * v + c) then pptBegin (32 + v) s else s

/-- An excursion of supply `v` to `mv` millivolts for `ns` nanoseconds: more than 10 % of the nominal value for 2 ns fires source 39. -/
def supplyGlitch (v mv ns : Nat) (s : State) : State :=
  let n := nominalMv v
  if n < 10 * (max mv n - min mv n) ∧ 2 ≤ ns then pptBegin 39 s else s

/-- REFCLK at `hz` for `cycles` reference cycles: outside 156.25 MHz ± 1 % for 64 of them fires source 40 (R293). -/
def refclkOut (hz cycles : Nat) : Bool := decide ((100 * hz < 99 * 156250000 ∨ 101 * 156250000 < 100 * hz) ∧ 64 ≤ cycles)

/-- A light sensor above its threshold for `ns` nanoseconds (R295): an enabled one fires source 46 after 100 ns. -/
def lightSensor (i ns : Nat) (s : State) : State :=
  if s.bit 0x08002E i ∧ 100 ≤ ns ∧ monitorWatches s (0x92 + i / 8) then pptBegin 46 s else s

/-- PPT_GRDn_SEED_HI is written (R290): the seed loads, a zero seed is discarded. Sealed against writes under B_LOCK like
the loop's configuration is not stated; KEEP may seed at any time (log 14, DEDUCED). -/
def guardSeedLoad (n : Nat) (hi : Word) (s : State) : State :=
  let seed := (hi.toNat % 128) * 2 ^ 24 + (Tab.get 0 s.ppt.seedLo n).toNat
  if seed = 0 then s
  else { s with ppt := { s.ppt with lfsr := Tab.set 0 s.ppt.lfsr n (BitVec.ofNat 31 seed) } }.raise (grdReg n) 21

/-- The range of classes that R284 lets be set for a source. -/
def classRange (src : Nat) : Nat × Nat :=
  if src ≤ 24 then (0, 3) else if src = 25 then (3, 3)
  else if src ≤ 31 then (0, 0)
  else if src ≤ 38 then (0, 3)
  else match src with
    | 39 => (2, 3) | 40 => (1, 3) | 41 => (2, 3) | 42 => (2, 3) | 43 => (2, 3) | 44 => (0, 3) | 45 => (0, 3)
    | 46 => (1, 3) | 47 => (1, 3) | 48 => (1, 3) | 49 => (1, 3) | 50 => (1, 3) | 51 => (1, 3) | 52 => (1, 1) | _ => (0, 0)

/-- The lock of a source's domain (R286). -/
def classLocked (s : State) (src : Nat) : Bool := if src < 32 then s.bit 0x080040 23 else s.bit 0x080001 23

/-- A write of PPT_CLASSc from KEEP (R286): each class is taken if it is in range and, under lock, not lower. -/
def pptClassWrite (c : Nat) (w : Word) (s : State) : State :=
  s.each (List.range 12) fun j s =>
    let src := 12 * c + j
    let v := Word.slice w (2 * j + 1) (2 * j)
    let (lo, hi) := classRange src
    if src < 64 ∧ lo ≤ v ∧ v ≤ hi ∧ !(classLocked s src && decide (v < pptClass s src)) then s.put (0x080008 + c) (2 * j + 1) (2 * j) v
    else s

/-- A write of PPT_LIGHT_EN from KEEP (R295): a sensor is disabled only while PPT_CTL.LOCK is clear. -/
def lightEnWrite (w : Word) (s : State) : State :=
  s.wr 0x08002E (if s.bit 0x080001 23 then s.rd 0x08002E ||| w else w)

/-- A write of PPT_CTL from KEEP: LOCK (R8), RELEASE (R298), ERASE recorded as source 63 (R304). -/
def pptCtlWrite (w : Word) (s : State) : State :=
  let s := s.onlyIf (Word.bit w 23) (·.put 0x080001 23 23 1)
  let s := s.onlyIf (Word.bit w 22) fun s => { s with ppt := { s.ppt with release := true } }
  s.onlyIf (Word.bit w 21) (pptFire 63)

/-- TREC_CLR (R303): the record and BPOR clear. -/
def trecClear (s : State) : State := (trecShow { s with ppt := { s.ppt with trec := none } }).put 0x080041 20 20 0

/-- A write of PPT_EVT (R304): W1C events; CNT_CLR clears every PPT counter. -/
def pptEvtWrite (w : Word) (s : State) : State :=
  let s := s.wr 0x080002 (s.rd 0x080002 &&& ~~~ (w &&& 0x00001F))
  s.onlyIf (Word.bit w 23) (·.zero 0x080100 64)

/-- The sources of class LOCKDOWN or above whose condition is present (R298). -/
def lockdownHeld (s : State) : Bool :=
  (List.range 64).any fun src => s.bit (0x080004 + src / 24) (src % 24) && decide (2 ≤ pptActing s src)

/-- A RELEASE at its boundary (R298): LOCKDOWN ends, unless a source of class LOCKDOWN or above is still active or the
state is ERASED. -/
def pptRelease (s : State) : State :=
  if !s.ppt.release then s
  else
    let s := { s with ppt := { s.ppt with release := false } }
    if s.ppt.erased.isSome || lockdownHeld s then s.raise 0x080002 3
    else pptShow { s with ppt := { s.ppt with lockdown := none } }

end Sys2Proof.Machine
end

