-- ==== Sys2Proof/Machine/Host.lean ====
section
/-! DEFINITION. The host interface (14_host_interface.md): rings, commits, completions, resets of functions, and the frame
in which every command of R330 and every keystone call of R246 runs. -/

namespace Sys2Proof.Machine

/-! ### Addresses and descriptors -/

/-- The registers of global ring `g` (R319, R339). -/
def ringBase (g : Nat) : Nat := if g < 8 then 0x0A0800 + 0x10 * g else 0x800000 + 0x8000 * ((g - 8) / 2) + 0x10 * ((g - 8) % 2)

/-- The function of global ring `g`: 0 = PF, t + 1 = VF of tenant t. -/
def ringFn (g : Nat) : Nat := if g < 8 then 0 else (g - 8) / 2 + 1

/-- The domain of a function (R190). -/
def fnDom (fn : Nat) : Nat := if fn = 0 then 256 else fn - 1

/-- The number of entries of ring `g`. -/
def ringSize (s : State) (g : Nat) : Nat := 2 ^ s.fld (ringBase g) 15 12

/-- Whether ring `g` is enabled. -/
def ringOn (s : State) (g : Nat) : Bool := s.bit (ringBase g) 23

/-- The little-endian value of bytes [i, i + n) of a byte string. -/
def leAt (b : Bytes) (i : Nat) : Nat → Nat
  | 0 => 0
  | n + 1 => (b.getD i 0).toNat + 256 * leAt b (i + 1) n

/-- The HIF counters of R338. -/
def hifCount (c : Nat) (s : State) (k : Nat := 1) : State := s.count (0x0A0010 + 2 * c) k

/-! ### The command set (R329, R330) -/

/-- Status codes of R329. -/
def stOK : Nat := 0x0000
def stALREADY : Nat := 0x0001
def stFORMAT : Nat := 0x0002
def stUNKNOWN : Nat := 0x0003
def stRIGHTS : Nat := 0x0004
def stSTALE : Nat := 0x0005
def stUSAGE : Nat := 0x0006
def stQUOTA : Nat := 0x0007
def stRANGE : Nat := 0x0008
def stBUSY : Nat := 0x0009
def stTENANT : Nat := 0x000A
def stNO_SPAN : Nat := 0x000B
def stGEN : Nat := 0x000C
def stFAULT : Nat := 0x000D
def stRETRY : Nat := 0x0010
def stABORTED : Nat := 0x0011
def stCURVE : Nat := 0x0012
def stLIST : Nat := 0x0013
def stKEY : Nat := 0x0014
def stNOT_ALLOWED : Nat := 0x0015
def stCLASS : Nat := 0x0016
def stWORN : Nat := 0x0017
def stDMA : Nat := 0x0018
def stHALTED : Nat := 0x0019
def stPLAN : Nat := 0x001A
def stBUCKET : Nat := 0x001B
def stPIN : Nat := 0x001C
def stQUORUM : Nat := 0x001D

/-- The opcodes of R330. -/
def opcodes : List Nat :=
  [0x00, 0x01, 0x02, 0x10, 0x11, 0x12, 0x13, 0x20, 0x21, 0x22, 0x23, 0x24, 0x25, 0x30, 0x40, 0x41, 0x42, 0x43, 0x44, 0x45,
   0x46, 0x47, 0x48, 0x50, 0x51, 0x60, 0x70, 0x71, 0x72, 0x73, 0x74, 0x80, 0x81, 0x82, 0x83, 0x90, 0x91, 0x92, 0xA0, 0xA1]

/-- The OWN-only opcodes of R330. -/
def ownOnly (op : Nat) : Bool := op == 0x23 || op == 0x24 || decide (0x70 ≤ op ∧ op ≤ 0xA1)

/-- The commands that need the key store or a graver (R298, R327; log 15, DEDUCED). -/
def needsKeys (op : Nat) : Bool :=
  op == 0x20 || op == 0x30 || decide (0x40 ≤ op ∧ op ≤ 0x48) || op == 0x70 || op == 0x74 || op == 0x90 || op == 0x91
    || op == 0xA0 || op == 0xA1

/-- The commands that a SUSPENDED tenant may give (R326). -/
def readOnlyOp (op : Nat) : Bool := op == 0x00 || op == 0x01 || op == 0x02 || op == 0x48 || op == 0x25 || op == 0x60

/-- The commands that write setup (R341): those whose effect R353 mirrors, and the switch commands. (log 159, DEDUCED) -/
def setupOp (op : Nat) : Bool :=
  decide (0x10 ≤ op ∧ op ≤ 0x24) || op == 0x40 || op == 0x41 || op == 0x43 || decide (0x45 ≤ op ∧ op ≤ 0x47) || op == 0x50 || op == 0x51
    || decide (0x70 ≤ op ∧ op ≤ 0x83)

/-- The keystone calls without a host opcode that need the key store or a graver (R246, R298): the graver calls, the key
fields of a plate, LEDGER_SIGN. -/
def callNeedsKeys (num : Nat) : Bool := num == 80 || num == 81 || num == 82 || num == 88 || num == 112

/-- Whether the state of the device completes a command with HALTED (R327). -/
def haltedFor (s : State) (op : Nat) : Bool :=
  s.pwr.safeHold.isSome || s.bit 0x070000 23 || ((s.ppt.lockdown.isSome || s.ppt.erased.isSome) && needsKeys op)

/-- The descriptor bytes that a command's arguments name (R331–R333, R408). -/
def argBytes (op : Nat) (b : Bytes) : List Nat :=
  match op with
  | 0x01 => List.range' 44 4
  | 0x10 => List.range' 44 20
  | 0x11 | 0x21 | 0x22 | 0x23 | 0x24 | 0x25 | 0x46 | 0x47 | 0x48 | 0xA0 => List.range' 44 3
  | 0x12 => List.range' 44 3 ++ List.range' 48 4
  | 0x13 | 0x44 => List.range' 44 4
  | 0x20 => List.range' 44 7 ++ List.range' 52 3 ++ List.range' 56 4
  | 0x30 => List.range' 44 16
  | 0x40 => [44, 45, 46, 48, 49]
  | 0x41 => List.range' 44 9
  | 0x42 => [44, 45, 46, 48, 49, 50, 51]
  | 0x43 => List.range' 44 6 ++ List.range' 52 12
  | 0x45 => List.range' 44 5
  | 0x50 => List.range' 44 20
  | 0x51 | 0x70 | 0x71 | 0x72 | 0x73 | 0x74 | 0x90 | 0x91 | 0xA1 => [44]
  | 0x60 => 44 :: (match leAt b 44 1 with | 1 | 3 => List.range' 48 4 | 2 => List.range' 48 8 | _ => [])
  | 0x81 => List.range' 44 7 ++ List.range' 52 6
  | 0x92 => [44, 45]
  | _ => []

/-- The argument fields that code a list of values, and the lower limits of input lengths, hold what the command assigns (R324,
R331–R333, R408). -/
def argsCoded (op : Nat) (b : Bytes) : Bool :=
  let v := fun i => leAt b i 1
  let len := leAt b 24 4
  match op with
  | 0x10 => decide (v 44 < 8) && [0, 30, 50].contains (v 45) && decide (v 51 < 16) && decide (len ≤ 24)
  | 0x20 => decide (v 47 < 64) && decide (len ≤ 24)
  | 0x30 => decide (v 45 < 4)
  | 0x40 => decide (v 46 < 4)
  | 0x41 => decide (v 47 ≤ 1) && decide (v 50 < 4)
  | 0x42 => decide (v 51 ≤ 1)
  | 0x43 => decide (v 47 ≤ 1) && decide (v 49 < 4)
  | 0x44 => decide (v 47 ≤ 1) && decide (len ≤ 9216)
  | 0x50 => v 51 == 0 && decide (v 52 ≤ 1)
  | 0x60 => decide (v 44 ≤ 3)
  | 0x70 | 0x71 => decide (len ≤ 28)
  | 0x80 => decide (len ≤ 184320)
  | 0x81 => decide (v 44 < 2) && decide (v 45 < 16) && decide (v 48 < 8) && decide (v 50 < 3)
  | 0x90 => decide (len ≤ 64)
  | 0x92 => decide (v 44 ≤ 5)
  | 0xA1 => decide (v 44 ≤ 1)
  | _ => true

/-- Whether a descriptor is well formed (R324): reserved bytes and flags are 0, the lengths keep their limits, coded arguments are assigned,
and an output of fixed length has its room. -/
def descriptorOk (b : Bytes) : Bool :=
  let op := leAt b 0 2
  decide (leAt b 2 1 < 8) && leAt b 3 1 == 0 && leAt b 28 4 == 0 && leAt b 2 1 / 2 % 4 != 3
    && (leAt b 2 1 / 2 % 2 == 0 || leAt b 15 1 == 0)
    && decide (leAt b 24 4 ≤ 262144) && decide (leAt b 40 4 ≤ 262144)
    && ((List.range' 44 20).all fun i => (argBytes op b).contains i || leAt b i 1 == 0)
    && argsCoded op b && (op != 0x25 || decide (192 ≤ leAt b 40 4))

/-- KEY_Tt_STATE of tenant `t`: 0 ABSENT, 1 ACTIVE, 2 SUSPENDED, 3 ERASING. -/
def tenantState (s : State) (t : Nat) : Nat := s.fld (0x051000 + 16 * t) 23 22

/-! ### Completions -/

/-- The committed command that a caller names. -/
def State.flight (s : State) (g idx : Nat) : Option Flight := s.hif.flights.find? fun f => f.g == g && f.idx == idx

/-- RING_STAT.IN_FLIGHT follows the commands of the ring whose completion is not written. -/
def ringShow (g : Nat) (s : State) : State :=
  s.put (ringBase g + 1) 12 0 ((s.hif.flights.filter (·.g == g)).length + (s.hif.due.filter fun (_, h, _, _) => h == g).length)

/-- The host's command ends: its completion is due from the boundary of tick `dueAt` on (R323). (log 73, DESIGN CHOICE) -/
def completeHost (f : Flight) (status r0 r1 : Nat) (out : Bytes) (dueAt : Nat) (s : State) : State :=
  { s with hif := { s.hif with
      flights := s.hif.flights.filter fun x => !(x.g == f.g && x.idx == f.idx)
      due := s.hif.due ++ [(f.fn, f.g, dueAt, ⟨f.tag, status, f.epoch, f.commit, r0, r1, out, false⟩)] } }

/-- The per-core window of core `n`. -/
def coreReg (n o : Nat) : Nat := 0x200000 + 0x1000 * n + o

/-- Bytes packed three to a word, first byte in [23:16], the last word filled with 0. -/
def packWords : Bytes → List Word
  | [] => []
  | [a] => [BitVec.ofNat 24 (a.toNat * 2 ^ 16)]
  | [a, b] => [BitVec.ofNat 24 (a.toNat * 2 ^ 16 + b.toNat * 2 ^ 8)]
  | a :: b :: c :: t => BitVec.ofNat 24 (a.toNat * 2 ^ 16 + b.toNat * 2 ^ 8 + c.toNat) :: packWords t

/-- The three bytes of a word, first byte in [23:16]. -/
def wordBytes (w : Word) : Bytes :=
  [BitVec.ofNat 8 (w.toNat / 2 ^ 16), BitVec.ofNat 8 (w.toNat / 2 ^ 8), BitVec.ofNat 8 w.toNat]

/-- Core `n`'s state beside its registers. -/
def State.core (s : State) (n : Nat) : CoreState := Tab.get (CoreState.init n) s.cores n

/-- Replaces core `n`'s state. -/
def State.setCore (s : State) (n : Nat) (c : CoreState) : State := { s with cores := Tab.set (CoreState.init n) s.cores n c }

/-- The first address of a core's shadow region (R206), and the end of its data space. -/
def shadowBase (n : Nat) : Nat := if n = 0 then 0x01F800 else 0x007800
def shadowTop (n : Nat) : Nat := if n = 0 then 0x020000 else 0x008000

/-- The keystone answers a call of pier `n` (R243): the result words are written to KRES0–7, and the output buffer in
the pier's data SRAM. A buffer that leaves the data space or touches the shadow region is refused with RANGE, and an
output longer than its capacity with FORMAT. -/
def answerCall (n status r0 r1 : Nat) (out : Bytes) (s : State) : State :=
  let a := (s.rd (coreReg n 0x4B)).toNat
  let ws := packWords out
  let s := (s.setCore n { s.core n with answered := true }).zero (coreReg n 0x50) 8
  if ws ≠ [] ∧ shadowBase n < a + ws.length then s.wr (coreReg n 0x50) (BitVec.ofNat 24 stRANGE)
  else if (s.rd (coreReg n 0x4C)).toNat < ws.length then s.wr (coreReg n 0x50) (BitVec.ofNat 24 stFORMAT)
  else
    let c := s.core n
    let data := (ws.zipIdx).foldl (fun d (w, i) => Tab.set 0 d (a + i) w) c.data
    let s := s.setCore n { c with data := data }
    (((s.wr (coreReg n 0x50) (BitVec.ofNat 24 status)).wr (coreReg n 0x51) (BitVec.ofNat 24 ws.length)).wr (coreReg n 0x53)
      (BitVec.ofNat 24 r0)).wr (coreReg n 0x54) (BitVec.ofNat 24 r1)

/-- The call is outstanding (R241): CORE_n_KCALL.PEND with call number `num`. -/
def callPending (s : State) (n num : Nat) : Bool := s.bit (coreReg n 0x40) 23 && s.fld (coreReg n 0x40) 6 0 == num

/-- A buffer of a call of pier `n` lies in its data space and outside the shadow region (R243). -/
def bufferFits (n a len : Nat) : Bool := len == 0 || decide (a + len ≤ shadowBase n)

/-- The input and output buffers of the outstanding call of pier `n` (R243). -/
def callBuffersFit (s : State) (n : Nat) : Bool :=
  let arg := fun k => (s.rd (coreReg n (0x48 + k))).toNat
  bufferFits n (arg 1) (arg 2) && bufferFits n (arg 3) (arg 4)

/-- Ends a caller's command with a status, its results and its output; a host command's completion is due from the tick that `due` gives
(R323). Core 0 stands for the keystone's own requests, which nobody awaits. -/
def finishDue (due : Flight → Nat) (c : Caller) (status : Nat) (s : State) (r0 r1 : Nat) (out : Bytes) : State :=
  match c with
  | .host _ g idx =>
    match s.flight g idx with
    | none => s
    | some f =>
      -- R324: an output that needs more room than OUT_CAP is refused with FORMAT.
      if f.outCap < out.length then completeHost f stFORMAT 0 0 [] (due f) s
      else completeHost f status r0 r1 out (due f) s
  | .pier n _ => if n = 0 ∨ !s.bit (coreReg n 0x40) 23 then s else answerCall n status r0 r1 out s

/-- Ends a command within a stroke: its completion is due at the next boundary, and no earlier than `dur` strokes after its commit (R15,
R323). -/
def finish (c : Caller) (status : Nat) (s : State) (r0 : Nat := 0) (r1 : Nat := 0) (out : Bytes := []) (dur : Nat := 1) :
    State :=
  finishDue (fun f => max (s.tick + 1) (f.began + dur)) c status s r0 r1 out

/-- Ends a command at a boundary: its last stroke has ended (R15). -/
def finishEnd (c : Caller) (status : Nat) (s : State) (r0 : Nat := 0) (r1 : Nat := 0) (out : Bytes := []) : State :=
  finishDue (fun _ => s.tick) c status s r0 r1 out

/-- The domain of a caller (R190, R242). -/
def callerDom : Caller → Nat
  | .host fn _ _ => fnDom fn
  | .pier _ d => d

/-- The domain that R242 attaches to the outstanding call of pier `n`: of the function that committed the command the
context tag names, or the standing domain CORE_n_KDOM; `none` where R242 refuses with RIGHTS. -/
def callDomain (s : State) (n : Nat) : Option Nat :=
  let tag := (s.rd (coreReg n 0x48)).toNat
  if tag = 0xFFFFFF then (let d := s.fld (coreReg n 6) 8 0; if d ≤ 256 then some d else none)
  else
    match s.flight (tag / 2 ^ 12) (tag % 2 ^ 12) with
    | some f => if s.fld (0x0A0400 + f.g) 6 0 = n then some (fnDom f.fn) else none
    | none => none

/-- The key handles that a descriptor names (R331, R333); 0 and the pseudo-handle of the domain root name no object. -/
def descHandles (op : Nat) (b : Bytes) : List Nat :=
  let at_ : List Nat := match op with
    | 0x20 => [52] | 0x30 => [48, 51, 54, 57] | 0x42 => [44, 48]
    | 0x41 | 0x43 | 0x44 | 0x45 | 0x46 | 0x47 | 0x48 => [44] | _ => []
  (at_.map fun o => leAt b o 3).filter fun h => h != 0 && h != 0xFFFFFF

/-- Whether a flight must wait for commands committed before it (R187, R322): those of its ring start in ring order, and with FENCE they are
complete; those that name one of its handles have started. CMD_ABORT is evaluated whatever has not started (R328). -/
def fenced (s : State) (f : Flight) : Bool :=
  f.opcode != 0x01 && (s.hif.flights.takeWhile fun x => !(x.g == f.g && x.idx == f.idx)).any fun x =>
    (x.g == f.g && (f.fence || !x.started)) || (!x.started && x.handles.any (f.handles.contains ·))

/-- Whether a caller's command runs already: a key operation, or a graver job. -/
def commandRuns (s : State) (c : Caller) : Bool :=
  (s.key.ops.any fun o => o.caller == c && o.withdrawn == none) ||
    (match c with
     | .host _ g idx => (match s.flight g idx with | some f => f.graver.isSome | none => false)
     | .pier .. => false)

/-- Marks a flight as started. -/
def markStarted (f : Flight) (s : State) : State :=
  { s with hif := { s.hif with flights := s.hif.flights.map fun x => if x.g = f.g ∧ x.idx = f.idx then { x with started := true } else x } }

/-- The frame of every command: opcode `op` of R330 from a host ring, or call number `num` of R246 from a pier. A host
command runs where its descriptor is committed and not fenced off; the checks of R326 and R327 come before its own. A
pier's call runs once while it is outstanding, under the domain of R242. While the stroke is lost no command on secret material
starts (R38); a STANDBY device answers what writes setup with BUSY (R341). (log 111, DESIGN CHOICE) -/
def command (op num : Nat) (c : Caller) (body : State → State) (s : State) : State :=
  match c with
  | .host fn g idx =>
    match s.flight g idx with
    | none => s
    | some f =>
      if f.opcode ≠ op ∨ f.fn ≠ fn ∨ fenced s f ∨ commandRuns s c then s
      else if haltedFor s op then finish c stHALTED s
      else if ownOnly op && fn != 0 then finish c stRIGHTS s
      else if fn != 0 && (tenantState s (fn - 1) == 0 || tenantState s (fn - 1) == 3
          || (tenantState s (fn - 1) == 2 && !readOnlyOp op)) then finish c stTENANT s
      else if s.fld 0x0B0001 23 22 == 2 && setupOp op then finish c stBUSY s
      else if s.stk.lost && needsKeys op then s
      else body (markStarted f s)
  | .pier n d =>
    if !callPending s n num || (s.core n).answered then s
    else if callDomain s n ≠ some d then finish c stRIGHTS (s.count 0x050010)
    else if !callBuffersFit s n then finish c stRANGE s
    else if ownOnly op && d != 256 then finish c stRIGHTS s
    else if s.keysClosed && (needsKeys op || callNeedsKeys num) then finish c stFAULT s
    else if s.fld 0x0B0001 23 22 == 2 && setupOp op then finish c stBUSY s
    else if s.stk.lost && (needsKeys op || callNeedsKeys num) then s
    else body s

/-! ### Event vectors (R337) -/

/-- A message of a function's MSI-X vector: none leaves under FLR (R334). -/
def sendVector (fn vec : Nat) (s : State) : State :=
  if s.hif.flr.contains fn then s else { s with hif := { s.hif with messages := s.hif.messages ++ [(fn, vec)] } }

/-- The event vector 0 of a function fires (R337). -/
def eventVector (fn : Nat) (s : State) : State := sendVector fn 0 s

/-- HIF_EVT bit `k` is raised; where HIF_EVT_EN has it, the PF's event vector fires (R337). -/
def hifEvent (k : Nat) (s : State) : State := (s.raise 0x0A0001 k).onlyIf (s.bit 0x0A0002 k) (eventVector 0)

/-! ### Rings -/

/-- The room of ring `g`: entries between CQ_HEAD and a tail (R320). -/
def ringSpan (s : State) (g tail : Nat) : Nat :=
  (tail + ringSize s g - s.fld (ringBase g + 6) 11 0) % ringSize s g

/-- A write of CQ_TAIL (R320): the doorbell, or BAD_DOORBELL. A tail below 2^SIZE never makes the ring hold more than
2^SIZE − 1 entries. -/
def doorbellWrite (g : Nat) (w : Word) (s : State) : State :=
  if ringSize s g ≤ Word.slice w 11 0 then hifEvent 0 (hifCount 4 s)
  else s.wr (ringBase g + 5) (BitVec.ofNat 24 (Word.slice w 11 0))

/-- Drops the fetched descriptors of ring `g`, and counts what R334 discards. -/
def dropFetched (g : Nat) (s : State) : State :=
  { s with hif := { s.hif with fetched := s.hif.fetched.filter (·.g != g) } }

/-- A write of RING_CTL (R319): EN may always be written; VECTOR, SIZE and COAL keep to their rules. (log 157, DESIGN CHOICE) -/
def ringCtlWrite (g : Nat) (w : Word) (s : State) : State :=
  let a := ringBase g
  let on := ringOn s g
  let s := s.put a 11 0 (Word.slice w 11 0)
  let s := if on then s else
    (s.put a 21 16 (Word.slice w 21 16)).onlyIf (decide (4 ≤ Word.slice w 15 12 ∧ Word.slice w 15 12 ≤ 12)) (·.put a 15 12 (Word.slice w 15 12))
  if Word.bit w 23 && !on then
    -- R319: the four indices become 0 and the phase 1.
    ringShow g (((((s.put a 23 23 1).wr (a + 5) 0).wr (a + 6) 0).wr (a + 0xA) 0).wr (a + 0xB) 0 |>.put (a + 1) 22 22 1)
  else if !Word.bit w 23 && on then
    dropFetched g ((s.put a 23 23 0).put (a + 1) 23 23 0)
  else s

/-- A write of a base register of ring `g`, discarded while EN = 1 (R319). -/
def ringBaseWrite (g o : Nat) (w : Word) (s : State) : State :=
  if ringOn s g then s else s.wr (ringBase g + o) (if o = 4 ∨ o = 9 then BitVec.ofNat 24 (Word.slice w 15 0) else w)

/-- A descriptor arrives from ring `g` (R320): CQ_HEAD advances. A failed DMA read, of the descriptor or of the command's input buffer, is
counted and fails its command (R318). -/
def fetchDescriptor (g : Nat) (b : Bytes) (dmaOk : Bool) (s : State) : State :=
  let a := ringBase g
  let head := s.fld (a + 6) 11 0
  if ringOn s g && !s.bit (a + 1) 23 && head != s.fld (a + 5) 11 0 then
    let s := s.onlyIf (!dmaOk) fun s => hifEvent 1 (hifCount 8 s)
    let s := s.wr (a + 6) (BitVec.ofNat 24 ((head + 1) % ringSize s g))
    { s with hif := { s.hif with fetched := s.hif.fetched ++ [⟨g, head, b, s.tick, dmaOk⟩] } }
  else s

/-- Whether ring `g` has a sure place for one more completion (R321). -/
def ringRoom (s : State) (g : Nat) : Bool :=
  let a := ringBase g
  let n := ringSize s g
  decide ((s.hif.flights.filter (·.g == g)).length + (s.hif.due.filter fun (_, h, _, _) => h == g).length
    + (s.fld (a + 0xB) 11 0 + n - s.fld (a + 0xA) 11 0) % n < n - 1)

/-- One descriptor is committed (R321, R322): it becomes a started-or-waiting command with its epoch and commit stroke.
What the device can refuse at once it completes at the next boundary: DMA (R318), HALTED (R327), UNKNOWN, FORMAT. -/
def commitOne (d : Descriptor) (s : State) : State :=
  let fn := ringFn d.g
  let op := leAt d.bytes 0 2
  let f : Flight := ⟨fn, d.g, d.idx, op, BitVec.ofNat 32 (leAt d.bytes 4 4), leAt d.bytes 2 1 % 2 == 1,
    s.fld (0x0A0100 + fn) 15 0, s.stk.time, s.tick, leAt d.bytes 40 4, false, none, descHandles op d.bytes⟩
  let s := { s with
    hif := { s.hif with flights := s.hif.flights ++ [f], fetched := s.hif.fetched.filter (· != d) }
    stk := { s.stk with quiet := none, endAppliance := s.stk.endAppliance || s.stk.appliance } }
  let s := (hifCount 0 s).pmcEvent { code := 0x20, src := some 0xA0, dom := some (fnDom fn) }
  let s := if !d.dmaOk then completeHost f stDMA 0 0 [] (s.tick + 1) s
    else if haltedFor s op then completeHost f stHALTED 0 0 [] (s.tick + 1) s
    else if !(opcodes.contains op) then completeHost f stUNKNOWN 0 0 [] (s.tick + 1) s
    else if !descriptorOk d.bytes then completeHost f stFORMAT 0 0 [] (s.tick + 1) s
    else s
  ringShow d.g s

/-- The commits of ring `g` at this boundary (R321): up to 8 descriptors that arrived in an earlier stroke, in order. -/
def commitRing (g : Nat) (s : State) : State :=
  s.each (List.range 8) fun _ s =>
    match s.hif.fetched.find? (·.g == g) with
    | some d => if d.arrived < s.tick ∧ ringRoom s g ∧ !s.bit (ringBase g + 1) 23 ∧ s.fld (0x0A0400 + g) 6 0 ≠ 0 then commitOne d s else s
    | none => s

/-- Commits at a boundary: rings in ascending g (R321). -/
def commitAll (s : State) : State := s.each (List.range 520) commitRing

/-- The lost log takes an entry (R335): at most 64, a further one only counts. -/
def logLost (fn : Nat) (c : Completion) (s : State) : State :=
  let s := hifCount 2 s
  let l := Tab.get [] s.hif.lost fn
  if l.length < 64 then { s with hif := { s.hif with lost := Tab.set [] s.hif.lost fn (l ++ [c]) } } else s

/-- Whether a completion belongs to an epoch that a reset has ended, or its function is under FLR (R334). -/
def suppressed (s : State) (fn : Nat) (c : Completion) : Bool := c.epoch != s.fld (0x0A0100 + fn) 15 0 || s.hif.flr.contains fn

/-- The next completion of ring `g` is written (R323): the output buffer, the entry at CP_TAIL with the phase, CP_TAIL.
`ok = false`: the write fails and the ring stops (R318). A completion whose function was reset goes to the lost log
(R334); on a ring that is not enabled it is not written (R319). -/
def writeCompletion (g : Nat) (ok : Bool) (s : State) : State :=
  match s.hif.due.find? fun (_, h, t, _) => h == g && decide (t ≤ s.tick) with
  | none => s
  | some (fn, h, t, c) =>
    let s := { s with hif := { s.hif with due := s.hif.due.erase (fn, h, t, c) } }
    let s := ringShow g s
    let a := ringBase g
    if suppressed s fn c then logLost fn c s
    else if !ringOn s g then s
    else if !ok then eventVector fn (hifEvent 1 (s.put (a + 1) 23 23 1))
    else
      let tail := s.fld (a + 0xB) 11 0
      let ph := s.bit (a + 1) 22
      let next := (tail + 1) % ringSize s g
      let s := { s with hif := { s.hif with
        written := Tab.set none s.hif.written (4096 * g + tail) (some { c with phase := ph })
        unsignalled := if s.hif.unsignalled.contains g then s.hif.unsignalled else s.hif.unsignalled ++ [g] } }
      let s := (s.wr (a + 0xB) (BitVec.ofNat 24 next)).onlyIf (next == 0) (·.flag (a + 1) 22 (!ph))
      ((hifCount 1 s).pmcEvent { code := 0x21, src := some 0xA0, dom := some (fnDom fn) }).pmcLatency 3
        (1000 * lead c.commit.num.toNat s.stk.time.num.toNat) (some (fnDom fn)) none

/-- Ring `g` sends its MSI-X message where one is due (R337), COAL strokes after its last one. A masked vector holds the message back and
sets its pending bit; unmasked, a pending one leaves. -/
def sendMessage (g : Nat) (masked : Bool) (s : State) : State :=
  let fn := ringFn g
  let vec := s.fld (ringBase g) 21 16
  let waits := match Tab.get 0 s.hif.lastMessage g with | 0 => false | l + 1 => decide (s.tick < l + s.fld (ringBase g) 11 0)
  if s.hif.flr.contains fn then s
  else if !masked ∧ (fn, vec) ∈ s.hif.pba then
    sendVector fn vec { s with hif := { s.hif with pba := s.hif.pba.erase (fn, vec) } }
  else if s.hif.unsignalled.contains g ∧ !waits then
    let s := { s with hif := { s.hif with
      unsignalled := s.hif.unsignalled.filter (· != g)
      lastMessage := Tab.set 0 s.hif.lastMessage g (s.tick + 1) } }
    if !masked then sendVector fn vec s
    else if (fn, vec) ∈ s.hif.pba then s
    else { s with hif := { s.hif with pba := s.hif.pba ++ [(fn, vec)] } }
  else s

/-! ### Resets of functions (R334) -/

/-- The rings of a function. -/
def fnRings (fn : Nat) : List Nat := if fn = 0 then List.range 8 else [8 + 2 * (fn - 1), 9 + 2 * (fn - 1)]

/-- The functions that an FLR of `fn` resets: of the PF, every VF as well. -/
def flrScope (fn : Nat) : List Nat := if fn = 0 then List.range 257 else [fn]

/-- An FLR is received (R334): from now on no memory write leaves for the function. -/
def flrReceive (fn : Nat) (s : State) : State :=
  let s := hifEvent 2 (s.wr 0x0A0003 (BitVec.ofNat 24 fn))
  { s with hif := { s.hif with flr := s.hif.flr ++ (flrScope fn).filter fun f => !(s.hif.flr.contains f) } }

/-- The FLR of one function at its boundary (R334): the epoch increments, the rings get EN = 0, what was fetched and not
committed or rung and not fetched is discarded and counted. -/
def flrTakeOne (fn : Nat) (s : State) : State :=
  if !(s.hif.flr.contains fn) then s
  else
    let s := s.each (fnRings fn) fun g s =>
      let n := (s.hif.fetched.filter (·.g == g)).length + (if ringOn s g then ringSpan s g (s.fld (ringBase g + 5) 11 0) else 0)
      let s := dropFetched g (hifCount 3 s n)
      (s.put (ringBase g) 23 23 0).put (ringBase g + 1) 23 23 0
    let s := s.wr (0x0A0100 + fn) (BitVec.ofNat 24 ((s.fld (0x0A0100 + fn) 15 0 + 1) % 2 ^ 16))
    { s with hif := { s.hif with flr := s.hif.flr.filter (· != fn) } }

/-- A write of HIF_EVT (R338). -/
def hifEvtWrite (w : Word) (s : State) : State :=
  let s := s.wr 0x0A0001 (s.rd 0x0A0001 &&& ~~~ (w &&& 0x00001F))
  s.onlyIf (Word.bit w 23) (·.zero 0x0A0010 18)

end Sys2Proof.Machine
end

