-- ==== Sys2Proof/Machine/Key.lean ====
section
/-! DEFINITION. The key store (07_keys_and_tenants.md): key objects and handles, slots and quotas, derivation, wrapped
formats, quorums. The shared operations; the commands call them. -/

namespace Sys2Proof.Machine

/-! ### Slots and handles -/

/-- Slot `i` as it reads when no object has held it since the directory was drawn (R180, R182). -/
def freshSlot (s : State) (i : Nat) : Slot :=
  match s.key.genDraw with
  | some k => { Slot.empty with gen := Config.slotGen k i }
  | none => Slot.empty

/-- Slot `i`. -/
def State.slot (s : State) (i : Nat) : Slot := Tab.get (freshSlot s i) s.key.slots i

/-- Writes slot `i`. -/
def State.setSlot (s : State) (i : Nat) (v : Slot) : State :=
  { s with key := { s.key with slots := Tab.set (freshSlot s i) s.key.slots i v } }

/-- KEY counters of R200: 0 RIGHTS, 1 USAGE, 2 STALE, 3 UNWRAP_FAIL, 4 QUOTA, 5 DERIVE, 6 DESTROY, 7 QUORUM_FAIL. -/
def keyCount (c : Nat) (s : State) : State := s.count (0x050010 + 2 * c)

/-- What a handle check finds (R180): OK with the head slot, RIGHTS, or STALE. After a KEY_DESTROY of the same stroke it is STALE (R187). -/
def handleCheck (s : State) (dom : Nat) (h : Nat) : Nat × Nat :=
  let i := h % 2 ^ 16
  let v := s.slot i
  if 1 ≤ i ∧ i ≤ 0xFBFF ∧ v.head = true ∧ v.state = .inUse ∧ v.gen.toNat = h / 2 ^ 16 ∧ i ∉ s.key.doomed then
    if v.dom = dom then (stOK, i) else (stRIGHTS, i)
  else (stSTALE, i)

/-- Counts a refused handle or use, and raises KEY_EVT.RIGHTS for a handle of another domain. -/
def keyRefuse (st : Nat) (s : State) : State :=
  if st = stRIGHTS then (keyCount 0 s).raise 0x050002 1
  else if st = stUSAGE then keyCount 1 s
  else if st = stSTALE then keyCount 2 s
  else if st = stQUOTA then keyCount 4 s
  else s

/-- The slots of the object with head slot `i`, in order. -/
def slotChain (s : State) : Nat → Nat → List Nat
  | 0, _ => []
  | fuel + 1, i => if i = 0 then [] else i :: slotChain s fuel (s.slot i).next

/-- The slots of an object. -/
def objectSlots (s : State) (i : Nat) : List Nat := slotChain s (s.slot i).slots i

/-- The words of an object, 24 to a slot. -/
def objectWords (s : State) (i : Nat) : List Word := (objectSlots s i).flatMap fun j => (s.slot j).words

/-! ### Types and sizes (R179) -/

/-- One component of an object: its length in bytes, and whether it is an integer held least significant word first
(R5) or a byte string held 3 bytes per word. -/
structure Component where
  bytes : Nat
  int : Bool
deriving DecidableEq, Repr

/-- Bytes of an integer of `b` bits. -/
def bitBytes (b : Nat) : Nat := (b + 7) / 8

/-- The components of TYPE `ty` at size `n` (R179); `none` for a reserved TYPE or a size it does not have. -/
def components (ty n : Nat) : Option (List Component) :=
  match ty with
  | 0x01 => some [⟨16, true⟩]
  | 0x02 => some [⟨32, true⟩]
  | 0x03 => some [⟨32, true⟩, ⟨12, true⟩]
  | 0x04 => some [⟨48, true⟩]
  | 0x10 => if n = 2048 ∨ n = 3072 ∨ n = 4096 ∨ n = 8192 ∨ n = 16384 then
      some ((List.replicate 5 ⟨bitBytes (n / 2), true⟩) ++ [⟨bitBytes n, true⟩, ⟨6, true⟩]) else none
  | 0x11 => if n = 2048 ∨ n = 3072 ∨ n = 4096 ∨ n = 8192 ∨ n = 16384 then some [⟨bitBytes n, true⟩, ⟨6, true⟩] else none
  | 0x12 => if n = 256 ∨ n = 384 ∨ n = 521 then some (List.replicate 3 ⟨bitBytes n, true⟩) else none
  | 0x13 => if n = 256 ∨ n = 384 ∨ n = 521 then some (List.replicate 2 ⟨bitBytes n, true⟩) else none
  | 0x14 => if n = 255 then some [⟨32, true⟩, ⟨32, true⟩] else if n = 448 then some [⟨56, true⟩, ⟨56, true⟩] else none
  | 0x15 => if n = 255 then some [⟨32, true⟩, ⟨32, true⟩] else none
  | 0x16 => if n = 1024 ∨ n = 1536 ∨ n = 2048 ∨ n = 4096 then some [⟨bitBytes n, true⟩] else none
  | 0x20 => if n = 768 then some [⟨2400, false⟩] else if n = 1024 then some [⟨3168, false⟩] else none
  | 0x30 => if n = 65 then some [⟨4032, false⟩] else if n = 87 then some [⟨4896, false⟩] else none
  | 0x31 => if n = 65 then some [⟨1952, false⟩] else if n = 87 then some [⟨2592, false⟩] else none
  | 0x40 => some [⟨72, true⟩]
  | _ => none

/-- Words that a component takes. -/
def Component.words (c : Component) : Nat := (c.bytes + 2) / 3

/-- Words of an object (R179). -/
def objectLen (ty n : Nat) : Nat := (((components ty n).getD []).map Component.words).sum

/-- Slots of an object (R179). -/
def objectSlotCount (ty n : Nat) : Nat := (objectLen ty n + 23) / 24

/-- The size code of KEY_DIR_2 (R200). -/
def sizeCode (ty n : Nat) : Nat :=
  if ty = 0x10 ∨ ty = 0x11 then n / 1024
  else if ty = 0x16 then n / 512
  else if ty = 0x12 ∨ ty = 0x13 then (if n = 256 then 1 else if n = 384 then 2 else 3)
  else if ty = 0x14 then (if n = 255 then 1 else 2)
  else if ty = 0x15 then 1
  else if ty = 0x20 then (if n = 768 then 1 else 2)
  else if ty = 0x30 ∨ ty = 0x31 then (if n = 65 then 1 else 2)
  else 0

/-- The size of R163 that a size code stands for. -/
def sizeOf (ty code : Nat) : Nat :=
  if ty = 0x10 ∨ ty = 0x11 then 1024 * code
  else if ty = 0x16 then 512 * code
  else if ty = 0x12 ∨ ty = 0x13 then (if code = 1 then 256 else if code = 2 then 384 else 521)
  else if ty = 0x14 then (if code = 1 then 255 else 448)
  else if ty = 0x15 then 255
  else if ty = 0x20 then (if code = 1 then 768 else 1024)
  else if ty = 0x30 ∨ ty = 0x31 then (if code = 1 then 65 else 87)
  else 0

/-- The big-endian value of a byte string. -/
def beNat (b : Bytes) : Nat := b.foldl (fun v x => 256 * v + x.toNat) 0

/-- A number as `n` bytes, most significant first. -/
def beBytes (v n : Nat) : Bytes := (List.range n).map fun i => BitVec.ofNat 8 (v / 256 ^ (n - 1 - i))

/-- A number as `n` words, least significant first (R5). -/
def leWords (v n : Nat) : List Word := (List.range n).map fun i => BitVec.ofNat 24 (v / 2 ^ (24 * i))

/-- The number that words hold, least significant first. -/
def wordsNat : List Word → Nat
  | [] => 0
  | w :: t => w.toNat + 2 ^ 24 * wordsNat t

/-- Key material as the bytes of its components, each most significant byte first (R188). -/
def materialBytes : List Component → List Word → Bytes
  | [], _ => []
  | c :: cs, ws =>
    (if c.int then beBytes (wordsNat (ws.take c.words)) c.bytes else ((ws.take c.words).flatMap wordBytes).take c.bytes)
      ++ materialBytes cs (ws.drop c.words)

/-- The words of the components that material bytes hold. -/
def materialWords : List Component → Bytes → List Word
  | [], _ => []
  | c :: cs, b =>
    (if c.int then leWords (beNat (b.take c.bytes)) c.words else packWords (b.take c.bytes)) ++ materialWords cs (b.drop c.bytes)

/-! ### Quotas (R184, R192, R193) -/

/-- KEY_STAT.FREE: the free slots in 0x0001 to 0xFBFF. -/
def freeSlots (s : State) : Nat := s.fld 0x050001 15 0

/-- What must stay free to honour every ACTIVE or SUSPENDED tenant's unused quota (R193), for the quota whose limit and
use registers stand at offsets `l` and `u` of the tenant's block. -/
def honoured (s : State) (l u : Nat) : Nat :=
  ((List.range 256).map fun t =>
    if tenantState s t = 1 ∨ tenantState s t = 2 then (s.rd (0x051000 + 16 * t + l)).toNat - (s.rd (0x051000 + 16 * t + u)).toNat
    else 0).sum

/-- Whether `n` more slots keep to the domain's quota (R184). -/
def slotQuotaOk (s : State) (dom n : Nat) : Bool :=
  if dom < 256 then
    decide ((s.rd (0x051002 + 16 * dom)).toNat + n ≤ (s.rd (0x051001 + 16 * dom)).toNat ∧ n ≤ freeSlots s)
  else decide (n + honoured s 1 2 ≤ freeSlots s)

/-- Changes the use registers of a domain by slots taken (`some n`) or given back. -/
def slotsTaken (dom n : Nat) (s : State) : State :=
  let s := s.put 0x050001 15 0 (freeSlots s - n)
  if dom < 256 then s.wr (0x051002 + 16 * dom) (BitVec.ofNat 24 ((s.rd (0x051002 + 16 * dom)).toNat + n)) else s

def slotsGiven (dom n : Nat) (s : State) : State :=
  let s := s.put 0x050001 15 0 (freeSlots s + n)
  if dom < 256 then s.wr (0x051002 + 16 * dom) (BitVec.ofNat 24 ((s.rd (0x051002 + 16 * dom)).toNat - n)) else s

/-- `n` free slots. Which ones the device takes is not stated: a free value turns the list (log 4, DESIGN CHOICE). -/
def chooseSlots (s : State) (k n : Nat) : List Nat :=
  let l := (List.range' 1 0xFBFF).filter fun i => decide ((s.slot i).state = .free)
  let m := (Config.freeWord k).toNat % l.length
  (l.drop m ++ l.take m).take n

/-- Reserves slots for a key result (R186): they leave the free count and are charged to the domain. -/
def reserveSlots (dom n : Nat) (s : State) : List Nat × State :=
  let (k, s) := s.useFree
  let l := chooseSlots s k n
  (l, slotsTaken dom n (s.each l fun i s => s.setSlot i { s.slot i with state := .reserved, dom := dom }))

/-- Gives reserved slots back. -/
def unreserve (dom : Nat) (l : List Nat) (s : State) : State :=
  slotsGiven dom l.length (s.each l fun i s => s.setSlot i { s.slot i with state := .free, dom := 0 })

/-- Fills reserved slots with an object (R178, R179); its handle. -/
def fillSlots (dom ty size : Nat) (usage : BitVec 8) (exportable persist : Bool) (words : List Word) (l : List Nat) (s : State) :
    Nat × State :=
  let s := s.each l.zipIdx fun (i, j) s =>
    s.setSlot i { s.slot i with
      head := j == 0, persist := persist, exportable := exportable, state := .inUse, dom := dom, ty := ty, usage := usage,
      slots := if j = 0 then l.length else 0, size := sizeCode ty size, next := l.getD (j + 1) 0,
      words := (words.drop (24 * j)).take 24 }
  let h := l.getD 0 0
  ((s.slot h).gen.toNat * 2 ^ 16 + h, s)

/-- Whether expander instance `i` delivers: seeded, not BLOCKED, and the known-answer test has not failed (R309, R313, R314). -/
def expanderReady (s : State) (i : Nat) : Bool :=
  s.bit (0x090101 + 0x10 * i) 23 && !s.bit (0x090101 + 0x10 * i) 22 && !s.bit 0x090001 22

/-- Creates an object in the domain, or refuses with QUOTA (R184): status and handle. -/
def createObject (dom ty size : Nat) (usage : BitVec 8) (exportable : Bool) (words : List Word) (s : State) :
    Nat × Nat × State :=
  let n := objectSlotCount ty size
  if !slotQuotaOk s dom n then (stQUOTA, 0, keyCount 4 s)
  else
    let (l, s) := reserveSlots dom n s
    let (h, s) := fillSlots dom ty size usage exportable false words l s
    (stOK, h, s)

/-- The sealed blocks of the key region that a predicate on head slot and kind (`true`: a commit block) keeps. -/
def keepBlocks (keep : Nat → Bool → Bool) (s : State) : State :=
  { s with nva := { s.nva with vault := s.nva.vault.map fun v => { v with blocks := v.blocks.filter fun b =>
      match b with | .data h .. => keep h false | .commit h .. => keep h true } } }

/-- The destruction of an object takes effect (R185): the head slot is DESTROYING and the handle STALE. The commit block of a persistent
object goes before its other blocks (R182). -/
def destroyObject (i : Nat) (s : State) : State :=
  keyCount 6 (keepBlocks (fun h commit => !(h == i && commit)) (s.setSlot i { s.slot i with state := .destroying }))

/-- GRV_n_STAT.STATE of graver `n`. -/
def grvReg (n o : Nat) : Nat := 0x040000 + 0x100 * n + o
def grvState (s : State) (n : Nat) : Nat := s.fld (grvReg n 0) 23 21

/-- Whether a committed or running job refers to the object with head slot `i` (R185). -/
def jobRefers (s : State) (i : Nat) : Bool :=
  (List.range 16).any fun n => (grvState s n == 2 || grvState s n == 3)
    && (List.range 4).any fun h => (s.rd (grvReg n (0x0A + h))).toNat != 0 && (s.rd (grvReg n (0x0A + h))).toNat % 2 ^ 16 == i

/-- The slots of a destroyed object are zeroed and freed, its NVA rows erased, GEN increments and the use falls, once no committed job
refers to it (R185). -/
def freeObject (i : Nat) (s : State) : State :=
  let v := s.slot i
  if v.state = .destroying ∧ v.head = true ∧ !jobRefers s i then
    let l := objectSlots s i
    let s := slotsGiven v.dom l.length s
    let s := s.onlyIf v.persist fun s =>
      let s := s.put 0x050004 13 0 (s.fld 0x050004 13 0 + l.length)
      if v.dom < 256 then s.wr (0x051004 + 16 * v.dom) (BitVec.ofNat 24 ((s.rd (0x051004 + 16 * v.dom)).toNat - l.length)) else s
    let s := keepBlocks (fun h _ => h != i) s
    s.each l fun j s => s.setSlot j { Slot.empty with gen := (s.slot j).gen + (if j = i then 1 else 0) }
  else s

/-! ### Derivation (R176, R177) -/

/-- ASCII bytes of a string. -/
def ascii (t : String) : Bytes := t.toList.map fun c => BitVec.ofNat 8 c.toNat

/-- The KDF of R176: SP 800-108 in counter mode over HMAC-SHA-384, `len` bytes. -/
def kdf (key : Bytes) (dom ty usage : Nat) (label context : Bytes) (len : Nat) : Bytes :=
  ((List.range ((len + 47) / 48)).flatMap fun i =>
    Config.hmacSha384 key (beBytes (i + 1) 4 ++ ascii "FT7240" ++ beBytes dom 2 ++ beBytes ty 1 ++ beBytes usage 1 ++ label
      ++ [0] ++ context ++ beBytes (8 * len) 4)).take len

/-- A fixed derivation of R175: DOMAIN 256, TYPE 0x04, USAGE 0x20. -/
def fixedKey (root : Bytes) (label context : Bytes) : Bytes := kdf root 256 0x04 0x20 label context 48

/-- The tenant root and the metering key of tenant `t` at epoch `e` (R175). -/
def tenantRoot (root : Bytes) (t e : Nat) : Bytes := fixedKey root (ascii "FT7240 tenant root") (beBytes t 1 ++ beBytes e 2)
def meteringKey (root : Bytes) (t e : Nat) : Bytes := fixedKey root (ascii "FT7240 metering") (beBytes t 1 ++ beBytes e 2)

/-! ### Quorums (R198, R199) -/

/-- KEY_Qk_M and KEY_Qk_PEND. -/
def quorumSize (s : State) (k : Nat) : Nat := s.fld (0x050300 + k) 5 0

/-- The device ID as 12 bytes, most significant first (LCS_DEVIDk, R273). -/
def deviceId (s : State) : Bytes := beBytes (s.rdN 0x070008 4) 12

/-- Shows the pending action of class `k` in KEY_Qk_PEND and KEY_CUSu.APPROVED. -/
def quorumShow (k : Nat) (s : State) : State :=
  let q := Tab.get none s.key.quorum k
  let s := s.wr (0x050308 + k) (match q with | some a => BitVec.ofNat 24 (2 ^ 23 + a.approved.length) | none => 0)
  s.each (List.range 32) fun u s =>
    s.flag (0x050200 + u) 22 ((List.range 6).any fun j =>
      match Tab.get none s.key.quorum j with | some a => a.approved.contains u | none => false)

/-- The pending action of class `k` is cancelled: its caller gets a status (R199), counted as QUORUM_FAIL. -/
def quorumCancel (k st : Nat) (s : State) : State :=
  match Tab.get none s.key.quorum k with
  | none => s
  | some a =>
    let s := { s with key := { s.key with quorum := Tab.set none s.key.quorum k none } }
    finish a.caller st ((keyCount 7 (quorumShow k s)).raise 0x050002 3)

/-- An action of class `k` is requested (R199): the keystone draws a challenge and holds it pending; a pending action of
the class is cancelled with QUORUM. Without the expander it ends with FAULT (R314). -/
def quorumHold (k : Nat) (c : Caller) (digest : Bytes) (act : QuorumAct) (s : State) : State :=
  if !expanderReady s 0 then finish c stFAULT s
  else
  let s := quorumCancel k stQUORUM s
  let (f, s) := s.useFree
  let a : QuorumAction := ⟨c, digest, act, (beBytes (Config.freshBlock f).toNat 48).take 32, s.tick, []⟩
  quorumShow k { s with key := { s.key with quorum := Tab.set none s.key.quorum k (some a) } }

/-- What an action of class `k` needs now: `true` where it may proceed (M = 0, or its quorum is met). -/
def quorumMet (s : State) (k : Nat) (c : Caller) : Bool := quorumSize s k == 0 || s.key.granted.contains (k, c)

/-- The frame of an action that needs the quorum of class `k`: it proceeds, or it is held pending (R199). (log 87, DEDUCED) -/
def withQuorum (k : Nat) (c : Caller) (digest : Bytes) (act : QuorumAct) (body : State → State) (s : State) : State :=
  if quorumMet s k c then body { s with key := { s.key with granted := s.key.granted.filter (· != (k, c)) } }
  else if (match Tab.get none s.key.quorum k with | some a => a.caller == c | none => false) then s
  else quorumHold k c digest act s

/-- One approval (R199): a valid signature of an enrolled custodian over the challenge, the digest and the device ID, each
custodian once; the M-th lets the action proceed. `true` where the approval is valid. -/
def quorumApproval (k u : Nat) (sig : Bytes) (s : State) : Bool × State :=
  match Tab.get none s.key.quorum k with
  | none => (false, s)
  | some a =>
    let pub := Tab.get [] s.key.custodians u
    if s.bit (0x050200 + u) 23 && !(a.approved.contains u)
        && Config.ecdsaVerify pub (a.challenge ++ a.digest ++ deviceId s) sig then
      let a := { a with approved := a.approved ++ [u] }
      if quorumSize s k ≤ a.approved.length then
        let s := { s with key := { s.key with
          quorum := Tab.set none s.key.quorum k none, due := s.key.due ++ [(k, a.caller, a.act)], activated := s.key.activated || k == 0 } }
        (true, (quorumShow k s).raise 0x050002 4)
      else (true, quorumShow k { s with key := { s.key with quorum := Tab.set none s.key.quorum k (some a) } })
    else (false, keyCount 7 s)

/-- A pending action without M approvals within 2^QWIN strokes of its request is cancelled with QUORUM (R199). -/
def quorumExpire (k : Nat) (s : State) : State :=
  match Tab.get none s.key.quorum k with
  | some a => if a.since + 2 ^ s.fld 0x050000 4 0 ≤ s.tick then quorumCancel k stQUORUM s else s
  | none => s

/-! ### Operations in progress (R15, R183, R245) -/

/-- The strokes that the outstanding call of pier `n` has taken. -/
def callAge (s : State) (n : Nat) : Nat :=
  let a := lead (s.rdN (coreReg n 0x41) 2) (s.now % 2 ^ 48)
  if 2 ^ 47 ≤ a then 0 else a

/-- The tick whose boundary ends the last stroke of an operation of `dur` strokes: counted from the commit or from the call's start (R15,
R244, R323). -/
def opDue (s : State) (c : Caller) (dur : Nat) : Nat :=
  match c with
  | .host _ g idx => (match s.flight g idx with | some f => max (s.tick + 1) (f.began + dur) | none => s.tick + 1)
  | .pier n _ => s.tick + max 1 (dur - callAge s n)

/-- A key operation starts; a pier's call is taken. -/
def keyBegin (c : Caller) (dur status : Nat) (act : KeyAct) (s : State) (out : Bytes := []) (counts : List Nat := []) : State :=
  let s := { s with key := { s.key with ops := s.key.ops ++ [⟨c, none, s.tick, opDue s c dur, status, 0, out, counts, act⟩] } }
  match c with
  | .pier n _ => s.setCore n { s.core n with answered := true }
  | .host .. => s

/-- Takes operation `o` off the list. -/
def dropOp (o : KeyOp) (s : State) : State := { s with key := { s.key with ops := s.key.ops.erase o } }

/-- The answer of an operation that ends: to its caller, or, of a withdrawn call, kept for the first call with the same tag and number
(R245). -/
def opAnswer (o : KeyOp) (status r0 r1 : Nat) (out : Bytes) (s : State) : State :=
  let s := s.each o.counts keyCount
  match o.withdrawn with
  | none => finishEnd o.caller status s r0 r1 out
  | some (tag, num) =>
    { s with kept := s.kept ++ [⟨tag, num, [BitVec.ofNat 24 status, 0, 0, BitVec.ofNat 24 r0, BitVec.ofNat 24 r1, 0, 0, 0]⟩] }

/-- The operations in progress end with FAULT when the store closes (R183, R298). -/
def keyOpsFault (s : State) : State :=
  let l := s.key.ops
  ({ s with key := { s.key with ops := [], doomed := [] } }).each l fun o s => opAnswer { o with counts := [] } stFAULT 0 0 [] s

/-! ### Sealed blocks (R182) -/

/-- The seal check row (R172). -/
def sealCheckTag (k : Bytes) : Bytes := Config.hmacSha384 k Config.sealString

/-- A slot as the bytes of a sealed block. -/
def slotBytes (x : Nat × Slot) : Bytes :=
  let v := x.2
  beBytes x.1 2 ++ [v.gen, v.usage] ++ beBytes ((if v.head then 1 else 0) + (if v.exportable then 2 else 0)) 1 ++ beBytes v.dom 2
    ++ beBytes v.ty 1 ++ beBytes v.slots 1 ++ beBytes v.size 1 ++ beBytes v.next 2 ++ v.words.flatMap wordBytes

/-- The slots of an object in parts of two, one to a sealed block. -/
def pairUp {α : Type} : List α → List (List α)
  | [] => []
  | [a] => [[a]]
  | a :: b :: t => [a, b] :: pairUp t

/-- The data blocks of the object with head slot `i`. -/
def objectBlocks (s : State) (i : Nat) : List SealedBlock :=
  (pairUp ((objectSlots s i).map fun j => (j, s.slot j))).zipIdx.map fun (l, k) => .data i k l

/-- The slots that the data blocks of an object hold. -/
def blockSlots (i : Nat) (l : List SealedBlock) : List (Nat × Slot) :=
  l.flatMap fun b => match b with | .data h _ x => if h = i then x else [] | .commit .. => []

/-- The commit block of an object whose data blocks hold these slots. -/
def commitBlock (i : Nat) (l : List (Nat × Slot)) : SealedBlock :=
  let v := (l.find? (·.1 == i)).map (·.2)
  .commit i ((v.map fun v => v.gen.toNat).getD 0) ((v.map fun v => v.dom).getD 0) (l.map (·.1)) (Config.sha384 (l.flatMap slotBytes))

/-- Adds sealed blocks, where the class is open. -/
def addBlocks (l : List SealedBlock) (s : State) : State :=
  { s with nva := { s.nva with vault := s.nva.vault.map fun v => { v with blocks := v.blocks ++ l } } }

/-- The blocks of a persistent object are written again from what the store holds now (R181). -/
def resealObject (i : Nat) (s : State) : State :=
  let l := objectBlocks s i
  addBlocks (l ++ [commitBlock i (blockSlots i l)]) (keepBlocks (fun h _ => h != i) s)

/-- What a valid commit block names is loaded at boot: the slots of every object whose commit block matches its blocks (R182). -/
def validObjects (l : List SealedBlock) : List (Nat × List (Nat × Slot)) :=
  l.filterMap fun b => match b with
    | .commit h .. => if b = commitBlock h (blockSlots h l) then some (h, blockSlots h l) else none
    | .data .. => none

/-! ### Reserved slots (R178) -/

/-- What the reserved slots hold, first slot by first slot: TYPE, size, USAGE, sealed in the NVA, present (log 151, DESIGN CHOICE). -/
def reservedTable (s : State) : List (Nat × Nat × Nat × Nat × Bool × Bool) :=
  let k := s.key
  [(0xFC00, 0x04, 0, 0x20, true, k.ownerRoot.isSome), (0xFC01, 0x04, 0, 0x20, false, Tab.get [] k.roots 256 != []),
   (0xFC02, 0x13, 384, 0x02, true, k.anchors.isSome), (0xFC04, 0x31, 87, 0x02, true, k.anchors.isSome),
   (0xFC28, 0x12, 384, 0x10, false, k.identity != []), (0xFC2A, 0x30, 87, 0x10, false, k.identity != [])]
  ++ (List.range 256).map (fun t => (0xFD00 + t, 0x04, 0, 0x20, false, Tab.get [] k.roots t != []))
  ++ (List.range 256).map (fun t => (0xFE00 + t, 0x04, 0, 0x20, false, Tab.get [] k.metering t != []))
  ++ (List.range 32).map (fun u => (0xFF00 + u, 0x13, 256, 0x02, true, Tab.get [] k.custodians u != []))

/-- Reserved slot `i` as the directory shows it. -/
def reservedSlot (s : State) (i : Nat) : Slot :=
  let free : Slot := { Slot.empty with state := .reserved, dom := 0x1FF }
  match (reservedTable s).find? fun (a, ty, n, _, _, on) => on && decide (a ≤ i ∧ i < a + objectSlotCount ty n) with
  | none => free
  | some (a, ty, n, u, p, _) =>
    let k := objectSlotCount ty n
    { free with
      head := i == a, persist := p, state := .inUse, ty := ty, usage := BitVec.ofNat 8 u, slots := if i = a then k else 0
      size := sizeCode ty n, next := if i + 1 < a + k then i + 1 else 0 }

/-! ### Registers -/

/-- The number of a slot state in KEY_DIR_0. -/
def SlotState.code : SlotState → Nat
  | .free => 0
  | .inUse => 1
  | .destroying => 2
  | .reserved => 3

/-- The directory words of slot KEY_DIR_IDX (R200): word `j`. -/
def dirWord (s : State) (j : Nat) : Word :=
  let i := s.fld 0x050008 15 0
  let v := if i = 0 ∨ 0xFBFF < i then reservedSlot s i else s.slot i
  let st := v.state.code
  let dom := v.dom
  match j with
  | 0 => BitVec.ofNat 24 (v.gen.toNat * 2 ^ 16 + (if v.head then 2 ^ 15 else 0) + (if v.persist then 2 ^ 14 else 0)
      + (if v.exportable then 2 ^ 13 else 0) + st * 2 ^ 11 + dom)
  | 1 => BitVec.ofNat 24 (v.ty * 2 ^ 16 + v.usage.toNat * 2 ^ 8 + v.slots)
  | _ => BitVec.ofNat 24 (v.size * 2 ^ 16 + v.next)

/-- A write of KEY_EVT (R200). -/
def keyEvtWrite (w : Word) (s : State) : State :=
  let s := s.wr 0x050002 (s.rd 0x050002 &&& ~~~ (w &&& 0x00001F))
  s.onlyIf (Word.bit w 23) (·.zero 0x050010 16)

/-- The device total of a quota (R193) by the offset of its limit register; channels and plates take theirs from DCK_CFG
and PLC_CFG. -/
def quotaTotal (s : State) (l : Nat) : Nat :=
  match l with
  | 1 => 64511
  | 3 => 8192
  | 5 => if s.fld 0x018000 1 0 = 0 then 16384 else if s.fld 0x018000 1 0 = 1 then 65536 else 262144
  | 7 => 2 ^ s.fld 0x030000 4 0
  | _ => 65536

/-- Whether tenant `t` may have the quota `v` in the limit register at offset `l` (R193): the 256 quotas stay within the device
total. -/
def totalOk (s : State) (t l v : Nat) : Bool :=
  decide (((List.range 256).map fun u => if u = t then v else s.atMost (0x051000 + 16 * u + l)).sum ≤ quotaTotal s l)

end Sys2Proof.Machine
end

