-- ==== Sys2Proof/Machine/Graver.lean ====
section
/-! DEFINITION. The gravers (06_gravers.md): list execution, jobs, seals, wipes and drain. The shared operations; the
commands call them. -/

namespace Sys2Proof.Machine

/-! ### State access -/

/-- Graver `n`. -/
def State.grv (s : State) (n : Nat) : GraverState := Tab.get GraverState.init s.gravers n

/-- Replaces graver `n`. -/
def State.setGrv (s : State) (n : Nat) (g : GraverState) : State := { s with gravers := Tab.set GraverState.init s.gravers n g }

/-- Changes graver `n`. -/
def State.updGrv (s : State) (n : Nat) (f : GraverState → GraverState) : State := s.setGrv n (f (s.grv n))

/-- The words of a bank: 768, or 772 for ACC. -/
def bankSize (b : Nat) : Nat := if b = 4 then 772 else 768

/-- Word `w` of bank `b`. -/
def GraverState.word (g : GraverState) (b w : Nat) : Word := Tab.get 0 g.mem (1024 * b + w)

/-- Words [w, w + len) of bank `b`. -/
def GraverState.range (g : GraverState) (b w len : Nat) : List Word := (List.range len).map fun i => g.word b (w + i)

/-- Writes consecutive words from word `w` of bank `b`. -/
def GraverState.store (g : GraverState) (b w : Nat) (l : List Word) : GraverState :=
  { g with mem := l.zipIdx.foldl (fun m (v, i) => Tab.set 0 m (1024 * b + w + i) v) g.mem }

/-- ACC as a number of 772 words. -/
def GraverState.acc (g : GraverState) : Nat := wordsNat (g.range 4 0 772)

/-- Sets ACC; a carry or borrow beyond word 771 is discarded (R144). -/
def GraverState.setAcc (g : GraverState) (v : Nat) : GraverState := g.store 4 0 (leWords (v % 2 ^ (24 * 772)) 772)

/-- ACC is negative as a two's-complement integer of 772 words. -/
def GraverState.accNeg (g : GraverState) : Bool := decide (2 ^ (24 * 772 - 1) ≤ g.acc)

/-- Whether bank `b` of graver `n` is sealed. -/
def bankSealed (s : State) (n b : Nat) : Bool := s.bit (grvReg n 0) (12 + b)

/-- Seals bank `b` (R156). -/
def sealBank (n b : Nat) (s : State) : State := s.raise (grvReg n 0) (12 + b)

/-- The GRV counters of R169. -/
def grvCount (c : Nat) (s : State) (k : Nat := 1) : State := s.count (0x041010 + 2 * c) k

/-- Raises event bit `i` of graver `n`, and its bit in GRV_EVT. -/
def grvEvent (n i : Nat) (s : State) : State := (s.raise (grvReg n 1) i).raise 0x041002 n

/-- The domain of graver `n` (GRV_n_STAT.DOMAIN). -/
def grvDom (s : State) (n : Nat) : Nat := s.fld (grvReg n 0) 8 0

/-- GRV_GLB_STAT counts the gravers by state (R169). -/
def grvShow (s : State) : State :=
  let f := ((List.range 16).filter fun n => grvState s n == 6).length
  let d := ((List.range 16).filter fun n => grvState s n == 5).length
  s.wr 0x041000 (BitVec.ofNat 24 (f * 2 ^ 10 + d * 2 ^ 5 + (16 - f - d)))

/-- Sets the state of graver `n`. -/
def setGrvState (n v : Nat) (s : State) : State := grvShow (s.put (grvReg n 0) 23 21 v)

/-! ### The entry that executes (R146–R150) -/

/-- Word `j` of the current entry. -/
def entryWord (g : GraverState) (j : Nat) : Word := Tab.get 0 g.list (4 * g.entry + j)

/-- OP of the current entry. -/
def entryOp (g : GraverState) : Nat := Word.slice (entryWord g 0) 23 19

/-- LEN of the current entry. -/
def entryLen (g : GraverState) : Nat := Word.slice (entryWord g 0) 9 0

/-- The opcodes of R149. -/
def listOps : List Nat := [0x00, 0x01, 0x02, 0x03, 0x04, 0x05, 0x06, 0x07, 0x08, 0x10, 0x11]

/-- The value of an index field: 0 = none, 1–3 = i0–i2. -/
def indexOf (g : GraverState) (c : Nat) : Nat := if c = 0 then 0 else Tab.get 0 g.index (c - 1)

/-- An operand: its bank and effective offset (R147). -/
def operand (g : GraverState) (w : Word) : Nat × Nat :=
  (Word.slice w 23 21, Word.slice w 9 0 + indexOf g (Word.slice w 20 19) * 2 ^ Word.slice w 18 16
    + indexOf g (Word.slice w 15 14) * 2 ^ Word.slice w 13 11)

/-- Whether a range lies in its bank (R150). -/
def rangeOk (b w len : Nat) : Bool := decide (b ≤ 4 ∧ w + len ≤ bankSize b)

/-- The auxiliary value; `none` where it is negative (R147, R150). -/
def auxValue (g : GraverState) : Option Nat :=
  let w := entryWord g 3
  let i := indexOf g (Word.slice w 20 19)
  let v := Word.slice w 14 0
  if Word.bit w 18 then (if i ≤ v then some (v - i) else none) else some (v + i)

/-- A list fault, a key fault or a curve fault: the graver holds with the status of the job (R150, R154, R157). -/
def hold (n st : Nat) (s : State) : State := s.updGrv n fun g => { g with halt := some st }

/-- Job statuses of GRV_n_RESULT. -/
def jOK : Nat := 0
def jRETRY : Nat := 1
def jABORTED : Nat := 2
def jFAULT : Nat := 3
def jCURVE : Nat := 4
def jLIST : Nat := 5
def jKEY : Nat := 6

/-- Goes to the next entry after `c` cycles. -/
def advance (n c : Nat) (s : State) : State := s.updGrv n fun g => { g with entry := g.entry + 1, cycles := g.cycles + c }

/-- The frame of a list command with opcode `op` on graver `n`: it runs where the graver is RUNNING and has not ended,
holds or stalls, and its current entry has that opcode. A reserved opcode, and entry 1,023 without an END, are list
faults (R150). -/
def listCommand (n op : Nat) (body : GraverState → State → State) (s : State) : State :=
  let g := s.grv n
  if grvState s n ≠ 3 ∨ g.ended = true ∨ g.halt.isSome ∨ g.stalled.isSome then s
  else if !(listOps.contains (entryOp g)) then hold n jLIST s
  else if 1023 ≤ g.entry ∧ entryOp g ≠ 0 then hold n jLIST s
  else if entryOp g ≠ op then s
  else body g s

/-- ⌈LEN ÷ 32⌉. -/
def laneCycles (len : Nat) : Nat := (len + 31) / 32

/-- The lane modulus in force; 0 = long mode. -/
def lmodOf (s : State) (n : Nat) : Nat := s.fld (grvReg n 0x18) 22 0

/-- 2⁻²⁴ modulo an odd q: the inverse of 2 is (q + 1) ÷ 2 (R145). -/
def inv24 (q : Nat) : Nat := ((q + 1) / 2) ^ 24 % q

/-- A multiply-accumulate at word offset `w` (R144, R145). -/
def macValue (g : GraverState) (q w : Nat) (neg : Bool) (xs : List Word) (ys : Nat → Nat) : GraverState :=
  if q = 0 then
    let p := wordsNat xs * ys 0 * 2 ^ (24 * w) % 2 ^ (24 * 772)
    g.setAcc (if neg then g.acc + 2 ^ (24 * 772) - p else g.acc + p)
  else
    g.store 4 w (xs.zipIdx.map fun (x, k) =>
      let p := x.toNat * ys k % q * inv24 q % q
      let a := (g.word 4 (w + k)).toNat % q
      BitVec.ofNat 24 (if neg then (a + q - p) % q else (a + p) % q))

/-- MAC and MACW (R149): `w` is the accumulator offset, `none` a negative one. -/
def macOp (n : Nat) (w : Option Nat) (g : GraverState) (s : State) : State :=
  let e := entryWord g 0
  let len := entryLen g
  let (xb, xo) := operand g (entryWord g 1)
  let (yb, yo) := operand g (entryWord g 2)
  let q := lmodOf s n
  let vs := Word.bit e 17 && q != 0
  match w with
  | none => hold n jLIST s
  | some w =>
    if !rangeOk xb xo len || !rangeOk yb yo (if vs then len else 1) || !rangeOk 4 w len then hold n jLIST s
    else
      let scalar := fun k =>
        if vs then (g.word yb (yo + k)).toNat
        else if Word.bit e 16 && q == 0 then (g.word 4 0).toNat * (g.word yb yo).toNat % 2 ^ 24
        else (g.word yb yo).toNat
      let s := s.setGrv n (macValue g q w (Word.bit e 18) (g.range xb xo len) scalar)
      let s := s.onlyIf (bankSealed s n xb || bankSealed s n yb) (sealBank n 4)
      advance n (laneCycles len) s

/-- ASH (R149): NEG = 1 shifts left. A sealed ACC stays sealed (R156). -/
def ashOp (n : Nat) (g : GraverState) (s : State) : State :=
  let len := entryLen g
  let v := if Word.bit (entryWord g 0) 18 then g.acc * 2 ^ (24 * len)
    else g.acc / 2 ^ (24 * len) + (if g.accNeg then (2 ^ (24 * min len 772) - 1) * 2 ^ (24 * (772 - min len 772)) else 0)
  advance n 1 (s.setGrv n (g.setAcc v))

/-- ACLR (R149). -/
def aclrOp (n : Nat) (g : GraverState) (s : State) : State := advance n 1 (s.setGrv n (g.setAcc 0))

/-- MOV (R149): copy, or exchange under COND; a reserved COND is taken as a list fault (log 17, DESIGN CHOICE). -/
def movOp (n : Nat) (g : GraverState) (s : State) : State :=
  let e := entryWord g 0
  let len := entryLen g
  let (xb, xo) := operand g (entryWord g 1)
  let (yb, yo) := operand g (entryWord g 2)
  let cond := Word.slice e 15 14
  let ab := Word.slice (entryWord g 3) 23 21
  let condOk := match cond with
    | 0 => true
    | 1 => (match auxValue g with | some a => decide (ab ≤ 4 ∧ a / 24 < bankSize ab) | none => false)
    | 2 => true
    | _ => false
  if !rangeOk xb xo len || !rangeOk yb yo len || !condOk then hold n jLIST s
  else
    let xs := g.range xb xo len
    let ys := g.range yb yo len
    let a := (auxValue g).getD 0
    let exchange := if cond = 1 then Word.bit (g.word ab (a / 24)) (a % 24) else g.accNeg
    let g' := if cond = 0 then g.store yb yo xs
      else if exchange then (g.store yb yo xs).store xb xo ys else g
    let cb := if cond = 1 then ab else if cond = 2 then 4 else xb
    let dirty := bankSealed s n xb || bankSealed s n yb || (cond != 0 && bankSealed s n cb)
    advance n (laneCycles len) ((s.setGrv n g').onlyIf dirty fun s => sealBank n yb (sealBank n xb s))

/-- The key types that the lists of a kind load (R154, R160 rule 2). -/
def kindTypes (kind : Nat) : List Nat :=
  match kind with
  | 0x01 => [0x10] | 0x02 => [0x10, 0x11] | 0x04 => [0x16] | 0x10 => [0x12] | 0x11 => [0x12, 0x13] | 0x12 => [0x12]
  | 0x20 => [0x14] | 0x21 => [0x15] | 0x22 => [0x15] | 0x32 => [0x20] | 0x41 => [0x30] | 0x42 => [0x30, 0x31] | _ => []

/-- The USAGE bit that a kind needs of a key it loads (R181): SIGN, PRIV or VERIFY; a temporary RSA prime carries none. -/
def kindUsage (kind : Nat) : Option Nat :=
  match kind with
  | 0x01 => some 3 | 0x02 => some 1 | 0x10 => some 4 | 0x11 => some 1 | 0x12 => some 3 | 0x20 => some 3 | 0x21 => some 4
  | 0x22 => some 1 | 0x32 => some 3 | 0x41 => some 4 | 0x42 => some 1 | _ => none

/-- Whether an object may serve a job of a kind: an RSA private operation takes SIGN or PRIV. -/
def usageFits (kind : Nat) (u : BitVec 8) : Bool :=
  match kindUsage kind with
  | none => true
  | some b => u.getLsbD b || (kind == 0x01 && u.getLsbD 4)

/-- The words of component `c` of an object, least significant first. -/
def componentWords (s : State) (i c : Nat) : Option (List Word) :=
  let v := s.slot i
  let cs := (components v.ty (sizeOf v.ty v.size)).getD []
  match cs[c]? with
  | none => none
  | some k => some (((objectWords s i).drop ((cs.take c).map Component.words).sum).take k.words)

/-- What an LDK of the current entry would load: the words, or a key fault (R154). A job that refers to an object under
destruction keeps its reference (R185). -/
def ldkWords (s : State) (n : Nat) (g : GraverState) : Option (List Word) :=
  let x := Word.slice (entryWord g 1) 9 0
  let h := (s.rd (grvReg n (0x0A + x % 4))).toNat
  let i := h % 2 ^ 16
  let v := s.slot i
  let kind := s.fld (grvReg n 4) 7 0
  if h = 0 ∨ v.gen.toNat ≠ h / 2 ^ 16 ∨ v.head = false ∨ v.dom ≠ grvDom s n ∨ (v.state ≠ .inUse ∧ v.state ≠ .destroying)
      ∨ !((kindTypes kind).contains v.ty) ∨ !usageFits kind v.usage then none
  else
    match componentWords s i (x / 4) with
    | none => none
    | some ws => if ws.length < entryLen g then none else some (ws.take (entryLen g))

/-- The operand of an LDK is delivered (R154): the destination bank is sealed (R156). -/
def ldkDeliver (n : Nat) (g : GraverState) (s : State) : State :=
  let (yb, yo) := operand g (entryWord g 2)
  match ldkWords s n g with
  | none => hold n jKEY s
  | some ws => advance n (laneCycles (entryLen g) + 8) (sealBank n yb (s.setGrv n (g.store yb yo ws)))

/-- LDK (R154, R157): refused as CURVE before the designated compare of a curve job, stalled while the key store has not
delivered. -/
def ldkOp (n : Nat) (stalled : Bool) (g : GraverState) (s : State) : State :=
  let (yb, yo) := operand g (entryWord g 2)
  if !rangeOk yb yo (entryLen g) then hold n jLIST s
  else if s.bit (grvReg n 4) 23 && !g.curveOk then hold n jCURVE s
  else if stalled then s.updGrv n fun g => { g with stalled := some s.tick }
  else ldkDeliver n g s

/-- The key store delivers to a stalled LDK (R154): the stall's cycles are counted. -/
def ldkDelivery (n : Nat) (s : State) : State :=
  let g := s.grv n
  match g.stalled with
  | none => s
  | some t =>
    if grvState s n ≠ 3 ∨ g.halt.isSome then s
    else
      let c := 1000 * (s.tick - t)
      let g := { g with stalled := none, cycles := g.cycles + c }
      ldkDeliver n g (grvCount 9 (s.setGrv n g) c)

/-- CMP (R149, R156, R157). A LEN of 0, or in ACC of 769 to 772, is executed and no list fault (log 147, DESIGN CHOICE). -/
def cmpOp (n : Nat) (g : GraverState) (s : State) : State :=
  let len := entryLen g
  let (xb, xo) := operand g (entryWord g 1)
  let (yb, yo) := operand g (entryWord g 2)
  if !rangeOk xb xo len || !rangeOk yb yo len then hold n jLIST s
  else
    let x := wordsNat (g.range xb xo len)
    let y := wordsNat (g.range yb yo len)
    let hidden := bankSealed s n xb || bankSealed s n yb
    let chk := s.fld (grvReg n 9) 5 0
    let s := s.setGrv n { g with curveOk := g.curveOk || (x == y && chk / 8 == xb && chk % 8 == yb) }
    advance n (laneCycles len) ((s.flag (grvReg n 0) 18 (!hidden && x == y)).flag (grvReg n 0) 17 (!hidden && decide (x < y)))

/-- LMOD (R145, R149). -/
def lmodOp (n : Nat) (g : GraverState) (s : State) : State :=
  let (xb, xo) := operand g (entryWord g 1)
  if xb = 7 then advance n 4 ((s.wr (grvReg n 0x18) 0).put (grvReg n 0) 19 19 0)
  else if !rangeOk xb xo 1 then hold n jLIST s
  else
    let q := (g.word xb xo).toNat
    if q % 2 = 1 ∧ 3 ≤ q ∧ q < 2 ^ 23 then advance n 4 ((s.wr (grvReg n 0x18) (BitVec.ofNat 24 q)).put (grvReg n 0) 19 19 1)
    else hold n jLIST s

/-- LOOP (R148): a fourth nested loop is a list fault. -/
def loopOp (n : Nat) (g : GraverState) (s : State) : State :=
  if 3 ≤ g.loops.length then hold n jLIST s
  else advance n 0 (s.setGrv n { g with
    index := Tab.set 0 g.index g.loops.length 0
    loops := (entryLen g, g.entry + 1) :: g.loops })

/-- NEXT (R148): repeats the innermost loop while its index is below the count, else closes it; a count of 0 runs the body once
(log 148, DESIGN CHOICE). -/
def nextOp (n : Nat) (g : GraverState) (s : State) : State :=
  match g.loops with
  | [] => hold n jLIST s
  | (count, back) :: outer =>
    let i := Tab.get 0 g.index outer.length + 1
    let g := { g with index := Tab.set 0 g.index outer.length i }
    if i < count then s.setGrv n { g with entry := back } else advance n 0 (s.setGrv n { g with loops := outer })

/-- END (R149). -/
def endOp (n : Nat) (g : GraverState) (s : State) : State := s.setGrv n { g with ended := true }

/-! ### Jobs (R151–R155, R160–R164) -/

/-- The fixed duration of a kind and size (R163); `none` for a reserved kind or a size the kind does not list. -/
def jobDuration (kind size : Nat) : Option Nat :=
  let pick (l : List (Nat × Nat)) : Option Nat := (l.find? (·.1 == size)).map (·.2)
  match kind with
  | 0x01 => pick [(2048, 320), (3072, 1000), (4096, 2300), (8192, 16800), (16384, 123000)]
  | 0x02 => pick [(2048, 12), (3072, 24), (4096, 40), (8192, 150), (16384, 560)]
  | 0x03 => pick [(1024, 42000), (1536, 192000), (2048, 560000), (4096, 8000000)]
  | 0x04 => pick [(2048, 400), (3072, 1200), (4096, 2800), (8192, 20000)]
  | 0x10 => pick [(256, 90), (384, 190), (521, 400)]
  | 0x11 => pick [(256, 110), (384, 240), (521, 500)]
  | 0x12 => pick [(256, 95), (384, 200), (521, 420)]
  | 0x13 => pick [(256, 85), (384, 185), (521, 390)]
  | 0x20 => pick [(255, 70), (448, 190)]
  | 0x21 => pick [(255, 60)]
  | 0x22 => pick [(255, 120)]
  | 0x23 => pick [(255, 55)]
  | 0x24 => pick [(255, 70), (448, 190)]
  | 0x30 => pick [(768, 20), (1024, 30)]
  | 0x31 => pick [(768, 24), (1024, 35)]
  | 0x32 => pick [(768, 28), (1024, 40)]
  | 0x40 => pick [(65, 100), (87, 150)]
  | 0x41 => pick [(65, 420), (87, 600)]
  | 0x42 => pick [(65, 80), (87, 120)]
  | _ => none

/-- The type and size of the key object that a kind returns (R179, R186). -/
def kindResult (kind size : Nat) : Option (Nat × Nat) :=
  match kind with
  | 0x03 => some (0x16, size)
  | 0x04 => some (0x10, size)
  | 0x12 => some (0x40, 0)
  | 0x13 => some (0x12, size)
  | 0x20 => some (0x40, 0)
  | 0x23 => some (0x15, size)
  | 0x24 => some (0x14, size)
  | 0x30 => some (0x20, size)
  | 0x31 => some (0x40, 0)
  | 0x32 => some (0x40, 0)
  | 0x40 => some (0x30, size)
  | _ => none

/-- The kinds of curve work (R157). -/
def curveKind (kind : Nat) : Bool := [0x10, 0x11, 0x12, 0x13, 0x20, 0x21, 0x22, 0x23, 0x24].contains kind

/-- Wipes graver `n` (R151): banks, ACC, lane modulus and comparison flags; counted. The list is kept. -/
def wipe (n : Nat) (s : State) : State :=
  let s := s.updGrv n fun g => { g with mem := [], wipeDue := false, wipeAt := s.now }
  let s := (s.wr (grvReg n 0x18) 0).put (grvReg n 0) 19 12 0
  grvEvent n 0 (grvCount 7 s)

/-- Whether graver `n` is in the stroke of a wipe (R151, R158). -/
def wiping (s : State) (n : Nat) : Bool := (s.grv n).wipeDue || ((s.grv n).wipeAt == s.now && s.now != 0)

/-- OP = CLAIM (R151): refused outside IDLE and DONE and under drain; another domain makes the graver wipe itself at the
next boundary. -/
def claimOp (n dom : Nat) (s : State) : State :=
  if (grvState s n = 0 ∨ grvState s n = 4) ∧ !s.bit 0x041001 n ∧ dom ≤ 256 then
    let s := s.onlyIf (grvDom s n != dom) fun s => s.updGrv n fun g => { g with wipeDue := true }
    setGrvState n 1 ((s.updGrv n fun g => { g with driver := none }).put (grvReg n 0) 8 0 dom)
  else grvEvent n 5 s

/-- Whether JOB_OUT and JOB_KOUT overlap (R152). -/
def outOverlap (s : State) (n : Nat) : Bool :=
  let (b, o, l) := (s.fld (grvReg n 7) 22 20, s.fld (grvReg n 7) 19 10, s.fld (grvReg n 7) 9 0)
  let (c, p, m) := (s.fld (grvReg n 8) 22 20, s.fld (grvReg n 8) 19 10, s.fld (grvReg n 8) 9 0)
  l != 0 && m != 0 && b == c && decide (o < p + m ∧ p < o + l)

/-- OP = RELEASE (R169): from CLAIMED or DONE the graver wipes at the next boundary and is IDLE with no domain (log 18, DEDUCED). -/
def releaseOp (n : Nat) (s : State) : State :=
  if grvState s n = 1 ∨ grvState s n = 4 then
    setGrvState n 0 ((s.updGrv n fun g => { g with wipeDue := true }).put (grvReg n 0) 8 0 0x1FF)
  else s

/-- The strokes of a charge that fall within the last 2^20 strokes, the present one the last (R160 rule 6). -/
def GrvCharge.inWindow (c : GrvCharge) (now : Nat) : Nat :=
  if c.spread then min (c.first + c.amount) (now + 1) - max c.first (now + 1 - 2 ^ 20)
  else if now < c.first + 2 ^ 20 then c.amount else 0

/-- The strokes that domain `dom` has in the present window, summed over all gravers (R160 rule 6). (log 63, DEDUCED) -/
def graverUse (s : State) (dom : Nat) : Nat :=
  ((List.range 16).map fun n => (((s.grv n).charges.filter fun c => c.dom == dom).map fun c => c.inWindow s.now).sum).sum

/-- The charges that some window may still hold. -/
def liveCharges (l : List GrvCharge) (now : Nat) : List GrvCharge :=
  l.filter fun x => decide (now < x.first + (if x.spread then x.amount else 0) + 2 ^ 20)

/-- Adds a charge on graver `n`; charges that no window can hold any more are dropped. -/
def addCharge (n : Nat) (c : GrvCharge) (s : State) : State :=
  let now := s.now
  s.updGrv n fun g => { g with charges := liveCharges g.charges now ++ [c] }

/-- A charge of a job that ends now: no stroke that it has not run. -/
def GrvCharge.cut (c : GrvCharge) (now : Nat) : GrvCharge :=
  if c.spread then { c with amount := min c.amount (now - c.first) } else c

/-- A job that ends before its fixed end is charged no stroke that it has not run. -/
def cutCharges (n : Nat) (s : State) : State :=
  let now := s.now
  s.updGrv n fun g => { g with charges := g.charges.map fun x => x.cut now }

/-- The graver-share window (R160 rule 6, R193): a tenant keeps to its share of 2^20-stroke windows, in units of 256 strokes;
OWN leaves the unused share of every ACTIVE or SUSPENDED tenant free. -/
def shareAllows (s : State) (dom strokes : Nat) : Bool :=
  if dom < 256 then
    decide (graverUse s dom + min strokes (2 ^ 20) ≤ (s.rd (0x051009 + 16 * dom)).toNat * 256)
  else
    let used := ((List.range 257).map fun d => graverUse s d).sum
    let kept := ((List.range 256).map fun t =>
      if tenantState s t = 1 ∨ tenantState s t = 2 then (s.rd (0x051009 + 16 * t)).toNat * 256 - graverUse s t else 0).sum
    decide (used + min strokes (2 ^ 20) + kept ≤ 16 * 2 ^ 20)

/-- Charges a commit to the domain's share: a job longer than 2^20 strokes is charged 2^20 at its commit (R160 rule 6). -/
def shareCharge (n dom strokes : Nat) (s : State) : State := addCharge n ⟨dom, s.now, min strokes (2 ^ 20), false⟩ s

/-- The slots that the key result of graver `n`'s descriptor takes (R186); 0 where JOB_KOUT is 0 or the kind returns no key. -/
def resultSlots (s : State) (n : Nat) : Nat :=
  match kindResult (s.fld (grvReg n 4) 7 0) (s.fld (grvReg n 5) 14 0) with
  | some (ty, sz) => if s.fld (grvReg n 8) 9 0 ≠ 0 then objectSlotCount ty sz else 0
  | none => 0

/-- The pier that drives a job which `c` commits (R159, R331): the calling pier, or the pier that serves the host's ring; the
keystone's own commit leaves the pier that claimed. -/
def driverOf (s : State) (n : Nat) : Option Caller → Option Nat
  | some (.pier p _) => if p = 0 then none else some p.val
  | some (.host _ g _) => some (s.fld (0x0A0400 + g) 6 0)
  | none => (s.grv n).driver

/-- OP = COMMIT (R152, R186): refused with AUTH_ERR outside CLAIMED, with JOB_DUR 0, with overlapping result ranges, or where the
domain's quota does not cover the key result; else the result's slots are reserved and the share is charged (R160). -/
def commitOp (n : Nat) (c : Option Caller) (s : State) : State :=
  let dom := grvDom s n
  let k := resultSlots s n
  if grvState s n ≠ 1 ∨ s.fld (grvReg n 6) 23 0 = 0 ∨ outOverlap s n ∨ (k ≠ 0 ∧ !slotQuotaOk s dom k) then grvEvent n 5 s
  else
    let (l, s) := if k = 0 then ([], s) else reserveSlots dom k s
    let s := s.updGrv n fun g => { g with caller := c, driver := driverOf s n c, committedAt := s.tick, reserved := l }
    setGrvState n 2 ((shareCharge n dom (s.fld (grvReg n 6) 23 0) s).put (grvReg n 0) 11 11 0)

/-- A write of GRV_n_AUTH from KEEP (R169); OP reads 0. -/
def authWrite (n : Nat) (w : Word) (s : State) : State :=
  let d := Word.slice w 8 0
  let s := s.onlyIf (decide (d ≤ 256 ∨ d = 511)) (·.put (grvReg n 3) 8 0 d)
  match Word.slice w 23 22 with
  | 1 => claimOp n (s.fld (grvReg n 3) 8 0) s
  | 2 => commitOp n none s
  | 3 => releaseOp n s
  | _ => s

/-- A committed job may start now (R52): at the beginning of a GUARANTEED cell, so not in the stroke of its commit; no queued test of the
graver, the stroke present (R38). -/
def jobMayStart (s : State) (n : Nat) : Bool :=
  grvState s n == 2 && decide ((s.grv n).committedAt < s.tick) && s.cell (28 + n) == 0 && !(s.stk.tests.any (·.col == 28 + n)) && !s.stk.lost && !s.keysClosed

/-- The candidates of a prime generation (R164): 16 × K, where K is 256, 384, 512 or 1,024 for the four prime sizes. -/
def primeCandidates (size : Nat) : Nat :=
  16 * (if size = 1024 then 256 else if size = 1536 then 384 else if size = 2048 then 512 else 1024)

/-- The generate calls of 384 bits that a job needs (R161, R164): none where it neither loads a secret nor makes one. -/
def jobCalls (kind size : Nat) : Nat :=
  if kind = 0x03 then (primeCandidates size * size + 383) / 384
  else if [0x01, 0x04, 0x10, 0x12, 0x13, 0x20, 0x21, 0x23, 0x24, 0x30, 0x31, 0x32, 0x40, 0x41].contains kind then Config.jobDraws kind size
  else 0

/-- The job starts (R145, R153): long mode, the first entry, START. A check that failed since the commit holds it (R165). -/
def jobBegin (n : Nat) (s : State) : State :=
  let s := s.updGrv n fun g => { g with
    entry := 0, index := [], loops := [], ended := false, curveOk := false, stalled := none, cycles := 0,
    endAt := s.tick + s.fld (grvReg n 6) 23 0, abort := false,
    draws := jobCalls (s.fld (grvReg n 4) 7 0) (s.fld (grvReg n 5) 14 0), drawn := 0 }
  let long := s.fld (grvReg n 6) 23 0 - 2 ^ 20
  let s := s.onlyIf (decide (long ≠ 0)) (addCharge n ⟨grvDom s n, s.now + 2 ^ 20, long, true⟩)
  let s := ((s.wr (grvReg n 0x18) 0).put (grvReg n 0) 19 17 0).wrN (grvReg n 0x16) 2 s.stk.time.num.toNat
  let s := s.pmcLatency 6 (1000 * (s.tick - (s.grv n).committedAt)) (some (grvDom s n)) none
  setGrvState n 3 (s.pmcEvent { code := 0x22, src := some (0x70 + n), cls := some 0 })

/-- A job that needs more strokes than its fixed count (R51, R314): it has not reached its END, its commands and stalls take more
cycles, or it still waits for the expander. -/
def jobOverrun (s : State) (n : Nat) : Bool :=
  let g := s.grv n
  g.halt.isNone && (!g.ended || decide (1000 * s.fld (grvReg n 6) 23 0 < g.cycles) || g.draws != 0)

/-- The status with which a job ends at its last stroke (R153, R161, R164): a fault that held it, RETRY where a fixed budget finds
nothing. -/
def jobOutcome (s : State) (n k : Nat) : Nat :=
  let g := s.grv n
  let kind := s.fld (grvReg n 4) 7 0
  match g.halt with
  | some st => st
  | none =>
    if (kind = 0x03 ∨ kind = 0x41) ∧ Config.jobRetry k then jRETRY
    else if kind = 0x01 ∧ Config.rsaVerifyFails k then jFAULT
    else jOK

/-- The host status of a job status (R328, R329). -/
def jobStatusCode (st : Nat) : Nat :=
  if st = jOK then stOK else if st = jRETRY then stRETRY else if st = jABORTED then stABORTED else if st = jFAULT then stFAULT
  else if st = jCURVE then stCURVE else if st = jLIST then stLIST else stKEY

/-- The words that JOB_OUT or JOB_KOUT (offset 7 or 8) names. -/
def jobRange (s : State) (n o : Nat) : List Word :=
  (s.grv n).range (s.fld (grvReg n o) 22 20) (s.fld (grvReg n o) 19 10) (s.fld (grvReg n o) 9 0)

/-- Zeroes every word of sealed banks and of ACC but the released range, and clears the seals (R153). -/
def zeroSealed (n : Nat) (keepOut : Bool) (s : State) : State :=
  let b := s.fld (grvReg n 7) 22 20
  let o := s.fld (grvReg n 7) 19 10
  let l := s.fld (grvReg n 7) 9 0
  let wipes := fun k => let bank := k / 1024; let w := k % 1024
    (bank == 4 || bankSealed s n bank) && !(keepOut && bank == b && decide (o ≤ w ∧ w < o + l))
  (s.updGrv n fun g => { g with mem := g.mem.filter fun (k, _) => !wipes k }).put (grvReg n 0) 16 12 0

/-- A graver fails (R165): it is FAULTED, and a self-test is queued for its next TEST cell. -/
def grvFault (n : Nat) (s : State) : State := testRequest (28 + n) 1 (grvEvent n 1 (setGrvState n 6 s))

/-- The job of a KEY_GENERATE on graver `n` has ended. -/
def keyJobNote (n st h : Nat) (s : State) : State :=
  { s with key := { s.key with ops := s.key.ops.map fun o => match o.act with
    | .generate x j => if j.graver = some n ∧ j.last = none then { o with act := .generate x { j with last := some (st, h) } } else o
    | _ => o } }

/-- A KEY_GENERATE that has lost graver `n` before its commit takes another. -/
def keyJobAgain (n : Nat) (s : State) : State :=
  { s with key := { s.key with ops := s.key.ops.map fun o => match o.act with
    | .generate x j => if j.graver = some n ∧ j.last = none then { o with act := .generate x { j with graver := none } } else o
    | _ => o } }

/-- What a job's end means to the caller of its commit: a host command is completed, the keystone's KEY_GENERATE goes on; a pier has its
answer since the commit. -/
def jobAnswer (n : Nat) (c : Caller) (st r0 r1 : Nat) (out : Bytes) (s : State) : State :=
  match c with
  | .host .. => finishEnd c st s r0 r1 out
  | .pier p _ => if p = 0 then keyJobNote n st r0 s else s

/-- Answers the commands that asked for an abort of graver `n`'s job (R155): OK, or ALREADY where the job was complete. -/
def abortAnswers (n st : Nat) (s : State) : State :=
  (s.updGrv n fun g => { g with abort := false, abortBy := [] }).each (s.grv n).abortBy fun c s => finishEnd c st s

/-- The job completes with status `st` (R153): result, counters, key result, seals, DONE, its event and its caller's
completion. A failed check leaves the graver FAULTED with a self-test queued (R165); a drained one wipes (R166). -/
def jobEnd (n st : Nat) (late : Bool) (s : State) : State :=
  let dom := grvDom s n
  let g := s.grv n
  let kind := s.fld (grvReg n 4) 7 0
  let out := if st = jOK then (jobRange s n 7).flatMap wordBytes else []
  let (kh, s) := match st, kindResult kind (s.fld (grvReg n 5) 14 0) with
    | 0, some (ty, size) =>
      if g.reserved = [] then (0, s)
      else fillSlots dom ty size (if ty = 0x16 then 0 else Config.resultUsage kind) false false (jobRange s n 8) g.reserved s
    | _, _ => (0, if g.reserved = [] then s else unreserve dom g.reserved s)
  let s := zeroSealed n (st == jOK) (cutCharges n s)
  let s := (s.wr (grvReg n 0x14) (BitVec.ofNat 24 (st * 2 ^ 21 + (if late then 2 ^ 20 else 0)))).wr (grvReg n 0x15) (BitVec.ofNat 24 kh)
  let s := match g.stalled with | some t => grvCount 9 s (1000 * (s.tick - t)) | none => s
  let s := (s.put (grvReg n 0) 20 20 0).updGrv n fun g => { g with
    reserved := [], stalled := none, halt := none, caller := none, draws := 0 }
  let s := (grvCount st s).pmcEvent { code := 0x18, src := some (0x70 + n), dom := some dom }
  let s := s.pmcEvent { code := 0x19, src := some (0x70 + n), dom := some dom, amount := s.fld (grvReg n 6) 23 0 }
  let s := grvEvent n 4 (setGrvState n 4 s)
  let s := match g.caller with
    | some c => jobAnswer n c (if s.keysClosed ∧ st = jFAULT then stHALTED else jobStatusCode st) kh st out s
    | none => s
  let s := abortAnswers n (if st = jABORTED then stOK else stALREADY) s
  if g.halt = some jFAULT then grvFault n s
  else if s.bit 0x041001 n then setGrvState n 5 (wipe n s) else s

/-- A GRAVER_JOB that waits for the wipe of its claim ends with a status, and the graver is released. -/
def stagedStop (n st : Nat) (s : State) : State :=
  match (s.grv n).staged with
  | none => s
  | some (c, _, _) =>
    let s := releaseOp n (s.updGrv n fun g => { g with staged := none })
    abortAnswers n (if st = jABORTED then stOK else stALREADY) (jobAnswer n c (jobStatusCode st) 0 0 [] s)

/-- A self-check of graver `n` fails (R165): it stops computing, and a job that is committed or running ends at its fixed end with FAULT;
without a job the graver is FAULTED at once. -/
def checkFail (n : Nat) (s : State) : State :=
  let s := swLoseAck (28 + n) (pptFire 51 s)
  if grvState s n = 2 ∨ grvState s n = 3 then hold n jFAULT s
  else if grvState s n = 6 then s else grvFault n (stagedStop n jFAULT s)

/-- A running job whose last stroke has ended completes (R153): an abort written in that stroke returns "already
complete" (R155). An overrun is a fault of the graver (R51). -/
def jobFinish (n : Nat) (s : State) : State :=
  if grvState s n = 3 ∧ (s.grv n).endAt ≤ s.tick then
    let (k, s) := s.useFree
    let s := s.onlyIf (jobOverrun s n) (checkFail n)
    jobEnd n (jobOutcome s n k) (s.grv n).abort s
  else s

/-- A job that is running or committed, or waits for the wipe of its claim, ends at this boundary with a status and releases nothing (R155,
R168, R298). -/
def jobStop (n st : Nat) (s : State) : State :=
  if grvState s n = 2 ∨ grvState s n = 3 then jobEnd n st false s else stagedStop n st s

/-- GRV_n_CMD with bit 0 set (R155): the abort is evaluated at the next boundary. -/
def jobAbortWrite (n : Nat) (s : State) : State :=
  if grvState s n = 2 ∨ grvState s n = 3 ∨ (s.grv n).staged.isSome then s.updGrv n fun g => { g with abort := true } else s

/-- An abort at its boundary, after completions (R53, R155). -/
def jobAbortNow (n : Nat) (s : State) : State := if (s.grv n).abort then jobStop n jABORTED s else s

/-! ### Pier access to list and banks (R158, R159) -/

/-- Whether the list and the descriptor are locked: from the commit until DONE (R152). -/
def jobLocked (s : State) (n : Nat) : Bool := grvState s n == 2 || grvState s n == 3

/-- A write of GRV_n_LDATA (R159): stored with LADDR stepped, or refused while the list is locked. -/
def listDataWrite (n : Nat) (w : Word) (s : State) : State :=
  if jobLocked s n then grvEvent n 3 (grvCount 8 (s.put (grvReg n 0) 20 20 1))
  else
    let a := s.fld (grvReg n 0x10) 11 0
    let s := s.updGrv n fun g => { g with list := Tab.set 0 g.list a w }
    (s.put (grvReg n 0) 11 11 1).wr (grvReg n 0x10) (BitVec.ofNat 24 ((a + 1) % 4096))

/-- A read of GRV_n_LDATA; `step`: a pier or the keystone reads, which steps LADDR (R158). -/
def listDataRead (n : Nat) (step : Bool) (s : State) : Word × State :=
  let a := s.fld (grvReg n 0x10) 11 0
  (Tab.get 0 (s.grv n).list a, s.onlyIf step (·.wr (grvReg n 0x10) (BitVec.ofNat 24 ((a + 1) % 4096))))

/-- Whether the banks are open to access: CLAIMED or DONE, outside the stroke of a wipe (R158). -/
def banksOpen (s : State) (n : Nat) : Bool := (grvState s n == 1 || grvState s n == 4) && !wiping s n

/-- Steps GRV_n_BADDR to the next word. -/
def bankStep (n : Nat) (s : State) : State := s.put (grvReg n 0x12) 9 0 ((s.fld (grvReg n 0x12) 9 0 + 1) % 1024)

/-- Whether BADDR names an accessible word of an unsealed bank. -/
def bankWordOpen (s : State) (n : Nat) : Bool :=
  let b := s.fld (grvReg n 0x12) 14 12
  banksOpen s n && decide (b ≤ 4 ∧ s.fld (grvReg n 0x12) 9 0 < bankSize b) && !bankSealed s n b

/-- A write of GRV_n_BDATA (R158). -/
def bankDataWrite (n : Nat) (w : Word) (s : State) : State :=
  if bankWordOpen s n then
    bankStep n (s.updGrv n fun g => g.store (s.fld (grvReg n 0x12) 14 12) (s.fld (grvReg n 0x12) 9 0) [w])
  else bankStep n (grvEvent n 2 s)

/-- A read of GRV_n_BDATA (R158); `step`: a pier or the keystone reads. -/
def bankDataRead (n : Nat) (step : Bool) (s : State) : Word × State :=
  if bankWordOpen s n then
    (if memoriesShown s then (s.grv n).word (s.fld (grvReg n 0x12) 14 12) (s.fld (grvReg n 0x12) 9 0) else 0, s.onlyIf step (bankStep n))
  else (0, (grvEvent n 2 s).onlyIf step (bankStep n))

/-- A descriptor register is written only while it is not locked (R152, R169). -/
def descriptorOpen (s : State) (n : Nat) : Bool := !jobLocked s n

/-! ### Drain and tests (R166, R167) -/

/-- A graver with its drain bit set leaves service: at once where it is IDLE or CLAIMED, after DONE else; a cleared bit
returns it to IDLE (R166). -/
def drainGraver (n : Nat) (s : State) : State :=
  let st := grvState s n
  if s.bit 0x041001 n then (if st = 0 ∨ st = 1 ∨ st = 4 then swLoseAck (28 + n) (setGrvState n 5 (wipe n s)) else s)
  else if st = 5 then setGrvState n 0 (s.put (grvReg n 0) 8 0 0x1FF) else s

/-- A write of GRV_DRAIN from KEEP (R166). -/
def drainWrite (w : Word) (s : State) : State :=
  (s.wr 0x041001 (BitVec.ofNat 24 (Word.slice w 15 0))).each (List.range 16) drainGraver

/-- A test of graver `n` ends (R165, R167): banks and ACC zero, long mode, IDLE with no domain, or FAULTED. The list stays, and so does
LIST_DIRTY. -/
def grvTestEnd (n : Nat) (pass : Bool) (s : State) : State :=
  let s := (s.updGrv n fun g => { g with mem := [] }).wr (grvReg n 0x18) 0
  let s := (s.put (grvReg n 0) 20 12 0).put (grvReg n 0) 8 0 0x1FF
  if pass then setGrvState n 0 s else swLoseAck (28 + n) (grvEvent n 1 (setGrvState n 6 s))

/-- A write of GRV_EVT (R169). -/
def grvEvtWrite (w : Word) (s : State) : State :=
  let s := s.wr 0x041002 (s.rd 0x041002 &&& ~~~ (w &&& 0x00FFFF))
  s.onlyIf (Word.bit w 23) (·.zero 0x041010 20)

end Sys2Proof.Machine
end

