-- ==== Sys2Proof/Machine/Sdram.lean ====
section
/-! DEFINITION. Plate content and SDRAM (05_plates_and_placement.md): the words of a plate, where plates live, and the encrypted,
authenticated form of a plate in SDRAM under the integrity tree of its channel. -/

namespace Sys2Proof.Machine

/-! ### Plate content (R118) -/

/-- Word `w` of plate `p`. -/
def State.plateWord (s : State) (p w : Nat) : Word := Tab.get 0 s.plc.words (64 * p + w)

/-- Writes word `w` of plate `p`. -/
def State.setPlateWord (s : State) (p w : Nat) (v : Word) : State :=
  { s with plc := { s.plc with words := Tab.set 0 s.plc.words (64 * p + w) v } }

/-- Bits [hi:lo] of word `w` of plate `p`. -/
def State.plateFld (s : State) (p w hi lo : Nat) : Nat := Word.slice (s.plateWord p w) hi lo

/-- Replaces bits [hi:lo] of word `w` of plate `p`. -/
def State.putPlate (s : State) (p w hi lo v : Nat) : State := s.setPlateWord p w (Word.put (s.plateWord p w) hi lo v)

/-- All 64 words of plate `p`. -/
def State.plateWords (s : State) (p : Nat) : List Word := (List.range 64).map (s.plateWord p)

/-- Gives plate `p` the content `l`. -/
def State.setPlate (s : State) (p : Nat) (l : List Word) : State :=
  s.each l.zipIdx fun (v, w) s => s.setPlateWord p w v

/-- PL_CTL.STATE of plate `p`: 0 EMPTY, 1 ACTIVE, 2 DAMAGED, 3 RECYCLING. -/
def plateState (s : State) (p : Nat) : Nat := s.plateFld p 0 23 21

/-- PL_GEN and PL_DOMAIN of plate `p`. -/
def plateGen (s : State) (p : Nat) : Nat := (s.plateWord p 1).toNat
def plateDom (s : State) (p : Nat) : Nat := s.plateFld p 2 8 0

/-- The 64-bit value in three words of a plate's content. -/
def wordsAt (l : List Word) (w : Nat) : Nat := wordsNat ((l.drop w).take 3)

/-- A 64-bit value written to three words of plate `p`. -/
def putPlate64 (p w v : Nat) (s : State) : State :=
  s.each (List.range 3) fun i s => s.setPlateWord p (w + i) (BitVec.ofNat 24 (v % 2 ^ 64 / 2 ^ (24 * i)))

/-- The tenant that a plate counts for in KEY_Tt_PLATE_USE (R192). -/
def plateHolder (s : State) (p : Nat) : Option Nat :=
  if plateDom s p < 256 ∧ (plateState s p ≠ 0 ∨ plateGen s p ≠ 0) then some (plateDom s p) else none

/-- Adds to KEY_Tt_PLATE_USE of a tenant. -/
def plateUse (h : Option Nat) (up : Bool) (s : State) : State :=
  match h with
  | none => s
  | some t =>
    let n := (s.rd (0x051008 + 16 * t)).toNat
    s.wr (0x051008 + 16 * t) (BitVec.ofNat 24 (if up then n + 1 else n - 1))

/-- A change `f` of plate `p`'s content, with the use of its tenant kept. -/
def changePlate (p : Nat) (f : State → State) (s : State) : State :=
  let before := plateHolder s p
  let s := f s
  plateUse (plateHolder s p) true (plateUse before false s)

/-! ### Where plates live (R123–R125) -/

/-- The capacity 2^CAP_LOG (R123). -/
def plateCapacity (s : State) : Nat := 2 ^ s.fld 0x030000 4 0

/-- SDC_c's register at offset `o`. -/
def sdcReg (c o : Nat) : Nat := 0x038000 + 0x1000 * c + o

/-- No SDRAM is fitted (R125). -/
def noSdram (s : State) : Bool := s.fld (sdcReg 0 0) 15 12 == 0 && s.fld (sdcReg 1 0) 15 12 == 0

/-- CAP_LOG of PLC_CFG. -/
def capLog (s : State) : Nat := s.fld 0x030000 4 0

/-- The permuted index of plate `p` (R124): any permutation of CAP_LOG bits may be the one that the boot's key gives. -/
def permuted (s : State) (p : Nat) : Nat :=
  if h : p < 2 ^ capLog s then (Config.platePerm (Config.freshBlock s.plc.bootKey) (capLog s) ⟨p, h⟩).val else 0

/-- The SDRAM channel that holds plate `p` (R124, R139). -/
def plateChannel (s : State) (p : Nat) : Nat :=
  if (Tab.get none s.plc.moved p).isSome then 1 - permuted s p % 2 else permuted s p % 2

/-- The slot of plate `p` in its channel: its own, or the spare slot of the other channel that a drain has given it, beyond that
channel's own slots (R139, log 140, DESIGN CHOICE). -/
def plateSlot (s : State) (p : Nat) : Nat :=
  match Tab.get none s.plc.moved p with
  | some i => 2 ^ (capLog s - 1) + i
  | none => permuted s p / 2

/-- The cache set of plate `p` (R124, R125). -/
def plateSet (s : State) (p : Nat) : Nat := if noSdram s then p % 16384 else permuted s p / 2 % 16384

/-- Whether plate `p` is resident (R125: always, where no SDRAM is fitted). -/
def resident (s : State) (p : Nat) : Bool := noSdram s || (Tab.get none s.plc.cache p).isSome

/-- The placement counters of R141, and those of SDRAM controller `c` (R142). -/
def plcCount (k : Nat) (s : State) : State := s.count (0x030010 + 2 * k)
def sdcCount (c k : Nat) (s : State) (n : Nat := 1) : State := s.count (sdcReg c (8 + 2 * k)) n

/-- Lines read (`false`) or written by channel `c` in the present cell, counted (R142, R423). -/
def sdcLines (c : Nat) (written : Bool) (n : Nat) (s : State) : State :=
  (sdcCount c (if written then 6 else 5) s n).pmcEvent
    { code := 0x16, src := some (0x90 + c), cls := some (s.cell (110 + c)), amount := n }

/-! ### SDRAM protection (R126–R128) -/

/-- Keys of the SDRAM tables: line `l` of slot `i` of channel `c`, which is also its physical address in lines; node `i` of level `k`
of channel `c`'s tree, level 0 being the leaves. -/
def lineKey (c i l : Nat) : Nat := 2 ^ 27 * c + 4 * i + l
def nodeKey (c k i : Nat) : Nat := 2 ^ 32 * c + 2 ^ 26 * k + i

/-- The upper levels that a channel stores (R127). -/
def treeLevels (s : State) : Nat := (capLog s + 1) / 3

/-- The upper nodes of a channel (R127): levels of one eighth, rounded up, ⌈(CAP_LOG − 1) ÷ 3⌉ of them. -/
def upperNodes : Nat → Nat → Nat
  | _, 0 => 0
  | below, k + 1 => (below + 7) / 8 + upperNodes ((below + 7) / 8) k

/-- The lines of the tree cache that hold the top three stored levels (R128). -/
def topLines (s : State) : Nat :=
  let n := fun k => (2 ^ (capLog s - 1) + 8 ^ k - 1) / 8 ^ k
  n (treeLevels s) + n (treeLevels s - 1) + n (treeLevels s - 2)

/-- The counter that the level above holds for node `i` of level `k`; the top level's are the channel's root, on chip (R127). -/
def nodeCount (s : State) (c k i : Nat) : Nat := (Tab.get 0 s.plc.counts (nodeKey c k i)).toNat

/-- Whether the tree cache of channel `c` holds a node (R128). -/
def nodeCached (s : State) (c k i : Nat) : Bool :=
  decide (treeLevels s < k + 3) || (Tab.get [] s.plc.tree c).any fun (n, _) => n == nodeKey c k i

/-- What a node MAC is computed over (R127): a leaf's three version counters and line MACs, an upper node's eight counters. -/
def nodeBytes (s : State) (c k i : Nat) : Bytes :=
  if k = 0 then
    (List.range 3).flatMap (fun l => leBytes (Tab.get 0 s.plc.versions (lineKey c i l)).toNat 7)
      ++ (List.range 3).flatMap fun l => leBytes (Tab.get 0 s.plc.lineMacs (lineKey c i l)).toNat 8
  else (List.range 8).flatMap fun j => leBytes (nodeCount s c (k - 1) (8 * i + j)) 7
where
  /-- `n` bytes of a number, least significant first. -/
  leBytes (v n : Nat) : Bytes := (List.range n).map fun i => BitVec.ofNat 8 (v / 256 ^ i)

/-- The encryption and the MAC key of channel `c`. -/
def sdramKey (s : State) (c : Nat) : Bytes × Bytes := Tab.get ([], []) s.plc.sdKeys c

/-- A node is written: its counter in the level above counts the write, and its MAC covers that counter (R127). -/
def nodeWrite (c k i : Nat) (s : State) : State :=
  let n := nodeKey c k i
  let v := Tab.get 0 s.plc.counts n + 1
  { s with plc := { s.plc with
    counts := Tab.set 0 s.plc.counts n v
    nodeMacs := Tab.set 0 s.plc.nodeMacs n (Config.nodeMac (sdramKey s c).2 (nodeBytes s c k i) n v.toNat) } }

/-- A node enters the tree cache as the one used last, or is used again; the node used longest ago leaves it, and is written first
where its counters have changed, which changes the node above it (R128). -/
def treeTouch : Nat → Nat → Nat → Nat → Bool → State → State
  | 0, _, _, _, _, s => s
  | fuel + 1, c, k, i, changed, s =>
    if treeLevels s < k + 3 then s
    else
      let l := Tab.get [] s.plc.tree c
      let n := nodeKey c k i
      let l := (n, changed || l.any fun x => x.1 == n && x.2) :: l.filter fun x => x.1 != n
      let out := if 1024 - topLines s < l.length then l.getLast? else none
      let s := { s with plc := { s.plc with tree := Tab.set [] s.plc.tree c (if out.isSome then l.dropLast else l) } }
      match out with
      | some (m, true) =>
        let k := m / 2 ^ 26 % 64
        let i := m % 2 ^ 26
        treeTouch fuel c (k + 1) (i / 8) true (sdcLines c true 1 (nodeWrite c k i s))
      | _ => s

/-- The nodes that a walk from leaf `i` upward reads: up to the first one in the tree cache, none of a part never written (R128). -/
def treePath (s : State) (c i : Nat) : Nat → Nat → List Nat
  | 0, _ => []
  | fuel + 1, k =>
    if nodeCached s c k (i / 8 ^ k) || nodeCount s c k (i / 8 ^ k) == 0 then [] else k :: treePath s c i fuel (k + 1)

/-- The nodes read, by their levels, enter the tree cache; the leaf as the one used last. -/
def treeEnter (c i : Nat) (path : List Nat) (s : State) : State :=
  s.each (path.reverse ++ [0]) fun k s => treeTouch 10 c k (i / 8 ^ k) false s

/-- A line XORed with the AES-256 counter-mode stream of its channel's key, address and version counter (R126): encryption and
decryption in one. -/
def lineCrypt (s : State) (c i l : Nat) (v : BitVec 56) (b : Bytes) : Bytes :=
  let ks := Config.lineStream (sdramKey s c).1 (lineKey c i l) v.toNat
  (List.range 64).map fun j => b.getD j 0 ^^^ ks.getD j 0

/-- Line `l` of a slot is written: version counter, ciphertext, MAC (R126). -/
def lineWrite (c i l : Nat) (b : Bytes) (s : State) : State :=
  let n := lineKey c i l
  let v := Tab.get 0 s.plc.versions n + 1
  let x := lineCrypt s c i l v b
  { s with plc := { s.plc with
    versions := Tab.set 0 s.plc.versions n v
    lines := Tab.set [] s.plc.lines n x
    lineMacs := Tab.set 0 s.plc.lineMacs n (Config.lineMac (sdramKey s c).2 x n v.toNat) } }

/-- The words of plate `p` as its SDRAM slot holds them: word k in bytes 3k to 3k + 2, least significant byte first. Below a node
never written they read as 0 (R128). -/
def sdramWords (s : State) (p : Nat) : List Word :=
  let c := plateChannel s p
  let i := plateSlot s p
  if nodeCount s c 0 i = 0 then List.replicate 64 0
  else
    let b := (List.range 3).flatMap fun l =>
      lineCrypt s c i l (Tab.get 0 s.plc.versions (lineKey c i l)) (Tab.get [] s.plc.lines (lineKey c i l))
    (List.range 64).map fun w => BitVec.ofNat 24 ((b.getD (3 * w) 0).toNat + 256 * (b.getD (3 * w + 1) 0).toNat
      + 65536 * (b.getD (3 * w + 2) 0).toNat)

/-- The whole content of plate `p`, in whichever tier it is: of a plate that is not resident, SDRAM holds the key fields. -/
def tierWords (s : State) (p : Nat) : List Word :=
  if resident s p then s.plateWords p
  else (s.plateWords p).take 4 ++ ((sdramWords s p).drop 4).take 15 ++ (s.plateWords p).drop 19

/-- Content `l` is written to plate `p`'s slot: three lines and the leaf, which is read first where it must be (R126, R127). -/
def slotWrite (p : Nat) (l : List Word) (s : State) : State :=
  let c := plateChannel s p
  let i := plateSlot s p
  let path := treePath s c i 10 0
  let s := treeEnter c i path (sdcLines c false path.length s)
  let b := l.flatMap fun w => (wordBytes w).reverse
  let s := s.each (List.range 3) fun k s => lineWrite c i k ((b.drop (64 * k)).take 64) s
  sdcLines c true 4 (treeTouch 10 c 1 (i / 8) true (nodeWrite c 0 i s))

/-- Plate `p`'s content goes to its slot. -/
def writeBack (p : Nat) (s : State) : State := slotWrite p (tierWords s p) s

/-- Plate `p`'s content is read from its slot; PL_USE is the placement engine's own and stays (log 142, DESIGN CHOICE). -/
def slotRead (p : Nat) (s : State) : State :=
  s.setPlate p ((sdramWords s p).set 59 (s.plateWord p 59))

/-- Plate `p` has left the cache: no plaintext of its key fields is left on chip. -/
def zeroKeyWords (p : Nat) (s : State) : State :=
  s.each (List.range' 4 15) fun w s => s.setPlateWord p w 0

/-- The plates whose slots lie below node `i` of level `k` of channel `c`. -/
def platesBelow (s : State) (c k i : Nat) : List Nat :=
  (List.range (plateCapacity s)).filter fun p => plateChannel s p == c && plateSlot s p / 8 ^ k == i

/-- The subtree from node `i` of level `k` of channel `c` is zero again (R129). -/
def zeroSubtree (c k i : Nat) (s : State) : State :=
  let below := fun (n : Nat) => n / 2 ^ 32 == c && decide (n / 2 ^ 26 % 64 ≤ k) && n % 2 ^ 26 / 8 ^ (k - n / 2 ^ 26 % 64) == i
  let line := fun (n : Nat) => n / 2 ^ 27 == c && n % 2 ^ 27 / 4 / 8 ^ k == i
  { s with plc := { s.plc with
    counts := Tab.clear below s.plc.counts
    nodeMacs := Tab.clear below s.plc.nodeMacs
    tree := Tab.update [] (fun l => l.filter fun x => !below x.1) s.plc.tree
    lines := Tab.clear line s.plc.lines
    versions := Tab.clear line s.plc.versions
    lineMacs := Tab.clear line s.plc.lineMacs } }

end Sys2Proof.Machine
end

