-- ==== Sys2Proof/Machine/Plates.lean ====
section
/-! DEFINITION. Plates and placement (05_plates_and_placement.md): references, the plate cache and its
evictions, the miss queues, integrity faults, recycles, snapshots and drains. -/

namespace Sys2Proof.Machine

/-- Ways of the set-associative part (R132), and places of the pinned region (R123). -/
def cacheWays (s : State) : Nat := 16 - s.fld 0x030000 21 19
def pinPlaces (s : State) : Nat := 16384 * s.fld 0x030000 21 19

/-- Plates in the pinned region. -/
def pinUse (s : State) : Nat :=
  (s.plc.cache.filter fun (_, l) => match l with | some x => x.pinned | none => false).length

/-- Entries that hold a plate or outgoing content (PLC_STAT.RESIDENT). -/
def cacheUse (s : State) : Nat :=
  (if noSdram s then (if s.bit 0x030001 23 then 131072 else 0) else s.plc.cache.length) + s.plc.outgoing.length

/-- The domain whose plate `p` is; `none` for a plate never installed, and for one that a tree fault has left without a record
(R121, R129). -/
def plateOwner (s : State) (p : Nat) : Option Nat :=
  if (plateState s p = 0 ∧ plateGen s p = 0) ∨ 256 < plateDom s p then none else some (plateDom s p)

/-- The plates that hold a cache entry; with no SDRAM every installed plate does (R125). -/
def heldPlates (s : State) : List Nat :=
  if noSdram s then (s.plc.words.map fun x => x.1 / 64).dedup else s.plc.cache.map (·.1)

/-- Entries held by domain `t` (PLC_Tt_OCC), those in the pinned region among them (log 143, DESIGN CHOICE). -/
def occupancy (s : State) (t : Nat) : Nat :=
  ((heldPlates s).filter fun p => plateOwner s p == some t).length
    + (s.plc.outgoing.filter fun (_, l) => Word.slice (l.getD 2 0) 8 0 == t).length

/-- PLC_Tt_SHARE in entries. -/
def share (s : State) (t : Nat) : Nat := if t ≤ 256 then 64 * s.fld (0x030100 + 2 * t) 11 0 else 0

/-! ### References (R120, R122) -/

/-- Whether generation `g` of plate `p` is its current content. -/
def plateCurrent (s : State) (p g : Nat) : Bool :=
  (plateGen s p == g && (plateState s p == 1 || plateState s p == 2)) || Tab.get [] s.plc.outgoing p == []

/-- The content that a frame bound to generation `g` uses (R17, R120). -/
def plateContent (s : State) (p g : Nat) : List Word :=
  if plateCurrent s p g then s.plateWords p else Tab.get [] s.plc.outgoing p

/-- The outgoing entry is freed and its key fields are zeroed with it (R122). -/
def freeOutgoing (p : Nat) (s : State) : State :=
  { s with plc := { s.plc with
      outgoing := Tab.set [] s.plc.outgoing p [], outWay := Tab.set none s.plc.outWay p none } }

/-- A reference more to generation `g` of plate `p`. -/
def addRef (p g : Nat) (s : State) : State :=
  if plateCurrent s p g then { s with plc := { s.plc with refs := Tab.set 0 s.plc.refs p (Tab.get 0 s.plc.refs p + 1) } }
  else { s with plc := { s.plc with outRefs := Tab.set 0 s.plc.outRefs p (Tab.get 0 s.plc.outRefs p + 1) } }

/-- A reference less; the last one to outgoing content frees it (R122). -/
def dropRef (p g : Nat) (s : State) : State :=
  if plateCurrent s p g then { s with plc := { s.plc with refs := Tab.set 0 s.plc.refs p (Tab.get 0 s.plc.refs p - 1) } }
  else
    let n := Tab.get 0 s.plc.outRefs p - 1
    let s := { s with plc := { s.plc with outRefs := Tab.set 0 s.plc.outRefs p n } }
    if n = 0 then freeOutgoing p s else s

/-- Writes word `w` of the content that generation `g` uses. -/
def writeContent (p g w : Nat) (v : Word) (s : State) : State :=
  if plateCurrent s p g then s.setPlateWord p w v
  else { s with plc := { s.plc with outgoing := Tab.set [] s.plc.outgoing p ((Tab.get [] s.plc.outgoing p).set w v) } }

/-- A 64-bit value written to three words of that content. -/
def writeContent64 (p g w v : Nat) (s : State) : State :=
  s.each (List.range 3) fun i s => writeContent p g (w + i) (BitVec.ofNat 24 (v % 2 ^ 64 / 2 ^ (24 * i))) s

/-- Plate `p`'s content has changed: its cache entry is dirty; of a plate that is not resident the slot is written. -/
def dirtyPlate (p : Nat) (s : State) : State :=
  match Tab.get none s.plc.cache p with
  | some l => { s with plc := { s.plc with cache := Tab.set none s.plc.cache p (some { l with dirty := true }) } }
  | none => if noSdram s then s else writeBack p s

/-- A span uses plate `p` in this stroke: its score increments once per stroke, to 255. -/
def usePlate (p : Nat) (s : State) : State :=
  if s.plc.used.contains p then s
  else { s.putPlate p 59 23 16 (min 255 (s.plateFld p 59 23 16 + 1)) with plc :=
    { (s.putPlate p 59 23 16 (min 255 (s.plateFld p 59 23 16 + 1))).plc with used := s.plc.used ++ [p] } }

/-! ### Evictions (R132, R133) -/

/-- Whether a change of plate `p` awaits its effective stroke. -/
def changeAwaits (s : State) (p : Nat) : Bool := s.setup.any fun c => c.kind == 0 && c.num == p

/-- The plates of a set that lie in the set-associative part, with their entries. -/
def setLines (s : State) (set : Nat) : List (Nat × Line) :=
  s.plc.cache.filterMap fun (p, l) => match l with
    | some x => if !x.pinned && plateSet s p == set then some (p, x) else none
    | none => none

/-- The ways of a set that are in use: plates, outgoing content, and fetches that have claimed theirs. -/
def waysUsed (s : State) (set : Nat) : List Nat :=
  (setLines s set).map (fun (_, l) => l.way)
    ++ (s.plc.outWay.filterMap fun (p, w) => if plateSet s p == set then w else none)
    ++ (s.plc.queue.filterMap fun m => if m.started.isSome && plateSet s m.plate == set then some m.way else none)

/-- Whether an entry may be evicted (R133). -/
def evictable (s : State) (p : Nat) : Bool := Tab.get 0 s.plc.refs p == 0 && !changeAwaits s p

/-- The least of a list of candidates by score, then clean before dirty, then the lower way. -/
def leastOf (s : State) : List (Nat × Line) → Option (Nat × Line)
  | [] => none
  | c :: t =>
    match leastOf s t with
    | none => some c
    | some d =>
      let key := fun (x : Nat × Line) => (s.plateFld x.1 59 23 16, (if x.2.dirty then 1 else 0), x.2.way)
      let (a1, a2, a3) := key c
      let (b1, b2, b3) := key d
      if a1 < b1 ∨ (a1 = b1 ∧ (a2 < b2 ∨ (a2 = b2 ∧ a3 ≤ b3))) then some c else some d

/-- The victim of a miss by domain `dom` in a set (R133). -/
def victim (s : State) (set dom : Nat) : Option (Nat × Line) :=
  let cs := (setLines s set).filter fun (p, _) => evictable s p
  let own := cs.filter fun (p, _) => plateOwner s p == some dom
  let above := cs.filter fun (p, _) => match plateOwner s p with | some t => decide (share s t < occupancy s t) | none => false
  let first := if share s dom ≤ occupancy s dom then leastOf s own else none
  first <|> leastOf s above <|> leastOf s cs

/-- Plate `p` leaves the cache; its key fields are left in SDRAM alone. -/
def uncache (p : Nat) (s : State) : State :=
  zeroKeyWords p { s with plc := { s.plc with cache := Tab.set none s.plc.cache p none } }

/-- A way of `p`'s set for a miss of domain `dom`: a free one, or that of a victim, which is written back if dirty and
leaves the cache (R133); `none` where no way is evictable. -/
def claimWay (p dom : Nat) (s : State) : Option (Nat × State) :=
  let set := plateSet s p
  match (List.range (cacheWays s)).find? fun w => !(waysUsed s set).contains w with
  | some w => some (w, s)
  | none =>
    match victim s set dom with
    | none => none
    | some (v, l) =>
      let s := if l.dirty then plcCount 5 (writeBack v s) else plcCount 4 s
      some (l.way, uncache v s)

/-! ### Fetches (R135, R136) -/

/-- Why a plate is asked for. -/
inductive Ask where
  | lookAhead
  | demand
  | snapshot
deriving DecidableEq, Repr

/-- Depth of the miss queue of channel `c` (PLC_MISSQc). -/
def missDepth (s : State) (c : Nat) : Nat := (s.plc.queue.filter fun m => plateChannel s m.plate == c).length

/-- A fetch enters its queue: one MISS, and a PREFETCH where a look-ahead started it. -/
def queueFetch (p dom : Nat) (why : Ask) (s : State) : State :=
  let s := plcCount 1 s
  let s := s.onlyIf (why == .lookAhead) (plcCount 2)
  let s := s.pmcEvent { code := 0x15, src := some (0x90 + plateChannel s p), dom := some (plateDom s p) }
  { s with plc := { s.plc with queue := s.plc.queue ++ [⟨p, s.tick, none, 0, false, dom, why == .snapshot⟩] } }

/-- A request for plate `p` by domain `dom` (R133, R135): nothing for a resident plate or one being fetched; a look-ahead that finds
the queue full is discarded, every other fetch waits. -/
def requestPlate (p dom : Nat) (why : Ask) (s : State) : State :=
  if resident s p then s
  else if (s.plc.queue ++ s.plc.waiting).any (·.plate == p) then
    if why == .snapshot then s
    else { s with plc := { s.plc with
      queue := s.plc.queue.map fun m => if m.plate = p then { m with slow := false } else m
      waiting := s.plc.waiting.map fun m => if m.plate = p then { m with slow := false } else m } }
  else if 4096 ≤ missDepth s (plateChannel s p) then
    if why == .lookAhead then plcCount 3 s
    else { s with plc := { s.plc with waiting := s.plc.waiting ++ [⟨p, s.tick, none, 0, false, dom, why == .snapshot⟩] } }
  else queueFetch p dom why s

/-- A look-ahead (R83, R135): it starts a fetch with PF_EN = 1. -/
def lookAhead (p dom : Nat) (s : State) : State := if s.bit 0x030000 22 then requestPlate p dom .lookAhead s else s

/-- Requests that wait enter their queue as soon as an entry is free, in order (R135). -/
def admitWaiting (s : State) : State :=
  match s.plc.waiting.find? fun m => decide (missDepth s (plateChannel s m.plate) < 4096) with
  | none => s
  | some m => plcCount 1 { s with plc := { s.plc with waiting := s.plc.waiting.erase m, queue := s.plc.queue ++ [m] } }

/-- Whether plate `p` belongs in the pinned region (R125). -/
def wantsPin (s : State) (p : Nat) : Bool := s.plateFld p 0 11 11 == 1 || s.plateFld p 0 13 13 == 1

/-- A fetch of channel `c` may start in this stroke's cell: GUARANTEED for a miss, CONTROL, BACKGROUND or URGENT for a
snapshot's; not while the channel is drained (R364). (log 81, DEDUCED) -/
def fetchCell (s : State) (c : Nat) (m : Miss) : Bool :=
  let k := s.cell (110 + c)
  if m.slow then k == 1 || k == 3 || k == 4 else k == 0

/-- The fetch of plate `p` has begun in this stroke's cell, with the way it fills. -/
def beginFetch (p way : Nat) (s : State) : State :=
  { s with plc := { s.plc with
    queue := s.plc.queue.map fun m => if m.plate = p then { m with started := some s.tick, way := way } else m } }

/-- Whether plate `p` would enter the pinned region now. -/
def entersPinned (s : State) (p : Nat) : Bool := wantsPin s p && decide (pinUse s < pinPlaces s)

/-- PLATE_FETCH: the first fetch of channel `c` that has not begun runs in its cell, claiming a way and evicting a victim
if needed (R133). If no way is evictable it waits at the head. -/
def plateFetch (c : Nat) (s : State) : State :=
  match s.plc.queue.find? fun m => plateChannel s m.plate == c && m.started.isNone && fetchCell s c m with
  | none => s
  | some m =>
    let s := s.pmcEvent { code := 0x22, src := some (0x90 + c), cls := some (s.cell (110 + c)) }
    if entersPinned s m.plate then beginFetch m.plate 16 s
    else match claimWay m.plate m.dom s with
      | none => s
      | some (w, s) => beginFetch m.plate w s

/-- A plate becomes DAMAGED, unless it is RECYCLING (R129). -/
def damagePlate (p : Nat) (s : State) : State :=
  if plateState s p = 3 then s
  else (plcCount 7 (changePlate p (·.putPlate p 0 23 21 2) s)).raise 0x030002 0

/-- An uncorrectable beat of channel `c` (R129, R142). -/
def beatFault (c : Nat) (beat : Bool) (s : State) : State :=
  s.onlyIf beat fun s => (sdcCount c 2 s).raise (sdcReg c 2) 2

/-- Beats corrected on channel `c`, in data and in check bits (R129, R142). -/
def corrected (c data check : Nat) (s : State) : State :=
  if data + check = 0 then s
  else (sdcCount c 1 (sdcCount c 0 s data) check).raise (sdcReg c 2) 1

/-- A MAC mismatch of a line of plate `p` (R129). -/
def lineFault (p : Nat) (s : State) : State :=
  pptFire 48 ((dirtyPlate p (damagePlate p (sdcCount (plateChannel s p) 3 s))).raise 0x030002 4)

/-- A plate below a failed node that is not resident (R129): DAMAGED with no record of its past; a RECYCLING one stays so. -/
def forgetPlate (p : Nat) (s : State) : State :=
  if plateState s p = 3 then s
  else
    let s := changePlate p (fun s => s.setPlate p ((List.range 64).map fun w =>
      if w = 0 then BitVec.ofNat 24 (2 * 2 ^ 21) else if w = 2 then 0x1FF else 0)) s
    (plcCount 7 s).raise 0x030002 0

/-- A MAC mismatch of node `i` of level `k` of channel `c`, the leaves being level 0 (R129): the subtree is rebuilt from zero; of the
plates below it the resident ones are written back, every other one has lost its content. -/
def treeFault (c k i : Nat) (s : State) : State :=
  let s := (sdcCount c 4 s).raise 0x030002 5
  let below := platesBelow s c k i
  let s := s.each below fun p s => if (Tab.get none s.plc.cache p).isSome then s else forgetPlate p s
  let s := zeroSubtree c k i s
  pptFire 48 (s.each below writeBack)

/-- Plate `p` enters the cache in way `w` (16 = the pinned region). Its score is halved once, and its misses count. -/
def enterCache (p w : Nat) (s : State) : State :=
  let s := (s.putPlate p 59 23 16 (s.plateFld p 59 23 16 / 2)).putPlate p 59 15 0 (min 0xFFFF (s.plateFld p 59 15 0 + 1))
  { s with plc := { s.plc with cache := Tab.set none s.plc.cache p (some ⟨w == 16, if w = 16 then 0 else w, false⟩) } }

/-- Whether the fetch of plate `p` has had its cell and its verification: two strokes after the cell began (R135's
example). -/
def fetchReady (s : State) (p : Nat) : Option Miss :=
  s.plc.queue.find? fun m => m.plate == p && (match m.started with | some k => decide (k + 2 ≤ s.tick) | none => false)

/-- The fetch of plate `p` reads its slot, and finds what `r` says (R126–R129, R136). A plate below a node never written reads as
EMPTY and fetches nothing (R128). TREE_HIT counts a fetch whose leaf the tree cache holds (log 141, DESIGN CHOICE). -/
def slotFetch (p : Nat) (r : FetchCheck) (s : State) : State :=
  let c := plateChannel s p
  let i := plateSlot s p
  if nodeCount s c 0 i = 0 then slotRead p s
  else
    let path := treePath s c i 10 0
    let s := sdcCount c (if nodeCached s c 0 i then 7 else 8) (sdcLines c false (3 + path.length) s)
    match r with
    | .verified d k => slotRead p (treeEnter c i path (corrected c d k s))
    | .lineFail beat => lineFault p (treeEnter c i path (beatFault c beat s))
    | .treeFail k beat =>
      if path.contains k then treeFault c k (i / 8 ^ k) (beatFault c beat s) else slotRead p (treeEnter c i path s)

/-- PLATE_FETCH_DONE (R126–R129, R136): the lines verify and the plate is resident, or a fault makes plates DAMAGED. -/
def plateFetchDone (p : Nat) (r : FetchCheck) (s : State) : State :=
  match fetchReady s p with
  | none => s
  | some m =>
    let s := { s with plc := { s.plc with queue := s.plc.queue.filter (·.plate != p) } }
    let s := slotFetch p r (admitWaiting s)
    (enterCache p m.way s).pmcLatency 2 (1000 * (s.tick - m.since)) (some (plateDom s p)) none

/-- A plate whose change takes effect now is resident by now (R120): a fetch that has not ended by its own ends here, if its set has a
way (log 144, DESIGN CHOICE). -/
def makeResident (p dom : Nat) (s : State) : State :=
  if resident s p then s
  else
    let claimed := (s.plc.queue.find? fun m => m.plate == p && m.started.isSome).map (·.way)
    let s := { s with plc := { s.plc with
      queue := s.plc.queue.filter (·.plate != p), waiting := s.plc.waiting.filter (·.plate != p) } }
    match claimed with
    | some w => enterCache p w (slotFetch p (.verified 0 0) s)
    | none =>
      if entersPinned s p then enterCache p 16 (slotFetch p (.verified 0 0) s)
      else match claimWay p dom s with
        | some (w, s) => enterCache p w (slotFetch p (.verified 0 0) s)
        | none => s

/-- MISS_LATE (R136): a fetch, whatever asked for it and whether it is in its queue or still waits for an entry, that is not finished
8 strokes after its request. -/
def missLate (p : Nat) (s : State) : State :=
  if (s.plc.queue ++ s.plc.waiting).any fun m => m.plate == p && !m.late && decide (m.since + 8 < s.tick) then
    let late := fun (m : Miss) => if m.plate = p then { m with late := true } else m
    (plcCount 9 { s with plc := { s.plc with queue := s.plc.queue.map late, waiting := s.plc.waiting.map late } }).raise 0x030002 3
  else s

/-- SCORE_HALVING: at a boundary whose stroke number is a multiple of 2^AGE_SHIFT. -/
def scoreHalving (s : State) : State :=
  if s.stk.time.num.toNat % 2 ^ s.fld 0x030000 15 11 = 0 ∧ !s.stk.done.contains 0 then
    let s := { s with stk := { s.stk with done := 0 :: s.stk.done } }
    s.each s.plc.cache fun (p, _) s => s.putPlate p 59 23 16 (s.plateFld p 59 23 16 / 2)
  else s

/-! ### The pinned region (R125) -/

/-- Plate `p` leaves the pinned region for a way of its set, with its own domain as the requesting domain. -/
def leavePinned (p : Nat) (s : State) : State :=
  match Tab.get none s.plc.cache p with
  | some l =>
    if l.pinned && !wantsPin s p then
      match claimWay p (plateDom s p) s with
      | none => s
      | some (w, s) => { s with plc := { s.plc with cache := Tab.set none s.plc.cache p (some ⟨false, w, l.dirty⟩) } }
    else s
  | none => s

/-- A resident plate that now belongs in the pinned region moves there. -/
def enterPinned (p : Nat) (s : State) : State :=
  match Tab.get none s.plc.cache p with
  | some l =>
    if !l.pinned && entersPinned s p then
      { s with plc := { s.plc with cache := Tab.set none s.plc.cache p (some ⟨true, 0, l.dirty⟩) } }
    else s
  | none => s

/-! ### Plate commands (R120–R122) -/

/-- The current content becomes outgoing: it serves the frames bound before (R120, R122), in an entry of its set, for which another
plate is evicted if no way is free (R132). Without references it is freed at once. (log 82, DESIGN CHOICE) -/
def makeOutgoing (p : Nat) (s : State) : State :=
  let n := Tab.get 0 s.plc.refs p
  if n = 0 then s
  else
    let (w, s) := if noSdram s then (none, s) else match claimWay p (plateDom s p) s with
      | some (w, s) => (some w, s)
      | none => (none, s)
    { s with plc := { s.plc with
        outgoing := Tab.set [] s.plc.outgoing p (s.plateWords p), outRefs := Tab.set 0 s.plc.outRefs p n,
        refs := Tab.set 0 s.plc.refs p 0, outWay := Tab.set none s.plc.outWay p w } }

/-- The last PN of a suite (R101). (log 76, DEDUCED) -/
def lastPn (suite : Nat) : Nat := if suite < 2 then 0xFFFFFFFF else 2 ^ 64 - 1

/-- Whether the domain test of R121 lets `dom` install plate `p`. (log 79, DEDUCED) -/
def installDomainOk (s : State) (p dom : Nat) : Bool :=
  (plateState s p == 0 && plateGen s p == 0) || plateDom s p == dom || (plateState s p == 2 && plateDom s p == 0x1FF && dom == 256)

/-- The domain test for PLATE_RETIRE, PLATE_RECYCLE and PLATE_READ (R121): OWN may act on any plate. -/
def plateDomainOk (s : State) (p dom : Nat) : Bool :=
  dom == 256 || (plateState s p == 0 && plateGen s p == 0) || plateDom s p == dom

/-- S of the switch whose shadow content plate `p` holds, if its slot is ARMED or COMMITTED (R120). -/
def shadowStroke (s : State) (p : Nat) : Option Nat :=
  (s.setup.find? fun c => c.kind == 0 && c.num == p && (match c.eff with
    | .slot k => swState s k == 1 || swState s k == 2
    | .stroke _ => false)).bind fun c => match c.eff with
      | .slot k => some (timeAt s (swReg k 2)).toNat
      | .stroke _ => none

/-- Plate `p` holds shadow content of a switch, and a change that takes effect at `eff` would come before it (R120). -/
def shadowBusy (s : State) (p : Nat) (eff : Option Nat) : Bool :=
  match shadowStroke s p, eff with
  | some t, some e => decide (e < t)
  | _, _ => false

/-- The one-outgoing rule and the rule for shadow content (R120), for a change that takes effect at `eff`. -/
def plateBusy (s : State) (p : Nat) (eff : Option Nat) : Bool :=
  Tab.get [] s.plc.outgoing p != [] || shadowBusy s p eff

/-- The checks of PLATE_INSTALL (R120, R121), in the order listed; the suite of the plate and of its channel are given. -/
def installCheck (s : State) (p dom suite chanSuite : Nat) (eff : Option Nat) : Nat :=
  if plateState s p = 3 then stBUSY
  else if plateGen s p = 0xFFFFFF then stGEN
  else if Tab.get [] s.plc.outgoing p ≠ [] then stBUSY
  else if 3 < suite ∨ suite ≠ chanSuite then stFORMAT
  else if !installDomainOk s p dom then stRIGHTS
  else if plateBusy s p eff then stBUSY
  else stOK

/-- The checks of PLATE_RETIRE (R120, R121). -/
def retireCheck (s : State) (p dom : Nat) (eff : Option Nat) : Nat :=
  if plateState s p ≠ 1 ∧ plateState s p ≠ 2 then stBUSY
  else if !plateDomainOk s p dom then stRIGHTS
  else if plateBusy s p eff then stBUSY else stOK

/-- The checks of PLATE_RECYCLE. -/
def recycleCheck (s : State) (p dom : Nat) (eff : Option Nat) : Nat :=
  if plateState s p = 3 then stBUSY
  else if !plateDomainOk s p dom then stRIGHTS
  else if plateBusy s p eff then stBUSY else stOK

/-- PLATE_INSTALL at its effective stroke (R120): GEN + 1, the new content ACTIVE. `l` holds what the command and the
keystone wrote; what the device writes at install is set here. -/
def installEffect (p dom : Nat) (l : List Word) (s : State) : State :=
  let gen := plateGen s p
  let d := if gen = 0 then dom else plateDom s p
  let pinned := s.plateFld p 0 11 11
  let recycle := s.plateFld p 0 7 0
  let use := s.plateWord p 59
  let s := makeOutgoing p s
  changePlate p (fun s =>
    let s := s.setPlate p l
    let s := (((s.putPlate p 0 23 21 1).putPlate p 0 11 11 pinned).putPlate p 0 7 0 recycle).setPlateWord p 59 (BitVec.ofNat 24 (use.toNat / 2 ^ 16 * 2 ^ 16))
    (s.setPlateWord p 1 (BitVec.ofNat 24 (gen + 1))).setPlateWord p 2 (BitVec.ofNat 24 d)) (plcCount 10 { s with plc := { s.plc with
      extending := Tab.set none s.plc.extending p none, exhausted := s.plc.exhausted.filter fun x => x != (p, gen + 1) } })
    |> dirtyPlate p

/-- PLATE_RETIRE at its effective stroke: EMPTY, GEN kept. Only the outgoing content still has the key (R122). -/
def retireEffect (p : Nat) (s : State) : State :=
  dirtyPlate p (zeroKeyWords p (changePlate p (·.putPlate p 0 23 21 0) (makeOutgoing p s)))

/-- PLATE_RECYCLE at its effective stroke: RECYCLING. -/
def recycleEffect (p : Nat) (s : State) : State :=
  let s := dirtyPlate p (zeroKeyWords p (changePlate p (·.putPlate p 0 23 21 3) (makeOutgoing p s)))
  { s with plc := { s.plc with recycles := Tab.set 0 s.plc.recycles p s.tick } }

/-- A plate command that fails at its effective stroke has no effect (R120): VOID. -/
def plateVoid (s : State) : State := (plcCount 12 s).raise 0x030002 6

/-- RECYCLE_COMPLETE (R122): at the first boundary at least 2 strokes after the effective stroke with no outgoing
reference. With every other word the other fields of PL_CTL are zeroed too (log 145, DESIGN CHOICE). -/
def recycleComplete (p : Nat) (s : State) : State :=
  if plateState s p = 3 ∧ Tab.get 0 s.plc.recycles p + 2 ≤ s.tick ∧ Tab.get [] s.plc.outgoing p = [] then
    let n := s.plateFld p 0 7 0
    let s := changePlate p (fun s => s.setPlate p ((List.range 64).map fun w =>
      if w = 0 then BitVec.ofNat 24 ((n + 1) % 256) else 0)) s
    let s := { s with plc := { s.plc with recycles := Tab.set 0 s.plc.recycles p 0 } }
    (plcCount 11 (dirtyPlate p s)).raise 0x030002 1
  else s

/-! ### Snapshot, drain, background tasks -/

/-- PLC_PWIN_CTL.GO (R141): discarded while BUSY; an index at or above the capacity sets ERR. -/
def snapshotGo (s : State) : State :=
  let p := (s.rd 0x030030).toNat
  if s.bit 0x030031 22 then s
  else if plateCapacity s ≤ p then s.wr 0x030031 0x200000
  else requestPlate p 512 .snapshot ({ s with plc := { s.plc with snapshot := some p } }.wr 0x030031 0x400000)

/-- SNAPSHOT_TAKEN: all 64 words at one boundary, once the plate is resident; the key fields read 0 (R119). -/
def snapshotTake (s : State) : State :=
  match s.plc.snapshot with
  | none => s
  | some p =>
    if resident s p then
      let s := { s with plc := { s.plc with snapshot := none } }
      (s.each (List.range 64) fun w s => s.wr (0x030040 + w) (if (4 ≤ w ∧ w ≤ 18) ∨ !memoriesShown s then 0 else s.plateWord p w)).wr 0x030031 0
    else s

/-- The plates of channel `c` that are not EMPTY. -/
def channelPlates (s : State) (c : Nat) : List Nat :=
  ((s.plc.words.filterMap fun (k, _) => if k % 64 = 0 then some (k / 64) else none).filter fun p =>
    plateState s p != 0 && plateChannel s p == c)

/-- SDC_c_SPARE: the slots of 256 bytes beyond the channel's need at the present CAP_LOG, at most what the field holds
(log 56, DEDUCED). -/
def spareSlots (s : State) (c : Nat) : Nat :=
  let gib := [0, 2, 3, 4, 6, 8].getD (s.fld (sdcReg c 0) 15 12) 0
  let k := s.fld 0x030000 4 0 - 1
  min (2 ^ 24 - 1) ((gib * 2 ^ 30 - (2 ^ k * 256 + 64 * upperNodes (2 ^ k) ((k + 2) / 3))) / 256)

/-- The spare slots of the other channel hold the plates of channel `c` (R139). -/
def drainFits (s : State) (c : Nat) : Bool := decide ((channelPlates s c).length ≤ spareSlots s (1 - c))

/-- SDC_c_CFG.DRAIN is written 1, and the drain is accepted (R139). -/
def drainStart (c : Nat) (s : State) : State :=
  ((s.put (sdcReg c 0) 11 11 1).put (sdcReg c 1) 20 20 0).put (sdcReg c 1) 22 22 1

/-- The lowest spare slot of channel `c` that holds no plate. -/
def freeSlot (s : State) (c : Nat) : Nat :=
  let used := s.plc.moved.filterMap fun (p, m) => if plateChannel s p = c then m else none
  ((List.range (used.length + 1)).find? fun i => !used.contains i).getD 0

/-- Plate `p`'s slot becomes spare slot `i` of the other channel, or its own again: its content is read and written anew under the
keys and the tree of the channel that it goes to (R139). -/
def moveSlot (p : Nat) (i : Option Nat) (s : State) : State :=
  let l := tierWords s p
  let s := sdcLines (plateChannel s p) false 4 s
  slotWrite p l { s with plc := { s.plc with moved := Tab.set none s.plc.moved p i } }

/-- One plate of a draining channel moves, in a BACKGROUND or URGENT cell of both columns (R139). -/
def drainMove (c : Nat) (s : State) : State :=
  let cellOk := fun k => s.cell (110 + k) == 3 || s.cell (110 + k) == 4
  if s.bit (sdcReg c 1) 22 && cellOk 0 && cellOk 1 then
    match channelPlates s c with
    | p :: _ => moveSlot p (if permuted s p % 2 = c then some (freeSlot s (1 - c)) else none) s
    | [] => s
  else s

/-- DRAINED (R139): the channel holds no plate. -/
def drainDone (c : Nat) (s : State) : State :=
  if s.bit (sdcReg c 1) 22 && (channelPlates s c).isEmpty then
    ((s.put (sdcReg c 1) 22 22 0).put (sdcReg c 1) 21 21 1).raise (sdcReg c 2) 3
  else s

/-- SDC_c_CFG.DRAIN is written 0 (R364): plates return, and DRAINED clears at once. The drain of a channel not retrained
simply ends. -/
def drainReturn (c : Nat) (s : State) : State :=
  ((s.put (sdcReg c 0) 11 11 0).put (sdcReg c 1) 22 22 0).put (sdcReg c 1) 21 21 0

/-- One plate returns to channel `c` (R364). -/
def returnMove (c : Nat) (s : State) : State :=
  let cellOk := fun k => s.cell (110 + k) == 3 || s.cell (110 + k) == 4
  if !s.bit (sdcReg c 0) 11 && cellOk 0 && cellOk 1 then
    match s.plc.moved.find? fun (p, m) => m.isSome && permuted s p % 2 == c with
    | some (p, _) => moveSlot p none s
    | none => s
  else s

/-- Background task `t` may use this stroke's cell of column `col` (R44, R63). A pier's own work takes its CONTROL cells; an SDRAM
column has no CONTROL work. -/
def taskCell (s : State) (t col : Nat) : Bool :=
  taskTakes s t (s.cell col) (decide (44 ≤ col ∧ col < 110) && s.fld (coreReg (col - 43) 1) 23 21 == 1)

/-- A task has visited an item. Whether it was the round's last is not observable but through this: a free bit (log 4, DESIGN CHOICE). (log 80, DESIGN CHOICE) -/
def taskItem (t : Nat) (s : State) : State :=
  let (k, s) := s.useFree
  if Config.freeBit k then taskRound t s else s

/-- Task 0 (R64, R129): one slot's lines of channel `c` are read, checked and corrected; a line with a corrected beat is written
again unchanged. SDC_c_SCRUB follows. -/
def scrubSlot (c p : Nat) (r : LineCheck) (s : State) : State :=
  if !taskCell s 0 (110 + c) then s
  else
    let s := sdcLines c false 4 s
    let s := match r with
      | .good => s
      | .correctedData => sdcLines c true 1 (corrected c 1 0 s)
      | .correctedCheck => sdcLines c true 1 (corrected c 0 1 s)
      | .lineFail beat => lineFault p (beatFault c beat s)
      | .leafFail beat => treeFault c 0 (plateSlot s p) (beatFault c beat s)
    let slots := plateCapacity s / 2
    let n := (permuted s p / 2 + 1) % slots
    let s := s.wr (sdcReg c 0x20) (BitVec.ofNat 24 (n % 2 ^ 23))
    if n = 0 then taskRound 0 s else s

/-- Task 1 (R135): a dirty cached plate is written back and stays resident and clean. -/
def writeBackTask (p : Nat) (s : State) : State :=
  match Tab.get none s.plc.cache p with
  | some l =>
    if l.dirty && taskCell s 1 (110 + plateChannel s p) then
      let s := plcCount 6 (writeBack p { s with plc := { s.plc with
        cache := Tab.set none s.plc.cache p (some { l with dirty := false }) } })
      if s.plc.cache.any fun (_, x) => match x with | some y => y.dirty | none => false then s else taskRound 1 s
    else s
  | none => s

/-- Task 2 (R64, R129): a cached tree node, `i` of level `k`, is verified again against its parent. -/
def treeRefresh (c k i : Nat) (ok : Bool) (s : State) : State :=
  if !taskCell s 2 (110 + c) || !nodeCached s c k i then s
  else taskItem 2 (if ok then s else treeFault c k i s)

/-- Task 3 (R64, R129): a plate-cache entry is read and corrected; an uncorrectable clean one is dropped and fetched
again, an uncorrectable dirty one makes its plate DAMAGED. -/
def cacheScrub (p : Nat) (bad : Bool) (s : State) : State :=
  if !(taskCell s 3 110 || taskCell s 3 111) then s
  else
    let s := match Tab.get none s.plc.cache p with
      | some l =>
        if !bad then s
        else if l.dirty then damagePlate p s
        else requestPlate p (plateDom s p) .demand (uncache p s)
      | none => s
    taskItem 3 s

/-- A write of PLC_EVT, and of SDC_c_EVT (R141, R142). -/
def plcEvtWrite (w : Word) (s : State) : State :=
  let s := s.wr 0x030002 (s.rd 0x030002 &&& ~~~ (w &&& 0x00007F))
  s.onlyIf (Word.bit w 23) (·.zero 0x030010 26)
def sdcEvtWrite (c : Nat) (w : Word) (s : State) : State :=
  let s := s.wr (sdcReg c 2) (s.rd (sdcReg c 2) &&& ~~~ (w &&& 0x00000F))
  s.onlyIf (Word.bit w 23) (·.zero (sdcReg c 8) 18)

/-- The largest CAP_LOG whose need fits the SDRAM of both channels (R131). -/
def capMax (s : State) : Nat :=
  match min (s.fld (sdcReg 0 0) 15 12) (s.fld (sdcReg 1 0) 15 12) with
  | 0 => 17
  | 1 => 23
  | _ => 24

/-- A write of PLC_CFG (R123, R141): CAP_LOG and PIN_WAYS under the lock; a CAP_LOG beyond R131 is discarded with CAP_ERR. -/
def plcCfgWrite (keep : Bool) (w : Word) (s : State) : State :=
  let a := 0x030000
  let s := s.put a 22 22 (Word.slice w 22 22)
  let s := s.onlyIf (decide (10 ≤ Word.slice w 15 11 ∧ Word.slice w 15 11 ≤ 20)) (·.put a 15 11 (Word.slice w 15 11))
  let s := if s.bit a 23 then s else
    let s := s.onlyIf (decide (Word.slice w 21 19 ≤ 4)) (·.put a 21 19 (Word.slice w 21 19))
    let cap := Word.slice w 4 0
    if cap < 17 ∨ 24 < cap then s
    else if capMax s < cap then s.put 0x030001 22 22 1
    else (s.put a 4 0 cap).put 0x030001 22 22 0
  s.onlyIf (keep && Word.bit w 23) (·.put a 23 23 1)

/-- Whether domain `t` may have the share `v` (R134): the shares stay within the entries of the set-associative part. -/
def shareFits (s : State) (t v : Nat) : Bool :=
  decide (64 * ((List.range 257).map fun u => if u = t then v else s.atMost (0x030100 + 2 * u)).sum ≤ 16384 * cacheWays s)

end Sys2Proof.Machine
end

