-- ==== Sys2Proof/Machine/Deck.lean ====
section
/-! DEFINITION. The deck (03_ports_and_deck.md): cells and quotas, frames, drops, PAUSE, control queues, egress. -/

namespace Sys2Proof.Machine

/-! ### CRC-32 (assumption log 6, PRESUMED) -/

/-- One bit of the CRC-32 of IEEE 802.3, least significant bit first. -/
def crcBit (c : BitVec 32) : BitVec 32 := if c.getLsbD 0 then (c >>> 1) ^^^ 0xEDB88320 else c >>> 1

/-- One byte. -/
def crcByte (c : BitVec 32) (b : Byte) : BitVec 32 :=
  (List.range 8).foldl (fun c _ => crcBit c) (c ^^^ b.setWidth 32)

/-- The CRC-32 of a byte string. -/
def crc32 (b : Bytes) : BitVec 32 := ~~~ b.foldl crcByte 0xFFFFFFFF

/-- A frame with its FCS appended, first octet first. -/
def withFcs (b : Bytes) : Bytes :=
  let c := crc32 b
  b ++ [c.setWidth 8, (c >>> 8).setWidth 8, (c >>> 16).setWidth 8, (c >>> 24).setWidth 8]

/-! ### Registers -/

/-- PRT registers of group `g`; of port `p` of group `g`; of lane `l` of group `g` (R86). -/
def grpReg (g o : Nat) : Nat := 0x010000 + 0x100 * g + o
def portReg (port o : Nat) : Nat := 0x010020 + 0x100 * (port / 4) + 0x20 * (port % 4) + o
def laneReg (lane o : Nat) : Nat := 0x0100A0 + 0x100 * (lane / 4) + 8 * (lane % 4) + o

/-- PRT_PORTgp_STAT.STATE: 0 DISABLED, 1 AN, 2 TRAINING, 3 ALIGN, 4 UP. -/
def portState (s : State) (port : Nat) : Nat := s.fld (portReg port 1) 2 0

/-- Whether a port can carry frames now: UP, or the viaduct (32). -/
def portUp (s : State) (port : Nat) : Bool := if port < 32 then portState s port == 4 else decide (port = 32)

/-- DCK_PGg registers, and those of domain `t` (R87). -/
def pgReg (g o : Nat) : Nat := 0x018010 + 8 * g + o
def domReg (t o : Nat) : Nat := 0x018100 + 2 * t + o

/-- A count of a port (R86), and of a group's drops: 0 QUOTA_PG, 1 QUOTA_TEN, 2 UNMAPPED, 3 UNKEYED, 4 NOTAG, 5 AGE,
6 LINKDOWN, 7 CLEAR. -/
def portCount (port c : Nat) (s : State) (n : Nat := 1) : State :=
  if port < 32 then s.count (portReg port (6 + 2 * c)) n else s
def deckDrop (g c : Nat) (s : State) : State :=
  let s := s.count (0x018400 + 0x10 * g + 2 * c)
  let s := s.onlyIf (c == 0 || c == 1) (·.raise 0x018003 1)
  s.onlyIf (c == 5) (·.raise 0x018003 0)

/-! ### Capacity and cells (R74, R76–R78) -/

/-- Channels, SCI buckets and frame-pool cells of CHAN_MAX (R74). -/
def chanMax (s : State) : Nat := match s.fld 0x018000 1 0 with | 0 => 16384 | 1 => 65536 | _ => 262144
def bucketMax (s : State) : Nat := chanMax s / 2
def poolCells (s : State) : Nat := match s.fld 0x018000 1 0 with | 0 => 123904 | 1 => 105472 | _ => 31744

/-- Cells charged to group `g` (0–7, 8 the viaduct) and to domain `t` (256 OWN). -/
def groupUse (s : State) (g : Nat) : Nat := s.fld (pgReg g 2) 17 0
def domUse (s : State) (t : Nat) : Nat := s.fld (domReg t 1) 17 0

/-- DCK_FREE. -/
def deckFree (s : State) : Nat := poolCells s - ((List.range 9).map (groupUse s)).sum

/-- Cells needed to honour the unused reserves of the groups other than `g`. -/
def reserved (s : State) (g : Nat) : Nat :=
  ((List.range 9).map fun h => if h = g then 0 else s.fld (pgReg h 0) 17 0 - groupUse s h).sum

/-- Whether group `g` may take a cell (R76). -/
def mayTake (s : State) (g : Nat) : Bool :=
  decide (groupUse s g < s.fld (pgReg g 0) 17 0)
    || (decide (groupUse s g < s.fld (pgReg g 1) 17 0) && decide (reserved s g < deckFree s))

/-- The group charged for a frame's arrival. -/
def chargeGroup (port : Nat) : Nat := if port < 32 then port / 4 else if port = 32 then 8 else port % 8

/-- Changes a group's use, a domain's use. -/
def groupAdd (g n : Nat) (s : State) : State := s.put (pgReg g 2) 17 0 (groupUse s g + n)
def groupSub (g n : Nat) (s : State) : State := s.put (pgReg g 2) 17 0 (groupUse s g - n)
def domAdd (t n : Nat) (s : State) : State := if t ≤ 256 then s.put (domReg t 1) 17 0 (domUse s t + n) else s
def domSub (t n : Nat) (s : State) : State := if t ≤ 256 then s.put (domReg t 1) 17 0 (domUse s t - n) else s

/-- Whether `n` more cells keep a domain within its limit (R77). -/
def domainFits (s : State) (t n : Nat) : Bool := decide (domUse s t + n ≤ s.fld (domReg t 0) 17 0)

/-! ### PAUSE on client ports (R79) -/

/-- Whether the group settings in force give port `port` a place (R66). -/
def portPresent (mode p : Nat) : Bool :=
  match mode with
  | 0 => false
  | 1 => p == 0
  | 2 => p == 0 || p == 2
  | _ => decide (mode ≤ 6)

/-- A frame leaves port `port`, FCS included. -/
def transmit (port : Nat) (b : Bytes) (s : State) : State := { s with dck := { s.dck with wire := s.dck.wire ++ [(port, b)] } }

/-- A PAUSE frame with `quanta` (IEEE 802.3 Annex 31B), padded to 64 bytes. -/
def pauseFrame (port quanta : Nat) : Bytes :=
  withFcs (beBytes 0x0180C2000001 6 ++ beBytes (Config.portAddress port).toNat 6 ++ beBytes 0x8808 2 ++ beBytes 1 2
    ++ beBytes quanta 2 ++ List.replicate 42 0)

/-- Sends PAUSE with quanta 0xFFFF on a client port. The PAUSE frames that a MAC makes itself are not counted in TX_FRM and TX_OCT
(log 130, DESIGN CHOICE). -/
def pauseOn (port : Nat) (s : State) : State :=
  let s := transmit port (pauseFrame port 0xFFFF) s
  { s with dck := { s.dck with pauseSent := Tab.set 0 s.dck.pauseSent port (s.tick + 1) } }.raise 0x018003 2

/-- The client ports of group `g` follow its use (R79): PAUSE at XOFF × 16 cells, and quanta 0 below XON × 16. (log 78, DEDUCED) -/
def pauseCheck (g : Nat) (s : State) : State :=
  if 4 ≤ g then s
  else s.each (List.range 4) fun p s =>
    let port := 4 * g + p
    let use := groupUse s g
    let sent := Tab.get 0 s.dck.pauseSent port
    let xoff := s.fld (pgReg g 3) 11 0
    if !s.bit (portReg port 0) 21 || !portUp s port then s
    else if sent = 0 ∧ xoff ≠ 0 ∧ 16 * xoff ≤ use then pauseOn port s
    else if sent ≠ 0 ∧ use < 16 * s.fld (pgReg g 3) 23 12 then
      let s := transmit port (pauseFrame port 0) s
      { s with dck := { s.dck with pauseSent := Tab.set 0 s.dck.pauseSent port 0 } }
    else s

/-- PAUSE_REPEAT: 2,048 strokes after the last one, while the use stays at or above XON × 16 and PAUSE_TX
stays 1 (R79). -/
def pauseRepeat (port : Nat) (s : State) : State :=
  let sent := Tab.get 0 s.dck.pauseSent port
  if sent ≠ 0 ∧ sent - 1 + 2048 ≤ s.tick ∧ 16 * s.fld (pgReg (port / 4) 3) 23 12 ≤ groupUse s (port / 4) ∧ portUp s port = true
      ∧ s.bit (portReg port 0) 21 = true
  then pauseOn port s else s

/-! ### Frames -/

/-- Replaces a frame of the deck by its identity. -/
def setFrame (f : Frame) (s : State) : State :=
  { s with dck := { s.dck with frames := s.dck.frames.map fun x => if x.id = f.id then f else x } }

/-- Takes a frame out of the deck; its cells are freed and its plate reference ends (R78, R120). -/
def freeFrame (f : Frame) (s : State) : State :=
  let s := { s with dck := { s.dck with frames := s.dck.frames.filter (·.id != f.id) } }
  let s := groupSub (chargeGroup f.egress) f.extra (groupSub (chargeGroup f.port) f.cells s)
  let s := domSub f.dom (f.cells + f.extra) s
  let s := if f.chan.isSome then dropRef f.plate f.gen s else s
  pauseCheck (chargeGroup f.egress) (pauseCheck (chargeGroup f.port) s)

/-- W in units of 100 ns (R399). -/
def wallNow (s : State) : Nat := (s.lgr.anchorW + 8 * (s.now - s.lgr.anchorS)) % 2 ^ 64

/-- An accumulator of the ledger (R398): quantity `q` of domain `d` grows by `n`, modulo 2^64; with it the device-wide
total (R404). -/
def ledgerAdd (d q n : Nat) (s : State) : State :=
  if d ≤ 256 then
    let s := { s with lgr := { s.lgr with totals := Tab.set 0 s.lgr.totals q ((Tab.get 0 s.lgr.totals q + n) % 2 ^ 64) } }
    s.wrN (0x0D0100 + 0x20 * d + 3 * q) 3 ((s.rdN (0x0D0100 + 0x20 * d + 3 * q) 3 + n) % 2 ^ 64)
  else s

/-- A frame dropped after its binding: `cause` counts it; its sequence number is released with it (R80). The ledger's
DROPS and the performance counters count it. -/
def dropBound (f : Frame) (cause : State → State) (s : State) : State :=
  let s := ledgerAdd f.dom 5 1 (cause s)
  let s := s.pmcEvent { code := 0x11, src := some (0x80 + chargeGroup f.egress), dom := some f.dom }
  freeFrame f s

/-- A frame dropped before its binding. -/
def dropUnbound (f : Frame) (cause : State → State) (s : State) : State := freeFrame f (cause s)

/-- Every frame awaiting transmission on `port` is dropped as LINKDOWN: at once where it is not in a batch, and at its batch's
release else. So is the frame whose transmission is under way, which ends with an error code group (R69). -/
def dropAwaiting (port : Nat) (s : State) : State :=
  let s := s.each (s.dck.frames.filter fun f => f.egress == port && (match f.stage with
    | .waiting | .ready | .held _ | .sending => true
    | .arriving _ | .batch .. => false)) fun f s =>
    dropBound f (deckDrop (port / 4) 6) s
  { s with dck := { s.dck with frames := s.dck.frames.map fun f => match f.stage with
    | .batch .. => if f.egress = port then { f with cut := true } else f
    | _ => f } }

/-- A frame becomes ready for egress; it is dropped while its port is not UP, or where the port went down since it was bound
(R69). -/
def makeReady (f : Frame) (s : State) : State :=
  if portUp s f.egress && !f.cut then setFrame { f with stage := .ready } s
  else dropBound f (deckDrop (chargeGroup f.egress) 6) (setFrame f s)

/-- FRAME_AGE_OUT (R81): a bound frame still in the deck 2^AGE_MAX strokes after its binding. -/
def ageOut (id : Nat) (s : State) : State :=
  match s.dck.frames.find? fun f => f.id == id && (match f.stage with | .arriving _ | .sending => false | _ => true)
      && decide (f.bind + 2 ^ s.fld 0x018000 7 3 ≤ s.tick) with
  | some f => dropBound f (deckDrop (chargeGroup f.egress) 5) s
  | none => s

/-! ### Egress (R80, R82) -/

/-- Whether a ready frame waits for a lower sequence number of its own channel (R80). -/
def blocked (s : State) (f : Frame) : Bool :=
  f.chan.isSome && f.port != 128 && s.dck.frames.any fun x =>
    x.chan == f.chan && x.id != f.id && x.port != 128 && decide (0 < (f.seq + 2 ^ 24 - x.seq) % 2 ^ 24 ∧ (f.seq + 2 ^ 24 - x.seq) % 2 ^ 24 < 2 ^ 23)

/-- The frames that may leave `port` now. -/
def sendable (s : State) (port : Nat) : List Frame :=
  s.dck.frames.filter fun f => f.egress == port && f.stage == .ready && !blocked s f

/-- The head frames of channels, by deficit round robin weighted by declared rate (R82): the channel after the one
served last, each visit adding the channel's rate to its deficit, until a head fits (log 21, DESIGN CHOICE). -/
def drrPick (fuel : Nat) (heads : List Frame) (order : List Nat) (deficit : Tab Nat) : Option (Frame × Tab Nat) :=
  match fuel with
  | 0 => heads.head?.map fun f => (f, deficit)
  | n + 1 =>
    match order with
    | [] => none
    | c :: cs =>
      match heads.find? fun f => f.chan == some c with
      | none => drrPick n heads cs deficit
      | some f =>
        let d := Tab.get 0 deficit c + (match f.record with | some r => r.rate | none => 0)
        if f.bytes.length ≤ d then some (f, Tab.set 0 deficit c (d - f.bytes.length))
        else drrPick n heads (cs ++ [c]) (Tab.set 0 deficit c d)

/-- The frame that `port` transmits next (R82, R107): a stipple burst by channel number, then clear frames in arrival
order, then channels by deficit round robin. -/
def nextFrame (s : State) (port : Nat) : Option (Frame × Tab Nat) :=
  let fs := sendable s port
  let burst := fs.filter (·.stipple)
  let least := burst.foldl (fun m f => min m (f.chan.getD 0)) (burst.head?.bind (·.chan) |>.getD 0)
  match burst.find? fun f => f.chan == some least with
  | some f => some (f, s.dck.deficit)
  | none =>
    match fs.find? (·.chan.isNone) with
    | some f => some (f, s.dck.deficit)
    | none =>
      let last := Tab.get 0 s.dck.served port
      let cs := (fs.filterMap (·.chan)).eraseDups
      let order := cs.filter (last < ·) ++ cs.filter (· ≤ last)
      drrPick (10240 * (cs.length + 1)) fs order s.dck.deficit

/-- A frame has left `port` whole: its cells are freed, and it is counted (R80, R86). -/
def frameSent (port : Nat) (f : Frame) (s : State) : State :=
  let s := transmit port f.bytes (portCount port 6 (portCount port 5 s) f.bytes.length)
  let s := if f.chan.isSome ∧ f.port < 32 then
      s.pmcLatency (if port < 16 then 1 else 0) (1000 * (s.tick - (f.bind + 1))) (some f.dom) (some (port / 4))
    else s
  freeFrame f s

/-- FRAME_TRANSMIT (R80, R82): a transmission under way on the port ends; else the next frame's begins, and ends with it where the
whole frame leaves. The data plane must carry frames (R32). -/
def frameTransmit (port : Nat) (whole : Bool) (s : State) : State :=
  if !portUp s port || !s.transmits then s
  else match s.dck.frames.find? fun f => f.egress == port && f.stage == .sending with
  | some f => frameSent port f s
  | none =>
    if s.tick < Tab.get 0 s.dck.paused port then s
    else match nextFrame s port with
    | none => s
    | some (f, d) =>
      let s := { s with dck := { s.dck with deficit := d, served := match f.chan with
        | some c => Tab.set 0 s.dck.served port c
        | none => s.dck.served } }
      if whole then frameSent port f s else setFrame { f with stage := .sending } s

/-! ### Control queues (R84, R85, R464) -/

/-- DCK_CQq registers. -/
def cqReg (q o : Nat) : Nat := 0x018500 + 8 * q + o

/-- The receive queue of control queue `q`. -/
def rxq (s : State) (q : Nat) : List (Nat × Bytes) := Tab.get [] s.dck.rxq q

/-- Shows queue `q`'s head in RXDESC and its count in STAT. -/
def cqShow (q : Nat) (s : State) : State :=
  let l := rxq s q
  let s := s.put (cqReg q 5) 6 0 l.length
  match l with
  | [] => s.wr (cqReg q 0) 0
  | (p, b) :: _ => s.wr (cqReg q 0) (BitVec.ofNat 24 (2 ^ 23 + p * 2 ^ 19 + b.length))

/-- A frame is placed on receive queue `q` with its port and its cells, which stay charged (R84); a full queue counts
DROP_CQ. The bytes come without the FCS. -/
def cqReceive (q p : Nat) (f : Frame) (s : State) : State :=
  if 64 ≤ (rxq s q).length then freeFrame f (s.count (0x018490 + 2 * q))
  else
    let s := s.onlyIf (rxq s q).isEmpty (·.raise 0x018003 3)
    let s := { s with dck := { s.dck with
      frames := s.dck.frames.filter (·.id != f.id)
      rxq := Tab.set [] s.dck.rxq q (rxq s q ++ [(p, f.bytes.take (f.bytes.length - 4))]) } }
    cqShow q s

/-- A read of DCK_CQq_RXDESC (R87): with VALID = 1 it fixes the head. -/
def cqDescRead (q : Nat) (s : State) : Word × State :=
  let w := s.rd (cqReg q 0)
  (w, if Word.bit w 23 then { s with dck := { s.dck with rxFixed := Tab.set false s.dck.rxFixed q true } } else s)

/-- A read of DCK_CQq_RXDATA: the next 3 bytes of the head frame; 0 past its length. -/
def cqDataRead (q : Nat) (s : State) : Word × State :=
  match rxq s q with
  | [] => (0, s)
  | (_, b) :: _ =>
    let i := Tab.get 0 s.dck.rxRead q
    (BitVec.ofNat 24 (beNat [b.getD i 0, b.getD (i + 1) 0, b.getD (i + 2) 0]),
      { s with dck := { s.dck with rxRead := Tab.set 0 s.dck.rxRead q (i + 3) } })

/-- The cells of a frame of `n` bytes. -/
def cellsOf (n : Nat) : Nat := (n + 255) / 256

/-- A write of DCK_CQq_RXDONE: bit 0 frees the head frame (R84). -/
def cqDone (q : Nat) (w : Word) (s : State) : State :=
  if !Word.bit w 0 then s
  else match rxq s q with
    | [] => s
    | (_, b) :: t =>
      let n := cellsOf (b.length + 4)
      let s := { s with dck := { s.dck with
        rxq := Tab.set [] s.dck.rxq q t
        rxRead := Tab.set 0 s.dck.rxRead q 0
        rxFixed := Tab.set false s.dck.rxFixed q false } }
      pauseCheck q (cqShow q (domSub 256 n (groupSub q n s)))

/-- A write of DCK_CQq_TXDATA (R464). -/
def cqTxData (q : Nat) (w : Word) (s : State) : State :=
  { s with dck := { s.dck with build := Tab.set [] s.dck.build q (Tab.get [] s.dck.build q ++ wordBytes w) } }

/-- PRT_CCsk registers. -/
def ccReg (side k o : Nat) : Nat := 0x011000 + 0x40 * side + 4 * k + o

/-- Whether clear-class rule `k` of a side matches a frame (R84). -/
def ccMatches (s : State) (side k : Nat) (b : Bytes) : Bool :=
  let a := ccReg side k 0
  s.bit a 23 && s.fld a 15 0 == beNat ((b.drop 12).take 2)
    && (!s.bit a 22 || (s.rd (a + 1)).toNat * 2 ^ 24 + (s.rd (a + 2)).toNat == beNat (b.take 6))
    && (!s.bit a 21 || s.fld (a + 3) 23 16 == (b.getD 14 0).toNat)

/-- Whether some rule of side 1 with action PASS or PIER matches a frame (R85). -/
def ccAllows (s : State) (b : Bytes) : Bool :=
  (List.range 16).any fun k => ccMatches s 1 k b && (s.fld (ccReg 1 k 3) 1 0 == 1 || s.fld (ccReg 1 k 3) 1 0 == 2)

/-- The action of the first clear-class rule that matches: 0 DROP, 1 PASS, 2 PIER; `none` for no rule. -/
def ccAction (s : State) (side : Nat) (b : Bytes) : Option Nat :=
  ((List.range 16).find? fun k => ccMatches s side k b).map fun k => s.fld (ccReg side k 3) 1 0

/-- Takes `n` cells of group `g` one by one: `true` where all were taken (R76). -/
def takeCells (g : Nat) : Nat → State → Bool × State
  | 0, s => (true, s)
  | n + 1, s => if mayTake s g then takeCells g n (groupAdd g 1 s) else (false, s)

/-- A frame for control transmit queue `q` is refused: TX_ERR. -/
def cqRefuse (q : Nat) (s : State) : State := s.put (cqReg q 5) 23 23 1

/-- A write of DCK_CQq_TXSEND (R85, R464): the first LENGTH bytes leave on port p of group q, or the send is refused;
either way the frame being built is emptied. On a line group the clear-class rules come first, and a MAC control frame never
leaves (R73). Where the data plane carries no frame the send is refused (R32). -/
def cqTxSend (q : Nat) (w : Word) (s : State) : State :=
  let port := 4 * q + Word.slice w 20 19
  let len := Word.slice w 13 0
  let b := Tab.get [] s.dck.build q
  let s := { s with dck := { s.dck with build := Tab.set [] s.dck.build q [] } }
  let body := b.take len ++ List.replicate (60 - len) 0
  let n := cellsOf (body.length + 4)
  if b.length < len then cqRefuse q s
  else if 4 ≤ q ∧ ccAllows s body = false then cqRefuse q (deckDrop q 7 s)
  else if s.fld (portReg port 0) 13 0 < len + 4 ∨ portUp s port = false ∨ s.transmits = false
      ∨ (4 ≤ q ∧ beNat ((body.drop 12).take 2) = 0x8808) then cqRefuse q s
  else match takeCells q n s with
    | (false, _) => cqRefuse q s
    | (true, s') =>
      if !domainFits s 256 n then cqRefuse q s
      else
        let s := (domAdd 256 n s').put (cqReg q 5) 23 23 0
        let f : Frame := { Frame.blank with
          id := s.dck.nextId, port := 64 + q, bytes := withFcs body, cells := n, dom := 256, bind := s.tick, egress := port
          stage := .ready }
        pauseCheck q { s with dck := { s.dck with frames := s.dck.frames ++ [f], nextId := s.dck.nextId + 1 } }

/-- The deck is zeroed (R75): frames, control queues and the frames being built, with every charge. -/
def zeroDeck (s : State) : State :=
  let s := { s with dck := { s.dck with frames := [], rxq := [], rxRead := [], rxFixed := [], build := [] } }
  let s := s.each (List.range 9) fun g s => s.put (pgReg g 2) 17 0 0
  let s := s.each (List.range 257) fun t s => s.put (domReg t 1) 17 0 0
  s.each (List.range 8) cqShow

/-- The keystone keeps OWN's cell limit at the frame pool less the sum of the tenants' limits (R87, R193). -/
def ownDeckLimit (s : State) : State :=
  s.put 0x018300 17 0 (poolCells s - ((List.range 256).map fun t => s.fld (domReg t 0) 17 0).sum)

/-! ### Register writes -/

/-- A write of DCK_EVT (R87). -/
def dckEvtWrite (w : Word) (s : State) : State :=
  let s := s.wr 0x018003 (s.rd 0x018003 &&& ~~~ (w &&& 0x00000F))
  s.onlyIf (Word.bit w 23) fun s => (s.zero 0x018400 0x90).zero 0x018490 16

/-- A write of PRT_GRPg_EVT (R86). -/
def prtEvtWrite (g : Nat) (w : Word) (s : State) : State :=
  let s := s.wr (grpReg g 2) (s.rd (grpReg g 2) &&& ~~~ (w &&& 0x0000FF))
  s.onlyIf (Word.bit w 23) fun s => s.each (List.range 4) fun p s => s.zero (portReg (4 * g + p) 6) 18

/-- Whether group `g` may reserve `v` cells (R76): the reserves stay within the frame pool. -/
def reserveFits (s : State) (g v : Nat) : Bool :=
  decide (((List.range 9).map fun h => if h = g then v else s.atMost (pgReg h 0)).sum ≤ poolCells s)

/-- A write of DCK_PGg_PAUSE (R79): discarded with XON ≥ XOFF. -/
def pauseWrite (g : Nat) (w : Word) (s : State) : State :=
  if Word.slice w 11 0 ≤ Word.slice w 23 12 then s else pauseCheck g (s.wr (pgReg g 3) w)

/-- DCK_SCRUB (R64): one cell that is not in use is read and corrected. -/
def deckScrub (s : State) : State :=
  if (List.range 66).any fun i => taskCell s 4 (44 + i) then taskItem 4 s else s

end Sys2Proof.Machine
end

