-- ==== Sys2Proof/Machine/Spans.lean ====
section
/-! DEFINITION. Spans and trusses (04_spans_and_trusses.md): the span allocator, the dispatcher, the protected frame, the
receive checks, stipple, faults and covers. -/

namespace Sys2Proof.Machine

/-! ### Registers (R117) -/

def spnReg (n o : Nat) : Nat := 0x020000 + 0x100 * n + o
def trsReg (m o : Nat) : Nat := 0x024000 + 0x100 * m + o

/-- SPN_n_STAT.STATE: 0 FREE, 1 IN_SERVICE, 2 COVERING, 3 UNDER_TEST, 4 FAULTED. -/
def spnState (s : State) (n : Nat) : Nat := s.fld (spnReg n 0) 2 0

/-- Counter `c` of span `n`, where one is named, and of the trusses whose counters count the frame (R117). -/
def unitCount (n : Option Nat) (ms : List Nat) (c : Nat) (s : State) : State :=
  let s := match n with | some k => s.count (spnReg k (0x10 + 2 * c)) | none => s
  s.each ms fun m s => s.count (trsReg m (0x10 + 2 * c))

/-! ### The span allocator (R108–R111) -/

/-- ⌈a ÷ b⌉. -/
def ceilDiv (a b : Nat) : Nat := (a + b - 1) / b

/-- The load of a channel (R108). -/
def chanLoad (r : Chan) : Nat :=
  if r.stipple then ceilDiv (r.count * (ceilDiv r.size 16 + 1)) (2 ^ r.plog)
  else
    let c := if r.rx then ceilDiv r.minLen 16 + 1 else ceilDiv (r.minLen + 32) 16 + 1
    ceilDiv (r.rate * c) (10 * (r.minLen + 20))

/-- Spans that a channel's home needs (R22, R109). -/
def homeSize (r : Chan) : Nat := if r.rate ≤ 160000 then 1 else ceilDiv r.rate 160000

/-- A layout with the open channels it serves. -/
abbrev Plan := Layout × Tab (Option Chan)

/-- Open channels of client port group `g`. -/
def planChans (p : Plan) (g : Nat) : List Nat := p.1.groupOf.filterMap fun (c, h) => if h = g + 1 then some c else none

/-- Total load of a group. -/
def planTotal (p : Plan) (g : Nat) : Nat := ((planChans p g).map fun c => Tab.get 0 p.1.loads c).sum

/-- The spans of a group's top-level truss. -/
def planSpans (l : Layout) (g : Nat) : List Nat := Tab.get [] l.groups g

/-- The truss `m`, unless it is removed. -/
def planTruss (l : Layout) (m : Nat) : Option Truss :=
  match Tab.get none l.trusses m with
  | some t => if t.removed then none else some t
  | none => none

/-- The number of a group's top-level truss; `none` where it is a single span (R109). -/
def topTruss (l : Layout) (g : Nat) : Option Nat :=
  (List.range 32).find? fun m => match planTruss l m with | some t => t.top == some g | none => false

/-- The nested home of a channel. -/
def nestedOf (l : Layout) (c : Nat) : Option Nat :=
  (List.range 32).find? fun m => match planTruss l m with | some t => t.chan == some c | none => false

/-- The leaves of a home or a pin target: span n, or 32 + m for truss m. -/
def targetLeaves (l : Layout) (h : Nat) : List Nat :=
  if h < 28 then [h] else match planTruss l (h - 32) with | some t => t.leaves | none => []

/-- Spans that a group's truss must hold (R110). -/
def spansNeeded (p : Plan) (g : Nat) : Nat :=
  let cs := planChans p g
  if cs.isEmpty then 0
  else
    let homes := cs.map fun c => match Tab.get none p.2 c with | some r => homeSize r | none => 1
    max (max 1 (ceilDiv (planTotal p g) 1000)) (homes.foldl max 1)

/-- A list of spans put in ascending order. -/
def insertSpan (n : Nat) : List Nat → List Nat
  | [] => [n]
  | m :: t => if n < m then n :: m :: t else m :: insertSpan n t

/-- Adds the lowest free spans until the group holds `n` (R110). A request (`ask`) that would leave fewer than 2 free spans is
refused: `none` (R23). A change that was accepted takes at its effective stroke what faults have left (log 133, DESIGN CHOICE). -/
def growGroup (ask : Bool) (g n : Nat) : Nat → Layout → Option Layout
  | 0, l => some l
  | fuel + 1, l =>
    if n ≤ (planSpans l g).length then some l
    else match l.free with
      | [] => if ask then none else some l
      | a :: t =>
        if ask ∧ t.length < 2 then none
        else growGroup ask g n fuel { l with free := t, groups := Tab.set [] l.groups g (insertSpan a (planSpans l g)) }

/-- The spans that a home takes in rotation (R109): from the lowest one above the span taken last, and round to the lowest of the
truss. With them the layout whose rotation has advanced. -/
def rotate (g k : Nat) (l : Layout) : List Nat × Layout :=
  let sp := planSpans l g
  let t := Tab.get 0 l.turn g
  let ring := sp.filter (t ≤ ·) ++ sp.filter (· < t)
  let taken := (List.range (min k ring.length)).map fun i => ring.getD i 0
  (taken, { l with turn := Tab.set 0 l.turn g (match taken.getLast? with | some n => n + 1 | none => t) })

/-- The lowest truss number that is free (R111). -/
def freeTruss (l : Layout) : Option Nat := (List.range 32).find? fun m => (Tab.get none l.trusses m).isNone

/-- Whether any channel of the group has a nested home. -/
def hasNested (p : Plan) (g : Nat) : Bool := (planChans p g).any fun c => (nestedOf p.1 c).isSome

/-- The group's top-level truss exists where the group is more than a single span (R109); its leaves are the group's
spans. `none` where a 33rd truss would be needed. -/
def settleTop (g : Nat) (nested : Bool) (p : Plan) : Option Plan :=
  let (l, cs) := p
  let sp := planSpans l g
  match topTruss l g with
  | some m =>
    match Tab.get none l.trusses m with
    | some t =>
      let gone := !nested && decide (sp.length ≤ 1) && !l.homes.any fun (_, h) => h == 32 + m
      some ({ l with trusses := Tab.set none l.trusses m (some { t with leaves := if gone then t.leaves else sp, removed := gone }) }, cs)
    | none => some (l, cs)
  | none =>
    if nested ∨ 1 < sp.length then
      match freeTruss l with
      | none => none
      | some m => some ({ l with trusses := Tab.set none l.trusses m (some ⟨some g, 0, none, sp, false⟩) }, cs)
    else some (l, cs)

/-- A channel gets its home (R109): one span, or a nested truss of `k` spans. -/
def giveHome (g c k : Nat) (p : Plan) : Option Plan :=
  if k ≤ 1 then
    let (sp, l) := rotate g 1 p.1
    some ({ l with homes := Tab.set 64 l.homes c (sp.getD 0 64) }, p.2)
  else
    let (sp, l) := rotate g k p.1
    match freeTruss l, topTruss l g with
    | some m, some top =>
      some ({ l with
        trusses := Tab.set none l.trusses m (some ⟨none, top, some c, sp.foldl (fun a n => insertSpan n a) [], false⟩)
        homes := Tab.set 64 l.homes c (32 + m) }, p.2)
    | _, _ => none

/-- Whether a span may not be returned (R110): the target of a pin, or a member of a nested home. -/
def heldSpan (p : Plan) (n : Nat) : Bool :=
  p.1.pins.any (fun c => Tab.get 64 p.1.homes c == n)
    || (List.range 32).any fun m => match planTruss p.1 m with | some t => t.chan.isSome && t.leaves.contains n | none => false

/-- The spans that a group returns, highest index first, to hold `n` (R110). -/
def returned (g n : Nat) (p : Plan) : List Nat :=
  ((planSpans p.1 g).reverse.filter fun a => !heldSpan p a).take ((planSpans p.1 g).length - n)

/-- Returns spans until the group holds `n`. Each channel at home in a returned span gets a new home, in ascending channel number,
taking the remaining spans in rotation from the lowest (R110, log 134, DEDUCED). -/
def shrinkGroup (g n : Nat) (p : Plan) : Plan :=
  let out := returned g n p
  if out.isEmpty then p
  else
    let moved := (planChans p g).filter fun c => out.contains (Tab.get 64 p.1.homes c)
    let l := { p.1 with
      free := out.foldl (fun l a => insertSpan a l) p.1.free
      groups := Tab.set [] p.1.groups g ((planSpans p.1 g).filter fun a => !out.contains a)
      turn := if moved.isEmpty ∧ n ≠ 0 then p.1.turn else Tab.set 0 p.1.turn g 0 }
    (moved.foldl (fun l c => insertSpan c l) []).foldl (fun (q : Plan) c => (giveHome g c 1 q).getD q) (l, p.2)

/-- The group's spans follow its need (R110). -/
def fitGroup (ask : Bool) (g : Nat) (p : Plan) : Option Plan :=
  let n := spansNeeded p g
  (growGroup ask g n 28 p.1).map fun l => shrinkGroup g n (l, p.2)

/-- Removes a channel's nested home, if it has one (its number is freed later, R111). A truss that is another channel's home too
stays, as that channel's. -/
def dropNested (c : Nat) (l : Layout) : Layout :=
  match nestedOf l c with
  | some m => match Tab.get none l.trusses m with
    | some t =>
      let t := match l.homes.find? fun (x, h) => x != c && h == 32 + m with
        | some (x, _) => { t with chan := some x }
        | none => { t with removed := true }
      { l with trusses := Tab.set none l.trusses m (some t) }
    | none => l
  | none => l

/-- Opens channel `c` in a layout (R109, R110). -/
def planOpen (ask : Bool) (c : Nat) (r : Chan) (p : Plan) : Option Plan :=
  let g := r.client / 4
  let p : Plan := ({ p.1 with loads := Tab.set 0 p.1.loads c (chanLoad r), groupOf := Tab.set 0 p.1.groupOf c (g + 1) },
    Tab.set none p.2 c (some r))
  (fitGroup ask g p).bind fun p =>
    (settleTop g (hasNested p g || decide (1 < homeSize r)) p).bind fun p => giveHome g c (homeSize r) p

/-- Closes channel `c` in a layout. -/
def planClose (ask : Bool) (c : Nat) (p : Plan) : Option Plan :=
  match Tab.get 0 p.1.groupOf c with
  | 0 => some p
  | h + 1 =>
    let l := dropNested c p.1
    let p : Plan := ({ l with
      loads := Tab.set 0 l.loads c 0, groupOf := Tab.set 0 l.groupOf c 0, homes := Tab.set 64 l.homes c 64
      pins := l.pins.filter (· != c) }, Tab.set none p.2 c none)
    (fitGroup ask h p).bind fun p => settleTop h (hasNested p h) p

/-- A new declared rate (R22, R110). A pinned home stays, and must be large enough. -/
def planRate (ask : Bool) (c rate : Nat) (p : Plan) : Option Plan :=
  match Tab.get none p.2 c with
  | none => some p
  | some r =>
    let r' := { r with rate := rate }
    let g := r.client / 4
    let pinned := p.1.pins.contains c
    if pinned ∧ (targetLeaves p.1 (Tab.get 64 p.1.homes c)).length < homeSize r' then none
    else
      let l := if pinned ∨ homeSize r = homeSize r' then p.1 else dropNested c p.1
      let p : Plan := ({ l with loads := Tab.set 0 l.loads c (chanLoad r') }, Tab.set none p.2 c (some r'))
      (fitGroup ask g p).bind fun p =>
        (settleTop g (hasNested p g || decide (1 < homeSize r')) p).bind fun p =>
          if pinned ∨ homeSize r = homeSize r' then some p else giveHome g c (homeSize r') p

/-- Whether target `h` can be the home of a channel with record `r` (R111): it is in service within the channel's top-level truss,
large enough, and the truss carries its load. -/
def pinAllowed (r : Chan) (h : Nat) (p : Plan) : Bool :=
  let g := r.client / 4
  let lv := targetLeaves p.1 h
  !lv.isEmpty && lv.all (planSpans p.1 g).contains && decide (homeSize r ≤ lv.length)
    && decide (planTotal p g ≤ 1000 * (planSpans p.1 g).length)

/-- TRUSS_PIN (R111): the target becomes the channel's home; `none` where R111 refuses. -/
def planPin (c : Nat) (target : Option Nat) (p : Plan) : Option Plan :=
  match Tab.get none p.2 c, target with
  | some r, some h =>
    if pinAllowed r h p = false then none
    else
      let g := r.client / 4
      let l := if nestedOf p.1 c = some (h - 32) ∧ 32 ≤ h then p.1 else dropNested c p.1
      let l := { l with homes := Tab.set 64 l.homes c h, pins := l.pins.filter (· != c) ++ [c] }
      settleTop g (hasNested (l, p.2) g) (l, p.2)
  | _, _ => some ({ p.1 with pins := p.1.pins.filter (· != c) }, p.2)

/-- One channel change applied to a layout, as a request judges it (`ask`) or at its effective stroke. -/
def planChange (ask : Bool) (ch : Change) (p : Plan) : Option Plan :=
  match ch with
  | .openChan c r => planOpen ask c r p
  | .closeChan c => planClose ask c p
  | .rateChan c r => planRate ask c r p
  | .pinChan c t => planPin c t p
  | .install .. | .retire .. | .recycle .. | .pin .. | .regs _ | .tenant .. => some p

/-- The stroke at which a change takes effect. -/
def effStroke (s : State) (w : When) : Nat :=
  match w with
  | .stroke n => n
  | .slot k => s.countOf (timeAt s (swReg k 2))

/-- A change put into a list in order of effective strokes, after those of the same stroke. -/
def insertChange (s : State) (c : Pending) : List Pending → List Pending
  | [] => [c]
  | d :: t => if effStroke s c.eff < effStroke s d.eff then c :: d :: t else d :: insertChange s c t

/-- The layout in force with the channels in force. -/
def planNow (s : State) : Plan := (s.spn.layout, s.dck.chans)

/-- The layouts that changes `cs`, in their order, make of `p`: `none` from the first that cannot be made. -/
def layoutsOf : List Pending → Plan → List (Option Plan)
  | [], _ => []
  | d :: cs, p => match planChange true d.change p with
    | some q => some q :: layoutsOf cs q
    | none => [none]

/-- A pin is judged against the layout in force and against every layout already written (R111). -/
def pinEverywhere (s : State) (c : Pending) : Bool :=
  match c.change with
  | .pinChan n (some h) =>
    match Tab.get none s.dck.chans n with
    | some r => (some (planNow s) :: layoutsOf (s.setup.foldl (fun l d => insertChange s d l) []) (planNow s)).all fun p =>
        match p with | some p => pinAllowed r h p | none => true
    | none => true
  | _ => true

/-- Whether every layout written for a later effective stroke can still be made with one more change (R110). -/
def planMakes (s : State) (c : Pending) : Bool :=
  (layoutsOf ((s.setup ++ [c]).foldl (fun l d => insertChange s d l) []) (planNow s)).all (·.isSome)

/-- Whether the span allocator accepts a change (R110, R111). -/
def planFits (s : State) (c : Pending) : Bool := pinEverywhere s c && planMakes s c

/-! ### The layout in force -/

/-- SPN_GLB: spans FREE, COVERING, FAULTED. -/
def spnGlobal (s : State) : State :=
  let n := fun k => ((List.range 28).filter fun i => spnState s i == k).length
  s.wr 0x021C00 (BitVec.ofNat 24 (n 0 + 32 * n 2 + 1024 * n 4))

/-- The member masks of a truss. -/
def bitsOf (l : List Nat) : Nat := l.foldl (fun v i => v ||| 2 ^ i) 0

/-- Shows the layout in the unit views (R117). -/
def spnShow (s : State) : State :=
  let l := s.spn.layout
  let inUse := (List.range 4).flatMap (planSpans l)
  let loadAt := fun (h : Nat) => (l.homes.map fun (c, x) => if x = h then Tab.get 0 l.loads c else 0).sum
  let topOf := fun (n : Nat) => match (List.range 4).find? fun g => (planSpans l g).contains n with
    | some g => (topTruss l g).getD 0x3F
    | none => 0x3F
  let s := s.each (List.range 28) fun n s =>
    let st := spnState s n
    let st := if inUse.contains n then (if st = 0 then 1 else st) else if st = 1 ∨ st = 2 then 0 else st
    let pinned := l.pins.any fun c => Tab.get 64 l.homes c == n
    ((s.wr (spnReg n 0) (BitVec.ofNat 24 (2 ^ 23 + (if pinned then 2 ^ 22 else 0) + topOf n * 2 ^ 16 + 2 ^ 8 + st))).wr
      (spnReg n 1) (BitVec.ofNat 24 (loadAt n % 2 ^ 16))).wr (spnReg n 0x40) (if st = 2 then s.rd (spnReg n 0x40) else 0)
  let s := s.each (List.range 32) fun m s =>
    match planTruss l m with
    | none => ((s.wr (trsReg m 0) 0x3F0000).zero (trsReg m 1) 3).zero (trsReg m 0x40) 6
    | some t =>
      let subs := (List.range 32).filter fun k => match planTruss l k with
        | some u => u.top.isNone && u.parent == m && k != m
        | none => false
      let inSubs := subs.flatMap fun k => targetLeaves l (32 + k)
      let spans := t.leaves.filter fun n => !inSubs.contains n
      let load := loadAt (32 + m) + (subs.map fun k => loadAt (32 + k)).sum + (t.leaves.map loadAt).sum
      let top := if t.top.isSome then m else t.parent
      let pinned := l.pins.any fun c => Tab.get 64 l.homes c == 32 + m
      let homes := (l.homes.filter fun (_, h) => h == 32 + m).length
      (((((((s.wr (trsReg m 0) (BitVec.ofNat 24 (2 ^ 23 + (if pinned then 2 ^ 22 else 0) + top * 2 ^ 16 + t.leaves.length * 2 ^ 8 + 1))).wr
        (trsReg m 1) (BitVec.ofNat 24 (load % 2 ^ 16))).wr (trsReg m 2) (BitVec.ofNat 24 (1000 * t.leaves.length))).wrN
        (trsReg m 0x40) 2 (bitsOf spans)).wrN (trsReg m 0x42) 2 (bitsOf subs)).wr (trsReg m 0x44) (BitVec.ofNat 24 homes)).wr
        (trsReg m 0x45) (BitVec.ofNat 24 (if t.top.isSome then 2 ^ 23 else t.parent)))
  spnGlobal s

/-- A layout takes effect (R110): the counters of new truss numbers start at 0. -/
def setLayout (l : Layout) (s : State) : State :=
  let fresh := (List.range 32).filter fun m => (Tab.get none s.spn.layout.trusses m).isNone && (Tab.get none l.trusses m).isSome
  let s := { s with spn := { s.spn with layout := l } }
  spnShow (s.each fresh fun m s => s.zero (trsReg m 0x10) 24)

/-- TRUSS_NUMBER_FREE (R111): a removed truss whose number no frame in the device carries. -/
def trussFree (m : Nat) (s : State) : State :=
  match Tab.get none s.spn.layout.trusses m with
  | some t =>
    if t.removed && !(s.dck.frames.any fun f => f.trusses.contains m) then
      { s with spn := { s.spn with layout := { s.spn.layout with trusses := Tab.set none s.spn.layout.trusses m none } } }
    else s
  | none => s

/-- The levels at which the dispatcher looks for a span, and the trusses that count a channel's frames (R112, R117). -/
def chanLevels (l : Layout) (c : Nat) : List (List Nat) × List Nat :=
  let h := Tab.get 64 l.homes c
  match Tab.get 0 l.groupOf c with
  | 0 => ([], [])
  | g + 1 =>
    let top := topTruss l g
    let inner := (List.range 32).filter fun m => decide (32 + m ≠ h) && (match planTruss l m with
      | some t => t.chan.isSome && h < 28 && t.leaves.contains h
      | none => false)
    ([targetLeaves l h, planSpans l g], (if 32 ≤ h ∧ h < 64 then [h - 32] else inner) ++ (match top with
      | some m => if h = 32 + m then [] else [m]
      | none => []))

/-! ### Covers (R114, R115) -/

/-- A change of every frame in the deck. -/
def mapFrames (g : Frame → Frame) (s : State) : State := { s with dck := { s.dck with frames := s.dck.frames.map g } }

/-- A change of every list of spans in a layout: the leaves of trusses and the spans of groups. -/
def mapSpans (g : List Nat → List Nat) (l : Layout) : Layout :=
  { l with
    trusses := Tab.update none (fun x => x.map fun (t : Truss) => { t with leaves := g t.leaves }) l.trusses
    groups := Tab.update [] g l.groups }

/-- Span `b` takes span `a`'s place in every truss, in every home and in every frame not yet dispatched. -/
def replaceSpan (a b : Nat) (s : State) : State :=
  let put := fun (l : List Nat) => if l.contains a then insertSpan b (l.filter (· != a)) else l
  let l := mapSpans put s.spn.layout
  let l := { l with
    homes := Tab.update 64 (fun h => if h = a then b else h) l.homes
    free := l.free.filter (· != b) }
  mapFrames (fun f => { f with levels := f.levels.map put }) { s with spn := { s.spn with layout := l } }

/-- The lowest-indexed FREE span. -/
def freeSpan (s : State) : Option Nat := (List.range 28).find? fun n => spnState s n == 0

/-- The span whose place span `b` fills, as far as it covers or was itself covered while it did. -/
def setOwner (b : Nat) (o : Option Nat) (s : State) : State :=
  { s with spn := { s.spn with owner := Tab.set none s.spn.owner b o } }

/-- No span fills the place of span `n` any more. -/
def clearOwner (n : Nat) (s : State) : State :=
  { s with spn := { s.spn with owner := Tab.update none (fun o => if o = some n then none else o) s.spn.owner } }

/-- Span `a` leaves service in state `st` (3 UNDER_TEST, 4 FAULTED), covered by the lowest FREE span; without one it leaves
the layout. A covering span may itself be covered. (log 75, DEDUCED) -/
def coverSpan (a st : Nat) (s : State) : State :=
  let used := (List.range 4).any fun g => (planSpans s.spn.layout g).contains a
  let s := { s with spn := { s.spn with layout := { s.spn.layout with free := s.spn.layout.free.filter (· != a) } } }
  if !used then spnGlobal (s.put (spnReg a 0) 2 0 st)
  else match freeSpan s with
    | some b =>
      let o := (Tab.get none s.spn.owner a).getD a
      let s := setOwner b (some o) (replaceSpan a b s)
      let s := s.onlyIf (st == 4) (setOwner a none)
      spnShow (((s.put (spnReg a 0) 2 0 st).put (spnReg b 0) 2 0 2).wr (spnReg b 0x40) (BitVec.ofNat 24 a))
    | none =>
      let out := fun (l : List Nat) => l.filter (· != a)
      let s := mapFrames (fun f => { f with levels := f.levels.map out })
        { s with spn := { s.spn with layout := mapSpans out s.spn.layout } }
      spnShow (s.put (spnReg a 0) 2 0 st)

/-- A lockstep mismatch of span `n` (R90, R115): the batch it holds is void. -/
def spanFault (n : Nat) (s : State) : State :=
  let s := mapFrames (fun f => match f.stage with
      | .batch m k _ => if m = n then { f with stage := .batch m k true } else f
      | .arriving _ | .waiting | .held _ | .ready | .sending => f) { s with spn := { s.spn with
      faults := s.spn.faults.filter (· != n) ++ [n], faultAt := Tab.set 0 s.spn.faultAt n s.now } }
  swLoseAck n (pptFire 50 (s.raise 0x021C01 0))

/-- At the boundary after the stroke of its fault a FREE span replaces the faulted one, which queues its self-test (R115). -/
def spanFaultCover (n : Nat) (s : State) : State :=
  if s.spn.faults.contains n && decide (Tab.get 0 s.spn.faultAt n < s.now) then
    testRequest n 3 (coverSpan n 4 { s with spn := { s.spn with faults := s.spn.faults.filter (· != n) } })
  else s

/-- The span that covers `n`: directly, or by covering the span that did. -/
def covererOf (s : State) (n : Nat) : Option Nat :=
  ((List.range 28).find? fun b => spnState s b == 2 && s.fld (spnReg b 0x40) 4 0 == n)
    <|> (List.range 28).find? fun b => spnState s b == 2 && Tab.get none s.spn.owner b == some n

/-- Span `n` joins the spans that the allocator may take. -/
def releaseSpan (n : Nat) (s : State) : State :=
  { s with spn := { s.spn with layout := { s.spn.layout with free := insertSpan n (s.spn.layout.free.filter (· != n)) } } }

/-- Span `n` takes its place back from its coverer `b`, which becomes FREE (R114): into service, or back to covering the span
whose place it filled. -/
def takeBack (n b : Nat) (s : State) : State :=
  let s := setOwner b none (replaceSpan b n s)
  let s := releaseSpan b (s.put (spnReg b 0) 2 0 0)
  match Tab.get none s.spn.owner n with
  | some m => (s.put (spnReg n 0) 2 0 2).wr (spnReg n 0x40) (BitVec.ofNat 24 m)
  | none => s.put (spnReg n 0) 2 0 1

/-- FAULTED span `n` has passed its self-test: it is FREE (R115, R116), and its coverer serves on, in its own right or for the span
whose place it fills. -/
def repaired (n : Nat) (s : State) : State :=
  let s := releaseSpan n (s.put (spnReg n 0) 2 0 0)
  match (List.range 28).find? fun b => spnState s b == 2 && s.fld (spnReg b 0x40) 4 0 == n with
  | none => s
  | some b =>
    match Tab.get none s.spn.owner b with
    | some m => if m = n then setOwner b none (s.put (spnReg b 0) 2 0 1) else s.wr (spnReg b 0x40) (BitVec.ofNat 24 m)
    | none => s.put (spnReg b 0) 2 0 1

/-- At the boundary after its last test step a span returns (R114, R116): a span that passed takes its place back and its
coverer becomes FREE; one that was FAULTED becomes FREE only after a passing kind 0x03; one that failed is FAULTED. -/
def spanReturn (n kind : Nat) (ok : Bool) (s : State) : State :=
  let was := spnState s n == 4
  if !ok then spnShow (setOwner n none ((s.put (spnReg n 0) 2 0 4).raise 0x021C01 0))
  else if was then (if kind = 3 then spnShow (clearOwner n (repaired n s)) else s)
  else match covererOf s n with
    | some b => spnShow (clearOwner n (takeBack n b s))
    | none => spnShow (releaseSpan n (s.put (spnReg n 0) 2 0 0))

/-- SPAN_TEST_RETURN for span `n`. -/
def spanTestReturn (n : Nat) (s : State) : State :=
  match s.spn.tested.find? fun x => x.1 == n && decide (x.2.2.2 < s.now) with
  | some (_, k, ok, _) =>
    spanReturn n k ok { s with spn := { s.spn with tested := s.spn.tested.filter (·.1 != n) } }
  | none => s

/-- SPN_SWAP (R115, R117): GO is taken for an IN_SERVICE span while a FREE span exists, and refused otherwise. -/
def spnSwapWrite (w : Word) (s : State) : State :=
  let n := Word.slice w 4 0
  if s.bit 0x021C03 23 then s
  else
    let s := s.put 0x021C03 4 0 n
    if Word.bit w 23 && decide (n < 28) && spnState s n == 1 && (freeSpan s).isSome then
      { s.put 0x021C03 23 23 1 with spn := { s.spn with swapAt := s.now } }
    else s

/-- The swap takes effect at the boundary after its write: covered by a FREE span, left FAULTED. -/
def spnSwapEffect (s : State) : State :=
  if s.bit 0x021C03 23 && decide (s.spn.swapAt < s.now) then
    let n := s.fld 0x021C03 4 0
    swLoseAck n ((coverSpan n 4 (s.put 0x021C03 23 23 0)).raise 0x021C01 1)
  else s

/-! ### The PN event queue (R102) -/

/-- Posts an entry: kind 0 THRESHOLD, 1 EXHAUSTED; lost where the queue holds 256. -/
def postPn (kind p : Nat) (s : State) : State :=
  if 256 ≤ s.spn.events.length then (s.bump 0x021C0B 23 0).raise 0x021C01 4
  else
    let s := s.onlyIf s.spn.events.isEmpty (·.raise 0x021C01 3)
    { s with spn := { s.spn with events := s.spn.events ++ [(kind, p)] } }

/-- SPN_PNEV_STAT and SPN_PNEV_PLATE as they read. Entries join at the tail and only SPN_PNEV_POP removes the head, so the head
that a read of SPN_PNEV_STAT has shown stays fixed. -/
def pnevStat (s : State) : Word :=
  match s.spn.events with
  | [] => 0
  | (k, _) :: _ => BitVec.ofNat 24 (2 ^ 23 + k * 2 ^ 22 + s.spn.events.length)
def pnevPlate (s : State) : Word :=
  match s.spn.events with
  | [] => 0
  | (_, p) :: _ => BitVec.ofNat 24 p

/-- SPN_PNEV_POP: bit 0 removes the head entry. -/
def pnevPop (w : Word) (s : State) : State :=
  if Word.bit w 0 then { s with spn := { s.spn with events := s.spn.events.tail } } else s

/-- A write of SPN_EVT (R117). CNT_CLR clears the SPN_n_CNTc and the TRS_m_CNTc; SPN_PNEV_OVF stays (log 135, DESIGN CHOICE). -/
def spnEvtWrite (w : Word) (s : State) : State :=
  let s := s.wr 0x021C01 (s.rd 0x021C01 &&& ~~~ (w &&& 0x00003F))
  s.onlyIf (Word.bit w 23) fun s =>
    (s.each (List.range 28) fun n s => s.zero (spnReg n 0x10) 24).each (List.range 32) fun m s => s.zero (trsReg m 0x10) 24

/-! ### The protected frame (R91–R99, R105, R106) -/

/-- SecTAG length of a channel (R93). -/
def secTagLen (r : Chan) : Nat := if r.sciMode = 0 then 16 else 8

/-- Whether the two bytes at `i` are a VLAN TPID. -/
def isTag (b : Bytes) (i : Nat) : Bool := let t := beNat ((b.drop i).take 2); t == 0x8100 || t == 0x88A8

/-- Bytes of the outer tags among the first `n` that a frame carries from offset 12 (R95). -/
def tagBytes (b : Bytes) : Nat → Nat
  | 0 => 0
  | n + 1 => if isTag b 12 then 4 + (if n ≥ 1 ∧ isTag b 16 then 4 else 0) else 0

/-- The length of a frame's protected form (R88, R92), of a client frame of `n` bytes with FCS. -/
def protectedLen (r : Chan) (n : Nat) : Nat := if r.stipple then r.size else max 64 (n + secTagLen r + 16)

/-- The cost of a frame in a span (R88). -/
def spanCost (f : Frame) : Nat :=
  match f.record with
  | some r =>
    let len := if r.rx then f.bytes.length else if f.port = 128 then r.size else protectedLen r f.bytes.length
    ceilDiv len 16 + 1
  | none => 0

/-- The AES key of a plate's content (R91). -/
def sakBytes (l : List Word) (suite : Nat) : Bytes :=
  let k := beBytes (wordsNat ((l.drop 4).take 11)) 32
  if suite = 1 ∨ suite = 3 then k else k.drop 16

/-- The IV of a frame (R94). -/
def gcmIv (l : List Word) (suite pn : Nat) : Bytes :=
  if suite < 2 then beBytes (wordsAt l 21) 8 ++ beBytes (pn % 2 ^ 32) 4
  else
    let x := beBytes (wordsNat ((l.drop 19).take 2)) 4 ++ beBytes pn 8
    let salt := beBytes (wordsNat ((l.drop 15).take 4)) 12
    List.zipWith (fun a b => a ^^^ b) x salt

/-- The SecTAG (R93) for `n` bytes of secure data. -/
def secTag (r : Chan) (an n pn : Nat) : Bytes :=
  let flags := (if r.sciMode = 1 then 0x40 else 0) + (if r.sciMode = 0 then 0x20 else 0) + 0x0C + an
  beBytes 0x88E5 2 ++ beBytes flags 1 ++ beBytes (if n < 48 then n else 0) 1 ++ beBytes (pn % 2 ^ 32) 4
    ++ (if r.sciMode = 0 then beBytes r.sci.toNat 8 else [])

/-- The padded payload of a stipple frame (R105): a client frame without FCS, or a cover frame. -/
def paddedPayload (r : Chan) (b : Option Bytes) : Bytes :=
  let n := r.size - 48
  let body := match b with
    | some b => beBytes 1 1 ++ beBytes 0 1 ++ beBytes (b.length - 12) 2 ++ beBytes 0 4 ++ b.take 12 ++ b.drop 12
    | none => beBytes 1 1 ++ beBytes 1 1 ++ List.replicate 18 0
  body ++ List.replicate (n - body.length) 0

/-- The protected form of a transmit frame (R92–R95, R105), and the octets of its secure data. -/
def protect (f : Frame) (r : Chan) (l : List Word) (pn : Nat) : Bytes × Nat :=
  let suite := Word.slice (l.getD 0 0) 19 17
  let an := Word.slice (l.getD 0 0) 16 15
  let b := f.bytes.take (f.bytes.length - 4)
  let t := if r.stipple then 0 else tagBytes b r.clearTags
  let head := if r.stipple then beBytes r.stipDa.toNat 6 ++ beBytes r.stipSa.toNat 6 else b.take (12 + t)
  let secure := if r.stipple then paddedPayload r (if f.port = 128 then none else some b) else b.drop (12 + t)
  let tag := secTag r an secure.length pn
  let off := min r.offset secure.length
  let (c, icv) := Config.gcmSeal (sakBytes l suite) (gcmIv l suite pn) (head ++ tag ++ secure.take off) (secure.drop off)
  let out := head ++ tag ++ secure.take off ++ c ++ icv
  (withFcs (out ++ List.replicate (60 - out.length) 0), secure.length)

/-- What a receive check finds: the counter of the failure, or the frame delivered, a cover frame. -/
inductive RxResult where
  | drop (c : Nat)
  | cover (pn secure : Nat)
  | deliver (pn secure : Nat) (out : Bytes)
deriving DecidableEq, Repr

/-- The lowest acceptable PN (R99): from the value written at install, H and WINDOW. -/
def lowestPn (low high window : Nat) : Nat := max low (high - window)

/-- PN recovery (R98). PN [63:32] is 32 bits wide. -/
def recoverPn (suite p rx : Nat) : Nat :=
  if suite < 2 then rx else if p % 2 ^ 32 ≤ rx then p / 2 ^ 32 * 2 ^ 32 + rx else (p / 2 ^ 32 + 1) % 2 ^ 32 * 2 ^ 32 + rx

/-- The replay bit of a PN against H and the bitmap (R99). -/
def replayBit (high rmap pn : Nat) : Bool :=
  if high < pn then false else if 127 < high - pn then true else rmap / 2 ^ (high - pn) % 2 == 1

/-- Steps 1 to 4 and 6 of R97 on a received frame, with the plate as it was at dispatch. -/
def receiveCheck (f : Frame) (r : Chan) (l : List Word) : RxResult :=
  let suite := Word.slice (l.getD 0 0) 19 17
  let b := f.bytes.take (f.bytes.length - 4)
  let head := b.take (12 + f.tags)
  let x := b.drop (12 + f.tags)
  let tci := (x.getD 2 0).toNat
  let sl := (x.getD 3 0).toNat % 64
  let tagLen := if tci / 32 % 2 = 1 then 16 else 8
  let n := if sl ≠ 0 then sl else x.length - tagLen - 16
  let fits := decide (tagLen + n + 16 ≤ x.length)
  if tci / 128 = 1 ∨ tci / 8 % 2 = 0 ∨ tci / 4 % 2 = 0 ∨ !fits ∨ (sl = 0 ∧ n < 48) ∨ 48 ≤ sl then .drop 4
  else
    let p := lowestPn (wordsAt l 33) f.high (Word.slice (l.getD 45 0) 6 0)
    let pn := recoverPn suite p (beNat ((x.drop 4).take 4))
    if r.replay ∧ pn < p then .drop 5
    else if r.replay ∧ replayBit f.high f.rmap pn then .drop 6
    else
      let secure := (x.drop tagLen).take n
      let off := min r.offset n
      match Config.gcmOpen (sakBytes l suite) (gcmIv l suite pn) (head ++ x.take tagLen ++ secure.take off) (secure.drop off)
          ((x.drop (tagLen + n)).take 16) with
      | none => .drop 7
      | some plain =>
        let data := secure.take off ++ plain
        if !r.stipple then .deliver pn n (withFcs (head ++ data))
        else
          let len := beNat ((data.drop 2).take 2)
          if data.getD 0 0 ≠ 1 ∨ 1 < (data.getD 1 0).toNat ∨ beNat ((data.drop 4).take 4) ≠ 0 ∨ n < len + 20 then .drop 12
          else if data.getD 1 0 = 1 then .cover pn n
          else .deliver pn n (withFcs ((data.drop 8).take 12 ++ (data.drop 20).take len))

/-- Step 5 of R97: check and set of the replay bit in the plate as it now is; `none` where it fails. -/
def replaySet (r : Chan) (high rmap pn : Nat) : Option (Nat × Nat) :=
  if r.replay && replayBit high rmap pn then none
  else if high < pn then some (pn, (rmap * 2 ^ (pn - high) + 1) % 2 ^ 128)
  else if 127 < high - pn then some (high, rmap)
  else some (high, rmap ||| 2 ^ (high - pn))

/-- The replay bitmap in words 39–44. -/
def rmapOf (l : List Word) : Nat := wordsNat ((l.drop 39).take 6)

/-- Counts a frame in its plate's PL_OCTETS and PL_FRAMES. (log 77, DEDUCED) -/
def plateTally (p g n : Nat) (s : State) : State :=
  let l := plateContent s p g
  dirtyPlate p (writeContent64 p g 49 (wordsAt l 49 + 1) (writeContent64 p g 46 (wordsAt l 46 + n) s))

/-- The extra cells of a frame's new form (R78): taken from the egress group, then charged to the domain. -/
def extraCells (f : Frame) (s : State) : Option (Frame × State) × (State → State) :=
  let n := cellsOf f.bytes.length - (f.cells + f.extra)
  let g := chargeGroup f.egress
  match takeCells g n s with
  | (false, _) => (none, deckDrop g 0)
  | (true, s') =>
    if n ≠ 0 ∧ !domainFits s f.dom n then (none, deckDrop g 1)
    else
      let f := { f with extra := f.extra + n }
      (some (f, setFrame f (domAdd f.dom n s')), id)

/-- The pair is INTACT and this device its active: receive state is mirrored (R353–R356). -/
def mirroring (s : State) : Bool := s.fld 0x0B0001 23 22 == 1 && s.fld 0x0B0001 21 19 == 4

/-- A frame in its new form goes to the deck, or is dropped for want of cells. A decrypted frame of an INTACT pair is held
until the standby has acknowledged the marks of its batch's stroke (R356). -/
def storeForm (f : Frame) (b : Bytes) (s : State) : State :=
  match extraCells { f with bytes := b } s with
  | (some (f, s), _) =>
    let s := pauseCheck (chargeGroup f.egress) s
    match f.stage, f.record with
    | .batch _ k _, some r => if r.rx && mirroring s then setFrame { f with stage := .held k } s else makeReady f s
    | _, _ => makeReady f s
  | (none, cause) => dropBound f cause s

/-- A transmit frame of a batch is released (R92, R398). -/
def releaseTx (n : Nat) (f : Frame) (r : Chan) (s : State) : State :=
  let l := plateContent s f.plate f.gen
  let cover := f.port = 128
  let (b, octets) := protect f r l (f.pn.getD 0)
  let s := plateTally f.plate f.gen octets s
  let s := unitCount (some n) f.trusses (if cover then 2 else 0) s
  let s := ledgerAdd f.dom 0 octets s
  let s := ledgerAdd f.dom (if cover then 4 else 1) 1 s
  storeForm f b s

/-- A receive plate's H has changed: the stroke's MARK lists it (R356). -/
def noteMark (p h : Nat) (s : State) : State :=
  if mirroring s then { s with vdt := { s.vdt with changed := s.vdt.changed.filter (·.1 != p) ++ [(p, h)] } } else s

/-- The replay state of a receive plate is written: H and the bitmap. -/
def writeReplay (f : Frame) (h m : Nat) (s : State) : State :=
  let old := wordsAt (plateContent s f.plate f.gen) 36
  let s := writeContent64 f.plate f.gen 36 h s
  let s := s.each (List.range 6) fun i s => writeContent f.plate f.gen (39 + i) (BitVec.ofNat 24 (m / 2 ^ (24 * i))) s
  if old = h then s else noteMark f.plate h s

/-- A receive frame of a batch is released (R97, R106, R398). -/
def releaseRx (n : Nat) (f : Frame) (r : Chan) (s : State) : State :=
  let l := plateContent s f.plate f.gen
  let accept := fun (pn secure : Nat) (k : State → State) (s : State) =>
    match replaySet r (wordsAt l 36) (rmapOf l) pn with
    | none => dropBound f (unitCount (some n) f.trusses 6) s
    | some (h, m) =>
      k (plateTally f.plate f.gen secure (writeReplay f h m s))
  match receiveCheck f r l with
  | .drop 12 =>
    -- Step 6 fails after step 5 has set the replay bit.
    match replaySet r (wordsAt l 36) (rmapOf l) (recoverPn (Word.slice (l.getD 0 0) 19 17)
        (lowestPn (wordsAt l 33) f.high (Word.slice (l.getD 45 0) 6 0)) (beNat (((f.bytes.drop (12 + f.tags)).drop 4).take 4))) with
    | none => dropBound f (unitCount (some n) f.trusses 6) s
    | some (h, m) =>
      dropBound f (unitCount (some n) f.trusses 4) (writeReplay f h m s)
  | .drop c => dropBound f (unitCount (some n) f.trusses c) s
  | .cover pn secure => accept pn secure (fun s =>
      freeFrame f (ledgerAdd f.dom 4 1 (unitCount (some n) f.trusses 3 s))) s
  | .deliver pn secure out => accept pn secure (fun s =>
      storeForm f out (ledgerAdd f.dom 3 1 (ledgerAdd f.dom 2 secure (unitCount (some n) f.trusses 1 s)))) s

/-- One frame of span `n`'s batch is released at the boundary that ends its stroke (R89, R113). -/
def releaseOne (n : Nat) (f : Frame) (s : State) : State :=
  match f.stage, f.record with
  | .batch _ _ true, _ => dropBound f (unitCount (some n) f.trusses 11) s
  | _, some r => if r.rx then releaseRx n f r s else releaseTx n f r s
  | _, none => s

/-- BATCH_RELEASE of span `n`. The span's key registers are zero after it (R90): State holds them in no other way. -/
def batchRelease (n : Nat) (s : State) : State :=
  s.each (s.dck.frames.filter fun f => match f.stage with
    | .batch m k _ => m == n && decide (k < s.now)
    | _ => false) (releaseOne n)

/-! ### The dispatcher (R100–R103, R107, R112) -/

/-- Cycles that span `n` still has at this boundary (R89). -/
def creditLeft (s : State) (n : Nat) : Nat := 1000 + Tab.get 0 s.spn.carry n - Tab.get 0 s.spn.spent n

/-- The lowest-indexed span with enough credit, level by level (R112). -/
def spanFor (s : State) (f : Frame) (cost : Nat) : Option Nat :=
  f.levels.findSome? fun lv => lv.find? fun n => decide (cost ≤ creditLeft s n)

/-! ### Viaduct frames (R344, R345) -/

/-- A number as `n` bytes, least significant first. -/
def leBytes (v n : Nat) : Bytes := (beBytes v n).reverse

/-- The EAPOL frames of packet type 0xC1 that carry an agreement message (R195), each of at most 9,216 bytes of it (log 152, DESIGN
CHOICE). -/
def eapolFrames (src : BitVec 48) (body : Bytes) : List Bytes :=
  (List.range ((body.length + 9215) / 9216)).map fun k =>
    let part := (body.drop (9216 * k)).take 9216
    let b := beBytes 0x0180C2000003 6 ++ beBytes src.toNat 6 ++ beBytes 0x888E 2 ++ [3, 0xC1] ++ beBytes part.length 2 ++ part
    withFcs (b ++ List.replicate (60 - b.length) 0)

/-- TYPE of a message, 0 for the agreement, which is no message of the pair (R345). -/
def Message.type : Message → Nat
  | .heartbeat .. => 0x01 | .res .. => 0x02 | .resAck .. => 0x03 | .mark .. => 0x04 | .markAck .. => 0x05 | .setup .. => 0x06
  | .setupAck .. => 0x07 | .ledger .. => 0x08 | .relinquish => 0x09 | .handover .. => 0x0A | .handoverAck => 0x0B | .agreement .. => 0

/-- A stroke time as 7 bytes, and a stamp as 9 (R345). -/
def timeBytes (t : StrokeTime) : Bytes := leBytes t.num.toNat 6 ++ leBytes t.era.toNat 1
def stampBytes (t : Stamp) : Bytes := timeBytes t.time ++ leBytes t.cycle.toNat 2

/-- The content of a message (R345). The fields are those of the rule, in its order; their widths and the echo of the peer's stamp are not given
(log 152, DESIGN CHOICE). -/
def Message.content : Message → Bytes
  | .heartbeat t r p h e => timeBytes t ++ leBytes r 1 ++ leBytes p 1 ++ leBytes (if h then 1 else 0) 1 ++ stampBytes ⟨t, 0⟩
      ++ (match e with | some (a, b) => stampBytes a ++ stampBytes b | none => beBytes 0 18)
  | .res p v | .resAck p v => leBytes p 3 ++ leBytes v 8
  | .mark k l => leBytes k 6 ++ l.flatMap fun x => leBytes x.1 3 ++ leBytes x.2 8
  | .markAck k => leBytes k 6
  | .setup i _ => leBytes i 4 ++ Config.setupBytes i
  | .setupAck i => leBytes i 4
  | .ledger rows => rows.flatMap fun r => leBytes r.toNat 21
  | .relinquish | .handoverAck => []
  | .handover t => timeBytes t
  | .agreement _ _ b => b

/-- The device with the lower ID was the initiator of the pair's agreement: direction 1 is from it, 2 to it (R195, R344). -/
def viaductDir (s : State) : Nat := if beNat (deviceId s) < s.rdN 0x0B0014 4 then 1 else 2

/-- The protected frame of a message (R344, R345): MACsec of suite 3 with an explicit SCI, under keys of the pair key and the direction. -/
def viaductFrame (s : State) (m : Message) : Bytes :=
  let d := viaductDir s
  let pair := Tab.get [] s.key.agreed 4
  let sak := kdf pair 256 0x04 0x20 (ascii "FT7240 viaduct sak") (beBytes d 1) 32
  let salt := kdf pair 256 0x04 0x20 (ascii "FT7240 viaduct salt") (beBytes d 1) 12
  let pn := s.vwire.pn + 1
  let (da, sa, sci) := Config.viaductAddress d
  let body := m.content
  let secure := leBytes m.type 1 ++ [0] ++ leBytes body.length 2 ++ leBytes (Tab.get 0 s.vwire.seqs m.type) 4 ++ body
  let head := beBytes da.toNat 6 ++ beBytes sa.toNat 6 ++ beBytes 0x88E5 2 ++ beBytes 0x2C 1
    ++ beBytes (if secure.length < 48 then secure.length else 0) 1 ++ beBytes (pn % 2 ^ 32) 4 ++ beBytes sci.toNat 8
  let iv := List.zipWith (fun a b => a ^^^ b) (beBytes d 4 ++ beBytes pn 8) salt
  let (c, icv) := Config.gcmSeal sak iv head secure
  withFcs (head ++ c ++ icv)

/-- What stands on the viaduct after a message: its protected frame, or the EAPOL frames of the agreement that forms the pair (R20). -/
def viaductSent (m : Message) (s : State) : ViaductWire :=
  match m with
  | .agreement _ _ b => { s.vwire with frames := s.vwire.frames ++ eapolFrames (Config.portAddress 32) b }
  | m => ⟨s.vwire.frames ++ [viaductFrame s m], s.vwire.pn + 1, Tab.set 0 s.vwire.seqs m.type (Tab.get 0 s.vwire.seqs m.type + 1)⟩

/-- A viaduct message is sent (R345). -/
def sendViaduct (m : Message) (s : State) : State :=
  { s with vdt := { s.vdt with sent := s.vdt.sent ++ [m] }, vwire := viaductSent m s }

/-- Sends an extension of the PN reservation (R137): the value asked for waits for the peer's acknowledgment; in a
degraded pair it is in force at once. -/
def extendReservation (p g : Nat) (s : State) : State :=
  let l := plateContent s p g
  let res := wordsAt l 27
  if s.plateFld p 0 12 12 = 1 ∧ res ≤ wordsAt l 24 + 2 ^ 19 ∧ (Tab.get none s.plc.extending p).isNone then
    if s.fld 0x0B0001 21 19 = 5 then writeContent64 p g 27 (res + 2 ^ 20) s
    else sendViaduct (.res p (res + 2 ^ 20))
      ({ s with plc := { s.plc with extending := Tab.set none s.plc.extending p (some (res + 2 ^ 20)) } }.count 0x0B0028)
  else s

/-- The home span by which a frame is counted, where its home is one span. -/
def Frame.homeSpan (f : Frame) : Option Nat := match f.levels with | [[n], _] => some n | _ => none

/-- A frame gets its PN (R100–R103): dropped past the last PN, waiting (`none`) at the reservation. After PN 2^64 − 1 PL_PN, whose 64
bits hold no next PN, reads 0 (log 146, DESIGN CHOICE). (log 74, DESIGN CHOICE) -/
def givePn (f : Frame) (s : State) : Option (Option Frame × State) :=
  let p := f.plate
  let g := f.gen
  let l := plateContent s p g
  let suite := Word.slice (l.getD 0 0) 19 17
  let pn := wordsAt l 24
  match f.pn with
  | some _ => some (some f, s)
  | none =>
    if lastPn suite < pn ∨ s.plc.exhausted.contains (p, g) then
      let s := dropBound f (unitCount f.homeSpan f.trusses 8) s
      if Word.bit (l.getD 45 0) 22 then some (none, s)
      else some (none, postPn 1 p (writeContent p g 45 (Word.put (l.getD 45 0) 22 22 1) s))
    else if Word.bit (l.getD 0 0) 12 ∧ wordsAt l 27 ≤ pn then none
    else
      let s := writeContent64 p g 24 (pn + 1) s
      let s := if pn + 1 = 2 ^ 64 then { s with plc := { s.plc with exhausted := s.plc.exhausted ++ [(p, g)] } } else s
      let s := if wordsAt l 30 ≤ pn ∧ !Word.bit (l.getD 45 0) 23 then
        postPn 0 p (writeContent p g 45 (Word.put (l.getD 45 0) 23 23 1) s) else s
      let s := extendReservation p g (dirtyPlate p s)
      some (some { f with pn := some pn }, s)

/-- A frame goes to span `n` in the batch of this stroke. -/
def intoBatch (n cost : Nat) (f : Frame) (s : State) : State :=
  let l := plateContent s f.plate f.gen
  let f := { f with stage := .batch n s.now false, high := wordsAt l 36, rmap := rmapOf l }
  let s := { s with spn := { s.spn with spent := Tab.set 0 s.spn.spent n (Tab.get 0 s.spn.spent n + cost) } }
  usePlate f.plate ((setFrame f s).pmcEvent { code := 0x12, src := some (0x50 + n), dom := some f.dom, amount := cost })

/-- The dispatcher considers one frame (R112): the channels skipped at this boundary are carried along. -/
def considerFrame (f : Frame) (t : List Nat × State) : List Nat × State :=
  let (skip, s) := t
  let c := f.chan.getD 0
  if skip.contains c then (skip, s)
  else
    let here := resident s f.plate || !plateCurrent s f.plate f.gen
    let s := if f.seen || !here then s
      else (plcCount 0 s).pmcEvent { code := 0x14, dom := some f.dom }
    let f := { f with seen := true }
    if !here then (skip ++ [c], requestPlate f.plate f.dom .demand (setFrame f s))
    else if Word.slice ((plateContent s f.plate f.gen).getD 0 0) 23 21 = 2 then (skip, dropBound f (plcCount 8) s)
    else
      let rx := match f.record with | some r => r.rx | none => false
      match (if rx then some (some f, s) else givePn f s) with
      | none => (skip ++ [c], extendReservation f.plate f.gen (setFrame f s))
      | some (none, s) => (skip, s)
      | some (some f, s) =>
        match spanFor s f (spanCost f) with
        | some n => (skip, intoBatch n (spanCost f) f s)
        | none => (skip, (setFrame f s).pmcEvent
            { code := 0x13, src := some (0x50 + ((f.levels.head?.bind (·.head?)).getD 0)), dom := some f.dom })

/-- A frame put into a list by binding stroke, ingress port, arrival. -/
def insertFrame (f : Frame) : List Frame → List Frame
  | [] => [f]
  | g :: t =>
    if f.bind < g.bind ∨ (f.bind = g.bind ∧ (f.port < g.port ∨ (f.port = g.port ∧ f.id < g.id))) then f :: g :: t
    else g :: insertFrame f t

/-- A frame of a transmit stipple channel. -/
def Frame.stippled (f : Frame) : Bool := match f.record with | some r => r.stipple && !r.rx | none => false

/-- The bound frames that wait for dispatch and were bound before this stroke, in the dispatcher's order. -/
def dispatchOrder (s : State) : List Frame :=
  (s.dck.frames.filter fun f => f.stage == .waiting && decide (f.bind < s.tick) && !f.stippled).foldl (fun l f => insertFrame f l) []

/-- The plate of a transmit channel's current AN. -/
def currentPlate (r : Chan) : Option Nat := r.current.bind fun a => r.plates.getD a none

/-- The frames of channel `c` that wait for an emission, in sequence order, and those of an emission that wait for a span, in the order
of their PNs (R107). -/
def stippleWait (s : State) (c : Nat) : List Frame :=
  (s.dck.frames.filter fun f => f.chan == some c && f.stage == .waiting && f.stippled && !f.stipple && decide (f.bind < s.tick)).foldl
    (fun l f => insertFrame f l) []
def stippleDeferred (s : State) (c : Nat) : List Frame :=
  s.dck.frames.filter fun f => f.chan == some c && f.stage == .waiting && f.stipple

/-- The record that sets channel `c`'s emissions: the one in force, or, where the channel is open no more, that of the oldest frame
that waits for one (R17). -/
def emissionRecord (s : State) (c : Nat) : Option Chan :=
  match Tab.get none s.dck.chans c with
  | some r => if r.stipple && !r.rx then some r else (stippleWait s c).head?.bind (·.record)
  | none => (stippleWait s c).head?.bind (·.record)

/-- A frame is taken for an emission: it goes behind every other frame of the deck, so that the frames of a burst stand in the order
of their PNs. -/
def takeStipple (f : Frame) (s : State) : State :=
  { s with dck := { s.dck with frames := s.dck.frames.filter (·.id != f.id) ++ [{ f with stipple := true }] } }

/-- A cover frame of channel `c` under plate `p` (R105, R107). -/
def coverFrame (c p : Nat) (r : Chan) (s : State) : State :=
  let (lv, ms) := chanLevels s.spn.layout c
  let g := plateGen s p
  let f : Frame := { Frame.blank with
    id := s.dck.nextId, port := 128, dom := r.dom, chan := some c, bind := s.tick, plate := p, gen := g
    record := some r, egress := r.line, seen := true, levels := lv, trusses := ms, stipple := true }
  addRef p g { s with dck := { s.dck with frames := s.dck.frames ++ [f], nextId := s.dck.nextId + 1 } }

/-- The frames of an emission due in the next stroke are taken (R105, R107): up to COUNT waiting frames, then cover frames while the
channel is open and has a plate. A frame too long for its SIZE is dropped when its emission comes, and counts towards BURST until
then (log 136, DESIGN CHOICE). -/
def stippleTake (c : Nat) (r : Chan) (s : State) : State :=
  let tooLong := fun (f : Frame) => match f.record with | some x => decide (x.size < f.bytes.length + 52) | none => true
  let wait := stippleWait s c
  let s := s.each (wait.filter tooLong) fun f s => dropBound f (unitCount f.homeSpan f.trusses 9) s
  let real := (wait.filter fun f => !tooLong f).take r.count
  let s := s.each real takeStipple
  match if Tab.get none s.dck.chans c = some r then currentPlate r else none with
  | some p => s.each (List.range (r.count - real.length)) fun _ => coverFrame c p r
  | none => s

/-- STIPPLE_EMISSION of channel `c` (R104, R105, R107): an emission due in stroke E is taken at the boundary that begins E − 1; what
an earlier one left deferred is considered first (R112). -/
def stippleEmit (c : Nat) (s : State) : State :=
  if s.stk.done.contains (16 + c) || !s.transmits || decide (s.now < s.spn.pausedUntil) then s
  else
    let s := match emissionRecord s c with
      | some r => if (s.now + 1) % 2 ^ r.plog = r.phase then stippleTake c r s else s
      | none => s
    let fs := stippleDeferred s c
    if fs.isEmpty then s
    else
      let s := { s with stk := { s.stk with done := (16 + c) :: s.stk.done } }
      (fs.foldl (fun t f => considerFrame f t) ([], s)).2

/-- The channels that may have a stipple emission at this boundary. -/
def stippleChans (s : State) : List Nat :=
  (s.dck.chans.map (·.1) ++ s.dck.frames.filterMap fun f => if f.stippled && f.stage == .waiting then f.chan else none).eraseDups

/-- A boundary's credit begins (R89): what was left unused, at most 6 cycles, is carried. -/
def creditBegin (s : State) : State :=
  { s with spn := { s.spn with
    carry := (List.range 28).foldl (fun t n => Tab.set 0 t n (min 6 (creditLeft s n))) s.spn.carry
    spent := [] } }

/-- SPN_n_USED and TRS_m_USED at a boundary: the cycles dispatched for the stroke that it ends. -/
def usedShow (s : State) : State :=
  let s := s.each (List.range 28) fun n s => s.wr (spnReg n 3) (BitVec.ofNat 24 (Tab.get 0 s.spn.spent n))
  s.each (List.range 32) fun m s => match planTruss s.spn.layout m with
    | some t => s.wr (trsReg m 3) (BitVec.ofNat 24 ((t.leaves.map fun n => Tab.get 0 s.spn.spent n).sum))
    | none => s

/-- The dispatcher's work at a boundary (R112): emissions, then every other bound frame in order. -/
def dispatch (s : State) : State :=
  let s := creditBegin (usedShow s)
  let s := s.each (stippleChans s) stippleEmit
  let s := if s.transmits && decide (s.spn.pausedUntil ≤ s.now) then
    ((dispatchOrder s).foldl (fun t f => considerFrame f t) ([], s)).2 else s
  { s with plc := { s.plc with used := [] } }

end Sys2Proof.Machine
end

