-- ==== Sys2Proof/Machine/Ports.lean ====
section
/-! DEFINITION. Ports (03_ports_and_deck.md): bring-up of lanes and ports, the arrival of frames, classification and
binding. -/

namespace Sys2Proof.Machine

/-! ### Bring-up (R66–R71) -/

/-- MODE, MEDIUM of the settings in force for group `g`. -/
def modeActive (s : State) (g : Nat) : Nat := Word.slice (Tab.get 0 s.dck.active g) 11 8
def mediumActive (s : State) (g : Nat) : Nat := Word.slice (Tab.get 0 s.dck.active g) 17 16

/-- The first state of a port's bring-up (R67): AN (1) on KR and CR media, ALIGN (3) on C2M and where IEEE 802.3 defines
neither auto-negotiation nor training for the port type (log 22, DEDUCED: 10 Gb/s on copper cable). -/
def firstState (mode medium : Nat) : Nat := if medium = 2 ∨ (medium = 1 ∧ mode = 6) then 3 else 1

/-- The group view of its ports (PRT_GRPg_STAT). -/
def groupShow (g : Nat) (s : State) : State :=
  let up := ((List.range 4).filter fun p => portState s (4 * g + p) == 4).foldl (fun v p => v + 2 ^ p) 0
  let lock := ((List.range 4).filter fun l => s.bit (laneReg (4 * g + l) 1) 23).foldl (fun v l => v + 2 ^ l) 0
  s.wr (grpReg g 1) (BitVec.ofNat 24 (lock * 2 ^ 16 + up * 2 ^ 12 + modeActive s g * 2 ^ 8))

/-- A port enters a state. -/
def setPort (port st : Nat) (s : State) : State :=
  groupShow (port / 4) ({ s with dck := { s.dck with since := Tab.set 0 s.dck.since port s.tick } }.put (portReg port 1) 2 0 st)

/-- What a port's link loss does to frames (R69): a frame being received is discarded and counted in RX_LEN; every frame
awaiting transmission is dropped. -/
def portFrames (port : Nat) (s : State) : State :=
  let arriving := s.dck.frames.filter fun f => f.port == port && (match f.stage with | .arriving _ => true | _ => false)
  dropAwaiting port (s.each arriving fun f s => dropUnbound f (portCount port 3) s)

/-- A port leaves UP, if it was there: DOWN (R68). -/
def portLeaves (port : Nat) (s : State) : State :=
  portFrames port (s.onlyIf (portState s port == 4) (·.raise (grpReg (port / 4) 2) (port % 4)))

/-- A port that is enabled, present and DISABLED starts its bring-up. -/
def portStart (port : Nat) (s : State) : State :=
  if portState s port == 0 && s.bit (portReg port 0) 23 && portPresent (modeActive s (port / 4)) (port % 4) then
    setPort port (firstState (modeActive s (port / 4)) (mediumActive s (port / 4))) s
  else s

/-- Whether a change of MODE, MEDIUM or FEC25 awaits its boundary (R69). -/
def modeDue (s : State) (g : Nat) : Bool :=
  let w := s.rd (grpReg g 0)
  let a := Tab.get 0 s.dck.active g
  Word.slice w 11 8 != Word.slice a 11 8 || Word.slice w 17 16 != Word.slice a 17 16 || Word.slice w 12 12 != Word.slice a 12 12

/-- GROUP_MODE_CHANGE (R69): every port goes to DISABLED, its frames are dropped, and bring-up starts in the new
setting. -/
def groupModeChange (g : Nat) (s : State) : State :=
  if modeDue s g then
    let ports := (List.range 4).map (4 * g + ·)
    let s := s.each ports fun p s => setPort p 0 (portLeaves p s)
    let s := s.each ports fun p s => s.put (laneReg p 1) 23 23 0
    let w := s.rd (grpReg g 0)
    let s := { s with dck := { s.dck with active := Tab.set 0 s.dck.active g (w &&& 0x031F00) } }
    groupShow g (s.each ports portStart)
  else s

/-- PORT_DISABLE (R69): EN written 0 puts the port in DISABLED at the next boundary. -/
def portDisable (port : Nat) (s : State) : State :=
  if portState s port != 0 && !s.bit (portReg port 0) 23 then setPort port 0 (portLeaves port s) else s

/-- BRINGUP_TIMEOUT (R68): AN or TRAINING not completed within 2^TRAIN_TO strokes starts again and counts a retry. -/
def bringupTimeout (port : Nat) (s : State) : State :=
  let st := portState s port
  if (st = 1 ∨ st = 2) ∧ Tab.get 0 s.dck.since port + 2 ^ s.fld (grpReg (port / 4) 0) 4 0 ≤ s.tick then
    setPort port st (s.bump (portReg port 1) 23 16)
  else s

/-- Auto-negotiation completes: link training follows (R67). -/
def anComplete (port : Nat) (s : State) : State := if portState s port = 1 then setPort port 2 s else s

/-- Link training completes: PCS alignment follows (R67). -/
def trainingComplete (port : Nat) (s : State) : State := if portState s port = 2 then setPort port 3 s else s

/-- The lanes of port `port` in the mode in force (R66). -/
def portLanes (s : State) (port : Nat) : List Nat :=
  match modeActive s (port / 4) with
  | 1 => (List.range 4).map (4 * (port / 4) + ·)
  | 2 => [port, port + 1]
  | _ => [port]

/-- PORT_UP (R68): the PCS has aligned and the FEC has locked. The lanes are locked to their signal then. -/
def portEnterUp (port : Nat) (s : State) : State :=
  if portState s port = 3 ∧ (portLanes s port).all (fun l => s.bit (laneReg l 1) 23) then
    (setPort port 4 s).raise (grpReg (port / 4) 2) (4 + port % 4)
  else s

/-- PORT_LINK_DOWN (R68, R69): loss of alignment or of FEC lock in UP. -/
def portLinkDown (port : Nat) (s : State) : State :=
  if portState s port = 4 then
    let s := portLeaves port s
    setPort port (firstState (modeActive s (port / 4)) (mediumActive s (port / 4))) s
  else s

/-- The port of a lane in the mode in force. -/
def laneOwner (s : State) (lane : Nat) : Nat :=
  match modeActive s (lane / 4) with
  | 1 => 4 * (lane / 4)
  | 2 => lane / 2 * 2
  | _ => lane

/-- LANE_LOCK: a lane's clock and data recovery locks or loses lock. LOCK can rise in TRAINING, or in ALIGN of a port that
does not train; never in another state (PRT_LANEgl_STAT). A lane whose PLL failed is left
disabled (R433). -/
def laneLock (lane : Nat) (locked : Bool) (s : State) : State :=
  let st := portState s (laneOwner s lane)
  if locked ∧ (!(st == 2 || (st == 3 && firstState (modeActive s (lane / 4)) (mediumActive s (lane / 4)) == 3))
      || decide (3 ≤ Tab.get 0 s.pwr.pllTries (4 + lane))) then s
  else groupShow (lane / 4) (s.flag (laneReg lane 1) 23 locked)

/-- What the PCS of a lane's port sees: a local fault, and a remote fault received (R86). -/
def portFaults (lane : Nat) (localFault remoteFault : Bool) (s : State) : State :=
  let a := portReg (laneOwner s lane) 1
  (s.flag a 4 localFault).flag a 3 remoteFault

/-- MARGIN_RECAL_QUEUE (R71): a lane of a port in UP whose eye margin falls below MARGIN_MIN queues its recalibration.
Lanes 32 and 33 belong to the viaduct, whose
registers hold no margin. -/
def marginRecal (lane margin : Nat) (s : State) : State :=
  if lane < 32 then
    let s := s.put (laneReg lane 1) 5 0 (min 63 margin)
    if portState s (laneOwner s lane) = 4 ∧ min 63 margin < s.fld (laneReg lane 0) 23 18 then testRequest 114 (0x40 + lane) s else s
  else s

/-! ### Look-ahead and classification (R83) -/

/-- The bucket of a line port and an SCI (R83 step 6). (log 70, DEDUCED) -/
def sciBucket (s : State) (port : Nat) (sci : BitVec 64) : Nat :=
  (crc32 (beBytes port 1 ++ beBytes sci.toNat 8)).toNat % bucketMax s

/-- The channel of a line port and an SCI. -/
def sciChannel (s : State) (port : Nat) (sci : BitVec 64) : Option Nat :=
  ((Tab.get [] s.dck.buckets (sciBucket s port sci)).find? fun (p, x, _) => p == port && x == sci).map fun (_, _, c) => c

/-- Where a frame goes (R83). -/
inductive Verdict where
  | pauseOrControl
  | clear (act : Nat)
  | unmapped
  | unkeyed
  | noTag
  | bound (chan plate tags : Nat)
deriving DecidableEq, Repr

/-- The client side (R83): rules, VID map, channel record. -/
def classifyClient (s : State) (port : Nat) (b : Bytes) : Verdict :=
  match ccAction s 0 b with
  | some a => .clear a
  | none =>
    let vid := if isTag b 12 then beNat ((b.drop 14).take 2) % 4096 else 0
    match Tab.get 0 s.dck.vids (4096 * port + vid) with
    | 0 => .unmapped
    | c + 1 =>
      match (Tab.get none s.dck.chans c).bind currentPlate with
      | some p => .bound c p 0
      | none => .unkeyed

/-- The SCI of a SecTAG at offset `i` (R83 step 5). -/
def sciOf (s : State) (port : Nat) (b : Bytes) (i : Nat) : BitVec 64 :=
  let tci := (b.getD (i + 2) 0).toNat
  if tci / 32 % 2 = 1 then BitVec.ofNat 64 (beNat ((b.drop (i + 8)).take 8))
  else if tci / 64 % 2 = 1 then BitVec.ofNat 64 (beNat ((b.drop 6).take 6) * 2 ^ 16 + 1)
  else BitVec.ofNat 64 (s.rdN (portReg port 2) 3 % 2 ^ 64)

/-- The line side (R83). -/
def classifyLine (s : State) (port : Nat) (b : Bytes) : Verdict :=
  match ccAction s 1 b with
  | some a => .clear a
  | none =>
    let t := tagBytes b (s.fld (portReg port 0) 15 14)
    let tci := (b.getD (14 + t) 0).toNat
    if beNat ((b.drop (12 + t)).take 2) ≠ 0x88E5 ∨ tci / 16 % 2 = 1 then .noTag
    else match sciChannel s port (sciOf s port b (12 + t)) with
      | none => .unmapped
      | some c =>
        match (Tab.get none s.dck.chans c).bind fun r => r.plates.getD (tci % 4) none with
        | some p => .bound c p t
        | none => .unkeyed

/-- The classification of a frame's bytes (FCS last) on a port. -/
def classify (s : State) (port : Nat) (b : Bytes) : Verdict :=
  if beNat ((b.drop 12).take 2) = 0x8808 then .pauseOrControl
  else if port < 16 then classifyClient s port b else classifyLine s port b

/-- The look-ahead sent when a frame's first cell completes (R83). -/
def sendLookAhead (port : Nat) (b : Bytes) (s : State) : State :=
  match classify s port b with
  | .bound c p _ => lookAhead p (match Tab.get none s.dck.chans c with | some r => r.dom | none => 512) s
  | _ => s

/-! ### Arrival (R76) -/

/-- The frame being received on a port. -/
def arrivingOn (s : State) (port : Nat) : Option Frame :=
  s.dck.frames.find? fun f => f.port == port && (match f.stage with | .arriving _ => true | _ => false)

/-- Whether a frame's take has failed. -/
def Frame.failed (f : Frame) : Bool := match f.stage with | .arriving b => b | _ => false

/-- CELL_TAKE (R76): bytes of a frame arrive on a port that is UP (or on the viaduct, 32); each 256 of them take a cell of
the port's group. Once a take has failed the rest of the frame is discarded; its length is still counted for R72. The
first cell sends the look-ahead. -/
def cellTake (port : Nat) (b : Bytes) (s : State) : State :=
  if !portUp s port then s
  else
    let g := chargeGroup port
    let f := (arrivingOn s port).getD { Frame.blank with id := s.dck.nextId, port := port, stage := .arriving false }
    let first := f.bytes.isEmpty
    let s := if (arrivingOn s port).isSome then s
      else { s with dck := { s.dck with frames := s.dck.frames ++ [f], nextId := s.dck.nextId + 1 } }
    let s := if first then sendLookAhead port b s else s
    let n := cellsOf b.length
    let before := groupUse s g
    let (ok, s') := if f.failed then (false, s) else takeCells g n s
    let f := { f with bytes := f.bytes ++ b, cells := f.cells + (groupUse s' g - before), stage := .arriving (!ok) }
    pauseCheck g (setFrame f s')

/-! ### Binding (R83, R77, R84) -/

/-- The egress port of a channel's frame. -/
def chanEgress (r : Chan) : Nat := if r.rx then r.client else r.line

/-- A clear-class frame (R77, R84): dropped, passed to the opposite port, or placed on a control queue, charged to
OWN. -/
def bindClear (f : Frame) (act : Nat) (s : State) : State :=
  let g := chargeGroup f.port
  if act = 0 then dropUnbound f (deckDrop g 7) s
  else if !domainFits s 256 f.cells then dropUnbound f (deckDrop g 1) s
  else
    let s := domAdd 256 f.cells s
    let f := { f with dom := 256, bind := s.tick }
    if act = 1 then
      let out := { f with egress := if f.port < 16 then f.port + 16 else f.port - 16 }
      makeReady out (setFrame out s)
    else cqReceive g (f.port % 4) f (setFrame f s)

/-- Whether a channel over port `port` has a plate: the port is keyed (R34). -/
def portKeyed (s : State) (port : Nat) : Bool :=
  s.dck.chans.any fun (_, x) => match x with
    | some r => (r.client == port || r.line == port) && r.plates.any (·.isSome)
    | none => false

/-- In appliance mode all traffic of a port is dropped until its channel is keyed (R34). The EAPOL frames of the agreement that
keys it are no traffic. -/
def applianceDrops (s : State) (port : Nat) (b : Bytes) : Bool :=
  s.stk.appliance && decide (port < 32) && !portKeyed s port && beNat ((b.drop 12).take 2) != 0x888E

/-- A frame is bound to its channel (R77, R83): charged to the channel's tenant, given the next sequence number, held under
the setup in force (R17). A stipple channel with BURST frames waiting drops it (R107). -/
def bindChannel (f : Frame) (c p tags : Nat) (r : Chan) (s : State) : State :=
  let g := chargeGroup f.port
  if !domainFits s r.dom f.cells then dropUnbound f (deckDrop g 1) s
  else
    let seq := Tab.get 0 s.dck.seqs c
    let (lv, ms) := chanLevels s.spn.layout c
    let gen := plateGen s p
    let s := addRef p gen (domAdd r.dom f.cells s)
    let s := { s with dck := { s.dck with seqs := Tab.set 0 s.dck.seqs c ((seq + 1) % 2 ^ 24) } }
    let f := { f with
      dom := r.dom, chan := some c, seq := seq, bind := s.tick, plate := p, gen := gen, record := some r, egress := chanEgress r
      levels := lv, trusses := ms, tags := tags, stage := .waiting }
    let s := (setFrame f s).pmcEvent { code := 0x10, src := some (0x80 + g), dom := some r.dom }
    let waiting := (s.dck.frames.filter fun x => x.chan == some c && x.stage == .waiting && !x.stipple).length
    if r.stipple ∧ !r.rx ∧ r.burst < waiting then dropBound f (unitCount f.homeSpan ms 10) s else s

/-- What PAUSE asks of a client port (R72, R73): `quanta` of 512 bit times at the port's rate, in strokes. -/
def pauseStrokes (mode quanta : Nat) : Nat :=
  let mbps := match mode with | 1 => 400000 | 2 => 200000 | 3 => 100000 | 4 => 50000 | 5 => 25000 | _ => 10000
  ceilDiv (quanta * 512 * 1000) (mbps * 800)

/-- A MAC control frame (R72): discarded; PAUSE is acted on where the client port's PAUSE_RX is 1. -/
def macControl (f : Frame) (s : State) : State :=
  let b := f.bytes
  let s := if f.port < 16 && s.bit (portReg f.port 0) 22 && beNat ((b.drop 14).take 2) == 1 then
      let until_ := s.tick + pauseStrokes (modeActive s (f.port / 4)) (beNat ((b.drop 16).take 2))
      { s with dck := { s.dck with paused := Tab.set 0 s.dck.paused f.port until_ } }
    else s
  dropUnbound f (portCount f.port 4) s

/-- PAUSE_QUANTA_EXPIRY: the pause that a partner asked for has run out. -/
def pauseExpiry (port : Nat) (s : State) : State :=
  if Tab.get 0 s.dck.paused port ≤ s.tick then { s with dck := { s.dck with paused := Tab.set 0 s.dck.paused port 0 } } else s

/-- The tenant's traffic is dropped as unkeyed while it is ERASING (R191). -/
def domErasing (s : State) (d : Nat) : Bool := decide (d < 256) && tenantState s d == 3

/-- Whether the port runs a FEC in the setting in force (R66). -/
def hasFec (s : State) (port : Nat) : Bool :=
  let w := Tab.get 0 s.dck.active (port / 4)
  decide (1 ≤ Word.slice w 11 8 ∧ Word.slice w 11 8 ≤ 4) || (Word.slice w 11 8 == 5 && !Word.bit w 12)

/-- FRAME_BIND (R72, R83): the frame being received on the port is complete; its FEC codewords were counted as they came. The limits come first; a frame that lost a
cell take is dropped for its quota; where the data plane carries nothing every frame is dropped (R32). -/
def frameBind (port : Nat) (fcsOk : Bool) (fecCorr fecUnc : Nat) (s : State) : State :=
  match arrivingOn s port with
  | none => s
  | some f =>
    let n := f.bytes.length
    let g := chargeGroup port
    let s := if hasFec s port then portCount port 8 (portCount port 7 s fecCorr) fecUnc else s
    if !fcsOk || (hasFec s port && fecUnc != 0) then dropUnbound f (portCount port 2) s
    else if n < 64 ∨ s.fld (portReg port 0) 13 0 < n then dropUnbound f (portCount port 3) s
    else if beNat ((f.bytes.drop 12).take 2) = 0x8808 then macControl f s
    else
      let s := portCount port 1 (portCount port 0 s) n
      if f.failed then dropUnbound f (deckDrop g 0) s
      else if s.fld 0x0B0001 23 22 = 2 then dropUnbound f (·.count 0x0B002E) s
      else if !s.dataPlane then dropUnbound f id s
      else if applianceDrops s port f.bytes then dropUnbound f (deckDrop g 3) s
      else match classify s port f.bytes with
        | .pauseOrControl => dropUnbound f id s
        | .clear a => bindClear f a s
        | .unmapped => dropUnbound f (deckDrop g 2) s
        | .noTag => dropUnbound f (deckDrop g 4) s
        | .unkeyed => dropUnbound f (deckDrop g 3) s
        | .bound c p t =>
          match Tab.get none s.dck.chans c with
          | none => dropUnbound f (deckDrop g 3) s
          | some r =>
            if plateState s p = 0 ∨ plateState s p = 3 ∨ domErasing s r.dom then dropUnbound f (deckDrop g 3) s
            else bindChannel f c p t r s

end Sys2Proof.Machine
end

