-- ==== Sys2Proof/Machine/Setup.lean ====
section
/-! DEFINITION. Setup changes (R16–R19) and the commands that write them: channels, plates, clear classes (14_host_interface.md
R330–R333). A change waits in State's list until its effective stroke, or as shadow content of its switch slot. -/

namespace Sys2Proof.Machine

/-! ### Writing a change -/

/-- The spans of client port group `g` before and after a change: a truss takes part through its member spans (R54). -/
def spansTouched (s : State) (g : Nat) (c : Change) : List Nat :=
  (planSpans s.spn.layout g ++ match planChange true c (planNow s) with | some q => planSpans q.1 g | none => []).eraseDups

/-- The participants of R54 that a change touches: the placement engine for a plate; the spans, the port groups and the deck for
a channel; the port groups of a side for a clear class; the viaduct too while the pair mirrors
the change (R354, log 62, DEDUCED). -/
def participantsOf (s : State) (c : Change) : List Nat :=
  let groups := fun (r : Chan) => [44 + r.client / 4, 44 + r.line / 4, 52] ++ spansTouched s (r.client / 4) c
  let touched := match c with
    | .install .. | .retire .. | .recycle .. | .pin .. => [53]
    | .openChan _ r => groups r
    | .closeChan n | .rateChan n _ | .pinChan n _ => match Tab.get none s.dck.chans n with | some r => groups r | none => [52]
    | .regs l => match l with
      | (a, _) :: _ => if a < 0x010800 then [44 + (a - 0x010000) / 0x100] else if a < ccReg 1 0 0 then [44, 45, 46, 47] else [48, 49, 50, 51]
      | [] => []
    | .tenant .. => [52, 53]
  if mirroring s then touched ++ [58] else touched

/-- What naming switch slot `k` gives (R331, R55): OK; RANGE where the slot is not armed or S − 16 has come; BUSY where a
participant is in the mask of another armed slot with the same S. -/
def slotStatus (s : State) (k : Nat) (ps : List Nat) : Nat :=
  let late : Bool := match aheadBy s (timeAt s (swReg k 2)) with | some d => decide (d ≤ 16) | none => true
  if swState s k ≠ 1 ∨ s.fld (swReg k 0) 9 8 ≠ 0 ∨ late then stRANGE
  else
    let mask := bitsAll ps ||| maskAt s (swReg k 8)
    if (List.range 4).any fun j => swOverlap s k j 0 mask then stBUSY else stOK
where
  /-- The mask of a list of participants. -/
  bitsAll (l : List Nat) : Nat := l.foldl (fun v i => v ||| 2 ^ i) 0

/-- The least lead of an effective stroke over the present one: 1 (R16), 8 for the active of an INTACT pair (R353), and
past a pause of dispatch (R365). -/
def leadOf (s : State) : Nat := max (if mirroring s then 8 else 1) (s.spn.pausedUntil - s.now)

/-- The effective stroke that a change gets (R16): the state counts a move. -/
def effectiveStroke (e : Effective) (dom : Nat) (s : State) : When × State :=
  let least := s.now + leadOf s
  match e with
  | .none => (.stroke least, s)
  | .at t =>
    if s.countOf t < least then (.stroke least, s.pmcEvent { code := 0x24, dom := some dom }) else (.stroke (s.countOf t), s)
  | .slot k => (.slot k, s)

/-- A mirrored change is sent to the standby (R353). -/
def mirrorChange (c : Pending) (s : State) : State :=
  if mirroring s then
    let n := s.vdt.nextSetup
    let s := sendViaduct (.setup n (.change c)) (s.count 0x0B002C)
    let wait := match c.eff with | .slot k => [(k, n)] | .stroke _ => []
    { s with vdt := { s.vdt with
      setups := s.vdt.setups ++ [(n, effStroke s c.eff)], nextSetup := n + 1, slotWait := s.vdt.slotWait ++ wait } }
  else s

/-- A change is written (R16, R19): it waits for its stroke; the plate of a plate change is made resident first, and a
change that names a slot adds its participants to the slot's mask (R331). -/
def writeChange (kind num : Nat) (c : Change) (e : Effective) (dom : Nat) (s : State) : State :=
  let (w, s) := effectiveStroke e dom s
  let p : Pending := ⟨kind, num, c, w⟩
  let s := match w with
    | .slot k => s.each (participantsOf s c) fun i s => s.raise (swReg k (8 + i / 24)) (i % 24)
    | .stroke _ => s
  let s := { s with setup := s.setup ++ [p] }
  mirrorChange p (if kind = 0 then requestPlate num dom .demand s else s)

/-- The status of the EFFECTIVE field of a change (R331): RANGE for a stroke more than 2^46 ahead (R41) or one that no order
holds for (R40). -/
def effectiveStatus (s : State) (e : Effective) (c : Change) : Nat :=
  match e with
  | .slot k => slotStatus s k (participantsOf s c)
  | .at t =>
    if unordered s.stk.time.num.toNat t.num.toNat ∨ s.now + 2 ^ 46 < s.countOf t then stRANGE else stOK
  | .none => stOK

/-! ### Channels and plates in force -/

/-- Adds a channel to the record tables (R332). -/
def openChannel (c : Nat) (r : Chan) (s : State) : State :=
  let dck := { s.dck with chans := Tab.set none s.dck.chans c (some r), seqs := Tab.set 0 s.dck.seqs c 0 }
  let dck := if r.rx then
      let b := sciBucket s r.line r.sci
      { dck with buckets := Tab.set [] dck.buckets b (Tab.get [] dck.buckets b ++ [(r.line, r.sci, c)]) }
    else { dck with vids := Tab.set 0 dck.vids (4096 * r.client + r.vid) (c + 1) }
  let s := { s with dck := dck }
  let s := if r.dom < 256 then s.wr (0x051006 + 16 * r.dom) (s.rd (0x051006 + 16 * r.dom) + 1) else s
  match planOpen false c r (planNow s) with
  | some p => setLayout p.1 s
  | none => s

/-- The plates of channel `c` stop being stippled: STIPPLE and the settings that go with it are zeroed (R118), and they leave the
pinned region when they can (R125). -/
def unstipple (c : Nat) (s : State) : State :=
  let ps := s.plc.words.filterMap fun (k, w) =>
    if k % 64 = 3 ∧ Word.slice w 17 0 = c ∧ s.plateFld (k / 64) 0 13 13 = 1 then some (k / 64) else none
  s.each ps fun p s =>
    let s := (s.putPlate p 0 13 13 0).each (List.range' 52 7) fun w s => s.setPlateWord p w 0
    leavePinned p (dirtyPlate p s)

/-- Takes a channel out of the record tables (R331). -/
def closeChannel (c : Nat) (s : State) : State :=
  match Tab.get none s.dck.chans c with
  | none => s
  | some r =>
    let s := match planClose false c (planNow s) with
      | some p => setLayout p.1 s
      | none => s
    let b := sciBucket s r.line r.sci
    let dck := { s.dck with chans := Tab.set none s.dck.chans c none, deficit := Tab.set 0 s.dck.deficit c 0 }
    let dck := if r.rx then { dck with buckets := Tab.set [] dck.buckets b ((Tab.get [] dck.buckets b).filter fun (_, _, x) => x != c) }
      else { dck with vids := Tab.set 0 dck.vids (4096 * r.client + r.vid) 0 }
    let s := { s with dck := dck }
    let s := if r.dom < 256 then s.wr (0x051006 + 16 * r.dom) (s.rd (0x051006 + 16 * r.dom) - 1) else s
    if r.stipple then unstipple c s else s

/-- Replaces a channel's record. -/
def setChannel (c : Nat) (r : Chan) (s : State) : State := { s with dck := { s.dck with chans := Tab.set none s.dck.chans c (some r) } }

/-- The channel of a plate's content (PL_CHAN). -/
def wordsChan (l : List Word) : Nat := Word.slice (l.getD 3 0) 17 0

/-- A plate installed takes its place in its channel's record, and in the pinned region where its channel is stippled. -/
def bindPlate (p : Nat) (l : List Word) (txCurrent : Bool) (s : State) : State :=
  let c := wordsChan l
  match Tab.get none s.dck.chans c with
  | none => s
  | some r =>
    let an := Word.slice (l.getD 0 0) 16 15
    let r := { r with plates := r.plates.set an (some p), current := if txCurrent && !r.rx then some an else r.current }
    enterPinned p (setChannel c r s)

/-- Channels written to open and not yet in force. -/
def openings (s : State) : List (Nat × Chan) :=
  s.setup.filterMap fun c => match c.change with | .openChan n r => some (n, r) | _ => none

/-- The plates that have or will have a place in the pinned region: there already, with PINNED or STIPPLE, or by a change that waits. -/
def pinPlates (s : State) : List Nat :=
  ((s.plc.cache.filterMap fun (p, l) => l.bind fun x => if x.pinned then some p else none)
    ++ (s.plc.words.filterMap fun (k, _) => if k % 64 = 0 ∧ wantsPin s (k / 64) = true then some (k / 64) else none)
    ++ s.setup.filterMap fun c => match c.change with
      | .pin p true => some p
      | .install p _ l _ => if Word.bit (l.getD 0 0) 13 then some p else none
      | _ => none).eraseDups

/-- The stippled channels, open or about to open, that have no plate and none about to be installed: each keeps one place
(R104, log 138, DESIGN CHOICE). -/
def pinChannels (s : State) : List Nat :=
  ((s.dck.chans.filterMap fun (n, r) => r.map fun r => (n, r)) ++ openings s).filterMap fun (n, r) =>
    if r.stipple ∧ r.plates.all (·.isNone) ∧ !(s.setup.any fun c => match c.change with
      | .install _ _ l _ => wordsChan l == n | _ => false) then some n else none

/-- The places that the pinned region must have with the plates `ps` in it too, the channels `cs` being those they serve. -/
def pinNeed (s : State) (ps cs : List Nat) : Nat :=
  (pinPlates s ++ ps).eraseDups.length + ((pinChannels s).filter fun n => !cs.contains n).length

/-- The plates whose first install by `dom` waits for its stroke, other than `p`. -/
def installsComing (s : State) (dom p : Nat) : Nat :=
  ((s.setup.filterMap fun c => match c.change with
    | .install q d _ _ => if d = dom ∧ q ≠ p ∧ plateState s q = 0 ∧ plateGen s q = 0 then some q else none
    | _ => none).eraseDups).length

/-- Whether a domain may hold one more plate, `n` more being on their way (R192, R193). -/
def plateQuotaOk (s : State) (dom p n : Nat) : Bool :=
  if plateState s p ≠ 0 ∨ plateGen s p ≠ 0 then true
  else if dom < 256 then decide ((s.rd (0x051008 + 16 * dom)).toNat + n < (s.rd (0x051007 + 16 * dom)).toNat)
  else decide (honoured s 7 8 + ((s.plc.words.filter fun (k, w) => k % 64 == 1 && w != 0).length) + n < plateCapacity s)

/-- PLATE_PIN is refused with PIN_FULL where the pinned region has no place (R125), and with BUSY before the plate's shadow content
(R120). -/
def pinCheck (s : State) (p : Nat) (on : Bool) (eff : Option Nat) : Nat :=
  if shadowBusy s p eff then stBUSY
  else if on && decide (pinPlaces s < pinNeed s [p] []) then stPIN else stOK

/-- The reservation that a mirrored install brings is the one that the standby has stored (R137, R138). -/
def noteReservation (p : Nat) (l : List Word) (s : State) : State :=
  { s with vdt := { s.vdt with
    reservations := Tab.set 0 s.vdt.reservations p (if Word.bit (l.getD 0 0) 12 then wordsAt l 27 else 0) } }

/-- A plate command at its effective stroke (R120): it is checked again against the plate as it stands, and where it fails it is void.
`eff` is the stroke for a command that named one; the content of a committed switch is never void for another slot's. -/
def applyPlate (c : Change) (eff : Option Nat) (s : State) : State :=
  match c with
  | .install p dom l cur =>
    let s := makeResident p dom s
    match Tab.get none s.dck.chans (wordsChan l) with
    | none => plateVoid s
    | some r =>
      if installCheck s p dom (Word.slice (l.getD 0 0) 19 17) r.suite eff = stOK ∧ plateQuotaOk s dom p 0 = true then
        bindPlate p l cur (noteReservation p l (installEffect p dom l s))
      else plateVoid s
  | .retire p dom =>
    let s := makeResident p dom s
    if retireCheck s p dom eff = stOK then retireEffect p s else plateVoid s
  | .recycle p dom =>
    let s := makeResident p dom s
    if recycleCheck s p dom eff = stOK then recycleEffect p s else plateVoid s
  | .pin p on =>
    let s := makeResident p 256 s
    if pinCheck s p on eff = stOK then
      let s := dirtyPlate p (s.putPlate p 0 11 11 (if on then 1 else 0))
      if on then enterPinned p s else leavePinned p s
    else plateVoid s
  | _ => s

/-- Applies one change at its effective stroke (R16, R120). -/
def applyChange (c : Change) (eff : Option Nat) (s : State) : State :=
  match c with
  | .install .. | .retire .. | .recycle .. | .pin .. => applyPlate c eff s
  | .openChan n r => openChannel n r s
  | .closeChan n => closeChannel n s
  | .rateChan n rate =>
    match Tab.get none s.dck.chans n with
    | none => s
    | some r =>
      let s := match planRate false n rate (planNow s) with
        | some p => setLayout p.1 s
        | none => s
      setChannel n { r with rate := rate } s
  | .pinChan n t =>
    match planPin n t (planNow s) with
    | some p => setLayout p.1 s
    | none => s
  | .regs l =>
    let s := s.each l fun (a, w) s => s.wr a w
    s.onlyIf (l.any fun (a, _) => decide (0x018100 ≤ a ∧ a < 0x018300)) ownDeckLimit
  | .tenant t 3 =>
    -- R194 at E.
    let s := eventVector (t + 1) (s.put (0x051000 + 16 * t) 23 22 3)
    let s := s.each (s.dck.chans.filterMap fun (n, r) => r.bind fun r => if r.dom = t then some n else none) closeChannel
    let plates := (s.plc.words.filterMap fun (k, w) => if k % 64 = 2 ∧ w.toNat % 512 = t then some (k / 64) else none)
    let s := s.each plates fun p s =>
      if plateHolder s p = some t ∧ plateState s p ≠ 3 then recycleEffect p s else s
    let s := s.each (List.range 16) fun n s => if grvDom s n = t then jobAbortWrite n s else s
    let objects := s.key.slots.filterMap fun (i, v) => if v.head ∧ v.dom = t ∧ v.state = .inUse then some i else none
    s.each objects destroyObject
  | .tenant t st =>
    -- A tenant created opens its ledger period (R402).
    let s := s.onlyIf (tenantState s t == 0) fun s =>
      { s.zero (0x0D0100 + 0x20 * t) 24 with lgr := { s.lgr with opens := Tab.set (0, 0) s.lgr.opens t (wallNow s, s.now) } }
    eventVector (t + 1) (s.put (0x051000 + 16 * t) 23 22 st)

/-- The changes due at this boundary: their stroke has come, or they belong to slot `k` of a switch whose S has come. -/
def dueAt (s : State) (slot : Option Nat) (c : Pending) : Bool :=
  match c.eff with
  | .stroke n => slot.isNone && decide (n ≤ s.now)
  | .slot k => slot == some k

/-- Of the changes to one object that fall due together only the one written last is used (R19). -/
def keepLast : List Pending → List Pending
  | [] => []
  | c :: t => if t.any fun d => d.kind == c.kind && d.num == c.num then keepLast t else c :: keepLast t

/-- The domain of an object's change, for the count of R19. -/
def changeDom (s : State) (c : Change) : Nat :=
  match c with
  | .install _ d _ _ | .retire _ d | .recycle _ d => d
  | .openChan _ r => r.dom
  | .closeChan n | .rateChan n _ | .pinChan n _ => match Tab.get none s.dck.chans n with | some r => r.dom | none => 256
  | .tenant t _ => t
  | .pin .. | .regs _ => 256

/-- Applies the changes that satisfy `p`, superseded ones counted and dropped (R19). (log 19, DEDUCED) -/
def applyDue (p : Pending → Bool) (s : State) : State :=
  let due := s.setup.filter p
  let keep := keepLast due
  let s := { s with setup := s.setup.filter fun c => !p c }
  let s := s.each (due.filter fun c => !keep.contains c) fun c s => s.pmcEvent { code := 0x25, dom := some (changeDom s c.change) }
  s.each keep fun c s => applyChange c.change (match c.eff with | .stroke _ => some s.now | .slot _ => none) s

/-- Whether slot `k` is committed and its stroke S begins (R57). -/
def switchDue (s : State) (k : Nat) : Bool := swState s k == 2 && decide (timeAt s (swReg k 2) = s.stk.time)

/-- Slot `k` is DONE; a PLAN switch takes the shadow plan (R48, R57). -/
def switchDone (k : Nat) (s : State) : State :=
  let s := s.put (swReg k 1) 2 0 4
  if s.fld (swReg k 0) 9 8 = 1 then planSwitch s else s

/-- The content that falls on this stroke (R16, R19, R53): the committed content of the switches `ks` and every change whose
effective stroke has come, in the order of their writing. Changes that name a stroke wait while dispatch pauses (R365). -/
def contentEffect (ks : List Nat) (s : State) : State :=
  let s := s.each ks switchDone
  applyDue (fun c => (dueAt s none c && decide (s.spn.pausedUntil ≤ s.now)) || ks.any fun k => dueAt s (some k) c) s

/-- SETUP_EFFECT: every change whose effective stroke has come takes effect (R16, R19); none while dispatch pauses
(R365). -/
def setupEffect (s : State) : State := contentEffect [] s

/-- PLATE_CHANGE_EFFECT: the changes of one plate whose effective stroke has come (R120). -/
def plateChangeEffect (p : Nat) (s : State) : State :=
  if s.now < s.spn.pausedUntil then s else applyDue (fun c => c.kind == 0 && c.num == p && dueAt s none c) s

/-- The shadow content of a slot is discarded (R59). -/
def dropSlot (k : Nat) (s : State) : State :=
  { s with
    setup := s.setup.filter fun c => c.eff != .slot k
    vdt := { s.vdt with slotWait := s.vdt.slotWait.filter fun x => x.1 != k } }

/-- A slot is cancelled for all participants (R57, R59). -/
def cancelSlot (k cause : Nat) (s : State) : State := dropSlot k (swCancel k cause s)

/-- SWITCH_DECISION (R57): at the boundary that begins S − 2. -/
def switchDecision (k : Nat) (s : State) : State :=
  match swDecision s k with
  | some true => swCommit k s
  | some false => dropSlot k (swMiss k s)
  | none => s

/-- SWITCH_STROKE (R57): at the boundary that begins S every participant uses the committed content. -/
def switchStroke (k : Nat) (s : State) : State := if switchDue s k then contentEffect [k] s else s

/-- SWITCH_ACK (R56, R120): a participant acknowledges once it holds the complete shadow content; the placement engine
only when every plate of the slot is resident, the viaduct only after the standby: no mirrored setup of the slot waits for
its SETUP_ACK (R354, log 62, DEDUCED). -/
def switchAck (k i : Nat) (s : State) : State :=
  let plates := s.setup.all fun c => !(c.eff == .slot k && c.kind == 0) || resident s c.num
  if (i = 53 ∧ plates = false) ∨ (i = 58 ∧ mirroring s = true ∧ s.vdt.slotWait.any (·.1 == k)) then s else swAck k i s

/-! ### Channel commands (R331, R332) -/

/-- The frame of a setup command: STANDBY answers BUSY (R341). -/
def setupCommand (c : Caller) (f : State → State) (s : State) : State :=
  if s.fld 0x0B0001 23 22 = 2 then finish c stBUSY s else f s

/-- The channel record that CHANNEL_OPEN asks for (R332, R108). -/
def chanOf (dom : Nat) (a : ChannelArgs) : Chan :=
  let e := a.extra.getD ⟨if a.rx then 96 else 64, 0, 0, 0, 0, 0, 0, 0, 0⟩
  { dom := dom, rx := a.rx, replay := a.replay, stipple := a.stipple, offset := a.offset, sciMode := a.sciMode
    clearTags := a.clearTags, suite := if a.suiteEn then a.suite else 3, window := a.window, client := a.clientPort
    line := a.linePort, vid := a.vid.toNat, sci := a.sci, rate := a.rate, minLen := e.minLen, group := e.group, size := e.size
    count := e.count, plog := e.plog, phase := e.phase, burst := e.burst, stipDa := e.stipDa, stipSa := e.stipSa
    plates := [none, none, none, none], current := none }

/-- The formats that CHANNEL_OPEN refuses (R93, R95, R104, R108, R332); for a setting that R332 only bounds, FORMAT
(log 23, DEDUCED). With SCI_MODE 1 the SCI is the source address of the channel's frames followed by 0x0001; which address the
device compares when the channel is opened is open (log 132, DESIGN CHOICE). -/
def chanFormatOk (a : ChannelArgs) (r : Chan) : Bool :=
  (a.offset == 0 || a.offset == 30 || a.offset == 50) && decide (a.sciMode ≤ 2) && decide (a.clearTags ≤ 2)
    && decide (a.window ≤ 127) && decide (a.clientPort < 16) && decide (16 ≤ a.linePort ∧ a.linePort < 32)
    && decide (r.suite ≤ 3) && decide (64 ≤ r.minLen ∧ r.minLen ≤ 9280) && (a.extra.isSome || !a.stipple)
    && (a.sciMode != 1 || a.sci == Config.sourceAddress (if a.rx then a.linePort else a.clientPort) ++ (1 : BitVec 16))
    && (!a.stipple || (decide (2 ≤ r.suite) && a.offset == 0 && a.sciMode == 0 && a.clearTags == 0
      && decide (128 ≤ r.size ∧ r.size ≤ 9280 ∧ r.size % 16 = 0) && decide (1 ≤ r.count ∧ r.count ≤ 16)
      && decide (r.plog ≤ 16) && decide (r.phase < 2 ^ r.plog) && decide (1 ≤ r.burst ∧ r.burst ≤ 255)))

/-- The port rate in Mb/s of a group's mode (R66). -/
def modeRate (mode : Nat) : Nat :=
  match mode with | 1 => 400000 | 2 => 200000 | 3 => 100000 | 4 => 50000 | 5 => 25000 | 6 => 10000 | _ => 0

/-- The stipple line rates of an egress port with one more channel exceed 90 % of the port rate (R104): in bits per 2^16
strokes. -/
def stippleTooFast (s : State) (r : Chan) : Bool :=
  let all := (s.dck.chans.filterMap fun (_, x) => x) ++ (openings s).map (·.2) ++ [r]
  let bits := ((all.filter fun x => x.stipple && !x.rx && x.line == r.line).map fun x =>
    x.count * (x.size + 20) * 8 * 2 ^ (16 - x.plog)).sum
  r.stipple && !r.rx && decide (9 * modeRate (modeActive s (r.line / 4)) * 8 * 2 ^ 16 < bits * 100)

/-- Whether the record the command takes is in use or being taken (R332). -/
def entryTaken (s : State) (r : Chan) : Bool :=
  if r.rx then (sciChannel s r.line r.sci).isSome || (openings s).any fun (_, x) => x.rx && x.line == r.line && x.sci == r.sci
  else Tab.get 0 s.dck.vids (4096 * r.client + r.vid) != 0 || (openings s).any fun (_, x) => !x.rx && x.client == r.client && x.vid == r.vid

/-- The SCI bucket is full. -/
def bucketFull (s : State) (r : Chan) : Bool :=
  let b := sciBucket s r.line r.sci
  r.rx && decide (4 ≤ (Tab.get [] s.dck.buckets b).length + ((openings s).filter fun (_, x) => x.rx && sciBucket s x.line x.sci == b).length)

/-- Whether the domain's channel quota allows one more (R192, R193). -/
def chanQuotaOk (s : State) (dom : Nat) : Bool :=
  let opening := ((openings s).filter fun (_, x) => x.dom == dom).length
  if dom < 256 then decide ((s.rd (0x051006 + 16 * dom)).toNat + opening < (s.rd (0x051005 + 16 * dom)).toNat)
  else decide (s.dck.chans.length + (openings s).length + honoured s 5 6 < chanMax s)

/-- The channel number that the device chooses: a free value says where its search begins (R332, log 4, DESIGN CHOICE). -/
def chooseChannel (s : State) (k : Nat) : Nat :=
  let m := chanMax s
  let used := fun n => (Tab.get none s.dck.chans n).isSome || (openings s).any fun (x, _) => x == n
  (((List.range m).map fun i => ((Config.freeWord k).toNat + i) % m).find? fun n => !used n).getD 0

/-- The status of a CHANNEL_OPEN (R332), in the order that R332 gives; stipple line rates over 90 % of the port are RANGE
(log 139, DESIGN CHOICE). -/
def openStatus (s : State) (dom : Nat) (a : ChannelArgs) (e : Effective) (n : Nat) : Nat :=
  let r := chanOf dom a
  if !chanFormatOk a r then stFORMAT
  else if entryTaken s r then stBUSY
  else if bucketFull s r then stBUCKET
  else if chanMax s ≤ s.dck.chans.length + (openings s).length then stQUOTA
  else if stippleTooFast s r then stRANGE
  else if r.stipple ∧ pinPlaces s < pinNeed s [] [] + 1 then stPIN
  else if !chanQuotaOk s dom then stQUOTA
  else if effectiveStatus s e (.openChan n r) ≠ stOK then effectiveStatus s e (.openChan n r)
  else if !planFits s ⟨1, n, .openChan n r, (effectiveStroke e dom s).1⟩ then stNO_SPAN
  else stOK

/-- A refusal under R110 raises its event (R117); the refusal of a pin is one under R111. -/
def spanRefusal (ch : Change) (st : Nat) (s : State) : State :=
  match ch with
  | .pinChan .. => s
  | _ => s.onlyIf (st == stNO_SPAN) (·.raise 0x021C01 5)

/-- CHANNEL_OPEN (R332). -/
def channelOpen (c : Caller) (e : Effective) (a : ChannelArgs) (s : State) : State :=
  setupCommand c (fun s =>
    let (k, s) := s.useFree
    let n := chooseChannel s k
    let dom := callerDom c
    let st := openStatus s dom a e n
    if st = stOK then finish c stOK (writeChange 1 n (.openChan n (chanOf dom a)) e dom s) n else finish c st (spanRefusal (.openChan n (chanOf dom a)) st s)) s

/-- Whether the caller may act on a channel: its owner, or OWN. -/
def chanRights (s : State) (c : Caller) (n : Nat) : Nat :=
  match Tab.get none s.dck.chans n with
  | none => stRANGE
  | some r => if r.dom = callerDom c ∨ callerDom c = 256 then stOK else stRIGHTS

/-- A channel command: rights, the EFFECTIVE field and the span allocator, then the change is written. -/
def chanCommand (c : Caller) (e : Effective) (n : Nat) (ch : Change) (s : State) : State :=
  setupCommand c (fun s =>
    let st := if chanRights s c n ≠ stOK then chanRights s c n
      else if effectiveStatus s e ch ≠ stOK then effectiveStatus s e ch
      else if !planFits s ⟨1, n, ch, (effectiveStroke e (callerDom c) s).1⟩ then stNO_SPAN else stOK
    if st = stOK then finish c stOK (writeChange 1 n ch e (callerDom c) s) else finish c st (spanRefusal ch st s)) s

/-- The target byte of TRUSS_PIN (R111): `none` for FORMAT. -/
def pinTarget (b : Nat) : Option (Option Nat) :=
  if b < 28 ∨ (32 ≤ b ∧ b < 64) then some (some b) else if b = 255 then some none else none

/-! ### Plate commands (R331, R333) -/

/-- The new words of a plate (R118, R120, R333). -/
def plateImage (s : State) (n : Nat) (r : Chan) (a : InstallArgs) (key : List Word) (ty : Nat) : List Word :=
  let pair := mirroring s
  let pn := match a.pns with | some (x, _, _) => x.toNat | none => 1
  let thr := match a.pns with | some (_, x, _) => x.toNat | none => 3 * lastPn r.suite / 4
  let low := match a.pns with | some (_, _, x) => x.toNat | none => 1
  let ctl := (if r.rx then 2 ^ 20 else 0) + r.suite * 2 ^ 17 + a.an.toNat * 2 ^ 15 + (if r.replay then 2 ^ 14 else 0)
    + (if r.stipple then 2 ^ 13 else 0) + (if pair && !r.rx then 2 ^ 12 else 0)
  let w := fun (v k : Nat) => leWords v k
  let zeros := fun (k : Nat) => List.replicate k (0 : Word)
  let sak := if ty = 3 then key.take 11 else key.take 11 ++ zeros (11 - key.length)
  let salt := if ty = 3 then (key.drop 11).take 4 else zeros 4
  [BitVec.ofNat 24 ctl, 0, 0, BitVec.ofNat 24 n] ++ sak ++ salt ++ w a.ssci.toNat 2 ++ w r.sci.toNat 3
    ++ (if r.rx then zeros 6 else w pn 3 ++ (if pair then w (pn + 2 ^ 20) 3 else zeros 3))
    ++ (if r.rx then zeros 3 else w thr 3) ++ (if r.rx then w low 3 ++ w (low - 1) 3 else zeros 6) ++ zeros 6
    ++ [BitVec.ofNat 24 r.window] ++ zeros 6
    ++ (if r.stipple then [BitVec.ofNat 24 (r.burst * 2 ^ 16 + r.size), BitVec.ofNat 24 (r.plog * 2 ^ 16 + r.phase),
        BitVec.ofNat 24 r.count] ++ w r.stipDa.toNat 2 ++ w r.stipSa.toNat 2 else zeros 7) ++ zeros 5

/-- The key check of PLATE_INSTALL (R180, R181): only a SAK with PLATE. -/
def sakCheck (s : State) (dom h : Nat) : Nat × Nat :=
  let (st, i) := handleCheck s dom h
  if st ≠ stOK then (st, i)
  else if (s.slot i).ty ≠ 3 ∨ !(s.slot i).usage.getLsbD 2 then (stUSAGE, i)
  else (stOK, i)

/-- The plate holds shadow content of a switch, or the change may not name its stroke (R120). -/
def effOf (s : State) (e : Effective) (dom : Nat) : Nat := effStroke s (effectiveStroke e dom s).1

/-- PLATE_INSTALL (R120, R121, R333): the keystone writes the key fields from the SAK handle. -/
def plateInstall (c : Caller) (e : Effective) (a : InstallArgs) (s : State) : State :=
  setupCommand c (fun s =>
    let p := a.plate.toNat
    let n := Word.slice a.chan 17 0
    let dom := callerDom c
    match Tab.get none s.dck.chans n with
    | none => finish c stRANGE s
    | some r =>
      let (kst, i) := sakCheck s dom a.sak.toNat
      let l := plateImage s n r a (objectWords s i) (s.slot i).ty
      let ch := Change.install p dom l a.txCurrent
      let pst := installCheck s p dom a.suite.toNat r.suite (some (effOf s e dom))
      let st := if plateCapacity s ≤ p then stRANGE
        else if chanRights s c n ≠ stOK then chanRights s c n
        else if pst ≠ stOK then pst
        else if kst ≠ stOK then kst
        else if !plateQuotaOk s dom p (installsComing s dom p) then stQUOTA
        else if r.stipple ∧ pinPlaces s < pinNeed s [p] [n] then stPIN
        else effectiveStatus s e ch
      if st = stOK then finish c stOK (writeChange 0 p ch e dom s) (plateGen s p + 1)
      else finish c st ((if st = kst ∧ pst = stOK then keyRefuse st s else s).onlyIf (st == stGEN) (·.raise 0x030002 2))) s

/-- A plate command that changes no key: its own check, the EFFECTIVE field, then the change is written. -/
def plateCommand (c : Caller) (e : Effective) (p : Nat) (ch : Change) (check : State → Nat → Nat) (s : State) : State :=
  setupCommand c (fun s =>
    let st := if plateCapacity s ≤ p then stRANGE
      else if check s (effOf s e (callerDom c)) ≠ stOK then check s (effOf s e (callerDom c))
      else effectiveStatus s e ch
    if st = stOK then finish c stOK (writeChange 0 p ch e (callerDom c) s) else finish c st s) s

/-- PLATE_READ (R331): 192 bytes, the key fields as 0. -/
def plateRead (c : Caller) (p : Nat) (s : State) : State :=
  if plateCapacity s ≤ p then finish c stRANGE s
  else if !plateDomainOk s p (callerDom c) then finish c stRIGHTS s
  else
    let s := requestPlate p (callerDom c) .demand s
    let out := (List.range 64).flatMap fun w =>
      let v := if (4 ≤ w ∧ w ≤ 18) ∨ !memoriesShown s then 0 else (s.plateWord p w).toNat
      [BitVec.ofNat 8 v, BitVec.ofNat 8 (v / 2 ^ 8), BitVec.ofNat 8 (v / 2 ^ 16)]
    finish c stOK s (out := out)

/-- CLEAR_CLASS_SET (R84, R331): for k = 0 only the action is written. -/
def clearClassSet (c : Caller) (e : Effective) (side k : Nat) (mtch act : Word) (da : BitVec 48) (s : State) : State :=
  setupCommand c (fun s =>
    let a := ccReg side k 0
    let l := if k = 0 then [(a + 3, BitVec.ofNat 24 (s.fld (a + 3) 23 16 * 2 ^ 16 + Word.slice act 1 0))]
      else [(a, mtch &&& 0xE0FFFF), (a + 1, BitVec.ofNat 24 (da.toNat / 2 ^ 24)), (a + 2, BitVec.ofNat 24 da.toNat),
        (a + 3, act &&& 0xFF0003)]
    let st := if Word.slice act 1 0 = 3 then stFORMAT else effectiveStatus s e (.regs l)
    if st = stOK then finish c stOK (writeChange 2 (16 * side + k) (.regs l) e 256 s) else finish c st s) s

/-! ### Switch commands (R331, R55, R59) -/

/-- SWITCH_ARM (R331): the keystone arms a free slot with an empty mask at S. -/
def switchArm (c : Caller) (t : StrokeTime) (kind : Nat) (s : State) : State :=
  if 1 < kind then finish c stFORMAT s
  else match (List.range 4).find? fun k => swState s k != 1 && swState s k != 2 with
  | none => finish c stBUSY s
  | some k =>
    let s := ((s.wr (swReg k 2) (BitVec.ofNat 24 t.num.toNat)).wr (swReg k 3) (BitVec.ofNat 24 (t.num.toNat / 2 ^ 24))).wr
      (swReg k 4) (BitVec.ofNat 24 t.era.toNat)
    let s := (s.zero (swReg k 8) 6).put (swReg k 0) 9 8 kind
    let s := swArm k s
    if swState s k = 1 then finish c stOK s k
    else finish c (match s.fld (swReg k 1) 7 4 with | 3 => stRANGE | 5 => stPLAN | _ => stBUSY) s

/-- SWITCH_CANCEL (R59, R331). -/
def switchCancel (c : Caller) (k : Nat) (s : State) : State :=
  if 4 ≤ k then finish c stRANGE s
  else match swState s k with
    | 1 => finish c stOK (swCancelWrite k s)
    | 2 => finish c stBUSY (swCancelWrite k s)
    | _ => finish c stRANGE s

end Sys2Proof.Machine
end

