-- ==== Sys2Proof/Machine/Nva.lean ====
section
/-! DEFINITION. The nonvolatile array (10_nonvolatile_array.md): addressing and classes, the keystone's operations, the read
window, checkpoints and power-fail records, wear and spares, the running bank, the digest engine. -/

namespace Sys2Proof.Machine

/-! ### Addressing (R250, R251) -/

/-- The registers of bank `b`. -/
def nvaReg (b o : Nat) : Nat := 0x060100 + 0x100 * b + o

/-- Bank `b` beside its registers. -/
def State.bank (s : State) (b : Nat) : NvaBank := Tab.get NvaBank.init s.nva.banks b

/-- Replaces bank `b`. -/
def State.setBank (s : State) (b : Nat) (v : NvaBank) : State :=
  { s with nva := { s.nva with banks := Tab.set NvaBank.init s.nva.banks b v } }

/-- The physical sector of logical sector `l` of bank `b`. -/
def physSector (s : State) (b l : Nat) : Nat := (Tab.get none (s.bank b).remap l).getD l

/-- The key of a logical row in the array. -/
def rowKey (s : State) (b row : Nat) : Nat := b * 2 ^ 19 + physSector s b (row / 256) * 256 + row % 256

/-- A logical row; `none` = erased. -/
def State.nvaRow (s : State) (b row : Nat) : Option (BitVec 168) := Tab.get none s.nva.rows (rowKey s b row)

/-- Writes a logical row's content. -/
def State.setNvaRow (s : State) (b row : Nat) (v : Option (BitVec 168)) : State :=
  { s with nva := { s.nva with rows := Tab.set none s.nva.rows (rowKey s b row) v } }

/-- The 168 data bits that a row reads as: an erased row is all ones (R250). -/
def rowData (v : Option (BitVec 168)) : BitVec 168 := v.getD (BitVec.allOnes 168)

/-- Word `k` of a row; word 0 holds bits [23:0]. -/
def rowWord (v : BitVec 168) (k : Nat) : Word := BitVec.ofNat 24 (v.toNat / 2 ^ (24 * k))

/-- A row from its seven words, least significant word first. -/
def rowOfWords (l : List Word) : BitVec 168 := BitVec.ofNat 168 (wordsNat (l.take 7))

/-- The 21 bytes of a row: byte i in bits [8i + 7:8i] (log 25, DESIGN CHOICE). -/
def rowBytes (v : BitVec 168) : Bytes := (List.range 21).map fun i => BitVec.ofNat 8 (v.toNat / 2 ^ (8 * i))

/-- A row from 21 bytes; missing bytes are 0. -/
def rowOfBytes (b : Bytes) : BitVec 168 :=
  BitVec.ofNat 168 ((b.take 21).zipIdx.foldl (fun v (x, i) => v + x.toNat * 2 ^ (8 * i)) 0)

/-- `n` rows from a byte string, 21 bytes to a row. -/
def rowsOfBytes (b : Bytes) (n : Nat) : List (BitVec 168) := (List.range n).map fun i => rowOfBytes (b.drop (21 * i))

/-- The class of a logical sector: its code (R251). -/
def nvaClass (l : Nat) : Nat :=
  if l < 32 then 0 else if l < 40 then 1 else if l < 48 then 2 else if l < 80 then 3 else if l < 144 then 4
  else if l < 656 then 5 else if l < 688 then 6 else 7

/-- The running bank (NVA_STAT.RUN_BANK). -/
def runningBank (s : State) : Nat := if s.bit 0x060001 23 then 1 else 0

/-- Whether the read window admits a row (R252). -/
def windowAdmits (row : Nat) : Bool :=
  if row / 256 < 32 then decide (7936 ≤ row) else nvaClass (row / 256) != 5 && decide (row / 256 < 1920)

/-- Whether operation `op` of NVA_Bb_CMD is admitted in a class (R252). -/
def classAdmits (s : State) (b op l : Nat) : Bool :=
  match op with
  | 1 => (nvaClass l == 0 && runningBank s != b) || nvaClass l == 4 || decide (6 ≤ nvaClass l)
  | 2 => (nvaClass l == 0 && runningBank s != b) || decide (4 ≤ nvaClass l)
  | _ => nvaClass l == 5

/-- Bank `b` is worn (R268). -/
def bankWorn (s : State) (b : Nat) : Bool := s.bit 0x060001 (21 + b)

/-- Sectors whose remap copy is asked for or in progress: commands to them wait (R266). -/
def copying (s : State) (b l : Nat) : Bool :=
  (s.bank b).copies.any (·.1 == l)
    || (match (s.bank b).job with | some ⟨.copy x _, _, _⟩ => x == l | _ => false)
    || (s.bank b).remapDue.any (·.1 == l)

/-- Free spares of bank `b` (NVA_Bb_STAT.SPARES). -/
def freeSpares (s : State) (b : Nat) : Nat := s.fld (nvaReg b 3) 7 0

/-- The NVA counters of R270: 0 CE, 1 UE, 2 PROGRAM, 3 ERASE, 4 RETIRE, 5 SEAL_FAIL. -/
def nvaCount (b c : Nat) (s : State) : State := s.count (nvaReg b (0x20 + 2 * c))

/-- The status of the last keystone command (NVA_Bb_STAT.ERR). -/
def nvaErr (b st : Nat) (s : State) : State := s.put (nvaReg b 3) 19 16 st

/-! ### Rows and wear (R265–R268) -/

/-- AVG of a physical sector, in 1/16 pulse: the mean over its last 256 row programs; 0 where it has had none. (log 86, DESIGN CHOICE) -/
def pulseMean (l : List Nat) : Nat := l.sum / l.length

/-- The baseline of a physical sector (R265), measured at vendor test and so free (log 4, DESIGN CHOICE). -/
def baseline (b p : Nat) : Nat := (Config.pulseBaseline b p).toNat

/-- A sector reaches grade 3 and is retired (R266, R268): a copy is asked for where a spare is free, else the bank
becomes worn. -/
def retire (b l : Nat) (again : List (Nat × BitVec 168)) (s : State) : State :=
  if copying s b l then
    let v := s.bank b
    s.setBank b { v with copies := v.copies.map fun x => if x.1 = l then (x.1, x.2 ++ again) else x }
  else if freeSpares s b = 0 then
    if bankWorn s b then s else (s.raise 0x060001 (21 + b)).raise 0x060002 5
  else s.setBank b { s.bank b with copies := (s.bank b).copies ++ [(l, again)] }

/-- Sets the grade of logical sector `l`, which never falls (R265), with the actions of its table. -/
def setGrade (b l g : Nat) (again : List (Nat × BitVec 168)) (s : State) : State :=
  let p := physSector s b l
  let v := s.bank b
  let old := Tab.get 0 v.grade p
  let s := s.setBank b { v with grade := Tab.set 0 v.grade p (max old g) }
  let s := s.onlyIf (decide (old < 2) && decide (2 ≤ g)) (·.raise 0x060002 2)
  if g = 3 ∧ (old < 3 ∨ again ≠ []) then retire b l again s else s

/-- The grade that AVG gives (R265). -/
def pulseGrade (b p avg : Nat) : Nat :=
  if 8 * baseline b p < avg then 3 else if 4 * baseline b p < avg then 2 else if 2 * baseline b p < avg then 1 else 0

/-- A row program of physical sector `p`: PROGRAM counts it, and its verify-pulse count enters AVG. -/
def wearRow (b p pulses : Nat) (s : State) : State :=
  let v := s.bank b
  let hist := (Tab.get [] v.pulses p ++ [pulses]).drop (if 256 ≤ (Tab.get [] v.pulses p).length then 1 else 0)
  nvaCount b 2 (s.setBank b { v with pulses := Tab.set [] v.pulses p hist })

/-- A row program ends with its verify-pulse count (in 1/16 pulse): the row holds its data. A program that fails to verify
leaves a row that reads as nothing stated (log 4, DESIGN CHOICE), and its data goes again into the sector's replacement (R265). -/
def programRow (b row : Nat) (data : BitVec 168) (pulses : Nat) (ok : Bool) (s : State) : State :=
  let l := row / 256
  let p := physSector s b l
  let s := wearRow b p pulses s
  let (k, s) := s.useFree
  let s := s.setNvaRow b row (some (if ok then data else (Config.freshBlock k).setWidth 168))
  let s := setGrade b l (pulseGrade b p (pulseMean (Tab.get [] (s.bank b).pulses p))) [] s
  if ok then s else setGrade b l 3 [(row, data)] s

/-- A row program of the controller's own, whose verify-pulse count no command carries: the count is free (log 4, DESIGN CHOICE). -/
def programFree (b row : Nat) (data : BitVec 168) (s : State) : State :=
  let (k, s) := s.useFree
  programRow b row data (Config.freeWord k).toNat true s

/-- `n` row programs of physical sector `p` in a copy or an exchange. -/
def wearRows (b p n : Nat) (s : State) : State :=
  s.each (List.range n) fun _ s => let (k, s) := s.useFree; wearRow b p (Config.freeWord k).toNat s

/-- A row is read with a number of bit errors (R253, R265): up to two are corrected and counted; more are uncorrectable, and the row reads as
zeros. In a grade-2 sector two errors, or a margin read that differs, retire the sector, as an uncorrectable read always does. -/
def readRow (b row errors : Nat) (s : State) : State :=
  let l := row / 256
  let margin := Tab.get 0 (s.bank b).grade (physSector s b l) == 2
  let (k, s) := s.useFree
  if 2 < errors then setGrade b l 3 [] ((nvaCount b 1 s).raise 0x060002 1)
  else
    let s := s.onlyIf (errors != 0) (nvaCount b 0)
    if margin ∧ (errors = 2 ∨ Config.freeBit k) then setGrade b l 3 [] s else s

/-- The bit errors of row `i` of a reading, from the list of the rows that have any. -/
def errorsAt (l : List (Nat × Nat)) (i : Nat) : Nat := ((l.find? (·.1 == i)).map (·.2)).getD 0

/-- The rows that the listed errors concern, counted and graded. -/
def readRows (b first n : Nat) (errors : List (Nat × Nat)) (s : State) : State :=
  s.each (errors.filter fun x => decide (x.1 < n)) fun (i, e) => readRow b (first + i) e

/-- What a row reads as with its errors (R253). -/
def correctedRow (v : Option (BitVec 168)) (errors : Nat) : BitVec 168 := if 2 < errors then 0 else rowData v

/-- Every row of a logical sector reads erased. -/
def eraseRows (b l : Nat) (s : State) : State :=
  let k := rowKey s b (256 * l)
  { s with nva := { s.nva with rows := Tab.clear (fun x => decide (k ≤ x ∧ x < k + 256)) s.nva.rows } }

/-- A sector erase ends. -/
def eraseSector (b l : Nat) (s : State) : State :=
  let v := s.bank b
  let p := physSector s b l
  nvaCount b 3 (eraseRows b l (s.setBank b { v with
    erases := Tab.set 0 v.erases p (min (Tab.get 0 v.erases p + 1) (2 ^ 27 - 1)) }))

/-- Copies the content of logical sector `l` to the erased physical sector `p`: the programmed rows after correction. -/
def moveRows (b l p : Nat) (errors : List (Nat × Nat)) (s : State) : State :=
  let rows := (List.range 256).filterMap fun i =>
    (s.nvaRow b (256 * l + i)).map fun d => (b * 2 ^ 19 + p * 256 + i, correctedRow (some d) (errorsAt errors i))
  let s := wearRows b p rows.length (readRows b (256 * l) 256 errors s)
  { s with nva := { s.nva with rows := rows.foldl (fun t (k, d) => Tab.set none t k (some d)) s.nva.rows } }

/-! ### Records (R261–R264) -/

/-- The header row of R262, without its CRC: bytes 0–16. -/
def headerBytes (s : State) (cause intr : Nat) : Bytes :=
  [0x5A, 0x3C] ++ beBytes cause 1 ++ beBytes s.stk.time.era.toNat 1 ++ beBytes s.stk.time.num.toNat 6
    ++ beBytes (s.rdN 0x060006 2 / 2 ^ 16) 4 ++ beBytes intr 3

/-- The header row with its CRC over bytes 0–16 and the record's other written rows. -/
def headerRow (h : Bytes) (others : List (BitVec 168)) : BitVec 168 :=
  rowOfBytes (h ++ beBytes (crc32 (h ++ others.flatMap rowBytes)).toNat 4)

/-- A record found in the array. -/
structure NvaRecord where
  cause : Nat
  time : StrokeTime
  sealV : Nat
  interrupted : Nat
  bank : Nat
  /-- First row. -/
  row : Nat
deriving DecidableEq, Repr

/-- The record of `n` rows that begins at a row, where it is valid (R261, R262): the marker, the CRC, and for a checkpoint
its commit row. -/
def recordAt (s : State) (b row n : Nat) : Option NvaRecord :=
  match s.nvaRow b row with
  | none => none
  | some h =>
    let x := rowBytes h
    let others := (List.range' 1 (n - 1)).filterMap fun i => s.nvaRow b (row + i)
    if beNat (x.take 2) = 0x5A3C ∧ beNat ((x.drop 17).take 4) = (crc32 (x.take 17 ++ others.flatMap rowBytes)).toNat
        ∧ (n = 256 → (s.nvaRow b (row + 255)).isSome = true) then
      some ⟨beNat ((x.drop 2).take 1), ⟨BitVec.ofNat 8 (beNat ((x.drop 3).take 1)), BitVec.ofNat 48 (beNat ((x.drop 4).take 6))⟩,
        beNat ((x.drop 10).take 4), beNat ((x.drop 14).take 3), b, row⟩
    else none

/-- Every valid record: checkpoints of the JOURNAL ring and RESERVE slots of both banks. -/
def allRecords (s : State) : List NvaRecord :=
  [0, 1].flatMap fun b =>
    ((List.range 32).filterMap fun i => recordAt s b (256 * (48 + i)) 256)
      ++ (List.range 256).filterMap fun i => recordAt s b (256 * 40 + 8 * i) 8

/-- The later of two records (R264): the one of the higher stroke time. -/
def laterRecord (a : Option NvaRecord) (r : NvaRecord) : Option NvaRecord :=
  match a with
  | none => some r
  | some q => if q.time.toNat < r.time.toNat then some r else some q

/-- The latest valid record that satisfies `p`. -/
def latestRecord (s : State) (p : NvaRecord → Bool) : Option NvaRecord := ((allRecords s).filter p).foldl laterRecord none

/-- The first row of a RESERVE slot. -/
def slotRow (i : Nat) : Nat := 256 * 40 + 8 * (i % 256)

/-- Whether a RESERVE slot is erased. -/
def slotErased (s : State) (b i : Nat) : Bool := (List.range 8).all fun j => (s.nvaRow b (slotRow i + j)).isNone

/-- NVA_STAT.RES_OK: the next RESERVE slot is erased in both banks. -/
def resShow (s : State) : State := s.flag 0x060001 19 (slotErased s 0 (s.bank 0).slot && slotErased s 1 (s.bank 1).slot)

/-- The RESERVE slot of bank `b` has been used. -/
def slotUsed (b : Nat) (s : State) : State :=
  resShow (s.setBank b { s.bank b with slot := ((s.bank b).slot + 1) % 256 })

/-! ### Work of a bank (R254, R255) -/

/-- NVA_Bb_STAT.STATE of work. -/
def NvaWork.state : NvaWork → Nat
  | .program .. => 1
  | .erase .. => 2
  | .sealWrite .. => 3
  | .sealRead .. => 3
  | .copy .. => 4
  | .move .. => 4
  | .checkpoint .. => 5
  | .slotErase .. => 2
  | .header .. => 1
  | .digest .. => 6

/-- Whether work is a keystone command of NVA_Bb_CMD. -/
def NvaWork.keystone : NvaWork → Bool
  | .program .. | .erase .. | .sealWrite .. | .sealRead .. => true
  | _ => false

/-- Strokes that work takes (R254, R260, R261); a copy takes its erased spare's programs, an exchange the erases and
programs of both sectors. -/
def workStrokes (s : State) (b : Nat) : NvaWork → Nat
  | .program .. => 7
  | .erase .. => 63
  | .sealWrite .. => 56
  | .sealRead .. => 2
  | .copy l again => 7 * (used l + again.length)
  | .move x y => 2 * 63 + 7 * (used x + used y)
  | .checkpoint .. => 63 + 256 * 7
  | .slotErase .. => 63
  | .header .. => 7
  | .digest _ n => (n + 63) / 64 + 2
where
  /-- Programmed rows of a logical sector. -/
  used (l : Nat) : Nat := ((List.range 256).filter fun i => (s.nvaRow b (256 * l + i)).isSome).length

/-- Shows a bank's state and the GO and PEND bits. -/
def bankShow (b : Nat) (s : State) : State :=
  let v := s.bank b
  let s := (s.put (nvaReg b 3) 23 21 (match v.job with | some j => j.work.state | none => 0)).flag (nvaReg b 3) 20 v.pend.isSome
  s.flag (nvaReg b 0) 23 (v.pend.isSome || (match v.job with | some j => j.work.keystone | none => false))

/-- Work begins in the stroke that this boundary begins, and ends at the boundary after its strokes. -/
def startWork (b : Nat) (w : NvaWork) (s : State) : State :=
  bankShow b (s.setBank b { s.bank b with job := some ⟨w, s.tick, s.tick + workStrokes s b w⟩, ran := (s.bank b).asked })

/-- The additional data and the IV of a sealed block (R256). -/
def sealIv (b row : Nat) (c : Bytes) : Bytes := beBytes b 1 ++ beBytes row 3 ++ c ++ [0, 0]
def sealAad (c : Bytes) : Bytes := c ++ [0, 5]

/-- The 144 bytes of 48 words, each least significant byte first. -/
def sealPlain (l : List Word) : Bytes := l.flatMap fun w => (wordBytes w).reverse

/-- The eight rows of a sealed block made now (R256). -/
def sealBlock (s : State) (b row : Nat) (words : List Word) : List (BitVec 168) :=
  let c := beBytes (s.rdN 0x060006 2) 6
  let (ct, tag) := Config.gcmSeal (s.ppt.sealKey.getD (List.replicate 32 0)) (sealIv b row c) (sealAad c) (sealPlain words)
  rowsOfBytes (c ++ ct.take 144 ++ tag.take 16 ++ [0, 5]) 8

/-- Words of the keystone's data memory from an address. -/
def keystoneWords (s : State) (a n : Nat) : List Word := (List.range n).map fun i => Tab.get 0 (s.core 0).data ((a + i) % 2 ^ 17)

/-- Writes words into the keystone's data memory. -/
def keystonePut (a : Nat) (l : List Word) (s : State) : State :=
  s.setCore 0 { s.core 0 with data := l.zipIdx.foldl (fun d (w, i) => Tab.set 0 d ((a + i) % 2 ^ 17) w) (s.core 0).data }

/-- A SEAL_READ ends (R256): the plaintext, or 48 zero words with AUTH; with the seal key zero always AUTH. -/
def sealReadDone (b row daddr : Nat) (errors : List (Nat × Nat)) (s : State) : State :=
  let x := (List.range 8).flatMap fun i => rowBytes (correctedRow (s.nvaRow b (row + i)) (errorsAt errors i))
  let s := readRows b row 8 errors s
  let c := x.take 6
  let plain := s.ppt.sealKey.bind fun k =>
    if (x.drop 166).take 2 = [0, 5] then Config.gcmOpen k (sealIv b row c) (sealAad c) ((x.drop 6).take 144) ((x.drop 150).take 16) else none
  match plain with
  | some p => nvaErr b 0 (keystonePut daddr ((List.range 48).map fun i => BitVec.ofNat 24 (leAt p (3 * i) 3)) s)
  | none => nvaErr b 6 (nvaCount b 5 (keystonePut daddr (List.replicate 48 0) s))

/-- The effect of work at its end. `pulses` and `ok` are of the last row that it programmed, `errors` of the rows that it read. -/
def workDone (b : Nat) (w : NvaWork) (pulses : Nat) (ok : Bool) (errors : List (Nat × Nat)) (s : State) : State :=
  match w with
  | .program row d =>
    if (s.nvaRow b row).isSome then nvaErr b 7 s else nvaErr b (if ok then 0 else 5) (programRow b row d pulses ok s)
  | .erase l => nvaErr b 0 (eraseSector b l s)
  | .sealWrite row _ block =>
    if (List.range 8).any fun i => (s.nvaRow b (row + i)).isSome then nvaErr b 7 s
    else nvaErr b (if ok then 0 else 5) (s.each block.zipIdx fun (d, i) => programRow b (row + i) d pulses (ok || i != 7))
  | .sealRead row d => sealReadDone b row d errors s
  | .copy l again =>
    -- R266: the remap entry is written in SYSTEM; the new mapping takes effect at the next boundary.
    let p := 1920 + (s.bank b).taken
    let s := moveRows b l p errors s
    let s := (wearRows b p again.length s).each again fun (row, d) s => { s with nva := { s.nva with
      rows := Tab.set none s.nva.rows (b * 2 ^ 19 + p * 256 + row % 256) (some d) } }
    let v := s.bank b
    let s := s.setBank b { v with taken := v.taken + 1, remapDue := v.remapDue ++ [(l, p)] }
    let s := s.put (nvaReg b 3) 7 0 (freeSpares s b - 1)
    let s := s.onlyIf (decide (freeSpares s b ≤ 8)) (·.raise 0x060002 4)
    nvaCount b 4 (s.raise 0x060002 3)
  | .move x y =>
    let px := physSector s b x
    let py := physSector s b y
    let rx := (List.range 256).map fun i => s.nvaRow b (256 * x + i)
    let ry := (List.range 256).map fun i => s.nvaRow b (256 * y + i)
    let s := wearRows b px (ry.filter (·.isSome)).length (wearRows b py (rx.filter (·.isSome)).length (eraseSector b y (eraseSector b x s)))
    let v := s.bank b
    let s := s.setBank b { v with
      remap := Tab.set none (Tab.set none v.remap x (if py = x then none else some py)) y (if px = y then none else some px) }
    let s := s.each rx.zipIdx fun (d, i) s => s.setNvaRow b (256 * x + i) d
    s.each ry.zipIdx fun (d, i) s => s.setNvaRow b (256 * y + i) d
  | .checkpoint l rows =>
    let s := eraseSector b l s
    let s := s.each rows.zipIdx fun (d, i) => programFree b (256 * l + i) d
    let s := s.setBank b { s.bank b with ring := ((s.bank b).ring + 1) % 32 }
    let s := { s with nva := { s.nva with seq := s.nva.seq + 1, nextAt := s.nva.nextAt + 2 ^ 20 * ((s.now - s.nva.nextAt) / 2 ^ 20 + 1) } }
    taskRound 6 (s.put 0x0D0001 21 20 s.nva.seq)
  | .slotErase l => resShow (eraseSector b l s)
  | .header cause row d =>
    let s := slotUsed b (programRow b row d pulses ok s)
    if cause = 3 then { s with stk := { s.stk with eraWrite := false } } else { s with nva := { s.nva with booted := true } }
  | .digest first n =>
    let x := Config.sha384 ((List.range n).flatMap fun i => rowBytes (correctedRow (s.nvaRow b (first + i)) (errorsAt errors i)))
    ((readRows b first n errors s).wrN 0x060010 16 (beNat x)).put 0x060008 23 23 0

/-- Work of bank `b` ends at its boundary (R254, R255): the keystone's operation raises OP_DONE, the source of its
interrupt. -/
def workEnd (b pulses : Nat) (ok : Bool) (errors : List (Nat × Nat)) (s : State) : State :=
  match (s.bank b).job with
  | none => s
  | some j =>
    if s.tick < j.endAt then s
    else
      let s := workDone b j.work pulses ok errors (s.setBank b { s.bank b with job := none })
      let s := s.onlyIf j.work.keystone fun s => (s.raise 0x060002 0).pmcLatency 5 (1000 * (s.tick - (s.bank b).ran)) none none
      bankShow b (s.pmcEvent { code := 0x26, cls := some (if j.work.keystone then 1 else 3) })

/-- Whether the end of a bank's work carries what only the array decides: verify pulses, outcomes, bit errors. It ends by its own row, the
rest at the boundary. -/
def NvaWork.arrayEnds : NvaWork → Bool
  | .program .. | .sealWrite .. | .header .. | .sealRead .. | .copy .. | .digest .. => true
  | _ => false

/-- A keystone command issued by NVA_Bb_CMD.GO (R252, R255, R270): the status that refuses it, 0 where it is taken.
Several that apply are reported in this order (log 26, DEDUCED). After an erase SEAL_WRITE is refused with AUTH (R300). -/
def commandStatus (s : State) (b op row : Nat) : Nat :=
  let l := row / 256
  if (s.bank b).pend.isSome then 1
  else if 1920 ≤ l then 3
  else if (op = 2 ∧ row % 256 ≠ 0) ∨ (3 ≤ op ∧ row % 8 ≠ 0) then 8
  else if !classAdmits s b op l then 2
  else if bankWorn s b ∧ op ≠ 4 then 4
  else if op = 3 ∧ s.rdN 0x060006 2 = 2 ^ 48 - 1 then 4
  else if op = 3 ∧ s.ppt.erased.isSome then 6
  else 0

/-- A write of NVA_Bb_CMD from KEEP: with GO, the operation is issued at ADDR. A reserved OP is discarded (R10). -/
def nvaCmdWrite (b : Nat) (w : Word) (s : State) : State :=
  let op := Word.slice w 22 20
  if op = 0 ∨ 4 < op then s
  else
    let s := s.put (nvaReg b 0) 22 20 op
    if !Word.bit w 23 then s
    else
      let row := s.fld (nvaReg b 1) 18 0
      match commandStatus s b op row with
      | 0 =>
        let daddr := s.fld (nvaReg b 2) 16 0
        let work : NvaWork := match op with
          | 1 => .program row (rowOfWords ((List.range 7).map fun k => s.rd (nvaReg b (0x10 + k))))
          | 2 => .erase (row / 256)
          | 3 => .sealWrite row daddr []
          | _ => .sealRead row daddr
        bankShow b (s.setBank b { s.bank b with pend := some work, asked := s.tick })
      | st => nvaErr b st s

/-- The sector of work's commands. -/
def workSector : NvaWork → Nat
  | .program row _ => row / 256
  | .erase l => l
  | .sealWrite row _ _ => row / 256
  | .sealRead row _ => row / 256
  | _ => 0

/-- The slot class of this stroke's cell of bank `b`. -/
def nvaCell (s : State) (b : Nat) : Nat := s.cell (112 + b)

/-- Writes a record's header row in the next RESERVE slot of both banks, in normal cells (R262). -/
def startHeaders (cause : Nat) (s : State) : State :=
  let d := headerRow (headerBytes s cause 0) []
  s.each [0, 1] fun b s => startWork b (.header cause (slotRow (s.bank b).slot) d) s

/-- Both banks are free. -/
def banksFree (s : State) : Bool := (s.bank 0).job.isNone && (s.bank 1).job.isNone

/-- NVA_OP_START (R254, R255): in a CONTROL cell of a free bank the pending keystone command starts. A SEAL_WRITE takes its
counter value and makes its block; the first one after boot waits for the boot record (R257). While the stroke is lost neither seal operation
starts (R38). -/
def opStart (b : Nat) (s : State) : State :=
  let v := s.bank b
  match v.pend, v.job, v.copies with
  | some w, none, [] =>
    if nvaCell s b ≠ 1 ∨ copying s b (workSector w) then s
    else
      match w with
      | .sealRead row daddr => if s.stk.lost then s else startWork b (.sealRead row daddr) (s.setBank b { v with pend := none })
      | .sealWrite row daddr _ =>
        if s.stk.lost then s
        else if !s.nva.booted then s
        else
          let s := s.setBank b { v with pend := none }
          let block := sealBlock s b row (keystoneWords s daddr 48)
          startWork b (.sealWrite row daddr block) (s.wrN 0x060006 2 (s.rdN 0x060006 2 + 1))
      | w => startWork b w (s.setBank b { v with pend := none })
  | _, _, _ => s

/-! ### The controller's own work -/

/-- The remap copy that waits starts in a CONTROL, BACKGROUND or URGENT cell, ahead of keystone commands (R266). -/
def copyStart (b : Nat) (s : State) : State :=
  let v := s.bank b
  match v.job, v.copies with
  | none, (l, again) :: rest =>
    if nvaCell s b = 1 ∨ nvaCell s b = 3 ∨ nvaCell s b = 4 then
      startWork b (.copy l again) (s.setBank b { v with copies := rest })
    else s
  | _, _ => s

/-- A background cell of bank `b` that its own work may take (R254). -/
def backCell (s : State) (b : Nat) : Bool := (nvaCell s b == 3 || nvaCell s b == 4) && (s.bank b).job.isNone

/-- RESERVE_SLOT_ERASE (R262): where the next slot is not erased, its sector is. -/
def slotEraseStart (b : Nat) (s : State) : State :=
  let i := (s.bank b).slot
  if backCell s b && !slotErased s b i then startWork b (.slotErase (40 + i / 32)) s else s

/-- A cell of bank `b` in which the controller's records start (R254). -/
def recordCell (s : State) (b : Nat) : Bool := nvaCell s b == 3 || nvaCell s b == 4

/-- A new era's record (R39), and the boot record before the first SEAL_WRITE (R257, R262): written in normal cells, in both banks at once. -/
def headerStart (s : State) : State :=
  if !(banksFree s && recordCell s 0 && recordCell s 1) then s
  else if s.stk.eraWrite then startHeaders 3 s
  else if !s.nva.booted && ([0, 1].any fun b => match (s.bank b).pend with | some (.sealWrite ..) => true | _ => false) then startHeaders 4 s
  else s

/-- A remapped sector's new mapping takes effect at the boundary after its entry was written (R266). -/
def remapEffect (b : Nat) (s : State) : State :=
  let v := s.bank b
  let m := v.remapDue.foldl (fun t (l, p) => Tab.set none t l (some p)) v.remap
  if v.remapDue = [] then s else s.setBank b { v with remap := m, remapDue := [] }

/-- REMAP_COPY_DONE (R266): the copy of a retired sector ends. -/
def remapCopyDone (b : Nat) (errors : List (Nat × Nat)) (s : State) : State :=
  match (s.bank b).job with
  | some ⟨.copy .., _, _⟩ => workEnd b 0 true errors s
  | _ => s

/-- Whether task 5 visits a sector (R267). -/
def levelled (s : State) (b l : Nat) : Bool :=
  decide (l < 1920) && ((nvaClass l == 0 && runningBank s != b) || decide (4 ≤ nvaClass l))

/-- Erases of a logical sector's physical sector. -/
def sectorErases (s : State) (b l : Nat) : Nat := Tab.get 0 (s.bank b).erases (physSector s b l)

/-- The least-erased sector that task 5 levels. -/
def leastErased (s : State) (b : Nat) : Option Nat :=
  ((List.range 1920).filter (levelled s b)).foldl (fun a l =>
    match a with
    | none => some l
    | some m => if sectorErases s b l < sectorErases s b m then some l else some m) none

/-- NVA_WEAR_LEVELLING (R267): task 5 visits a sector in a cell that it may use, and exchanges it with the least-erased one
where the difference exceeds 2^20 erases. -/
def wearLevel (b l : Nat) (s : State) : State :=
  if !(taskTakes s 5 (nvaCell s b) true && (s.bank b).job.isNone && levelled s b l) then s
  else
    let s := taskItem 5 s
    match leastErased s b with
    | some m => if 2 ^ 20 < sectorErases s b l - sectorErases s b m ∧ !copying s b l ∧ !copying s b m then startWork b (.move l m) s else s
    | none => s

/-! ### The read window (R252, R255) -/

/-- A read's result in RSTAT and RDATA: VALID, CE, UE, REFUSED, ROW. -/
def windowShow (b row flags : Nat) (d : BitVec 168) (s : State) : State :=
  (s.wr (nvaReg b 5) (BitVec.ofNat 24 (flags * 2 ^ 20 + row))).wrN (nvaReg b 8) 7 d.toNat

/-- A write of NVA_Bb_RADDR starts a read of that row: refused where the class forbids it (R252), or the life-cycle state (R278). -/
def radAddrWrite (b : Nat) (w : Word) (s : State) : State :=
  let row := Word.slice w 18 0
  let s := s.wr (nvaReg b 4) (BitVec.ofNat 24 row)
  if windowAdmits row && memoriesShown s then windowShow b row 0 0 (s.setBank b { s.bank b with read := some row })
  else windowShow b row 1 0 (s.setBank b { s.bank b with read := none })

/-- READ_WINDOW_DONE (R253, R255): once the bank is free, the row is returned after correction; more than two bit errors
are uncorrectable, and two in a grade-2 sector retire it (R265). -/
def windowDone (b errors : Nat) (s : State) : State :=
  let v := s.bank b
  match v.read, v.job with
  | some row, none =>
    let l := row / 256
    if v.remapDue.any (·.1 == l) then s
    else
      let s := readRow b row errors (s.setBank b { v with read := none })
      windowShow b row (if 2 < errors then 10 else if errors = 0 then 8 else 12) (correctedRow (s.nvaRow b row) errors) s
  | _, _ => s

/-! ### The running bank (R258, R259) -/

/-- The version in the IMAGE trailer of bank `b`. -/
def imageVersion (s : State) (b : Nat) : Word := rowWord (rowData (s.nvaRow b 7936)) 0

/-- A write of NVA_SWAP with bit 0 (R259): refused too while a slot is ARMED or COMMITTED or a forward set is pending (R365). -/
def swapWrite (s : State) : State :=
  let busy := s.nva.digest.isSome || [0, 1].any fun b => (s.bank b).job.isSome || (s.bank b).pend.isSome || (s.bank b).copies != []
  let switching := s.stk.forward.isSome || (List.range 4).any fun k => swState s k == 1 || swState s k == 2
  if busy ∨ switching ∨ (imageVersion s (1 - runningBank s)).toNat < s.nva.minVersion.toNat then s.put 0x060001 20 20 1
  else { s.put 0x060001 20 20 0 with nva := { s.nva with swapDue := true } }

/-- The effective strokes that fall in the four strokes of a swap move to the first after them, and are counted (R16, R365). -/
def swapMoves (s : State) : State :=
  let falls := fun (c : Pending) => match c.eff with | .stroke n => decide (n < s.now + 4) | .slot _ => false
  let moved := s.setup.filter falls
  let s := { s with setup := s.setup.map fun c => if falls c then { c with eff := .stroke (s.now + 4) } else c }
  s.each moved fun c s => s.pmcEvent { code := 0x24, dom := some (changeDom s c.change) }

/-- BANK_SWAP (R259, R365): at the boundary after an accepted request the other bank runs; the keystone continues at
program address 0 with its data SRAM and an empty fetch path (R227), and dispatch pauses for 4 strokes. -/
def bankSwap (s : State) : State :=
  if !s.nva.swapDue then s
  else
    let s := swapMoves s
    let s := { s with
      kfetch := ⟨none, 0, 0, []⟩
      nva := { s.nva with swapDue := false }
      spn := { s.spn with pausedUntil := max s.spn.pausedUntil (s.now + 4) } }
    ((s.setCore 0 { s.core 0 with pc := 0 }).flag 0x060001 23 (!s.bit 0x060001 23)).raise 0x060002 6

/-! ### The digest engine (R260) -/

/-- A write of NVA_DIG_CTL: with GO, a digest is asked for, or refused with ERR, the bank's status being RANGE (R250) or CLASS; while one is in
progress GO is discarded. (log 26, DEDUCED) -/
def digCtlWrite (w : Word) (s : State) : State :=
  if s.bit 0x060008 23 then s
  else
    let s := s.flag 0x060008 22 (Word.bit w 22)
    let first := s.fld 0x060009 18 0
    let n := s.fld 0x06000A 19 0
    if !Word.bit w 23 then s
    else if n = 0 ∨ 1920 * 256 < first + n then nvaErr (Word.slice w 22 22) 3 (s.put 0x060008 21 21 1)
    else if first < 656 * 256 ∧ 144 * 256 < first + n then nvaErr (Word.slice w 22 22) 2 (s.put 0x060008 21 21 1)
    else { (s.put 0x060008 21 21 0).put 0x060008 23 23 1 with
      nva := { s.nva with digest := some (if Word.bit w 22 then 1 else 0, first, n) } }

/-- The digest asked for begins once its bank is free. -/
def digestStart (s : State) : State :=
  match s.nva.digest with
  | none => s
  | some (b, first, n) =>
    if (s.bank b).job.isSome then s else startWork b (.digest first n) { s with nva := { s.nva with digest := none } }

/-- DIGEST_DONE (R260): the digest appears in NVA_DIG0–15. -/
def digestEnd (errors : List (Nat × Nat)) (s : State) : State :=
  s.each [0, 1] fun b s =>
    match (s.bank b).job with
    | some ⟨.digest .., _, _⟩ => workEnd b 0 true errors s
    | _ => s

/-- The ends of a boundary (R53): mappings in force, and the operations whose end nothing outside decides. -/
def nvaEnds (s : State) : State :=
  let s := s.each [0, 1] remapEffect
  s.each [0, 1] fun b s =>
    match (s.bank b).job with
    | some j => if j.work.arrayEnds then s else workEnd b 0 true [] s
    | none => s

/-- The NVA controller's starts of a boundary, in its cells. -/
def nvaBoundary (s : State) : State :=
  let s := bankSwap s
  let s := headerStart (s.each [0, 1] copyStart)
  let s := s.each [0, 1] fun b s => slotEraseStart b (opStart b s)
  digestStart s

/-! ### Registers -/

/-- A write of NVA_CFG from KEEP: BOOT_BANK, written through to SYSTEM. -/
def nvaCfgWrite (w : Word) (s : State) : State :=
  { s.put 0x060000 0 0 (Word.slice w 0 0) with nva := { s.nva with bootBank := Word.slice w 0 0 } }

/-- A write of NVA_MINVER from KEEP: a lower value is discarded. -/
def minVersionWrite (w : Word) (s : State) : State :=
  if w.toNat < s.nva.minVersion.toNat then s else { s.wr 0x060005 w with nva := { s.nva with minVersion := w } }

/-- A write of NVA_EVT (R270). -/
def nvaEvtWrite (w : Word) (s : State) : State :=
  let s := s.wr 0x060002 (s.rd 0x060002 &&& ~~~ (w &&& 0x0000FF))
  s.onlyIf (Word.bit w 23) fun s => s.each [0, 1] fun b s => s.zero (nvaReg b 0x20) 12

/-- The sector view of bank `b` (R270): SINFO, SERASE_LO, SERASE_HI, SPULSE at offsets 0x19–0x1C. -/
def sectorView (s : State) (b o : Nat) : Option Word :=
  let l := s.fld (nvaReg b 0x18) 10 0
  let v := s.bank b
  let p := physSector s b l
  match o with
  | 0x19 => some (BitVec.ofNat 24 (Tab.get 0 v.grade p * 2 ^ 22 + nvaClass l * 2 ^ 19 + p))
  | 0x1A => some (BitVec.ofNat 24 (Tab.get 0 v.erases p))
  | 0x1B => some (BitVec.ofNat 24 (Tab.get 0 v.erases p / 2 ^ 24))
  | 0x1C => some (BitVec.ofNat 24 (min (baseline b p) 4095 * 2 ^ 12 + min (pulseMean (Tab.get [] v.pulses p)) 4095))
  | _ => none

/-! ### Power-fail and boot (R263, R264) -/

/-- Bytes 14–16 of the record for work that a warning abandons: valid, bank, operation code, row. Copies and levelling moves
have no code in NVA_Bb_CMD.OP; they are noted with code 5 (log 27, DESIGN CHOICE). -/
def interruptedWord (b : Nat) (j : NvaJob) (now : Nat) : Nat :=
  let mark := fun (op row : Nat) => 2 ^ 23 + b * 2 ^ 22 + op * 2 ^ 19 + row
  match j.work with
  | .erase l => mark 2 (256 * l)
  | .slotErase l => mark 2 (256 * l)
  | .checkpoint l _ => mark 2 (256 * l)
  | .sealWrite row _ _ => mark 3 (row + min 7 ((now - j.since) / 7))
  | .copy l _ => mark 5 (256 * l)
  | .move x _ => mark 5 (256 * x)
  | _ => 0

/-- A warning ends what bank `b` is doing (R263): a row program goes to its end, anything else is abandoned at its current
row, a pending command is cleared. -/
def abandon (b : Nat) (s : State) : State :=
  let v := s.bank b
  match v.job with
  | none => bankShow b (s.setBank b { v with pend := none, read := none })
  | some j =>
    let s := s.setBank b { v with job := none, pend := none, read := none }
    let s := match j.work with
      | .program row d => if (s.nvaRow b row).isSome then s else programFree b row d s
      | .header .. =>
        let (k, s) := s.useFree
        workDone b j.work (Config.freeWord k).toNat true [] s
      | .erase l => eraseRows b l s
      | .slotErase l => eraseRows b l s
      | .checkpoint l _ => eraseRows b l s
      | .sealWrite row _ block =>
        if (List.range 8).any fun i => (s.nvaRow b (row + i)).isSome then s
        else s.each (block.zipIdx.take ((s.tick - j.since) / 7)) fun (d, i) => programFree b (row + i) d
      | _ => s
    let w := interruptedWord b j s.tick
    bankShow b (if s.nva.interrupted = 0 then { s with nva := { s.nva with interrupted := w } } else s)

/-- The NVA duties of R263 with a CAUSE of R262: what each bank does is abandoned, and the 8-row record goes into the next
RESERVE slot of both banks. `body` is rows 1 to 7. -/
def reserveRecord (cause : Nat) (body : List (BitVec 168)) (s : State) : State :=
  let s := State.each { s with nva := { s.nva with interrupted := 0 } } [0, 1] abandon
  let h := headerRow (headerBytes s cause s.nva.interrupted) body
  s.each [0, 1] fun b s =>
    slotUsed b (s.each (h :: body).zipIdx fun (d, i) s => programFree b (slotRow (s.bank b).slot + i) d s)

/-- What R264 does again for the operation that the latest record names: the erase of its sector, or the clearing of the
block that a SEAL_WRITE left. -/
def repairInterrupted (w : Nat) (s : State) : State :=
  let b := w / 2 ^ 22 % 2
  let row := w % 2 ^ 19
  if w < 2 ^ 23 then s
  else if w / 2 ^ 19 % 8 = 2 then eraseSector b (row / 256) s
  else if w / 2 ^ 19 % 8 = 3 then s.each (List.range 8) fun i s => s.setNvaRow b (row / 8 * 8 + i) none
  else s

/-- The next RESERVE slot of bank `b` is erased (R264). -/
def readySlot (b : Nat) (s : State) : State :=
  let i := (s.bank b).slot
  if slotErased s b i then s else eraseSector b (40 + i / 32) s

end Sys2Proof.Machine
end

