-- ==== Sys2Proof/Machine/LifeCycle.lean ====
section
/-! DEFINITION. The life cycle (11_lifecycle_and_debug.md, R271–R277): states and codewords, the log in the SYSTEM class, the
acceptance of a transition and what boot reads; and the certificate of the debug block (R280–R283). The steps of a
transition are in Machine/Power.lean, the debug operations in Machine/Debug.lean. -/

namespace Sys2Proof.Machine

/-! ### Codewords (R271) -/

/-- The codeword of a state. -/
def codewordOf (st : Nat) : Word :=
  match st with
  | 0 => 0xFFF000 | 1 => 0xF0F0F0 | 2 => 0x0F0F0F | 3 => 0xF00F0F | 4 => 0x0FF0F0 | _ => 0x000FFF

/-- The state of a codeword. -/
def stateOf (w : Word) : Option Nat := (List.range 6).find? fun st => codewordOf st == w

/-! ### The log (R273, R274) -/

/-- Row `j` of record `r`: rows of logical sectors 32 to 35. -/
def logRow (r j : Nat) : Nat := 256 * 32 + 16 * r + j

/-- The INTENT row of a transition. -/
def intentRow (s : State) (target source : Word) (cause r : Nat) : BitVec 168 :=
  let l : List Word := [target, source, BitVec.ofNat 24 (cause * 2 ^ 16 + r), BitVec.ofNat 24 s.stk.time.num.toNat,
    BitVec.ofNat 24 (s.stk.time.num.toNat / 2 ^ 24), BitVec.ofNat 24 s.stk.time.era.toNat]
  rowOfWords (l ++ [(intentCrc l)])
where
  /-- Word 6: the low 24 bits of the CRC-32 over words 0 to 5. -/
  intentCrc (l : List Word) : Word := (crc32 (l.flatMap fun w => (wordBytes w).reverse)).setWidth 24

/-- The row of mark `k`, and of a copy. -/
def markRow (r k : Nat) : BitVec 168 := rowOfWords [BitVec.ofNat 24 r, BitVec.ofNat 24 k]
def copyRow (w : Word) (r : Nat) : BitVec 168 := rowOfWords [w, BitVec.ofNat 24 r]

/-- The INTENT of record `r` in one bank, where it is valid: target, source. -/
def intentIn (s : State) (b r : Nat) : Option (Word × Word) :=
  match s.nvaRow b (logRow r 0) with
  | none => none
  | some d =>
    let l := (List.range 6).map (rowWord d)
    if rowWord d 6 = intentRow.intentCrc l ∧ (rowWord d 2).toNat % 2 ^ 16 = r ∧ (rowWord d 2).toNat / 2 ^ 16 ≤ 2
        ∧ (rowWord d 5).toNat < 256 then some (rowWord d 0, rowWord d 1) else none

/-- The intent of record `r`: valid where either bank holds a valid INTENT row. -/
def intentOf (s : State) (r : Nat) : Option (Word × Word) := intentIn s 0 r <|> intentIn s 1 r

/-- Whether record `r` holds mark `k`. -/
def markOf (s : State) (r k : Nat) : Bool :=
  [0, 1].any fun b => s.nvaRow b (logRow r k) == some (markRow r k)

/-- The five copies of record `r`: bank and row (R273). -/
def copyPlaces (r : Nat) : List (Nat × Nat) :=
  [(0, logRow r 9), (0, logRow r 10), (0, logRow r 11), (1, logRow r 9), (1, logRow r 10)]

/-- Votes of record `r` for a codeword. -/
def votesFor (s : State) (r : Nat) (w : Word) : Nat :=
  ((copyPlaces r).filter fun (b, row) => s.nvaRow b row == some (copyRow w r)).length

/-- The highest record with a valid INTENT and no M7 (R274). -/
def currentRecord (s : State) : Option Nat :=
  ((List.range 64).filter fun r => (intentOf s r).isSome && !markOf s r 7).getLast?

/-- The record that the next transition uses: after every record that holds any row, for a record whose INTENT is invalid
is skipped (R277; log 28, DEDUCED). -/
def nextRecord (s : State) : Nat :=
  match ((List.range 64).filter fun r => [0, 1].any fun b => (List.range 16).any fun j => (s.nvaRow b (logRow r j)).isSome).getLast? with
  | some r => r + 1
  | none => 0

/-- What R274 reads: state code, votes, record, majority codeword. -/
def logState (s : State) : Nat × Nat × Nat × Word :=
  match currentRecord s with
  | none => (5, 0, 0, 0x000FFF)
  | some r =>
    let votes := match intentOf s r with | some (t, _) => votesFor s r t | none => 0
    let best := ((List.range 6).map codewordOf).find? fun w => decide (3 ≤ votesFor s r w)
    match best with
    | none => (5, votes, r, 0x000FFF)
    | some w => ((stateOf w).getD 5, votes, r, w)

/-- A record's transition is unfinished (R277): its INTENT is valid, M7 is absent, fewer than 3 copies agree on the
target. -/
def unfinished (s : State) (r : Nat) : Bool :=
  match intentOf s r with
  | some (t, _) => !markOf s r 7 && decide (votesFor s r t < 3)
  | none => false

/-- LCS_STATE and LCS_CODE after the life-cycle read. -/
def lifeCycleRead (s : State) : State :=
  let (st, votes, r, w) := logState s
  (s.wr 0x070000 (BitVec.ofNat 24 (r * 2 ^ 16 + votes * 2 ^ 8 + st))).wr 0x070001 w

/-! ### Acceptance (R275) -/

/-- Whether R275 allows a transition. -/
def transitionAllowed (a b : Nat) : Bool :=
  match a, b with
  | 0, 1 | 0, 5 | 1, 5 | 3, 5 | 4, 5 | 1, 2 | 3, 2 | 2, 3 | 2, 4 | 1, 4 | 3, 4 | 2, 5 => true
  | _, _ => false

/-- Marks of the steps of a transition to a target (R275). -/
def stepsOf (target : Nat) : List Nat := if target = 1 then [1, 2] else [1, 2, 3, 4, 5]

/-- A discarded write of LCS_NEXT: 1 NOT_ALLOWED, 2 BUSY, 3 LOG_FULL, 4 NOT_CODEWORD. -/
def nextRefused (e : Nat) (s : State) : State := (s.put 0x070003 23 20 e).raise 0x070004 3

/-- A transition request with its CAUSE (R275): accepted, or discarded with ERR. -/
def requestTransition (w : Word) (cause : Nat) (s : State) : State :=
  match stateOf w with
  | none => nextRefused 4 s
  | some t =>
    if !transitionAllowed s.lcs t then nextRefused 1 s
    else if 63 < nextRecord s ∨ (nextRecord s = 63 ∧ t ≠ 5) then nextRefused 3 s
    else
      let s := (s.put 0x070003 23 20 0).raise 0x070004 0
      { s with lcy := { s.lcy with accepted := some (w, cause) } }

/-- Step M1 (R171, R276, R291): the seal key is zeroed, and the configuration of switches and loops, the seeds, the classes
of sources 0 to 31 and B_LOCK reset. -/
def stepOne (s : State) : State :=
  let s := { s with ppt := { s.ppt with sealKey := none, swRun := [], loopRun := [], lfsr := [], seedLo := [] } }
  let s := (s.wr 0x080040 (ioReset 0x080040)).each (List.range 8) fun n s => s.wr (cswReg n) (ioReset (cswReg n))
  let s := s.each (List.range 16) fun n s => s.wr (grdReg n) (ioReset (grdReg n))
  s.each (List.range 32) fun k s =>
    let a := 0x080008 + k / 12
    s.put a (2 * (k % 12) + 1) (2 * (k % 12)) (Word.slice (ioReset a) (2 * (k % 12) + 1) (2 * (k % 12)))

/-- A write of LCS_NEXT from KEEP (R275, R276): while provisioning is awaited, the OWNED codeword confirms and the source
codeword abandons, with M1 at once; else a request. A discarded write changes nothing but ERR and its event. -/
def lcsNextWrite (w : Word) (s : State) : State :=
  match s.lcy.transit with
  | some t =>
    match t.step with
    | .provision _ =>
      if w = t.target then
        { s.wr 0x070002 w with lcy := { s.lcy with transit := some { t with step := .mark 6, endAt := s.tick + 8, todo := [] } } }
      else if w = t.source then
        stepOne { s.wr 0x070002 w with
          lcy := { s.lcy with transit := some { t with step := .mark 1, endAt := s.tick + 8, todo := [3, 4, 5], abandon := true } } }
      else nextRefused 2 s
    | _ => nextRefused 2 s
  | none =>
    if s.lcy.accepted.isSome then nextRefused 2 s
    else
      let t := requestTransition w (if s.lcs = 0 ∧ w = codewordOf 1 then 2 else 0) s
      if t.lcy.accepted.isSome then t.wr 0x070002 w else t

/-- The strokes of a step with its mark (R276). -/
def stepStrokes (k : Nat) : Nat :=
  match k with
  | 2 => 64 + 7
  | 3 => 32256 + 7
  | 4 => 4032 + 7
  | 5 => 77616 + 7
  | _ => 7

/-- Erases a run of logical sectors of both banks. -/
def eraseClass (first n : Nat) (s : State) : State :=
  s.each [0, 1] fun b s => s.each (List.range' first n) fun l s => eraseSector b l s

/-- Programs a row of record `r` in both banks. -/
def logBoth (row : Nat) (d : BitVec 168) (s : State) : State := s.each [0, 1] fun b s => s.setNvaRow b row (some d)

/-- Programs the copies of record `r` that read erased (R277). -/
def programCopies (r : Nat) (w : Word) (s : State) : State :=
  s.each (copyPlaces r) fun (b, row) s => if (s.nvaRow b row).isNone then s.setNvaRow b row (some (copyRow w r)) else s

/-! ### The debug certificate (R280–R282) -/

/-- DBG_STAT.LEVEL (R279). -/
def debugLevel (s : State) : Nat := s.fld 0x078000 23 22

/-- The level that the life cycle and the certificate give. -/
def levelShow (s : State) : State :=
  s.put 0x078000 23 22 (if s.lcs = 4 then 2 else if s.lcs = 2 ∧ s.bit 0x078000 22 then 1 else 0)

/-- DBG_EXP as stroke time. -/
def certExpiryTime (s : State) : StrokeTime := timeAt s 0x078008

/-- A certificate is in force. -/
def certInForce (s : State) : Bool := debugLevel s == 1

/-- A pier is listed. -/
def pierListed (s : State) (n : Nat) : Bool := s.bit (0x078004 + (n - 1) / 24) ((n - 1) % 24)

/-- Bytes 0–47 of a certificate read as R280 lays them out. -/
def certBody (b : Bytes) : DebugCert :=
  ⟨beNat ((b.drop 24).take 4), beNat ((b.drop 28).take 9), beNat ((b.drop 37).take 3),
    ⟨BitVec.ofNat 8 (beNat ((b.drop 16).take 1)), BitVec.ofNat 48 (beNat ((b.drop 17).take 6))⟩⟩

/-- The length that ALG gives. -/
def certLength (alg : Nat) : Nat := 48 + (if alg = 1 ∨ alg = 3 then 96 else 0) + (if alg = 2 ∨ alg = 3 then 4627 else 0)

/-- The tests of R281 on a certificate, its signatures under the owner anchors last. -/
def certValid (s : State) (b : Bytes) : Bool :=
  let alg := beNat ((b.drop 1).take 1)
  let c := certBody b
  let signed := b.take 48
  let ec := (b.drop 48).take 96
  let dsa := b.drop (if alg = 3 then 144 else 48)
  let (pe, pd) := s.key.anchors.getD ([], [])
  s.lcs == 2 && s.lcy.transit.isNone && s.lcy.accepted.isNone
    && b.length == certLength alg && beNat (b.take 1) == 1 && decide (1 ≤ alg ∧ alg ≤ 3)
    && beNat ((b.drop 2).take 2) == certLength alg && beNat ((b.drop 23).take 1) == 0
    && decide (c.rights < 16) && decide (c.piers < 2 ^ 66) && beNat ((b.drop 40).take 8) == 0
    && (b.drop 4).take 12 == deviceId s
    && decide (s.stk.time.toNat < c.expiry.toNat)
    && decide ((s.rd 0x07800B).toNat < c.serial)
    && (alg == 2 || Config.ecdsaVerify pe signed ec)
    && (alg == 1 || Config.mldsaVerify pd signed dsa)

/-- The certificate that is due takes effect at this boundary, in place of any in force (R281). -/
def certOn (s : State) : State :=
  match s.lcy.certDue with
  | none => s
  | some c =>
    let s := { s with lcy := { s.lcy with certDue := none } }
    let s := (((s.wr 0x078003 (BitVec.ofNat 24 c.rights)).wrN 0x078004 3 c.piers).wr 0x078007 (BitVec.ofNat 24 c.serial)).wrN
      0x078008 2 c.expiry.num.toNat
    ((s.wr 0x07800A (BitVec.ofNat 24 c.expiry.era.toNat)).put 0x078000 23 22 1).raise 0x078001 1

/-- Writes of LCS_EVT and DBG_EVT. -/
def lcsEvtWrite (w : Word) (s : State) : State := s.wr 0x070004 (s.rd 0x070004 &&& ~~~ (w &&& 0x00000F))
def dbgEvtWrite (w : Word) (s : State) : State := s.wr 0x078001 (s.rd 0x078001 &&& ~~~ (w &&& 0x00000F))

end Sys2Proof.Machine
end

