-- ==== Sys2Proof/Machine/Entropy.lean ====
section
/-! DEFINITION. The entropy source and the expander (13_entropy.md): noise sources and their health, the conditioner and its
pool, the six CTR_DRBG instances. No register shows the raw bits (R316): the commands carry those on which a health test fails and those of
a conditioned block. -/

namespace Sys2Proof.Machine

/-! ### Sources (R305–R310) -/

/-- ENT_SRCk_STAT. -/
def srcReg (k : Nat) : Nat := 0x090010 + k

/-- STATE of source `k`: 0 STARTUP, 1 HEALTHY, 2 FAILED, 3 UNDER_TEST, 4 DISABLED. -/
def srcState (s : State) (k : Nat) : Nat := s.fld (srcReg k) 23 21

/-- The ENT counters: 0 RCT_FAIL, 1 APT_FAIL, 2 BLOCKS, 3 RESEED, 4 MISSED, 5 UNDERRUN, 6 TEST_FAIL. -/
def entCount (c : Nat) (s : State) : State := s.count (0x090020 + 2 * c)

/-- Source `k` enters a state; the count of passed bits begins again in STARTUP and UNDER_TEST. -/
def srcEnter (k st : Nat) (s : State) : State :=
  let s := (s.put (srcReg k) 23 21 st).flag 0x090001 (16 + k) (st == 1)
  { s with ent := { s.ent with since := Tab.set 0 s.ent.since k s.tick } }

/-- Bits that source `k` has passed: 32 in each stroke (R305). -/
def passedBits (s : State) (k : Nat) : Nat := min 4096 (32 * (s.tick - Tab.get 0 s.ent.since k))

/-- Sources in HEALTHY. -/
def healthySources (s : State) : List Nat := (List.range 4).filter fun k => srcState s k == 1

/-- The repetition count test of R306 fails on raw bits whose last 41 are alike. -/
def repetitionFails (bits : List Bool) : Bool := decide (41 ≤ bits.length) && (bits.drop (bits.length - 41)).all (· == bits.getLast?.getD false)

/-- The adaptive proportion test of R306 fails on a window, so far as it has come, in which 800 bits equal the first. -/
def proportionFails (bits : List Bool) : Bool :=
  decide (bits.length ≤ 1024) && decide (800 ≤ (bits.filter (· == bits.headD false)).length)

/-- HEALTH_TEST_FAIL (R306, R308): on these raw bits, the last of a run or a window, a test fails. The source is FAILED and its off-line test
is queued; a failure in STARTUP restarts the count. The block in progress is discarded. -/
def healthFail (k : Nat) (apt : Bool) (bits : List Bool) (s : State) : State :=
  let st := srcState s k
  if st = 2 ∨ st = 4 ∨ !(if apt then proportionFails bits else repetitionFails bits) then s
  else
    let s := if st = 1 then { s with ent := { s.ent with bits := 0 } } else s
    let s := entCount (if apt then 1 else 0) ((s.flag (srcReg k) 20 (!apt)).flag (srcReg k) 19 apt)
    if st = 0 then srcEnter k 0 s
    else
      let s := (srcEnter k 2 s).raise 0x090002 1
      if st = 1 then testRequest 114 (0x20 + k) s else s

/-- STARTUP_PASS (R308): 4,096 consecutive bits have passed. -/
def startupPass (k : Nat) (s : State) : State := if srcState s k = 0 ∧ passedBits s k = 4096 then srcEnter k 1 s else s

/-- A source test may begin (R310): no other source is UNDER_TEST, and at least three are HEALTHY. -/
def sourceTestMay (s : State) (k : Nat) : Bool :=
  decide (3 ≤ (healthySources s).length) && srcState s k != 4 && (List.range 4).all fun j => srcState s j != 3

/-- The off-line test of source `k` begins. -/
def sourceTestBegin (k : Nat) (s : State) : State :=
  let s := srcEnter k 3 s
  { s with ent := { s.ent with testing := s.ent.testing.filter (·.1 != k) ++ [(k, s.tick)] } }

/-- SOURCE_TEST_END (R310): at the first TEST cell of column 114 after 4,096 bits, the source returns to HEALTHY, or stays
FAILED. -/
def sourceTestEnd (k : Nat) (s : State) : State :=
  match s.ent.testing.find? (·.1 == k) with
  | none => s
  | some (_, since) =>
    if s.tick < since + 128 ∨ s.cell 114 ≠ 2 then s
    else
      let s := { s with ent := { s.ent with testing := s.ent.testing.filter (·.1 != k) } }
      if srcState s k = 3 then (srcEnter k 1 s).raise 0x090002 0 else (entCount 6 s).raise 0x090002 2

/-- A write of ENT_CTL from KEEP (R308): discarded where it would leave fewer than two sources enabled. -/
def entCtlWrite (w : Word) (s : State) : State :=
  if ((List.range 4).filter fun k => Word.bit w k).length < 2 then s
  else
    let s := s.put 0x090000 3 0 (Word.slice w 3 0)
    s.each (List.range 4) fun k s =>
      if !Word.bit w k then
        (if srcState s k = 4 then s else srcEnter k 4 { s with ent := { s.ent with testing := s.ent.testing.filter (·.1 != k) } })
      else if srcState s k = 4 then srcEnter k 0 s else s

/-! ### Conditioner and pool (R307) -/

/-- One shift of the conditioner, x^521 + x^32 + 1, with a raw bit XORed into the feedback bit. The register shifts towards
its most significant bit, which with bit 31 makes the feedback (log 29, DESIGN CHOICE). -/
def condShift (r : BitVec 521) (b : Bool) : BitVec 521 := (r <<< 1) ||| (if (r.getLsbD 520 ^^ r.getLsbD 31) ^^ b then 1 else 0)

/-- Shows the pool's depth. -/
def poolShow (s : State) : State := s.wr 0x090004 (BitVec.ofNat 24 s.ent.pool.length)

/-- CONDITIONED_BLOCK (R307): 1,536 raw bits of HEALTHY sources have come; while the pool is full they are discarded. -/
def conditionedBlock (raw : List Bool) (s : State) : State :=
  if s.ent.bits < 1536 then s
  else
    let s := { s with ent := { s.ent with bits := s.ent.bits - 1536 } }
    if 8 ≤ s.ent.pool.length then s
    else
    let r := raw.foldl condShift s.ent.reg
    entCount 2 (poolShow { s with ent := { s.ent with reg := r, pool := s.ent.pool ++ [r.setWidth 384] } })

/-- Takes the oldest block of the pool. -/
def takeBlock (s : State) : Option (BitVec 384 × State) :=
  match s.ent.pool with
  | [] => none
  | x :: rest => some (x, poolShow { s with ent := { s.ent with pool := rest } })

/-! ### The expander (R311–R315) -/

/-- ENT_i_DATA and ENT_i_STAT. -/
def drbgReg (i o : Nat) : Nat := 0x090100 + 0x10 * i + o

/-- Instance `i`; a fresh one has no state. -/
def State.drbg (s : State) (i : Nat) : Drbg := Tab.get ⟨[], [], 0, none⟩ s.ent.drbg i

/-- Replaces instance `i`, and shows its buffer. -/
def State.setDrbg (s : State) (i : Nat) (d : Drbg) : State :=
  { s with ent := { s.ent with drbg := Tab.set ⟨[], [], 0, none⟩ s.ent.drbg i d } }.put (drbgReg i 1) 4 0 d.buf.length

/-- The known-answer test has failed and blocks every instance (R309). -/
def katFailed (s : State) : Bool := s.bit 0x090001 22

/-- Whether instance `i` has been instantiated. -/
def seeded (s : State) (i : Nat) : Bool := s.bit (drbgReg i 1) 23

/-- Whether instance `i` is BLOCKED by missed reseeds (R313). -/
def drbgBlocked (s : State) (i : Nat) : Bool := s.bit (drbgReg i 1) 22

/-- Shows ENT_STAT.BLOCKED: the instances that are BLOCKED or not yet instantiated. -/
def drbgShow (s : State) : State :=
  s.each (List.range 6) fun i s => s.flag 0x090001 i (!seeded s i || drbgBlocked s i || katFailed s)

/-- A generate call (R311): sixteen words fill the buffer. -/
def drbgFill (i : Nat) (s : State) : State :=
  let d := s.drbg i
  let (w, out) := Config.drbgGenerate d.work
  s.setDrbg i { d with work := w, buf := (List.range 16).map fun k => out.getD k 0, calls := d.calls + 1 }

/-- The order of instantiation (R315). -/
def drbgOrder : List Nat := [3, 0, 1, 2, 4, 5]

/-- INSTANTIATE (R311, R315): with two conditioned blocks, the entropy input and the nonce; instance 3 first. When instance 3
is seeded the per-boot keys are drawn, and ENT_STAT.READY is set. -/
def drbgInstantiate (i : Nat) (s : State) : State :=
  let before := (drbgOrder.takeWhile (· != i)).all (seeded s)
  if seeded s i ∨ katFailed s ∨ before = false then s
  else
    match s.ent.pool with
    | e :: n :: rest =>
      let s := poolShow { s with ent := { s.ent with pool := rest } }
      let w := Config.drbgInstantiate (beBytes e.toNat 48) (beBytes (n.toNat % 2 ^ 128) 16) (beBytes i 1 ++ deviceId s)
      let s := drbgFill i ((s.setDrbg i { s.drbg i with work := w, buf := [] }).put (drbgReg i 1) 23 23 1)
      drbgShow (s.onlyIf (i == 3) (·.put 0x090001 23 23 1))
    | _ => s

/-- A reseed with one block: the buffer is discarded and refilled, MISSED clears, BLOCKED ends. -/
def drbgReseedWith (i : Nat) (x : BitVec 384) (s : State) : State :=
  let d := s.drbg i
  let s := s.setDrbg i { d with work := Config.drbgReseed d.work (beBytes x.toNat 48), buf := [] }
  drbgShow (entCount 3 (drbgFill i ((s.put (drbgReg i 1) 22 22 0).put (drbgReg i 1) 7 5 0)))

/-- RESEED (R312, R313): at the boundary that begins plan position 512 + 128i; with an empty pool it is missed, and the
fourth miss in a row blocks the instance. -/
def drbgReseed (i : Nat) (s : State) : State :=
  if s.now % 4096 ≠ 512 + 128 * i ∨ !seeded s i ∨ (s.drbg i).reseedAt = some s.now then s
  else
    let s := s.setDrbg i { s.drbg i with reseedAt := some s.now }
    match takeBlock s with
    | some (x, s) => drbgReseedWith i x s
    | none =>
      let s := (entCount 4 s).raise 0x090002 3
      let n := min 4 (s.fld (drbgReg i 1) 7 5 + 1)
      let s := s.put (drbgReg i 1) 7 5 n
      if n = 4 ∧ !drbgBlocked s i then drbgShow ((s.put (drbgReg i 1) 22 22 1).raise 0x090002 4) else s

/-- BLOCKED_RESEED (R313): a BLOCKED instance reseeds at the first boundary at which the pool holds a block. -/
def drbgUnblock (i : Nat) (s : State) : State :=
  if !drbgBlocked s i then s
  else match takeBlock s with
    | some (x, s) => drbgReseedWith i x s
    | none => s

/-- ENT_DATA_READ (R314): the next word, or 0 with UNDERRUN. -/
def entDataTake (i : Nat) (s : State) : Word × State :=
  let ok := seeded s i && !drbgBlocked s i && !katFailed s
  let s := if ok && (s.drbg i).buf == [] && decide ((s.drbg i).calls < 8) then drbgFill i s else s
  match (s.drbg i).buf with
  | w :: rest => if ok then (w, s.setDrbg i { s.drbg i with buf := rest }) else (0, entCount 5 (s.put (drbgReg i 1) 21 21 1))
  | [] => (0, entCount 5 (s.put (drbgReg i 1) 21 21 1))

/-- A read of ENT_i_STAT clears UNDERRUN. A failed known-answer test shows as BLOCKED. -/
def entStatTake (i : Nat) (s : State) : Word × State :=
  (Word.put (s.rd (drbgReg i 1)) 22 22 (if drbgBlocked s i || katFailed s then 1 else 0), s.put (drbgReg i 1) 21 21 0)

/-- The known-answer test ends (R309). -/
def katEnd (ok : Bool) (s : State) : State := drbgShow (s.flag 0x090001 22 (!ok))

/-- ENT_SRCk_STAT with its count of passed bits. -/
def srcView (s : State) (k : Nat) : Word :=
  Word.put (s.rd (srcReg k)) 12 0 (if srcState s k = 0 ∨ srcState s k = 3 then passedBits s k else 0)

/-- A write of ENT_EVT (R316). -/
def entEvtWrite (w : Word) (s : State) : State :=
  let s := s.wr 0x090002 (s.rd 0x090002 &&& ~~~ (w &&& 0x00001F))
  s.onlyIf (Word.bit w 23) (·.zero 0x090020 14)

/-- R315: the register, the pool, the buffers and the working states are zeroed, every source enters STARTUP. -/
def entRestart (s : State) : State :=
  let s := { s with ent := ⟨0, [], [], [], [], 0⟩ }
  let s := s.each (List.range 4) fun k s => if srcState s k = 4 then s else srcEnter k 0 (s.wr (srcReg k) 0)
  let s := s.each (List.range 6) fun i s => s.wr (drbgReg i 1) 0
  drbgShow ((poolShow s).put 0x090001 23 23 0)

/-! ### The gravers' draws (R161, R162, R311, R314) -/

/-- Writes words that a job holds secret: each lands in a bank that is then sealed (log 149, DESIGN CHOICE). -/
def sealedStore (n : Nat) (l : List (Nat × Nat × Word)) (s : State) : State :=
  s.each l fun (b, w, v) s => if b < 5 ∧ w < bankSize b then sealBank n b (s.updGrv n fun g => g.store b w [v]) else s

/-- One generate call of instance `i` for the lowest of its gravers whose job still needs one (R161, R311; log 149, DESIGN CHOICE). -/
def graverFeed (i : Nat) (s : State) : State :=
  match (List.range' (8 * (i - 1)) 8).find? fun n => grvState s n == 3 && (s.grv n).draws != 0 with
  | none => s
  | some n =>
    if !expanderReady s i ∨ 8 ≤ (s.drbg i).calls then s
    else
      let g := s.grv n
      let s := drbgFill i s
      let place := Config.drawPlace (s.fld (grvReg n 4) 7 0) (s.fld (grvReg n 5) 14 0)
      let l := (s.drbg i).buf.zipIdx.map fun (v, k) => ((place (g.drawn + k)).1, (place (g.drawn + k)).2, v)
      let s := sealedStore n l (s.setDrbg i { s.drbg i with buf := [] })
      s.updGrv n fun g => { g with draws := g.draws - 1, drawn := g.drawn + 16 }

/-- The kinds whose hashing and sampling steps the utility cipher unit runs (R162). -/
def cipherKind (kind : Nat) : Bool := [0x21, 0x22, 0x23, 0x30, 0x31, 0x32, 0x40, 0x41, 0x42].contains kind

/-- A phase of the utility cipher unit within the job of graver `n` (R162): its values pass between the sealed banks and the key store alone.
(log 149, DESIGN CHOICE) -/
def graverPhase (n : Nat) (s : State) : State :=
  let g := s.grv n
  let kind := s.fld (grvReg n 4) 7 0
  let size := s.fld (grvReg n 5) 14 0
  let at_ := s.tick + s.fld (grvReg n 6) 23 0 - g.endAt
  if grvState s n = 3 ∧ cipherKind kind ∧ g.halt.isNone ∧ (Config.cipherPhases kind size).contains at_ then
    sealedStore n ((Config.cipherPhase kind size at_ g.mem).filter fun (b, _, _) => bankSealed s n b) s
  else s

/-- What the expander and the utility cipher unit do for the gravers in a stroke: at most eight generate calls for each half (R311). -/
def graverDraws (s : State) : State :=
  let s := s.each [1, 2] fun i s => s.each (List.range 8) fun _ => graverFeed i
  s.each (List.range 16) graverPhase

/-- The block at a boundary: the raw bits of the stroke just ended (R305, R307), fresh generate calls, reseeds, instantiations. -/
def entBoundary (s : State) : State :=
  let s := { s with ent := { s.ent with bits := s.ent.bits + 32 * (healthySources s).length } }
  let s := s.each (List.range 6) fun i s => s.setDrbg i { s.drbg i with calls := 0 }
  let s := s.each (List.range 6) fun i s => drbgUnblock i (drbgReseed i s)
  graverDraws (s.each drbgOrder drbgInstantiate)

end Sys2Proof.Machine
end

