-- ==== Sys2Proof/Machine/Agree.lean ====
section
/-! DEFINITION. The device-to-device agreement (07_keys_and_tenants.md, R195, R196). Sites 0–3 are the line port groups of
appliance mode (R34), site 4 is the viaduct (R346). -/

namespace Sys2Proof.Machine

/-- The owner identity certificate's fields (R174). -/
def certDevice (c : Bytes) : Bytes := (c.drop 4).take 12
def certEc (c : Bytes) : Bytes := (c.drop 16).take 96
def certDsa (c : Bytes) : Bytes := (c.drop 112).take 2592

/-- The layout of R174 and both signatures under this device's owner anchors. -/
def certChains (s : State) (c : Bytes) : Bool :=
  match s.key.anchors with
  | none => false
  | some (pe, pd) =>
    c.length == 2704 + 96 + 4627 && beNat (c.take 1) == 2 && beNat ((c.drop 1).take 3) == 0
      && Config.ecdsaVerify pe (c.take 2704) ((c.drop 2704).take 96) && Config.mldsaVerify pd (c.take 2704) (c.drop 2800)

/-- Both signatures of a message over a transcript's hash, under a certificate's keys. -/
def signedBy (c transcript : Bytes) (m : AgreeMsg) : Bool :=
  Config.ecdsaVerify (certEc c) (Config.sha384 transcript) m.ecSig && Config.mldsaVerify (certDsa c) (Config.sha384 transcript) m.dsaSig

/-- This device's two signatures over a transcript's hash. -/
def ownSignatures (s : State) (transcript : Bytes) : Bytes :=
  Config.identitySign 0 s.key.identity (Config.sha384 transcript) ++ Config.identitySign 1 s.key.identity (Config.sha384 transcript)

/-- Whether an agreement may run at a site: the identity and its certificate are at hand; a line group in appliance mode
after the activation of class 0 (R34), the viaduct while its link is UP and the pair is DOWN, FORMING or DEGRADED (R346, log 34, DEDUCED). -/
def agreementMay (s : State) (site : Nat) : Bool :=
  expanderReady s 0 && s.key.identity != [] && s.key.ownerCert != [] && !s.keysClosed
    && (if site < 4 then (List.range' (16 + 4 * site) 4).any (portUp s) && s.stk.appliance && (s.key.activated || quorumSize s 0 == 0)
        else (decide (s.fld 0x0B0001 21 19 ≤ 1) || s.fld 0x0B0001 21 19 == 5) && s.bit 0x0B0000 22 && s.bit 0x0B0001 18)

/-- The agreement at a site. -/
def agreementAt (s : State) (site : Nat) : Option Agreement := Tab.get none s.key.agree site

/-- Replaces it. -/
def setAgreement (site : Nat) (a : Option Agreement) (s : State) : State :=
  { s with key := { s.key with agree := Tab.set none s.key.agree site a } }

/-- An agreement ends with nothing kept; the site retries after 2^22 strokes (R195). -/
def agreementFail (site : Nat) (s : State) : State := setAgreement site (some ⟨0, [], [], [], [], s.tick⟩) s

/-- Whether the site is free for a new agreement: none yet, or the wait of a failed one is over. -/
def agreementFree (s : State) (site : Nat) : Bool :=
  match agreementAt s site with
  | none => true
  | some a => a.step == 0 && decide (a.failedAt + 2 ^ 22 ≤ s.tick)

/-- Fresh private values of an agreement: X25519 and ML-KEM-1024 (the expander's, log 4, DESIGN CHOICE). -/
def freshPrivates (s : State) : Bytes × Bytes × State :=
  let (j, s) := s.useFree
  let (k, s) := s.useFree
  ((beBytes (Config.freshBlock j).toNat 48).take 32, (beBytes (Config.freshBlock k).toNat 48), s)

/-- The line port over which a site 0–3 agrees (R34): the lowest port of its line group that is UP. -/
def agreementPort (s : State) (site : Nat) : Option Nat := (List.range' (16 + 4 * site) 4).find? (portUp s)

/-- A message of the agreement leaves (R34, R195): in EAPOL frames by the line port of its group, or over the viaduct. -/
def sendAgreement (site number : Nat) (body : Bytes) (s : State) : State :=
  if site < 4 then
    match agreementPort s site with
    | some port => s.each (eapolFrames (Config.portAddress port) body) fun b s =>
        transmit port b (portCount port 6 (portCount port 5 s) b.length)
    | none => s
  else sendViaduct (.agreement site number body) s

/-- The agreement runs at a site: over the viaduct the pair is FORMING (R346). -/
def agreementRuns (site : Nat) (s : State) : State := if site < 4 then s else s.put 0x0B0001 21 19 1

/-- AGREEMENT_START (R195): the initiator sends its certificate and fresh public values. A
DEGRADED pair that still has its key aligns again and starts none (R346). -/
def agreementStart (site : Nat) (s : State) : State :=
  let parted := site < 4 || s.fld 0x0B0001 21 19 != 5 || Tab.get [] s.key.agreed 4 == []
  if !(agreementMay s site && agreementFree s site && parted) then s
  else
    let (x, k, s) := freshPrivates (agreementRuns site s)
    let m := s.key.ownerCert ++ Config.x25519Pub x ++ Config.kemPub k
    let s := setAgreement site (some ⟨1, m, x, k, [], 0⟩) s
    sendAgreement site 1 m s

/-- AGREEMENT_MESSAGE_1 (R195): the responder checks the certificate and that the initiator's device ID is the lower,
answers with its own, its value, the ciphertext and two signatures over the transcript so far. -/
def agreementOne (site : Nat) (m : AgreeMsg) (s : State) : State :=
  if !(agreementMay s site && agreementFree s site) then s
  else if !(certChains s m.cert && decide (beNat (certDevice m.cert) < beNat (deviceId s))) then agreementFail site s
  else
    let (x, r, s) := freshPrivates (agreementRuns site s)
    let (ct, kz) := Config.kemEncap m.kem r
    let one := m.cert ++ m.x25519 ++ m.kem
    let two := s.key.ownerCert ++ Config.x25519Pub x ++ ct
    let sigs := ownSignatures s (one ++ two)
    let z := Config.x25519Shared x m.x25519 ++ kz
    sendAgreement site 2 (two ++ sigs) (setAgreement site (some ⟨2, one ++ two ++ sigs, x, m.cert, z, 0⟩) s)

/-- The key K and the working key of a site (R196): the CAK of a port group, or the pair key. (log 31, DEDUCED) -/
def workingKey (site : Nat) (k : Bytes) : Bytes :=
  if site < 4 then kdf k 256 0x02 0x20 (ascii "FT7240 appliance cak") (beBytes site 1) 32
  else kdf k 256 0x04 0x20 (ascii "FT7240 pair") [] 48

/-- Both sides build K from the transcript hash and Z (R196): K is a volatile DERIVE object of OWN, the working key is
held for its site, and the agreement's values are destroyed. -/
def agreementKeys (site : Nat) (transcript z : Bytes) (s : State) : State :=
  let k := Config.hmacSha384 (Config.sha384 transcript) z
  let (_, _, s) := createObject 256 0x04 384 0x20 false (leWords (beNat k) 16) s
  setAgreement site none { s with key := { s.key with agreed := Tab.set [] s.key.agreed site (workingKey site k) } }

/-- The initiator takes message 2 (R195): the certificate, the higher device ID, both signatures; then it signs message 3
and derives. `some cert` where the agreement has ended with a key. (log 30, DEDUCED) (log 158, DESIGN CHOICE) -/
def agreementTwo (site : Nat) (m : AgreeMsg) (s : State) : Option Bytes × State :=
  match agreementAt s site with
  | none => (none, s)
  | some a =>
    if a.step ≠ 1 then (none, s)
    else
      let t := a.transcript ++ m.cert ++ m.x25519 ++ m.kem
      if !(certChains s m.cert && decide (beNat (deviceId s) < beNat (certDevice m.cert)) && signedBy m.cert t m) then
        (none, agreementFail site s)
      else
        let t := t ++ m.ecSig ++ m.dsaSig
        let z := Config.x25519Shared a.xPriv m.x25519 ++ Config.kemDecap a.kemPriv m.kem
        let s := sendAgreement site 3 (ownSignatures s t) s
        (some m.cert, agreementKeys site t z s)

/-- The responder verifies message 3 (R195) and derives. -/
def agreementThree (site : Nat) (m : AgreeMsg) (s : State) : Option Bytes × State :=
  match agreementAt s site with
  | none => (none, s)
  | some a =>
    if a.step ≠ 2 then (none, s)
    else if !signedBy a.kemPriv a.transcript m then (none, agreementFail site s)
    else (some a.kemPriv, agreementKeys site a.transcript a.z s)

/-- AGREEMENT_RETRY (R195): 2^22 strokes after a failure the site may start again. -/
def agreementRetry (site : Nat) (s : State) : State :=
  match agreementAt s site with
  | some a => if a.step = 0 ∧ a.failedAt + 2 ^ 22 ≤ s.tick then setAgreement site none s else s
  | none => s

end Sys2Proof.Machine
end

