-- ==== Sys2Proof/Machine/Viaduct.lean ====
section
/-! DEFINITION. The viaduct pair (15_pair_and_in_service.md, R341–R362): roles and hold lines, heartbeats, formation,
alignment, mirroring, takeover and handover. -/

namespace Sys2Proof.Machine

/-! ### Roles and hold lines (R341, R342) -/

/-- VDT_STAT.ROLE: 0 SOLO, 1 ACTIVE, 2 STANDBY. -/
def vdtRole (s : State) : Nat := s.fld 0x0B0001 23 22

/-- VDT_STAT.PAIR: 0 DOWN, 1 FORMING, 2 ALIGNING, 3 RESYNC, 4 INTACT, 5 DEGRADED. -/
def pairState (s : State) : Nat := s.fld 0x0B0001 21 19

/-- The VDT counters: 0 HB_MISSED, 1 ICV_FAIL, 2 SWEEPS, 3 SWEEP_DISCARD, 4 RES_SENT, 5 MARK_SENT, 6 SETUP_SENT, 7 STBY_DROP,
8 HO_DROP, 9 TAKEOVERS. -/
def vdtCount (c : Nat) (s : State) : State := s.count (0x0B0020 + 2 * c)

/-- Sets the pair state. -/
def setPair (p : Nat) (s : State) : State := s.put 0x0B0001 21 19 p

/-- Whether HOLD_OUT may be high (R342). -/
def holdAllowed (s : State) : Bool := s.transmits

/-- The level of HOLD_OUT (R342): it falls at once; it rises only while the peer's line is seen low, unless the rules of a
handover or of dual activity force it. -/
def holdShow (force : Bool) (s : State) : State :=
  let up := s.bit 0x0B0001 16
  s.flag 0x0B0001 16 (holdAllowed s && (up || force || !s.bit 0x0B0001 17))

/-- The device takes role `r`; VDT_TAKE holds the stroke of the last change. -/
def setRole (r : Nat) (force : Bool) (s : State) : State :=
  let s := if vdtRole s = r then s
    else ((s.put 0x0B0001 23 22 r).wrN 0x0B0018 2 s.stk.time.num.toNat).wr 0x0B001A (BitVec.ofNat 24 s.stk.time.era.toNat)
  holdShow force s

/-- Frames held for mark acknowledgments are released where `p` (R356). -/
def releaseHeld (p : Nat → Bool) (s : State) : State :=
  s.each (s.dck.frames.filter fun f => match f.stage with | .held k => p k | _ => false) fun f s => makeReady f s

/-- Reservations awaiting the peer are in force at once (R137). -/
def settleReservations (s : State) : State :=
  let l := s.plc.extending
  let s := s.each l fun (p, v) s => match v with | some n => dirtyPlate p (writeContent64 p (plateGen s p) 27 n s) | none => s
  { s with plc := { s.plc with extending := [] } }

/-- What was under way in the pair ends: no acknowledgment is awaited any more. -/
def mirrorEnds (s : State) : State :=
  let s := { s with vdt := { s.vdt with
    resync := none, setups := [], slotWait := [], markWait := [], told := ⟨[], [], none, []⟩, owed := [] } }
  releaseHeld (fun _ => true) (settleReservations s)

/-- The pair is DOWN (R346): its key, its alignment and what was under way are dropped; each formation agrees a new key (R344). -/
def pairDown (s : State) : State :=
  let s := { s with
    vdt := { s.vdt with sweep := none, stamp := none, samples := [], rootsEqual := none, relinquished := false, handoverTo := none }
    key := { s.key with agreed := Tab.set [] s.key.agreed 4 [], agree := Tab.set none s.key.agree 4 none } }
  mirrorEnds ((setPair 0 s).put 0x0B0001 15 13 0)

/-- The device becomes SOLO and the pair DOWN (R341, R346). -/
def makeSolo (s : State) : State :=
  setRole 0 false (pairDown s)

/-- Whether the viaduct transmitters run: enabled, with the link UP and outside what idles them (R247, R276, R438). -/
def viaductRuns (s : State) : Bool :=
  s.bit 0x0B0000 22 && s.bit 0x0B0001 18 && s.pwr.safeHold.isNone && !s.bit 0x070000 23 && decide (s.pwr.phase = .run)
    && !s.bit 0x100000 22

/-- Whether a pair key protects frames (R344). -/
def pairKeyed (s : State) : Bool := Tab.get [] s.key.agreed 4 != []

/-- HOLD_IN is sampled, once in a stroke (R342). -/
def holdSample (level : Bool) (s : State) : State :=
  if s.vdt.holdAt = some s.tick then s
  else { s.flag 0x0B0001 17 level with
    vdt := { s.vdt with holdLow := if level then 0 else s.vdt.holdLow + 1, holdAt := some s.tick } }

/-! ### Messages (R345) -/

/-- HEARTBEAT_SEND: once in every stroke, in hardware; an ACTIVE device in LOCKDOWN adds RELINQUISH (R358). -/
def heartbeatSend (s : State) : State :=
  let sentOne := s.vdt.sent.any fun m => match m with | .heartbeat .. => true | _ => false
  if !(viaductRuns s && pairKeyed s) || sentOne then s
  else
    let s := sendViaduct (.heartbeat s.stk.time (vdtRole s) (pairState s) (s.bit 0x0B0001 16) s.vdt.stamp) s
    if vdtRole s = 1 ∧ s.ppt.lockdown.isSome = true then sendViaduct .relinquish s else s

/-- A message may arrive: the link is UP and a pair key is agreed. -/
def viaductHears (s : State) : Bool := s.bit 0x0B0000 22 && s.bit 0x0B0001 18 && pairKeyed s

/-! ### Degradation (R346, R352, R353, R356) -/

/-- The pair becomes DEGRADED. -/
def degrade (s : State) : State :=
  if pairState s = 0 ∨ pairState s = 5 then s
  else
    mirrorEnds ((setPair 5 s).raise 0x0B0002 3)

/-- A sweep is discarded (R352), and the next begins at the next stroke. -/
def discardSweep (s : State) : State :=
  match s.vdt.sweep with
  | none => s
  | some _ => { (vdtCount 3 s).raise 0x0B0002 5 with vdt := { s.vdt with sweep := some (s.tick + 1), samples := [] } }

/-- PAIR_SILENCE (R346): 8 strokes without a heartbeat. -/
def pairSilence (s : State) : State :=
  if 8 ≤ s.fld 0x0B0001 7 0 ∧ 2 ≤ pairState s ∧ pairState s ≤ 4 then degrade s else s

/-! ### Formation (R347, R348) -/

/-- Whether this device carries traffic: it has an open channel. -/
def carriesTraffic (s : State) : Bool := s.dck.chans != []

/-- The transmit plates with PAIR = 1, and every plate in use. -/
def platesInUse (s : State) : List Nat := ((s.plc.words.map fun x => x.1 / 64).dedup).filter fun p => plateState s p != 0
def pairedPlates (s : State) : List Nat := (platesInUse s).filter fun p => s.plateFld p 0 20 20 == 0 && s.plateFld p 0 12 12 == 1

/-- The roles at formation (R348, R362). What the peer carries, prefers and when it last changed its role no message of
R345 shows: three free bits (log 4, DESIGN CHOICE). (log 32, DESIGN CHOICE) -/
def decideRole (initiator : Bool) (s : State) : State :=
  let (i, s) := s.useFree
  let (j, s) := s.useFree
  let (k, s) := s.useFree
  let mine := carriesTraffic s
  let peer := Config.freeBit i
  if mine && peer then
    let s := s.raise 0x0B0002 8
    if Config.freeBit k then setRole 1 true ((s.each (pairedPlates s) retireEffect)) else setRole 2 false s
  else if mine then setRole 1 false s
  else if peer then setRole 2 false s
  else
    let pref := s.bit 0x0B0000 20
    let peerPref := Config.freeBit j
    if pref == peerPref then setRole (if initiator then 1 else 2) false s else setRole (if pref then 2 else 1) false s

/-- The owner root with what is derived from it (R175): the tenant roots at each tenant's epoch, and the metering keys. -/
def setRoot (root : Bytes) (s : State) : State :=
  { s with
    key := { s.key with ownerRoot := some root, roots := s.key.roots.map reroot, metering := s.key.metering.map remeter }
    nva := { s.nva with vault := s.nva.vault.map fun (v : Vault) => { v with ownerRoot := root } } }
where
  /-- The derived keys of a domain under the root. -/
  reroot (x : Nat × Bytes) : Nat × Bytes :=
    (x.1, if x.1 = 256 then fixedKey root (ascii "FT7240 own root") [] else tenantRoot root x.1 (s.fld (0x051000 + 16 * x.1) 15 0))
  remeter (x : Nat × Bytes) : Nat × Bytes :=
    (x.1, meteringKey root x.1 (s.fld (0x051000 + 16 * x.1) 15 0))

/-- The standby imports the active's owner root (R347): its value is the peer's, and free here. -/
def importRoot (s : State) : State :=
  let (k, s) := s.useFree
  setPair 2 ((setRoot (beBytes (Config.freshBlock k).toNat 48) s).put 0x0B0001 13 13 0)

/-- What the keystone does when the pair key is agreed (R347, R348): the peer's identity is shown, the roles are decided, and
the roots are compared. Whether they are equal is a free bit. -/
def pairAgreed (initiator : Bool) (cert : Bytes) (s : State) : State :=
  let s := decideRole initiator ({ s with
    vwire := { s.vwire with pn := 0, seqs := [] }
    vdt := { s.vdt with stamp := none, samples := [] } }.wrN 0x0B0014 4 (beNat (certDevice cert)))
  let (k, s) := s.useFree
  let same := Config.freeBit k
  let s := { s with vdt := { s.vdt with rootsEqual := some same } }
  if same then setPair 2 s
  else if vdtRole s = 2 then
    let s := s.put 0x0B0001 13 13 1
    if quorumSize s 3 = 0 then importRoot s else quorumHold 3 (.pier 0 256) (Config.sha384 (ascii "FT7240 root id")) .root s
  else s

/-- The quorum of class 3 that the standby awaits is met (R347). -/
def rootQuorumMet (s : State) : State := if s.bit 0x0B0001 13 then importRoot s else s

/-- An agreement at any site has ended with a key: on the viaduct, the pair forms. -/
def agreementEnded (site : Nat) (initiator : Bool) (cert : Option Bytes) (s : State) : State :=
  match cert with
  | some c => if site = 4 then pairAgreed initiator c s else s
  | none => s

/-- AGREEMENT_MESSAGE_2 and AGREEMENT_MESSAGE_3 with what follows. -/
def agreementMessageTwo (site : Nat) (m : AgreeMsg) (s : State) : State :=
  let (c, s) := agreementTwo site m s
  agreementEnded site true c s
def agreementMessageThree (site : Nat) (m : AgreeMsg) (s : State) : State :=
  let (c, s) := agreementThree site m s
  agreementEnded site false c s

/-! ### Resynchronisation (R348) -/

/-- The wrapping key of mirrored objects. -/
def viaductKek (s : State) : Bytes := kdf (Tab.get [] s.key.agreed 4) 256 0x02 0x08 (ascii "FT7240 viaduct kek") [] 32

/-- A key object as it is sent. -/
def objectImage (s : State) (i : Nat) : ObjectImage :=
  let v := s.slot i
  { dom := v.dom, ty := v.ty, size := sizeOf v.ty v.size, usage := v.usage, exportable := v.exportable, persist := v.persist
    gen := v.gen, slots := objectSlots s i
    wrapped := Config.kwWrap (viaductKek s) (materialBytes ((components v.ty (sizeOf v.ty v.size)).getD []) (objectWords s i)) }

/-- Registers that quotas, tenant states, clear classes and quorum sizes live in. -/
def setupRegister (a : Nat) : Bool :=
  decide (0x051000 ≤ a ∧ a < 0x052000) || decide (0x011000 ≤ a ∧ a < 0x011080) || decide (0x018010 ≤ a ∧ a < 0x018302)
    || decide (0x030100 ≤ a ∧ a < 0x030302) || decide (0x050300 ≤ a ∧ a < 0x050306) || a == 0x018000 || a == 0x030000

/-- Those registers as they stand. -/
def setupRegisters (s : State) : List (Nat × Word) := s.io.filter fun x => setupRegister x.1

/-- The key objects as they stand: head slot, GEN, USAGE, EXPORT, PERSIST. -/
def objectMarks (s : State) : List (Nat × BitVec 8 × BitVec 8 × Bool × Bool) :=
  (s.key.slots.filter fun (_, v) => v.head && v.state == .inUse).map fun (i, v) => (i, v.gen, v.usage, v.exportable, v.persist)

/-- The armed switch slots with their S. -/
def armedSlots (s : State) : List (Nat × Nat) :=
  ((List.range 4).filter fun k => swState s k == 1).map fun k => (k, s.countOf (timeAt s (swReg k 2)))

/-- What the standby knows once everything here is sent (R353). -/
def toldNow (s : State) : Told := ⟨objectMarks s, setupRegisters s, s.nva.config, armedSlots s⟩

/-- The arm of slot `k` as it is mirrored (R354), after the shadow plan where its kind is PLAN. -/
def armMirror (s : State) (k : Nat) : List Mirrored :=
  (if s.fld (swReg k 0) 9 8 = 1 then [.plan false s.shadowPlan] else [])
    ++ [.arm k (timeAt s (swReg k 2)) (s.fld (swReg k 0) 9 8) (maskAt s (swReg k 8))]

/-- The record of an open channel without its plates, as it is mirrored before them. -/
def bareChan (r : Chan) : Chan := { r with plates := [none, none, none, none], current := none }

/-- A plate in use as it is mirrored: installed with its words, then retired or pinned where it is so. -/
def plateMirror (s : State) (p : Nat) : List Mirrored :=
  let d := plateDom s p
  let current := match Tab.get none s.dck.chans (s.plateFld p 3 17 0) with | some r => r.current == some (s.plateFld p 0 16 15) | none => false
  let at_ : When := .stroke s.now
  [.change ⟨0, p, .install p d (s.plateWords p) current, at_⟩]
    ++ (if plateState s p = 2 then [.change ⟨0, p, .retire p d, at_⟩] else [])
    ++ (if s.plateFld p 0 21 21 = 1 then [.change ⟨0, p, .pin p true, at_⟩] else [])

/-- Everything the active sends in RESYNC, in order: key objects, registers, the plan in force, channels, pins and plates in force, armed
switches, the changes not yet in force, what CONFIG stores. -/
def resyncContent (s : State) : List Mirrored :=
  ((objectMarks s).map fun x => .object (objectImage s x.1))
    ++ [.registers (setupRegisters s), .plan true s.activePlan]
    ++ (s.dck.chans.filterMap fun (n, r) => r.map fun r => .change ⟨1, n, .openChan n (bareChan r), .stroke s.now⟩)
    ++ (s.spn.layout.pins.map fun n => .change ⟨1, n, .pinChan n (some (Tab.get 64 s.spn.layout.homes n)), .stroke s.now⟩)
    ++ (platesInUse s).flatMap (plateMirror s) ++ (armedSlots s).flatMap (fun x => armMirror s x.1)
    ++ s.setup.map .change ++ [.config s.nva.config, .last]

/-- The standby erases its key store but for reserved slots, its plates, its channels and its configuration. -/
def standbyErase (s : State) : State :=
  let s := s.each s.dck.chans fun (n, _) s => closeChannel n s
  let s := s.each (platesInUse s) retireEffect
  { s with
    key := { s.key with slots := s.key.slots.filter fun (_, v) => v.state == .reserved }
    plc := { s.plc with words := [], outgoing := [], cache := [] }
    nva := { s.nva with config := none }
    setup := [] }

/-- RESYNC begins: the active sends everything, the standby erases. -/
def startResync (s : State) : State :=
  let s := setPair 3 s
  if vdtRole s = 2 then standbyErase s
  else
    let n := s.vdt.nextSetup
    let l := resyncContent s
    let s := s.each l.zipIdx fun (m, i) s => vdtCount 6 (sendViaduct (.setup (n + i) m) s)
    { s with vdt := { s.vdt with nextSetup := n + l.length, resync := some (n + l.length - 1) } }

/-- The pair becomes INTACT. -/
def pairIntact (s : State) : State :=
  { (setPair 4 s).raise 0x0B0002 2 with vdt := { s.vdt with resync := none, setups := [], told := toldNow s } }

/-- RESYNC of VDT_CTL (R348): a paired, aligned device starts it again. -/
def resyncWrite (s : State) : State := if 2 ≤ pairState s ∧ s.bit 0x0B0001 15 ∧ s.bit 0x0B0001 18 then startResync s else s

/-! ### Heartbeats (R345) -/

/-- A stamp in fabric cycles. -/
def stampValue (s : State) (x : Stamp) : Int := 1000 * (s.countOf x.time : Int) + (x.cycle.toNat : Int)

/-- One heartbeat exchange (R350): T1 is this device's stamp that the peer echoes, T2 the peer's receive stamp, T3 the peer's send stamp, T4 the
arrival here. It gives 2θ = (T2 − T1) + (T3 − T4) and δ = (T4 − T1) − (T3 − T2). -/
def exchange (s : State) (b : Beat) : Option (Int × Int) :=
  b.echo.map fun (a, r) =>
    let t1 := stampValue s a
    let t2 := stampValue s r
    let t3 := stampValue s ⟨b.time, b.cycle⟩
    let t4 := stampValue s ⟨s.stk.time, b.arrival⟩
    ((t2 - t1) + (t3 - t4), (t4 - t1) - (t3 - t2))

/-- HEARTBEAT received: one that fails its ICV or its PN test is counted and spoils a sweep (R344, R352). A valid one ends
the silence; DEGRADED begins to align again (R346). (log 124, DEDUCED) -/
def heartbeatTake (b : Beat) (s : State) : State :=
  if !(viaductHears s) then s
  else if !b.icvOk then discardSweep (vdtCount 1 s)
  else
    let s := { s with vdt := { s.vdt with
      beatNow := true
      lastPair := pairState s
      stamp := some (⟨b.time, b.cycle⟩, ⟨s.stk.time, b.arrival⟩)
      samples := match exchange s b with
        | some x => if s.vdt.sweep.isSome && !s.vdt.beatNow then s.vdt.samples ++ [x] else s.vdt.samples
        | none => s.vdt.samples } }
    let s := s.put 0x0B0001 7 0 0
    if pairState s = 5 ∨ (pairState s = 1 ∧ vdtRole s = 1 ∧ s.vdt.rootsEqual = some false ∧ 2 ≤ b.pair.toNat) then setPair 2 s else s

/-- The silence count at the end of a stroke: SILENT grows where no valid heartbeat came, and HB_MISSED counts it in a pair
that aligns or stands (R345, R369). -/
def silenceTick (s : State) : State :=
  let s := if s.vdt.beatNow then s
    else
      let s := s.bump 0x0B0001 7 0
      if 2 ≤ pairState s then discardSweep (vdtCount 0 s) else s
  { s with vdt := { s.vdt with beatNow := false } }

/-! ### Alignment (R350, R351) -/

/-- SWEEP_START: back to back in ALIGNING, else at multiples of 2^14 strokes. -/
def sweepStart (s : State) : State :=
  if s.vdt.sweep.isSome ∨ !viaductHears s ∨ pairState s < 2 then s
  else if pairState s = 2 ∨ s.now % 2 ^ 14 = 0 then
    { s.put 0x0B0001 14 14 1 with vdt := { s.vdt with sweep := some s.tick, samples := [] } }
  else s

/-- An amount as a two's-complement word. -/
def intWord (x : Int) : Word := BitVec.ofInt 24 x

/-- The follower moves its stroke time forward by `j` (R43, R351). -/
def forwardBy (j : Nat) (s : State) : State :=
  let t := strokeAdd s.stk.time j
  stkFwdGo ((s.wrN 0x0008 2 t.num.toNat).wr 0x000A (BitVec.ofNat 24 t.era.toNat))

/-- A value put into an ascending list. -/
def insertInt (x : Int) : List Int → List Int
  | [] => [x]
  | y :: t => if x ≤ y then x :: y :: t else y :: insertInt x t

/-- The median of a list (R350); of an even number of values the lower middle one (log 160, DESIGN CHOICE). -/
def medianOf (l : List Int) : Int := (l.foldr insertInt []).getD ((l.length - 1) / 2) 0

/-- SWEEP_DONE (R350, R351, R352): 64 exchanges in 64 strokes give θ and δ; numbers that differ by a stroke are 1,000 cycles apart, so a small
θ shows them equal; a sweep with fewer exchanges is discarded; (log 160, DESIGN CHOICE) the follower jumps and slews; an aligned pair goes on to
RESYNC, and a good sweep beyond 125 cycles degrades an INTACT one. -/
def sweepDone (s : State) : State :=
  match s.vdt.sweep with
  | none => s
  | some t =>
    if s.tick < t + 64 then s
    else if s.vdt.samples.length < 64 then discardSweep s
    else
      let theta := medianOf (s.vdt.samples.map (·.1)) / 2
      let delta := medianOf (s.vdt.samples.map (·.2))
      let s := { (vdtCount 2 s).put 0x0B0001 14 14 0 with vdt := { s.vdt with sweep := none, samples := [] } }
      let s := (s.wr 0x0B0010 (intWord theta)).wr 0x0B0011 (intWord delta)
      let j := (theta + 500) / 1000
      let rho := theta - 1000 * j
      let s := if 0 < theta then (s.onlyIf (decide (1 ≤ j)) (forwardBy j.toNat)).wr 0x0B0012 (intWord (64 * rho)) else s
      let aligned := decide (theta.natAbs ≤ 8)
      let s := s.onlyIf (aligned || decide (125 < theta.natAbs)) (·.flag 0x0B0001 15 aligned)
      if pairState s = 4 ∧ 125 < theta.natAbs then degrade (s.raise 0x0B0002 4)
      else if pairState s = 2 ∧ aligned then startResync s
      else s

/-- The slew of one stroke: at most 1/64 cycle (R351). -/
def slewStep (s : State) : State :=
  let v := (s.rd 0x0B0012).toInt
  s.wr 0x0B0012 (intWord (if 0 < v then v - 1 else if v < 0 then v + 1 else 0))

/-! ### The link (R343, R346) -/

/-- VIADUCT_LINK_UP: formation can start (R346). -/
def viaductUp (s : State) : State :=
  if !s.bit 0x0B0000 22 ∨ s.bit 0x0B0001 18 then s
  else
    (s.put 0x0B0001 18 18 1).raise 0x0B0002 1

/-- VIADUCT_LINK_DOWN (R352): the partial sweep is discarded, the pair is DEGRADED, no takeover follows. (log 34, DEDUCED) -/
def viaductDown (s : State) : State :=
  if !s.bit 0x0B0001 18 then s
  else
    let s := (s.put 0x0B0001 18 18 0).raise 0x0B0002 0
    let s := s.onlyIf s.vdt.sweep.isSome (·.raise 0x0B0002 5)
    let s := { s.put 0x0B0001 14 14 0 with vdt := { s.vdt with sweep := none, samples := [] } }
    degrade s

/-! ### Mirroring (R353–R357) -/

/-- RES at the standby (R137, R355): stored and acknowledged. -/
def resTake (p v : Nat) (s : State) : State :=
  if vdtRole s = 2 ∧ viaductHears s then
    sendViaduct (.resAck p v) { s with vdt := { s.vdt with reservations := Tab.set 0 s.vdt.reservations p v } }
  else s

/-- RES_ACK at the active (R137): PL_PN_RES is written. -/
def resAckTake (p v : Nat) (s : State) : State :=
  if Tab.get none s.plc.extending p = some v ∧ viaductHears s then
    let s := { s with plc := { s.plc with extending := Tab.set none s.plc.extending p none } }
    dirtyPlate p (writeContent64 p (plateGen s p) 27 v s)
  else s

/-- The MARK of stroke `k` (R356): every receive plate whose H changed in its batch. -/
def markSend (k : Nat) (s : State) : State :=
  if mirroring s then
    let s := vdtCount 5 (sendViaduct (.mark k s.vdt.changed) s)
    { s with vdt := { s.vdt with changed := [], markWait := s.vdt.markWait ++ [k] } }
  else { s with vdt := { s.vdt with changed := [] } }

/-- MARK at the standby. -/
def markTake (k : Nat) (l : List (Nat × Nat)) (s : State) : State :=
  if vdtRole s = 2 ∧ viaductHears s then
    sendViaduct (.markAck k) { s with vdt := { s.vdt with marks := l.foldl (fun t (p, h) => Tab.set 0 t p h) s.vdt.marks } }
  else s

/-- MARK_ACK at the active: the frames held for that stroke go to egress. -/
def markAckTake (k : Nat) (s : State) : State :=
  if s.vdt.markWait.contains k ∧ viaductHears s then
    releaseHeld (· == k) { s with vdt := { s.vdt with markWait := s.vdt.markWait.filter (· != k) } }
  else s

/-- MARK_ACK_TIMEOUT (R356): no acknowledgment by the boundary that begins k + 8. -/
def markTimeout (s : State) : State := if s.vdt.markWait.any fun k => decide (k + 8 ≤ s.now) then degrade s else s

/-- A key object placed at the same slots and GEN (R348); a persistent one is sealed here too. -/
def placeObject (o : ObjectImage) (s : State) : State :=
  match Config.kwUnwrap (viaductKek s) o.wrapped with
  | none => s
  | some b =>
    let words := materialWords ((components o.ty o.size).getD []) b
    let new := o.slots.filter fun i => decide ((s.slot i).state = .free)
    let s := s.onlyIf (o.persist && new != []) (·.put 0x050004 13 0 (s.fld 0x050004 13 0 - o.slots.length))
    let s := s.each o.slots fun i s => s.setSlot i { s.slot i with state := .reserved, dom := o.dom }
    let s := slotsTaken o.dom new.length s
    let (_, s) := fillSlots o.dom o.ty o.size o.usage o.exportable o.persist words o.slots s
    match o.slots with
    | h :: _ => (s.setSlot h { s.slot h with gen := o.gen }).onlyIf o.persist (resealObject h)
    | [] => s

/-- The configuration that CONFIG_STORE writes (R331, R441, log 57, DEDUCED): the setup in force. -/
def currentConfig (s : State) : StoredConfig :=
  ⟨setupRegisters s ++ [sdcReg 0 0, sdcReg 1 0, 0x0B0000].map fun a => (a, s.rd a), s.dck.chans, s.spn.layout.pins.map fun c => (c, Tab.get 64 s.spn.layout.homes c),
    some (if s.bit 0x0004 1 then s.stk.planB else s.stk.planA)⟩

/-- A setup is sent to the standby with the stroke E by whose start it must be acknowledged, and the slot whose switch it belongs to. -/
def sendSetup (m : Mirrored) (e : Nat) (slot : Option Nat) (s : State) : State :=
  let n := s.vdt.nextSetup
  let s := vdtCount 6 (sendViaduct (.setup n m) s)
  { s with vdt := { s.vdt with
    setups := s.vdt.setups ++ [(n, e)]
    nextSetup := n + 1
    slotWait := s.vdt.slotWait ++ (match slot with | some k => [(k, n)] | none => []) } }

/-- The setups committed in the stroke just ended that no change carries (R353): key objects made, altered and destroyed, registers, what CONFIG
stores, switches armed and cancelled. They name no stroke; E is n + 8. (log 161, DESIGN CHOICE) -/
def mirrorRest (s : State) : State :=
  if !mirroring s then s
  else
    let old := s.vdt.told
    let new := toldNow s
    let e := s.now + 8
    let s := s.each (old.objects.filter fun x => !new.objects.any (·.1 == x.1)) fun x s => sendSetup (.destroyed x.1 x.2.1) e none s
    let s := s.each (new.objects.filter fun x => !old.objects.contains x) fun x s => sendSetup (.object (objectImage s x.1)) e none s
    let regs := (new.regs.filter fun x => !old.regs.contains x)
      ++ ((old.regs.filter fun x => !new.regs.any (·.1 == x.1)).map fun x => (x.1, s.rd x.1))
    let s := s.onlyIf (regs != []) (sendSetup (.registers regs) e none)
    let s := s.onlyIf (new.config != old.config) (sendSetup (.config new.config) e none)
    let s := s.each (new.slots.filter fun x => !old.slots.contains x) fun x s =>
      s.each (armMirror s x.1) fun m s => sendSetup m x.2 (some x.1) s
    let s := s.each (old.slots.filter fun x => swState s x.1 == 3) fun x s => sendSetup (.cancel x.1) e none s
    { s with vdt := { s.vdt with told := new } }

/-- The standby arms a slot as the active did (R354). -/
def armTake (k : Nat) (t : StrokeTime) (kind mask : Nat) (s : State) : State :=
  let s := ((s.wr (swReg k 2) (BitVec.ofNat 24 t.num.toNat)).wr (swReg k 3) (BitVec.ofNat 24 (t.num.toNat / 2 ^ 24))).wr
    (swReg k 4) (BitVec.ofNat 24 t.era.toNat)
  let s := (s.put (swReg k 0) 9 8 kind).wrN (swReg k 8) 6 (mask ||| 2 ^ 58)
  ((s.zero (swReg k 0x10) 6).zero (swReg k 0x18) 6).wr (swReg k 1) 1

/-- A plan taken from the active: into the plan in force, or into the shadow as a checked one. -/
def planTake (inForce : Bool) (l : Tab Word) (s : State) : State :=
  let b := s.bit 0x0004 1
  let stk := if b == inForce then { s.stk with planB := l } else { s.stk with planA := l }
  { s with stk := stk }.onlyIf (!inForce) (·.put 0x0004 2 2 1)

/-- A tenant's derived keys (R175), which do not travel. -/
def mirroredTenant (t : Nat) (s : State) : State :=
  match s.key.ownerRoot with
  | none => s
  | some r =>
    let e := s.fld (0x051000 + 16 * t) 15 0
    { s with key := { s.key with
      roots := Tab.set [] s.key.roots t (tenantRoot r t e), metering := Tab.set [] s.key.metering t (meteringKey r t e) } }

/-- A change taken from the active waits for its stroke or slot; its plate is made resident, its participants join the slot's (R331, R354). -/
def changeTake (c : Pending) (s : State) : State :=
  let s := match c.eff with
    | .slot k => s.each (participantsOf s c.change ++ [58]) fun i s => s.raise (swReg k (8 + i / 24)) (i % 24)
    | .stroke _ => s
  let s := { s with setup := s.setup ++ [c] }
  let s := if c.kind = 0 then requestPlate c.num 256 .demand s else s
  match c.change with
  | .tenant t 1 => mirroredTenant t s
  | _ => s

/-- Registers taken from the active. A lock that is set keeps its fields (R8); tenants that are not ABSENT have their keys derived (R175). -/
def registersTake (l : List (Nat × Word)) (s : State) : State :=
  let s := s.each l fun (a, w) s =>
    if a = 0x018000 ∨ a = 0x030000 then plainWrite true a w s else if setupRegister a then s.wr a w else s
  s.each ((List.range 256).filter fun t => tenantState s t != 0) mirroredTenant

/-- The slot that a message belongs to, whose acknowledgment waits for the participants of this device (R354). -/
def mirroredSlot : Mirrored → Option Nat
  | .arm k .. => some k
  | .change c => (match c.eff with | .slot k => some k | .stroke _ => none)
  | _ => none

/-- The standby acknowledges a switch over the link once its own participants have acknowledged it; its participant 58 acknowledges with that
(R354, log 161, DESIGN CHOICE). -/
def owedAcks (s : State) : State :=
  s.each ((s.vdt.owed.map (·.1)).eraseDups) fun k s =>
    let mask := maskAt s (swReg k 8) &&& (maskAt s (swReg k 8) ^^^ 2 ^ 58)
    let inTime : Bool := match aheadBy s (timeAt s (swReg k 2)) with | some d => decide (3 ≤ d) | none => false
    if swState s k = 1 ∧ (mask &&& maskAt s (swReg k 0x10)) = mask ∧ inTime then
      let s := s.each (s.vdt.owed.filter (·.1 == k)) fun x s => sendViaduct (.setupAck x.2) s
      { s.raise (swReg k 0x12) 10 with vdt := { s.vdt with owed := s.vdt.owed.filter (·.1 != k) } }
    else s

/-- SETUP at the standby (R348, R353): applied at the same effective stroke, and acknowledged; what
belongs to a switch is acknowledged with the switch (R354). -/
def setupTake (id : Nat) (m : Mirrored) (s : State) : State :=
  if vdtRole s ≠ 2 ∨ !viaductHears s then s
  else
    let s := match m with
      | .change c => changeTake c s
      | .object o => placeObject o s
      | .destroyed i g => if (s.slot i).state = .inUse ∧ (s.slot i).head = true ∧ (s.slot i).gen = g then freeObject i (destroyObject i s) else s
      | .registers l => registersTake l s
      | .config c => { s with nva := { s.nva with config := c } }
      | .plan b l => planTake b l s
      | .arm k t kind mask => if k < 4 then armTake k t kind mask s else s
      | .cancel k => if swState s k = 1 then cancelSlot k 2 s else s
      | .last => pairIntact s
    match mirroredSlot m with
    | some k => { s with vdt := { s.vdt with owed := s.vdt.owed ++ [(k, id)] } }
    | none => sendViaduct (.setupAck id) s

/-- SETUP_ACK at the active (R346, R353): the last message of RESYNC makes the pair INTACT. -/
def setupAckTake (id : Nat) (s : State) : State :=
  if vdtRole s ≠ 1 ∨ !viaductHears s then s
  else
    let s := { s with vdt := { s.vdt with
      setups := s.vdt.setups.filter (·.1 != id), slotWait := s.vdt.slotWait.filter (·.2 != id) } }
    if pairState s = 3 ∧ s.vdt.resync = some id then pairIntact s else s

/-- SETUP_ACK_LATE (R353): no acknowledgment of a setup by the end of stroke E − 1. -/
def setupAckLate (id : Nat) (s : State) : State :=
  if s.vdt.setups.any fun (n, e) => n == id && decide (e ≤ s.now) then degrade s else s

/-- LEDGER at the standby (R357): the image waits for the journal. -/
def ledgerTake (rows : List (BitVec 168)) (s : State) : State :=
  if vdtRole s = 2 ∧ viaductHears s then { s with vdt := { s.vdt with image := some rows } } else s

/-- RELINQUISH arrives (R358). -/
def relinquishTake (s : State) : State :=
  if vdtRole s = 2 ∧ viaductHears s then { s with vdt := { s.vdt with relinquished := true } } else s

/-! ### Takeover and handover (R358–R361) -/

/-- The mirrored plates take their stored reservations and marks (R359). -/
def usePlateMirror (s : State) : State :=
  s.each (platesInUse s) fun p s =>
    let g := plateGen s p
    if s.plateFld p 0 20 20 = 0 then
      let r := Tab.get 0 s.vdt.reservations p
      if s.plateFld p 0 12 12 = 1 then writeContent64 p g 24 (if r = 0 then wordsAt (s.plateWords p) 27 else r) s else s
    else
      let h := max (Tab.get 0 s.vdt.marks p) (wordsAt (s.plateWords p) 36)
      let s := writeContent64 p g 33 (h + 1) (writeContent64 p g 36 h s)
      s.each (List.range 6) fun i s => writeContent p g (39 + i) (if i = 5 then 0x0000FF else 0xFFFFFF) s

/-- The new active (R359, R360): with a mirror that was INTACT, plates as mirrored and armed switches that are not committed
cancelled; with one that may be stale, every mirrored plate is retired. -/
def becomeActive (fresh force : Bool) (s : State) : State :=
  let s := if fresh then usePlateMirror s else s.each (platesInUse s) retireEffect
  let s := s.each (List.range 4) fun k s => if swState s k = 1 then cancelSlot k 1 s else s
  let s := { s with vdt := { s.vdt with
    reservations := [], marks := [], relinquished := false, handoverTo := none, owed := [], told := toldNow s } }
  setRole 1 force s

/-- Whether a standby takes over at this boundary (R358). -/
def takeoverDue (s : State) : Bool :=
  vdtRole s == 2 && ((decide (8 ≤ s.fld 0x0B0001 7 0) && decide (8 ≤ s.vdt.holdLow)) || (s.vdt.relinquished && decide (2 ≤ s.vdt.holdLow)))

/-- TAKEOVER (R359). (log 33, DEDUCED) -/
def takeover (s : State) : State :=
  if !takeoverDue s then s
  else
    let fresh := s.vdt.lastPair == 4
    (vdtCount 9 (pairDown (becomeActive fresh false s))).raise 0x0B0002 6

/-- VDT_HO_S. -/
def handoverTime (s : State) : StrokeTime := timeAt s 0x0B0008

/-- The CAUSE with which a handover is refused (R55, R361), 0 where it is armed. -/
def handoverCause (s : State) : Nat :=
  let inRange : Bool := match aheadBy s (handoverTime s) with | some d => decide (16 ≤ d ∧ d ≤ 2 ^ 26) | none => false
  if pairState s ≠ 4 ∨ vdtRole s ≠ 1 ∨ s.fld 0x0B000B 2 0 = 1 ∨ s.fld 0x0B000B 2 0 = 2 then 6
  else if s.stk.forward.isSome then 7
  else if !inRange then 3 else 0

/-- HANDOVER of VDT_CTL (R361). -/
def handoverArm (s : State) : State :=
  match handoverCause s with
  | 0 =>
    let s := s.wr 0x0B000B 1
    sendViaduct (.handover (handoverTime s)) { s with vdt := { s.vdt with handoverAcked := false } }
  | c => s.put 0x0B000B 7 4 c

/-- HANDOVER arrives at the standby of an INTACT pair, which acknowledges it no later than the end of S − 4 (R56, R361) and then
takes over at S (log 162, DESIGN CHOICE). -/
def handoverTake (t : StrokeTime) (s : State) : State :=
  let inTime : Bool := match aheadBy s t with | some d => decide (4 ≤ d) | none => false
  if vdtRole s = 2 ∧ pairState s = 4 ∧ viaductHears s ∧ inTime then sendViaduct .handoverAck { s with vdt := { s.vdt with handoverTo := some t.toNat } } else s

/-- HANDOVER_ACK arrives at the active; it counts no later than the end of S − 4 (R56). -/
def handoverAckTake (s : State) : State :=
  let inTime : Bool := match aheadBy s (handoverTime s) with | some d => decide (4 ≤ d) | none => false
  if s.fld 0x0B000B 2 0 = 1 ∧ viaductHears s ∧ inTime then { s with vdt := { s.vdt with handoverAcked := true } } else s

/-- The decision at the boundary that begins S − 2 (R57, R361). -/
def handoverDecide (s : State) : State :=
  if s.fld 0x0B000B 2 0 = 1 ∧ aheadBy s (handoverTime s) = some 2 then
    if s.vdt.handoverAcked then s.wr 0x0B000B 2 else s.wr 0x0B000B (BitVec.ofNat 24 (16 + 3))
  else s

/-- Every frame in the deck is dropped and counted by `cause`. -/
def dropDeck (cause : State → State) (s : State) : State :=
  s.each s.dck.frames fun f s => if f.chan.isSome then dropBound f cause s else dropUnbound f cause s

/-- HANDOVER_STROKE (R361): at S the roles are exchanged. -/
def handoverStroke (s : State) : State :=
  if vdtRole s = 1 ∧ s.fld 0x0B000B 2 0 = 2 ∧ handoverTime s = s.stk.time then
    let s := dropDeck (vdtCount 8) (s.put 0x0B000B 2 0 4)
    (setRole 2 false (mirrorEnds s)).raise 0x0B0002 7
  else if vdtRole s = 2 ∧ s.vdt.handoverTo = some s.now then (becomeActive true true s).raise 0x0B0002 7
  else s

/-! ### Registers (R369) -/

/-- UNPAIR of VDT_CTL (R341). -/
def unpair (s : State) : State := makeSolo s

/-- A write of VDT_CTL from KEEP. -/
def vdtCtlWrite (w : Word) (s : State) : State :=
  let s := s.onlyIf (Word.bit w 23) handoverArm
  let s := s.onlyIf (Word.bit w 22) unpair
  s.onlyIf (Word.bit w 21) resyncWrite

/-- VDT_CFG has been written: with EN clear the device is SOLO, the pair DOWN and the lanes idle. -/
def vdtCfgAfter (s : State) : State := if s.bit 0x0B0000 22 then s else makeSolo (s.put 0x0B0001 18 18 0)

/-- A write of VDT_EVT. -/
def vdtEvtWrite (w : Word) (s : State) : State :=
  let s := s.wr 0x0B0002 (s.rd 0x0B0002 &&& ~~~ (w &&& 0x0001FF))
  s.onlyIf (Word.bit w 23) (·.zero 0x0B0020 20)

/-- The viaduct at a boundary that ends stroke `k`. -/
def viaductBoundary (k : Nat) (s : State) : State :=
  let s := slewStep (silenceTick s)
  let s := markTimeout (markSend k (owedAcks (mirrorRest s)))
  let s := s.each (s.vdt.setups.map (·.1)) setupAckLate
  let s := takeover (pairSilence s)
  let s := handoverStroke (handoverDecide s)
  heartbeatSend (sweepStart (holdShow false s))

end Sys2Proof.Machine
end

