-- ==== Sys2Proof/Machine/Contactless.lean ====
section
/-! DEFINITION. The contactless custodian reader (16_contactless_custodian.md): field, token table, operations, low-power
detection. What a token answers comes with the command; what nobody says is free. -/

namespace Sys2Proof.Machine

/-! ### State and table -/

/-- CLR_STAT.STATE: 0 OFF, 1 LPCD, 2 SETTLE, 3 IDLE, 4 SEARCH, 5 EXCHANGE, 6 FAULT. -/
def clrState (s : State) : Nat := s.fld 0x0C0001 22 20

/-- The reader's counters: 0 SEARCHES, 1 RESTARTS, 2 TIMEOUTS, 3 PROTOCOL_ERR, 4 WTX, 5 DETECT, 6 LPCD_RECAL, 7 PWD_NAK. -/
def clrCount (c : Nat) (s : State) (k : Nat := 1) : State := s.count (0x0C0200 + 2 * c) k

/-- CLR_TOKe_INFO. -/
def tokReg (e o : Nat) : Nat := 0x0C0100 + 8 * e + o

/-- Entry `e`: valid, and its state 0 FOUND, 1 ACTIVE, 2 LOST, 3 QUIET. -/
def tokValid (s : State) (e : Nat) : Bool := s.bit (tokReg e 0) 23
def tokState (s : State) (e : Nat) : Nat := s.fld (tokReg e 0) 21 20
def tokUtvetos (s : State) (e : Nat) : Bool := s.bit (tokReg e 0) 22

/-- The UID or serial of entry `e`. -/
def tokUid (s : State) (e : Nat) : Bytes :=
  (((List.range 4).flatMap fun i => wordBytes (s.rd (tokReg e (1 + i))))).take
    (match s.fld (tokReg e 0) 17 16 with | 0 => 4 | 1 => 7 | _ => 10)

/-- Shows COUNT, ACT_VALID and ACT. -/
def clrShow (s : State) : State :=
  let act := (List.range 8).find? fun e => tokValid s e && tokState s e == 1
  let s := s.put 0x0C0001 11 8 ((List.range 8).filter (tokValid s)).length
  (s.flag 0x0C0001 7 act.isSome).put 0x0C0001 2 0 (act.getD 0)

/-- Entry `e` changes its state; what is no longer in protocol has no rate but 106 kbit/s. -/
def tokSet (e st : Nat) (s : State) : State := clrShow ((s.onlyIf (st != 1) (·.put (tokReg e 0) 7 6 0)).put (tokReg e 0) 21 20 st)

/-- Entry `e` speaks ISO/IEC 14443-4. -/
def tokIso4 (s : State) (e : Nat) : Bool := s.bit (tokReg e 0) 18

/-- Entry `e` is freed. -/
def tokFree (e : Nat) (s : State) : State :=
  let s := { s with clr := { s.clr with quiet := Tab.set 0 s.clr.quiet e 0 } }
  clrShow (s.zero (tokReg e 0) 5)

/-- The reader is in a state in which it refuses every command (R370). -/
def clrBarred (s : State) : Bool :=
  s.pwr.safeHold.isSome || s.bit 0x070000 23 || s.ppt.erased.isSome || decide (s.pwr.phase ≠ .run)

/-! ### The field (R370, R371) -/

/-- The field goes off: every Type A entry is cleared; the state is LPCD or OFF, or stays FAULT. -/
def fieldOff (s : State) : State :=
  let s := s.each (List.range 8) fun e s => if tokValid s e && !tokUtvetos s e then tokFree e s else s
  let s := s.onlyIf (s.bit 0x0C0001 23) fun s => { s with clr := { s.clr with offSince := s.tick } }
  let s := { s.put 0x0C0001 23 23 0 with clr := { s.clr with hold := false } }
  if clrState s = 6 then s else s.put 0x0C0001 22 20 (if s.bit 0x0C0000 22 && !s.bit 0x0C0000 23 then 1 else 0)

/-- The field is switched on and settles for SETTLE × 125 strokes. -/
def fieldOn (s : State) : State :=
  if s.bit 0x0C0001 23 ∨ clrBarred s ∨ clrState s = 6 then s
  else
    { (s.put 0x0C0001 23 23 1).put 0x0C0001 22 20 2 with
      clr := { s.clr with settled := s.tick + 125 * s.fld 0x0C000F 23 16 } }

/-- FIELD_SETTLED. -/
def fieldSettled (s : State) : State :=
  if clrState s = 2 ∧ s.clr.settled ≤ s.tick then s.put 0x0C0001 22 20 3 else s

/-- A write of CLR_CFG. FAULT is left when FIELD_EN is written 0 and then 1 (R371). -/
def clrCfgWrite (w : Word) (s : State) : State :=
  let s := s.wr 0x0C0000 (w &&& 0xFBC000)
  if Word.bit w 23 then
    let s := if clrState s = 6 ∧ s.clr.faultCleared = true then s.put 0x0C0001 22 20 0 else s
    fieldOn { s with clr := { s.clr with faultCleared := false, hold := false } }
  else
    let s := { s with clr := { s.clr with faultCleared := true } }
    if s.clr.hold then s else fieldOff s

/-! ### Operations (R374–R383) -/

/-- Ends the operation in progress with a RESULT of CLR_XSTAT. -/
def clrEnd (r : Nat) (s : State) : State :=
  let s := { s with clr := { s.clr with busy := none, retries := 0 } }
  let s := (s.wr 0x0C0005 (BitVec.ofNat 24 (r * 2 ^ 20))).raise 0x0C0002 0
  if clrState s = 4 ∨ clrState s = 5 then s.put 0x0C0001 22 20 3 else s

/-- FIELD_FAULT (R371). -/
def fieldFault (s : State) : State :=
  if !s.bit 0x0C0001 23 then s
  else
    let busy := s.clr.busy.isSome
    let s := if busy then clrEnd 8 s else s
    let s := (fieldOff (s.put 0x0C0001 22 20 6)).raise 0x0C0002 5
    { s with clr := { s.clr with faultCleared := false } }

/-- A write of CLR_CMD: OP 1 SEARCH, 2 ACTIVATE, 3 EXCHANGE, 4 DEACTIVATE, 5 QUIET, 6 UNLOCK, 7 ABORT, 8 FIELD_OFF; a reserved OP
is discarded (R10). -/
def clrCmdWrite (w : Word) (o : ClrOutcome) (acked : Bool) (s : State) : State :=
  let op := Word.slice w 23 20
  if op = 0 ∨ 8 < op then s
  else if op = 7 then { s with clr := { s.clr with abort := some acked } }
  else { s with clr := { s.clr with written := s.clr.written ++ [⟨op, Word.slice w 2 0, o, s.tick⟩] } }

/-- Whether the entry and its state allow an operation (R376, R379, R380, R382). -/
def entryAllows (s : State) (op e : Nat) : Bool :=
  match op with
  | 2 => tokValid s e && tokState s e == 0 && !tokUtvetos s e
  | 3 => tokValid s e && (if tokUtvetos s e then tokState s e == 0 else tokState s e == 1)
      && decide (1 ≤ s.fld 0x0C0007 8 0 ∧ s.fld 0x0C0007 8 0 ≤ 256) && s.clr.tx.head? != some 0x7E
  | 4 => tokValid s e && tokState s e == 1
  | 5 => tokValid s e && tokUtvetos s e && tokState s e != 2
  | 6 => tokValid s e && tokUtvetos s e && tokState s e == 0
  | _ => true

/-- The wrong answers counted for a serial (R380). -/
def wrongOf (s : State) (u : Bytes) : Nat := match s.clr.wrong.find? (·.1 == u) with | some x => x.2 | none => 0

/-- One more wrong answer: the list holds 32 serials, the oldest is replaced first. -/
def wrongAdd (u : Bytes) (s : State) : State :=
  let l := s.clr.wrong
  let l := if l.any (·.1 == u) then l.map fun x => if x.1 = u then (u, x.2 + 1) else x
    else (if 32 ≤ l.length then l.drop 1 else l) ++ [(u, 1)]
  { s with clr := { s.clr with wrong := l } }

/-- A refused operation leaves one in progress as it is: only RESULT changes where none is. -/
def clrRefuse (s : State) : State := if s.clr.busy.isSome then s.put 0x0C0005 23 20 5 else clrEnd 5 s

/-- A QUIET entry has expired (R379): 2 s after its stamp, or with the field off for 200 ms. -/
def quietExpired (s : State) (e : Nat) : Bool :=
  tokValid s e && tokState s e == 3
    && (decide (Tab.get 0 s.clr.quiet e + 2500000 ≤ s.tick) || (!s.bit 0x0C0001 23 && decide (s.clr.offSince + 250000 ≤ s.tick)))

/-- QUIET_EXPIRY. -/
def quietExpiry (e : Nat) (s : State) : State := if quietExpired s e then tokFree e s else s

/-- The bytes that a UID shows on each cascade level (R372): the tag 0x88 begins a level that is not the last. -/
def uidLevels (b : Bytes) : List Bytes :=
  match b.length with
  | 7 => [0x88 :: b.take 3, b.drop 3]
  | 10 => [0x88 :: b.take 3, 0x88 :: (b.drop 3).take 3, b.drop 6]
  | _ => [b]

/-- The SELECT of cascade level `i`. -/
def selectFrame (i : Nat) (b : Bytes) : Bytes := [BitVec.ofNat 8 (0x93 + 2 * i), 0x70] ++ b ++ [b.foldl (· ^^^ ·) 0]

/-- The frames that an operation sends (R374, R376, R379, R380, R382). Their first bytes are those of ISO/IEC 14443 (log 163, PRESUMED)
and of the Utvetos table; of a search the first frame of each walk is shown. -/
def airFrames (x : ClrOp) (s : State) : List Bytes :=
  let u := tokUid s x.entry
  match x.op with
  | 1 => (if s.bit 0x0C0000 19 then [[0x26]] else []) ++ (if s.bit 0x0C0000 20 then [[0x7C, 0x00]] else [])
  | 2 => [[0x52]] ++ ((uidLevels u).zipIdx.map fun (b, i) => selectFrame i b) ++ (if tokIso4 s x.entry then [[0xE0, 0x80]] else [])
  | 3 => [s.clr.tx.take (s.fld 0x0C0007 8 0)]
  | 4 => [if tokIso4 s x.entry then [0xC2] else [0x50, 0x00]]
  | 5 => [0x7D :: u]
  | 6 => [0x7E :: u ++ s.clr.tx.take 4]
  | _ => []

/-- What an operation does when it begins: its frames are sent, other tokens are deactivated, a search frees LOST and expired entries, both
buffer pointers restart. -/
def clrBegin (x : ClrOp) (s : State) : State :=
  let air := airFrames x s
  let s := { s with clr := { s.clr with
    busy := some { x with since := s.tick }, tx := [], rx := [], retries := 0, wtx := 1, awaited := s.tick, air := air } }
  let s := (s.put 0x0C0005 19 19 1).put 0x0C0001 22 20 (if x.op = 1 then 4 else 5)
  let s := if x.op = 1 ∨ x.op = 2 then
      s.each (List.range 8) fun e s => if tokValid s e && tokState s e == 1 then tokSet e 0 s else s
    else s
  if x.op = 1 then
    s.each (List.range 8) fun e s => if (tokValid s e && tokState s e == 2) || quietExpired s e then tokFree e s else s
  else s

/-- One operation that was written is taken at the boundary (R370, R382): it waits while the field settles. -/
def clrTakeOne (x : ClrOp) (s : State) : State :=
  if x.op = 8 then
    if clrBarred s ∨ s.clr.busy.isSome then clrRefuse s
    else if s.clr.hold ∧ !s.bit 0x0C0000 23 then clrEnd 0 (fieldOff s) else clrEnd 0 s
  else if clrState s = 2 ∧ !clrBarred s then { s with clr := { s.clr with written := s.clr.written ++ [x] } }
  else if clrBarred s ∨ s.clr.busy.isSome ∨ !s.bit 0x0C0001 23 ∨ !entryAllows s x.op x.entry then clrRefuse s
  else if x.op = 6 ∧ s.fld 0x0C0000 17 16 ≤ wrongOf s (tokUid s x.entry) then clrEnd 7 s
  else clrBegin x s

/-- The operations written are taken at the boundary. -/
def clrTake (s : State) : State :=
  let l := s.clr.written
  s.each l clrTakeOne |> fun t => { t with clr := { t.clr with written := t.clr.written.drop l.length } }

/-- A token found by a search is added, unless the table is full (MORE) or holds it already. -/
def tokAdd (t : Token) (s : State) : State :=
  let b := t.uid
  if (List.range 8).any fun e => tokValid s e && tokUtvetos s e == t.utvetos && tokUid s e == b then s
  else
    match (List.range 8).find? fun e => !tokValid s e with
    | none => s.put 0x0C0001 19 19 1
    | some e =>
      let size := if b.length = 4 then 0 else if b.length = 7 then 1 else 2
      let info := 2 ^ 23 + (if t.utvetos then 2 ^ 22 else 0)
        + (if !t.utvetos ∧ b.length = 4 ∧ b.head? = some 0x08 then 2 ^ 19 else 0)
        + (if !t.utvetos ∧ t.sak.getLsbD 5 then 2 ^ 18 else 0) + size * 2 ^ 16 + (if t.utvetos then 0 else t.sak.toNat * 2 ^ 8)
        + (if t.utvetos then min 3 (wrongOf s b) * 2 ^ 4 else 0)
      let s := s.wr (tokReg e 0) (BitVec.ofNat 24 info)
      clrShow (s.each ((packWords b).zipIdx) fun (w, i) s => s.wr (tokReg e (1 + i)) w)

/-- Whether bits `a` come before bits `b` in a walk (R374): at a collision the branch with bit value 1 is taken first. -/
def bitsBefore : List Bool → List Bool → Bool
  | x :: a, y :: b => if x == y then bitsBefore a b else x
  | _, _ => true

/-- The bits of a token's UID or serial as they are sent: each byte's bit 0 first, level by level. -/
def tokenBits (t : Token) : List Bool :=
  ((if t.utvetos then [t.uid] else uidLevels t.uid).flatMap id).flatMap fun b => (List.range 8).map b.getLsbD

/-- A token put into the order of the walk. -/
def walkInsert (t : Token) : List Token → List Token
  | [] => [t]
  | y :: l => if bitsBefore (tokenBits t) (tokenBits y) then t :: y :: l else y :: walkInsert t l

/-- The order in which a walk without a restart finds the tokens of one family (R374): depth first, bit value 1 before 0. -/
def walkOrder (l : List Token) : List Token := l.foldr walkInsert []

/-- A search ends (R374, R375). A walk that restarted finds its tokens in the order of the operand. -/
def searchEnd (found : List Token) (restarts : Nat) (s : State) : State :=
  let s := s.put 0x0C0001 19 19 0
  let a := found.filter fun t => !t.utvetos && s.bit 0x0C0000 19
  let u := found.filter fun t => t.utvetos && s.bit 0x0C0000 20
  let s := s.each (if restarts = 0 then walkOrder a ++ walkOrder u else a ++ u) tokAdd
  let s := (clrCount 0 (clrCount 1 s restarts)).onlyIf (restarts != 0) (·.raise 0x0C0002 2)
  let s := s.raise 0x0C0002 1
  let s := if s.clr.hold then
      if found = [] then
        let n := s.clr.empty + 1
        let s := fieldOff { s with clr := { s.clr with empty := if n = 16 then 0 else n } }
        if n = 16 then clrCount 6 (s.wr 0x0C000D (s.rd 0x0C000E)) else s
      else { s with clr := { s.clr with empty := 0 } }
    else s
  if 16 < restarts then clrCount 3 (clrEnd 2 s) else clrEnd 0 s

/-- An entry is LOST (R377). -/
def tokLost (e : Nat) (s : State) : State := clrEnd 3 ((tokSet e 2 s).raise 0x0C0002 4)

/-- FWI of an ATS: the upper half of TB(1), 4 where it is absent or reserved (R373, log 163, PRESUMED). -/
def atsFwi (b : Bytes) : Nat :=
  let t0 := (b.getD 1 0).toNat
  let v := (b.getD (if t0 / 16 % 2 = 1 then 3 else 2) 0).toNat / 16
  if t0 / 32 % 2 = 0 ∨ v = 15 then 4 else v

/-- The frame waiting time of an FWI in strokes (R373): 256 × 16 × 2^FWI ÷ 13.56 MHz, rounded up. -/
def frameWait (fwi : Nat) : Nat := (4096 * 2 ^ fwi * 125 + 1355) / 1356

/-- Whether the operation in progress sends ISO/IEC 14443-4 blocks. -/
def blockOp (s : State) (x : ClrOp) : Bool := (x.op == 3 || x.op == 4) && !tokUtvetos s x.entry && tokIso4 s x.entry

/-- The strokes for which the frame on the air is waited for (R373). -/
def waitLimit (s : State) (x : ClrOp) : Nat :=
  if blockOp s x then
    let cap := s.fld 0x0C000F 11 8
    min (frameWait (min s.clr.fwi cap) * s.clr.wtx) (frameWait cap)
  else if x.op = 3 ∧ (s.clr.air.headD []).head? = some 0x7F then 2 ^ 18 else 1250

/-- The repetitions that a frame may have: a block's two (R373). -/
def repeats (s : State) (x : ClrOp) : Nat := if blockOp s x then 2 else 0

/-- Whether an outcome may be there: a silent token is one only once every waiting time is over. -/
def outcomeDue (s : State) (x : ClrOp) : Bool :=
  match x.outcome with
  | .answer .timeout _ | .unlock none => decide (s.clr.awaited + (repeats s x + 1 - s.clr.retries) * waitLimit s x ≤ s.tick)
  | _ => decide (x.since < s.tick)

/-- An addressed operation ends with its answer (R376, R377, R382). -/
def answerEnd (op e : Nat) (a : Answer) (rate : Nat) (s : State) : State :=
  match a with
  | .timeout => tokLost e s
  | .protocol | .tooLong => clrEnd 2 (clrCount 3 s)
  | .ok rx =>
    match op with
    | 2 =>
      let s := { s with clr := { s.clr with fwi := atsFwi rx } }
      let r := if tokIso4 s e then min rate (s.fld 0x0C0000 15 14) else 0
      clrEnd 0 (tokSet e 1 (s.put (tokReg e 0) 7 6 r))
    | 3 =>
      if 256 < rx.length then clrEnd 2 (clrCount 3 s)
      else clrEnd 0 ({ s with clr := { s.clr with rx := rx } }.wr 0x0C0008 (BitVec.ofNat 24 rx.length))
    | 4 => clrEnd 0 (tokSet e 0 s)
    | _ => clrEnd 0 s

/-- UNLOCK ends with the token's reply (R380). -/
def unlockEnd (e : Nat) (r : Option Byte) (s : State) : State :=
  match r with
  | none => tokLost e s
  | some v =>
    if v = 0 then clrEnd 0 s
    else if v ≠ 1 ∧ v ≠ 2 ∧ v ≠ 0xFF then clrEnd 2 (clrCount 3 s)
    else
      let s := wrongAdd (tokUid s e) (clrCount 7 s)
      clrEnd 6 (s.put (tokReg e 0) 5 4 (min 3 (wrongOf s (tokUid s e))))

/-- QUIET ends: the entry is QUIET, stamped with the stroke time (R379). -/
def quietEnd (e : Nat) (s : State) : State :=
  clrEnd 0 (tokSet e 3 { s with clr := { s.clr with quiet := Tab.set 0 s.clr.quiet e s.tick } })

/-- An answer that nobody gave: free (log 4, DESIGN CHOICE). -/
def freeAnswer (k : Nat) : Answer :=
  match (Config.answerKind k).toNat with
  | 0 => .ok (Config.answerBytes k)
  | 1 => .timeout
  | 2 => .protocol
  | _ => .tooLong

/-- The operation in progress ends with its outcome. -/
def clrFinish (x : ClrOp) (s : State) : State :=
  let (k, s) := s.useFree
  match x.op, x.outcome with
  | 1, .tokens l n => searchEnd l n s
  | 1, _ => searchEnd ((Config.tokensFound k).map fun (u, b, c) => ⟨u, b, c⟩) 0 s
  | 5, _ => quietEnd x.entry s
  | 6, .unlock r => unlockEnd x.entry r s
  | 6, _ => unlockEnd x.entry (match freeAnswer k with | .ok b => b.head? | _ => none) s
  | op, .answer a r => answerEnd op x.entry a r s
  | op, _ => answerEnd op x.entry (freeAnswer k) (Config.answerKind k).toNat s

/-- CLR_OP_DONE (R382): at the first boundary after its last response; an abort that meets it is late (R383). -/
def clrOpDone (s : State) : State :=
  match s.clr.busy with
  | some x =>
    if !outcomeDue s x then s
    else if s.clr.abort.isSome then { (clrFinish x s).put 0x0C0005 18 18 1 with clr := { (clrFinish x s).clr with abort := none } }
    else clrFinish x s
  | none => s

/-- ABORT at its boundary, completions first (R383). -/
def clrAbortTake (s : State) : State :=
  match s.clr.abort with
  | none => s
  | some acked =>
    let s := { s with clr := { s.clr with abort := none } }
    match s.clr.busy with
    | some x =>
      let addressed := x.op != 1 && tokValid s x.entry && !tokUtvetos s x.entry
      let s := s.onlyIf addressed fun s => { s with clr := { s.clr with air := s.clr.air ++ [[0xC2]] } }
      let s := if addressed then tokSet x.entry (if acked then 0 else 2) s else s
      clrEnd 4 (s.onlyIf (addressed && !acked) (·.raise 0x0C0002 4))
    | none => s

/-- CLR_BLOCK_TIMEOUT (R373): no answer has begun in the waiting time, or a block fails its CRC. A block is repeated at most twice; then the
exchange fails, and a silent entry is LOST. -/
def clrBlockTimeout (badCrc : Bool) (s : State) : State :=
  match s.clr.busy with
  | none => s
  | some x =>
    if x.op = 1 ∨ x.op = 5 ∨ (!badCrc ∧ s.tick < s.clr.awaited + waitLimit s x) then s
    else
    let s := clrCount (if badCrc then 3 else 2) s
    if s.clr.retries < repeats s x then { s with clr := { s.clr with retries := s.clr.retries + 1, awaited := s.tick, wtx := 1 } }
    else if badCrc then clrEnd 2 s else tokLost x.entry s

/-- CLR_WTX (R373): the request is answered, and the waiting time of the block begins anew, WTXM times as long. -/
def clrWtx (wtxm : Nat) (s : State) : State :=
  match s.clr.busy with
  | none => s
  | some x =>
    if !blockOp s x then s
    else
      let s := clrCount 4 s
      if 1 ≤ wtxm ∧ wtxm ≤ 59 then
        { s with clr := { s.clr with wtx := wtxm, awaited := s.tick, air := s.clr.air ++ [[0xF2, BitVec.ofNat 8 wtxm]] } }
      else clrEnd 2 (clrCount 3 s)

/-! ### Low-power card detection (R381) -/

/-- One half of the baseline after a ping that does not detect. -/
def baseStep (last base : Nat) : Nat := (base + ((last : Int) - base).tdiv 16).toNat

/-- LPCD_PING. -/
def lpcdPing (amp ph : Nat) (s : State) : State :=
  if clrState s ≠ 1 ∨ s.tick < s.clr.pinged + 8 * s.fld 0x0C000C 15 0 then s
  else
    let s := { s with clr := { s.clr with pinged := s.tick } }
    let ba : Nat := s.fld 0x0C000D 23 12
    let bp : Nat := s.fld 0x0C000D 11 0
    let s := s.wr 0x0C000E (BitVec.ofNat 24 (amp * 2 ^ 12 + ph))
    if s.fld 0x0C000C 23 16 < ((amp : Int) - ba).natAbs + ((ph : Int) - bp).natAbs then
      let s := (clrCount 5 s).raise 0x0C0002 3
      if s.bit 0x0C0000 21 then
        let s := { s with clr := { s.clr with hold := true, written := s.clr.written ++ [⟨1, 0, .open_, s.tick⟩] } }
        fieldOn s
      else s
    else s.wr 0x0C000D (BitVec.ofNat 24 (baseStep amp ba * 2 ^ 12 + baseStep ph bp))

/-! ### Registers -/

/-- A write of CLR_FIFO fills the transmit buffer, a read drains the receive buffer: three bytes each. -/
def clrFifoWrite (w : Word) (s : State) : State := { s with clr := { s.clr with tx := (s.clr.tx ++ wordBytes w).take 258 } }
def clrFifoRead (s : State) : Word × State :=
  ((packWords (s.clr.rx.take 3)).headD 0, { s with clr := { s.clr with rx := s.clr.rx.drop 3 } })

/-- A write of CLR_EVT. -/
def clrEvtWrite (w : Word) (s : State) : State :=
  let s := s.wr 0x0C0002 (s.rd 0x0C0002 &&& ~~~ (w &&& 0x00003F))
  s.onlyIf (Word.bit w 23) (·.zero 0x0C0200 16)

/-- The reader at a boundary: settling, aborts, operations taken, quiet entries. -/
def clrBoundary (s : State) : State :=
  let s := if clrBarred s then fieldOff s else s
  let s := clrTake (clrAbortTake (fieldSettled s))
  s.each (List.range 8) quietExpiry

end Sys2Proof.Machine
end

