-- ==== Sys2Proof/Machine/Cards.lean ====
section
/-! DEFINITION. The contact card interface and the removable card interface (17_contact_and_removable_cards.md). What a card answers
comes with the command; what nobody says is free. -/

namespace Sys2Proof.Machine

/-! ### The answer to reset (R385; ISO/IEC 7816-3, PRESUMED: log 35, PRESUMED) -/

/-- Interface bytes of an ATR: for each level i the bytes TAi, TBi, TCi and the protocol that the level belongs to. -/
structure AtrLevel where
  proto : Nat
  ta : Option Nat
  tb : Option Nat
  tc : Option Nat
  td : Option Nat
deriving DecidableEq, Repr

/-- One optional byte. -/
def atrByte (present : Bool) (l : List Nat) : Option Nat × List Nat :=
  if present then (l.head?, l.drop 1) else (none, l)

/-- The levels that follow an indicator nibble `y`, whose bytes belong to protocol `p`. -/
def atrLevels : Nat → Nat → Nat → List Nat → List AtrLevel
  | 0, _, _, _ => []
  | fuel + 1, y, p, l =>
    let (ta, l) := atrByte (y % 2 == 1) l
    let (tb, l) := atrByte (y / 2 % 2 == 1) l
    let (tc, l) := atrByte (y / 4 % 2 == 1) l
    let (td, l) := atrByte (y / 8 % 2 == 1) l
    ⟨p, ta, tb, tc, td⟩ :: match td with
      | some d => atrLevels fuel (d / 16) (d % 16) l
      | none => []

/-- The levels of an ATR: TS, T0, then the interface bytes. -/
def atrParse (b : Bytes) : List AtrLevel :=
  let l := b.map (·.toNat)
  atrLevels 32 (l.getD 1 0 / 16) 0 (l.drop 2)

/-- The protocols that the ATR offers. -/
def atrProtocols (b : Bytes) : List Nat := (atrParse b).filterMap fun x => x.td.map (· % 16)

/-- FI and DI of TA1 (default 1, 1). -/
def atrTa1 (b : Bytes) : Nat := match atrParse b with | x :: _ => x.ta.getD 0x11 | [] => 0x11

/-- The first level after the second that belongs to T=1: IFSC of TA3, BWI and CWI of TB3. -/
def atrT1 (b : Bytes) : Option AtrLevel := ((atrParse b).drop 2).find? (·.proto == 1)
def atrIfsc (b : Bytes) : Nat := match atrT1 b with | some x => x.ta.getD 32 | none => 32
def atrWaits (b : Bytes) : Nat := match atrT1 b with | some x => x.tb.getD 0x4D | none => 0x4D

/-- The class indicator: the first TA of T=15; bit 1 = class B, bit 2 = class C. All classes where it is absent. -/
def atrClasses (b : Bytes) : Nat := match (atrParse b).find? (·.proto == 15) with | some x => x.ta.getD 7 | none => 7

/-! ### The contact card (R385–R388) -/

/-- ICC_STAT.STATE: 0 EMPTY, 1 INACTIVE, 2 ACTIVATING, 3 READY, 4 EXCHANGE, 5 DEACTIVATING, 6 FAULT. -/
def iccState (s : State) : Nat := s.fld 0x0C1001 19 17

/-- The ICC counters: 0 ACTIVATIONS, 1 REMOVALS, 2 RETRANSMIT, 3 RESYNCH, 4 WTX, 5 OVERCURRENT. -/
def iccCount (c : Nat) (s : State) : State := s.count (0x0C1010 + 2 * c)

/-- The card is deactivated and every operation refused (R388). -/
def iccBarred (s : State) : Bool := clrBarred s || !s.bit 0x0C1000 23

/-- The deactivation sequence: VCC off; INACTIVE with a card, else EMPTY. FAULT stays until the card is removed. -/
def iccDeactivate (s : State) : State :=
  let s := ((s.put 0x0C1001 22 22 0).put 0x0C1001 21 20 0).wr 0x0C1009 0
  if iccState s = 6 then s else s.put 0x0C1001 19 17 (if s.bit 0x0C1001 23 then 1 else 0)

/-- Ends the operation in progress with a RESULT. -/
def iccEnd (r : Nat) (s : State) : State :=
  let s := { s with icc := { s.icc with busy := none, retries := 0, retryAt := none } }
  let s := (s.wr 0x0C1005 (BitVec.ofNat 24 (r * 2 ^ 20))).raise 0x0C1002 0
  if iccState s = 4 then s.put 0x0C1001 19 17 3 else s

/-- A write of ICC_CMD: OP 1 ACTIVATE, 2 EXCHANGE, 3 DEACTIVATE, 4 ABORT, 5 RESYNCH. -/
def iccCmdWrite (w : Word) (o : IccOutcome) (s : State) : State :=
  let op := Word.slice w 23 20
  if op = 0 ∨ 5 < op then s
  else if op = 4 then { s with icc := { s.icc with abort := true } }
  else { s with icc := { s.icc with written := s.icc.written ++ [⟨op, o, s.tick⟩] } }

/-- Whether the card's state allows an operation. -/
def iccAllows (s : State) (op : Nat) : Bool :=
  match op with
  | 1 => iccState s == 1
  | 2 => iccState s == 3 && decide (1 ≤ s.fld 0x0C1007 8 0 ∧ s.fld 0x0C1007 8 0 ≤ 261)
  | _ => iccState s == 3

/-- An operation is taken at the boundary, or refused. -/
def iccTakeOne (x : IccOp) (s : State) : State :=
  if iccBarred s ∨ s.icc.busy.isSome ∨ !iccAllows s x.op then
    (if s.icc.busy.isSome then s.put 0x0C1005 23 20 5 else iccEnd 5 s)
  else
    let s := { s with icc := { s.icc with busy := some { x with since := s.tick }, rx := [], retries := 0 } }
    let s := s.put 0x0C1005 19 19 1
    match x.op with
    | 1 => ((s.put 0x0C1001 19 17 2).put 0x0C1001 22 22 1).put 0x0C1001 21 20 (if s.fld 0x0C1000 21 20 = 2 then 2 else 1)
    | 3 => s.put 0x0C1001 19 17 5
    | _ => s.put 0x0C1001 19 17 4

/-- The operations written are taken. -/
def iccTake (s : State) : State :=
  let l := s.icc.written
  State.each { s with icc := { s.icc with written := [] } } l iccTakeOne

/-- An activation ends with an ATR (R385). -/
def iccAtr (a : Option Bytes) (s : State) : State :=
  match a with
  | none => iccEnd 1 (iccDeactivate (s.put 0x0C1001 19 17 1))
  | some b =>
    let cls := s.fld 0x0C1001 21 20
    let allowed := fun (c : Nat) => atrClasses b / (if c = 1 then 4 else 2) % 2 == 1
    if !(atrProtocols b).contains 1 then iccEnd 6 (iccDeactivate (s.put 0x0C1001 19 17 1))
    else if !allowed cls then
      if cls = 1 ∧ s.fld 0x0C1000 21 20 = 0 ∧ allowed 2 = true then
        -- R385: deactivated, 10 ms, then class B.
        { (s.put 0x0C1001 22 22 0).put 0x0C1001 21 20 2 with icc := { s.icc with retryAt := some (s.tick + 12500) } }
      else iccEnd 6 (iccDeactivate (s.put 0x0C1001 19 17 1))
    else
      let fidi := if 1 ≤ atrTa1 b % 16 ∧ atrTa1 b % 16 ≤ s.fld 0x0C1000 9 6 then atrTa1 b else 0x11
      let s := { s with icc := { s.icc with rx := b } }.wr 0x0C1008 (BitVec.ofNat 24 b.length)
      let s := s.wr 0x0C1009 (BitVec.ofNat 24 (fidi * 2 ^ 16 + atrIfsc b * 2 ^ 8 + atrWaits b))
      let s := ((s.put 0x0C1001 19 17 3).put 0x0C1001 16 15 0).raise 0x0C1002 1
      iccEnd 0 (iccCount 0 s)

/-- The exchange fails for good (R386): PROTOCOL, and the card is deactivated. -/
def iccFail (s : State) : State := iccEnd 2 (iccDeactivate (s.put 0x0C1001 19 17 1))

/-- An exchange ends (R386): N(S) and N(R) have toggled with each I-block. -/
def iccResponse (a : Answer) (s : State) : State :=
  match a with
  | .timeout | .protocol => iccFail s
  | .tooLong => iccEnd 2 s
  | .ok rx =>
    let ifsc := max 1 (s.fld 0x0C1009 15 8)
    let sent := (s.fld 0x0C1007 8 0 + ifsc - 1) / ifsc
    let got := max 1 ((rx.length + 253) / 254)
    let s := s.put 0x0C1001 16 16 (s.fld 0x0C1001 16 16 + sent)
    let s := s.put 0x0C1001 15 15 (s.fld 0x0C1001 15 15 + got)
    if 258 < rx.length then iccEnd 2 s
    else iccEnd 0 ({ s with icc := { s.icc with rx := rx, tx := [] } }.wr 0x0C1008 (BitVec.ofNat 24 rx.length))

/-- S(RESYNCH) has been answered, or not. -/
def iccResynchEnd (ok : Bool) (s : State) : State :=
  let s := iccCount 3 (s.put 0x0C1001 16 15 0)
  if ok then iccEnd 0 s else iccFail s

/-- The operation in progress ends with its outcome. -/
def iccFinish (x : IccOp) (s : State) : State :=
  let (k, s) := s.useFree
  match x.op, x.outcome with
  | 1, .atr b => iccAtr b s
  | 1, _ => iccAtr (match freeAnswer k with | .ok b => some b | _ => none) s
  | 2, .answer a => iccResponse a s
  | 2, _ => iccResponse (freeAnswer k) s
  | 5, .resynch ok => iccResynchEnd ok s
  | 5, _ => iccResynchEnd (Config.freeBit k) s
  | _, _ => iccEnd 0 (iccDeactivate (s.put 0x0C1001 19 17 1))

/-- ICC_OP_DONE: completions come before aborts. -/
def iccOpDone (s : State) : State :=
  match s.icc.busy with
  | some x =>
    if s.tick ≤ x.since ∨ s.icc.retryAt.isSome then s
    else if s.icc.abort then { (iccFinish x s).put 0x0C1005 18 18 1 with icc := { (iccFinish x s).icc with abort := false } }
    else iccFinish x s
  | none => s

/-- ICC_CLASS_RETRY (R385): the second activation, at class B. -/
def iccClassRetry (a : Option Bytes) (s : State) : State :=
  match s.icc.retryAt with
  | some t => if t ≤ s.tick then iccAtr a ({ s with icc := { s.icc with retryAt := none } }.put 0x0C1001 22 22 1) else s
  | none => s

/-- ABORT at its boundary: the current block is finished and the card deactivated. -/
def iccAbortTake (s : State) : State :=
  if !s.icc.abort then s
  else
    let s := { s with icc := { s.icc with abort := false } }
    if s.icc.busy.isSome then iccEnd 4 (iccDeactivate (s.put 0x0C1001 19 17 1)) else s

/-- ICC_BLOCK_TIMEOUT (R386): two recoveries, then one S(RESYNCH), then the exchange fails. -/
def iccBlockTimeout (s : State) : State :=
  match s.icc.busy with
  | none => s
  | some _ =>
    let n := s.icc.retries
    if n < 2 then iccCount 2 { s with icc := { s.icc with retries := n + 1 } }
    else if n = 2 then iccCount 3 ({ s with icc := { s.icc with retries := 3 } }.put 0x0C1001 16 15 0)
    else iccFail s

/-- ICC_WTX (R386): answered for multipliers from 1 to 255. -/
def iccWtx (m : Nat) (s : State) : State :=
  match s.icc.busy with
  | none => s
  | some _ => if m = 0 then iccBlockTimeout s else iccCount 4 s

/-- ICC_CARD_REMOVED (R387). -/
def iccRemoved (s : State) : State :=
  if !s.bit 0x0C1001 23 then s
  else
    let s := if s.icc.busy.isSome then iccEnd 3 { s with icc := { s.icc with rx := [] } } else s
    let s := iccDeactivate ((s.put 0x0C1001 23 23 0).put 0x0C1001 19 17 0)
    (iccCount 1 s).raise 0x0C1002 3

/-- ICC_CARD_INSERTED (R387). -/
def iccInserted (s : State) : State :=
  if s.bit 0x0C1001 23 then s else ((s.put 0x0C1001 23 23 1).put 0x0C1001 19 17 1).raise 0x0C1002 2

/-- ICC_OVERCURRENT (R387): above 60 mA at class B or 40 mA at class C. -/
def iccOvercurrent (ma : Nat) (s : State) : State :=
  let cls := s.fld 0x0C1001 21 20
  if s.bit 0x0C1001 22 ∧ ((cls = 2 ∧ 60 < ma) ∨ (cls = 1 ∧ 40 < ma)) then
    let s := if s.icc.busy.isSome then iccEnd 7 s else s
    (iccCount 5 ((iccDeactivate s).put 0x0C1001 19 17 6)).raise 0x0C1002 4
  else s

/-- ICC_FIFO. -/
def iccFifoWrite (w : Word) (s : State) : State := { s with icc := { s.icc with tx := (s.icc.tx ++ wordBytes w).take 264 } }
def iccFifoRead (s : State) : Word × State :=
  ((packWords (s.icc.rx.take 3)).headD 0, { s with icc := { s.icc with rx := s.icc.rx.drop 3 } })

/-- A write of ICC_EVT. -/
def iccEvtWrite (w : Word) (s : State) : State :=
  let s := s.wr 0x0C1002 (s.rd 0x0C1002 &&& ~~~ (w &&& 0x00001F))
  s.onlyIf (Word.bit w 23) (·.zero 0x0C1010 12)

/-- The interface at a boundary. -/
def iccBoundary (s : State) : State :=
  let s := if iccBarred s ∧ s.bit 0x0C1001 22 then iccDeactivate (if s.icc.busy.isSome then iccEnd 5 s else s) else s
  iccTake (iccAbortTake s)

/-! ### The removable card (R389–R392) -/

/-- RMC_STAT.STATE: 0 EMPTY, 1 PRESENT, 2 INIT, 3 READY, 4 TRANSFER, 5 FAULT. -/
def rmcState (s : State) : Nat := s.fld 0x0C2001 17 15

/-- The RMC counters: 0 BLOCKS_READ, 1 BLOCKS_WRITTEN, 2 CRC_ERR, 3 RETUNES, 4 BUSY_TIMEOUT, 5 REMOVALS. -/
def rmcCount (c : Nat) (s : State) : State := s.count (0x0C2010 + 2 * c)

/-- The clock is stopped and card power is off (R392), or the SD PLL has failed (R433); operations are refused. -/
def rmcBarred (s : State) : Bool := clrBarred s || !s.bit 0x0C2000 23 || decide (3 ≤ Tab.get 0 s.pwr.pllTries 3)

/-- Card power off. -/
def rmcPowerOff (s : State) : State := s.put 0x0C2001 22 14 (2 * (if s.bit 0x0C2001 23 then 1 else 0))

/-- Ends the operation in progress with a RESULT; a transfer leaves the card READY. -/
def rmcEnd (r : Nat) (s : State) : State :=
  let s := { s with rmc := { s.rmc with busy := none } }
  let s := (s.wr 0x0C2005 (BitVec.ofNat 24 (r * 2 ^ 20))).raise 0x0C2002 0
  if rmcState s = 4 then s.put 0x0C2001 17 15 3 else s

/-- A write of RMC_CMD: OP 1 INIT, 2 READ, 3 WRITE, 4 ABORT, 5 POWER_OFF. -/
def rmcCmdWrite (w : Word) (o : RmcOutcome) (use : BoxUse) (s : State) : State :=
  let op := Word.slice w 23 20
  if op = 0 ∨ 5 < op then s
  else if op = 4 then { s with rmc := { s.rmc with abort := true } }
  else { s with rmc := { s.rmc with written := s.rmc.written ++ [⟨op, o, s.tick, use, false⟩] } }

/-- The blocks that the transfer registers name, and whether they lie within RMC_CAP. -/
def rmcFirst (s : State) : Nat := s.rdN 0x0C2007 2 % 2 ^ 32
def rmcBlocks (s : State) : Nat := s.fld 0x0C2009 15 0
def rmcInRange (s : State) : Bool := decide (rmcFirst s + rmcBlocks s ≤ s.rdN 0x0C200B 2)

/-- Whether the card's state allows an operation. -/
def rmcAllows (s : State) (op : Nat) : Bool :=
  match op with
  | 1 => rmcState s == 1
  | 5 => s.bit 0x0C2001 23
  | _ => rmcState s == 3 && rmcBlocks s != 0

/-- An operation is taken at the boundary, or refused. -/
def rmcTakeOne (x : RmcOp) (s : State) : State :=
  if rmcBarred s ∨ s.rmc.busy.isSome ∨ !rmcAllows s x.op then
    (if s.rmc.busy.isSome then s.put 0x0C2005 23 20 5 else rmcEnd 5 s)
  else if x.op = 5 then rmcEnd 0 (rmcPowerOff s)
  else if x.op ≠ 1 ∧ !rmcInRange s then rmcEnd 7 s
  else
    let s := { s with rmc := { s.rmc with busy := some { x with since := s.tick }, rx := [], seen := [], out := none } }
    let s := (s.put 0x0C2005 19 19 1).wr 0x0C200A 0
    if x.op = 1 then (s.put 0x0C2001 22 22 1).put 0x0C2001 17 15 2 else s.put 0x0C2001 17 15 4

/-- The operations written are taken. -/
def rmcTake (s : State) : State :=
  let l := s.rmc.written
  State.each { s with rmc := { s.rmc with written := [] } } l rmcTakeOne

/-- A tuning's result (R390): with no passing tap the interface drops to mode 4. -/
def rmcTune (taps : Bool) (s : State) : State :=
  let s := { s with rmc := { s.rmc with tunedAt := s.tick, retune := false } }
  if taps then s.put 0x0C2001 14 14 1 else ((s.put 0x0C2001 14 14 0).put 0x0C2001 20 18 4).raise 0x0C2002 4

/-- INIT ends (R389). -/
def rmcInitEnd (ccs : Bool) (mode blocks : Nat) (tuned : Bool) (s : State) : State :=
  if !ccs then rmcEnd 6 (rmcPowerOff s)
  else
    let m := min mode (s.fld 0x0C2000 21 19)
    let s := (s.put 0x0C2001 20 18 m).flag 0x0C2001 21 (decide (2 ≤ m))
    let s := (s.wrN 0x0C200B 2 blocks).put 0x0C2001 17 15 3
    let s := if m = 5 then rmcTune tuned s else s
    rmcEnd 0 (s.raise 0x0C2002 1)

/-- Whether a READ's CRCs are good: in its first try, or in the retry (R390). -/
def readGood (x : RmcOp) : Bool :=
  match x.outcome with
  | .read _ a b c => (if x.retried then b else a) && c
  | _ => true

/-- A read block arrives: in the free buffer, and for the keystone. -/
def takeReadBlock (b : Bytes) (s : State) : State :=
  { s with rmc := { s.rmc with rx := s.rmc.rx ++ b.take 512, seen := s.rmc.seen ++ [b.take 512] } }

/-- One block crosses the bus in a stroke in which the card is ready for it, which is free (log 4, DESIGN CHOICE): a read block goes to a
free buffer, a written block comes from a full one (R391), or from the container that the keystone writes (R393). -/
def rmcStep (s : State) : State :=
  let (k, s) := s.useFree
  let n := s.fld 0x0C200A 15 0
  match s.rmc.busy with
  | none => s
  | some x =>
    if rmcBlocks s ≤ n ∨ !Config.freeBit k then s
    else
      let done := fun (s : State) => s.wr 0x0C200A (BitVec.ofNat 24 (n + 1))
      match x.op, x.outcome with
      | 2, .read d _ _ _ =>
        if 512 < s.rmc.rx.length ∨ !readGood x then s else rmcCount 0 (done (takeReadBlock (d.getD n (Config.answerBytes k)) s))
      | 2, .open_ => if 512 < s.rmc.rx.length then s else rmcCount 0 (done (takeReadBlock (Config.answerBytes k) s))
      | 3, .write false => s
      | 3, _ =>
        match x.use with
        | .record | .backup | .audit =>
          (match s.rmc.out with
          | some (_ :: rest) => rmcCount 1 (done { s with rmc := { s.rmc with out := some rest } })
          | _ => s)
        | _ =>
          if s.rmc.tx.length < 512 then s
          else rmcCount 1 (done { s with rmc := { s.rmc with tx := s.rmc.tx.drop 512 } })
      | _, _ => s

/-- RMC_OP_DONE: INIT with its outcome, a transfer once every block is done or the card reports an error. -/
def rmcFinish (x : RmcOp) (s : State) : State :=
  let all := rmcBlocks s ≤ s.fld 0x0C200A 15 0
  match x.op, x.outcome with
  | 1, .init c m b t => rmcInitEnd c m b t s
  | 1, _ =>
    let (k, s) := s.useFree
    rmcInitEnd (Config.freeBit k) ((Config.freeWord k).toNat % 6) (Config.freeWord k).toNat (Config.freeBit (k + 1)) s
  | 2, .read _ crc again r1 =>
    if (if x.retried then again else crc) then (if !r1 then rmcEnd 8 s else if all then rmcEnd 0 s else s)
    else if s.fld 0x0C2001 20 18 ≠ 5 then rmcEnd 2 (rmcCount 2 s)
    else if x.retried then rmcEnd 2 (rmcCount 2 { s with rmc := { s.rmc with retune := true } })
    -- R390: retried once after the new tuning.
    else if s.rmc.retune then s
    else rmcCount 2 { s with rmc := { s.rmc with retune := true } }
  | 3, .write false => rmcEnd 8 s
  | _, _ => if all then rmcEnd 0 s else s

/-- RMC_OP_DONE, completions first. -/
def rmcOpDone (s : State) : State :=
  match s.rmc.busy with
  | some x =>
    if s.tick ≤ x.since then s
    else
      let t := rmcFinish x s
      if s.rmc.abort ∧ t.rmc.busy = none then { t.put 0x0C2005 18 18 1 with rmc := { t.rmc with abort := false } } else t
  | none => s

/-- ABORT at its boundary: the block on the bus is finished, CMD12 is sent. -/
def rmcAbortTake (s : State) : State :=
  if !s.rmc.abort then s
  else
    let s := { s with rmc := { s.rmc with abort := false } }
    if s.rmc.busy.isSome then rmcEnd 4 s else s

/-- RMC_RETUNE (R390): every 2^22 strokes, or after a read CRC error, between commands. -/
def rmcRetune (taps : Bool) (s : State) : State :=
  if s.fld 0x0C2001 20 18 = 5 ∧ rmcState s = 3 ∧ (s.rmc.retune ∨ s.rmc.tunedAt + 2 ^ 22 ≤ s.tick) then rmcTune taps (rmcCount 3 s)
  else
    match s.rmc.busy with
    | some x =>
      -- The READ whose CRC failed begins again.
      if x.op = 2 ∧ s.rmc.retune then
        let s := rmcTune taps (rmcCount 3 s)
        { s.wr 0x0C200A 0 with rmc := { s.rmc with busy := some { x with retried := true }, rx := [], seen := [] } }
      else s
    | none => s

/-- RMC_BUSY_TIMEOUT (R391). -/
def rmcBusyTimeout (s : State) : State :=
  match s.rmc.busy with
  | some _ => rmcEnd 1 (rmcCount 4 s)
  | none => s

/-- RMC_CARD_REMOVED (R392). -/
def rmcRemoved (s : State) : State :=
  if !s.bit 0x0C2001 23 then s
  else
    let s := if s.rmc.busy.isSome then rmcEnd 3 s else s
    (rmcCount 5 ((s.put 0x0C2001 23 14 0))).raise 0x0C2002 3

/-- RMC_CARD_INSERTED. -/
def rmcInserted (s : State) : State :=
  if s.bit 0x0C2001 23 then s else ((s.put 0x0C2001 23 23 1).put 0x0C2001 17 15 1).raise 0x0C2002 2

/-- RMC_FIFO: two 512-byte buffers. -/
def rmcFifoWrite (w : Word) (s : State) : State := { s with rmc := { s.rmc with tx := (s.rmc.tx ++ wordBytes w).take 1024 } }
def rmcFifoRead (s : State) : Word × State :=
  ((packWords (s.rmc.rx.take 3)).headD 0, { s with rmc := { s.rmc with rx := s.rmc.rx.drop 3 } })

/-- A write of RMC_EVT. -/
def rmcEvtWrite (w : Word) (s : State) : State :=
  let s := s.wr 0x0C2002 (s.rd 0x0C2002 &&& ~~~ (w &&& 0x00001F))
  s.onlyIf (Word.bit w 23) (·.zero 0x0C2010 12)

/-- The interface at a boundary. -/
def rmcBoundary (s : State) : State :=
  let s := if rmcBarred s ∧ s.bit 0x0C2001 22 then rmcPowerOff (if s.rmc.busy.isSome then rmcEnd 5 s else s) else s
  rmcStep (rmcTake (rmcAbortTake s))

end Sys2Proof.Machine
end

