-- ==== Sys2Proof/Machine/Lamps.lean ====
section
/-! DEFINITION. The lamp channels (19_lamps.md): PWM periods, measurement of pulses, shorts and retries, and the hardware
indications. -/

namespace Sys2Proof.Machine

/-- The register `o` of channel `k`. -/
def lampReg (k o : Nat) : Nat := 0x0E0010 + 4 * k + o

/-- Channel `k` beside its registers. -/
def State.lamp (s : State) (k : Nat) : Lamp := Tab.get Lamp.init s.lamps k
def State.setLamp (s : State) (k : Nat) (l : Lamp) : State := { s with lamps := Tab.set Lamp.init s.lamps k l }

/-- The indication in force (R417): the first condition of the table that holds; 0 = none. -/
def lampIndication (s : State) : Nat :=
  if s.pwr.safeHold.isSome then 1
  else if s.ppt.erased.isSome then 2
  else if s.ppt.lockdown.isSome then 3
  else if s.lcs = 1 then 4
  else if s.stk.appliance && !s.key.activated && quorumSize s 0 != 0 then 5
  else 0

/-- The pattern that an indication shows on a channel: 0 steady, 1 slow blink, 2 fast blink (R417). -/
def indicationPattern (code k : Nat) : Option Nat :=
  match code, k with
  | 1, 0 => some 2
  | 1, 1 => some 0
  | 2, 1 => some 2
  | 3, 0 => some 0
  | 3, 1 => some 1
  | 4, 0 => some 1
  | 5, 0 => some 0
  | 5, 4 => some 1
  | _, _ => none

/-- How channel `k` is driven under a taken CFG and DUTY (R410, R417): by an indication, and duty and pattern where the
channel is on. -/
def lampDrive (s : State) (k : Nat) (cfg duty : Word) : Bool × Option (Nat × Nat) :=
  let code := lampIndication s
  if code ≠ 0 ∧ Word.bit cfg 22 then
    (true, (indicationPattern code k).map fun p => (if Word.slice duty 7 0 = 0 then 255 else Word.slice duty 7 0, p))
  else (false, if Word.bit cfg 23 then some (Word.slice duty 7 0, Word.slice duty 23 22) else none)

/-- Period length of a taken CFG in strokes (R410). -/
def lampPeriod (cfg : Word) : Nat := 2 ^ (Word.slice cfg 20 18 + 7)

/-- Whether a pattern lets the present period pulse (R412). -/
def patternOn (s : State) (p : Nat) : Bool :=
  let n := s.stk.time.num.toNat
  match p with
  | 0 => true
  | 1 => n / 2 ^ 19 % 2 == 0
  | _ => n / 2 ^ 17 % 2 == 0

/-- LMP_SHOW follows the conditions of R417. -/
def lampShow (s : State) : State := s.wr 0x0E0001 (BitVec.ofNat 24 (lampIndication s))

/-- A measured pulse (R413): IMEAS, and OPEN after four of a kind. -/
def lampMeasure (k current : Nat) (imeas : Byte) (s : State) : State :=
  let l := s.lamp k
  let bad : Bool := decide (imeas.toNat < 2 * (current + 1))
  let s := s.put (lampReg k 2) 7 0 imeas.toNat
  let opens := if bad then l.opens + 1 else 0
  let goods := if bad then 0 else l.goods + 1
  let s := s.setLamp k { l with opens := opens, goods := goods }
  if opens = 4 ∧ !s.bit (lampReg k 2) 19 then (s.put (lampReg k 2) 19 19 1).raise 0x0E0002 (6 + k)
  else if 4 ≤ goods then s.put (lampReg k 2) 19 19 0
  else s

/-- The settings that channel `k` has at the start of this period, and whether a period starts in this stroke: at a
multiple of the length in force so far (R410). -/
def lampStarts (s : State) (k : Nat) : Bool :=
  let cfg := match (s.lamp k).cfg with | some (c, _) => c | none => s.rd (lampReg k 0)
  s.stk.time.num.toNat % lampPeriod cfg == 0

/-- The channel's state at a period start (R415, R416): a latched short stays, a retry waits for its time. (log 68, DEDUCED) -/
def lampState (s : State) (k : Nat) (on : Bool) : Nat :=
  if !on then 0
  else if s.bit (lampReg k 2) 20 then 3
  else match (s.lamp k).retryAt with
    | some t => if s.tick < t then 2 else 1
    | none => 1

/-- LAMP_RETRY (R415): at the first period start at or after 1,024 strokes the channel starts again. -/
def lampRetry (k : Nat) (s : State) : State :=
  let due : Bool := match (s.lamp k).retryAt with | some t => decide (t ≤ s.tick) | none => true
  if lampStarts s k && s.fld (lampReg k 2) 23 21 == 2 && due then
    (s.put (lampReg k 2) 23 21 1).setLamp k { s.lamp k with retryAt := none, since := s.tick }
  else s

/-- The pulse of a period of channel `k` (R410, R412–R414): on-time in half strokes, stretched in every 256th period where
it is too short to measure, and measured where it is long enough. A short within the pulse takes the measurement back (R415). -/
def lampPulse (k duty pattern : Nat) (cfg : Word) (imeas : Byte) (s : State) : State :=
  if !patternOn s pattern then s
  else
    let half := duty * 2 ^ Word.slice cfg 20 18
    let last : Bool := s.stk.time.num.toNat / lampPeriod cfg % 256 == 255
    let stretch : Bool := decide (0 < half ∧ half < 20) && Word.bit cfg 21 && last
    let lit := if stretch then 20 else half
    let s := s.onlyIf (decide (0 < lit)) fun s => s.setLamp k { s.lamp k with
      lit := 2 * s.tick + lit
      undo := if 20 ≤ lit then some (s.rd (lampReg k 2), s.rd 0x0E0002, (s.lamp k).opens, (s.lamp k).goods) else none }
    s.onlyIf (decide (20 ≤ lit)) (lampMeasure k (Word.slice cfg 5 0) imeas)

/-- LAMP_PERIOD_START (R410–R414, R417): at a multiple of the period the channel takes its settings and sends the period's
pulse. `imeas` is what the sink current measures. -/
def lampPeriodStart (k : Nat) (imeas : Byte) (s : State) : State :=
  if !lampStarts s k then s
  else
    let s := lampRetry k s
    let cfg := s.rd (lampReg k 0)
    let duty := s.rd (lampReg k 1)
    let (auto, drive) := lampDrive s k cfg duty
    let st := lampState s k drive.isSome
    let old := s.fld (lampReg k 2) 23 21
    let s := (s.put (lampReg k 2) 23 21 st).flag (lampReg k 2) 18 auto
    let l := s.lamp k
    let s := s.setLamp k { l with
      cfg := some (cfg, duty)
      lit := 0
      undo := none
      retryAt := if st = 1 then none else l.retryAt
      since := if st = 1 ∧ old ≠ 1 then s.tick else l.since }
    match drive with
    | some (d, p) => if st = 1 then lampPulse k d p cfg imeas s else s
    | none => s

/-- LAMP_SHORT (R415): the sink voltage stays above VSHORT while the sink conducts. -/
def lampShort (k : Nat) (s : State) : State :=
  let l := s.lamp k
  if s.fld (lampReg k 2) 23 21 = 1 ∧ 2 * s.tick < l.lit then
    let s := match l.undo with
      | some (st, ev, o, g) => (((s.wr (lampReg k 2) st).put 0x0E0002 (6 + k) (6 + k) (Word.slice ev (6 + k) (6 + k))).setLamp k
          { l with opens := o, goods := g })
      | none => s
    let r := s.fld (lampReg k 2) 17 16
    let s := (s.raise 0x0E0002 k).setLamp k { s.lamp k with lit := 0, undo := none, retryAt := some (s.tick + 1024) }
    if r < 3 then (s.put (lampReg k 2) 17 16 (r + 1)).put (lampReg k 2) 23 21 2
    else ((s.put (lampReg k 2) 20 20 1).put (lampReg k 2) 23 21 3).setLamp k { s.lamp k with retryAt := none }
  else s

/-- LAMP_RETRIES_RESET (R415): 2^16 strokes of running without a short. -/
def lampRetriesReset (k : Nat) (s : State) : State :=
  if s.fld (lampReg k 2) 23 21 = 1 ∧ (s.lamp k).since + 2 ^ 16 ≤ s.tick then s.put (lampReg k 2) 17 16 0 else s

/-- A write of LMP_k_CTL (R416). -/
def clrShort (k : Nat) (w : Word) (s : State) : State :=
  if !Word.bit w 0 then s
  else
    let s := s.onlyIf (s.fld (lampReg k 2) 23 21 == 3) (·.put (lampReg k 2) 23 21 0)
    (s.put (lampReg k 2) 20 20 0).put (lampReg k 2) 17 16 0

/-- The lamps at a boundary. What a sink measures is free (log 4, DESIGN CHOICE). (log 114, DESIGN CHOICE) -/
def lampBoundary (s : State) : State :=
  (lampShow s).each (List.range 6) fun k s =>
    if lampStarts s k then
      let (n, s) := s.useFree
      lampRetriesReset k (lampPeriodStart k ((Config.freeWord n).setWidth 8) s)
    else lampRetriesReset k s

end Sys2Proof.Machine
end

