-- ==== Sys2Proof/Machine/Ledger.lean ====
section
/-! DEFINITION. The usage ledger (18_usage_ledger.md): wall clock, periods, records, checkpoints, setting the clock. -/

namespace Sys2Proof.Machine

/-! ### Wall clock and periods (R399–R401) -/

/-- LGR_STAT.WALL_VALID, and SNAP_HELD. -/
def wallValid (s : State) : Bool := s.bit 0x0D0001 23
def snapHeld (s : State) : Bool := s.bit 0x0D0001 22

/-- The open period's number (LGR_PERIOD). -/
def openPeriod (s : State) : Nat := s.rdN 0x0D0004 3

/-- Length of a period in units of 100 ns. -/
def periodTicks (p : Nat) : Nat := p * 10 ^ 7

/-- The number of the period that contains wall time `w` under length `p`. -/
def periodOf (p w : Nat) : Nat := w / periodTicks p

/-- The wall time at which the open period ends. -/
def periodEnd (s : State) : Nat := (openPeriod s + 1) * periodTicks s.lgr.period

/-- Opens the period that contains wall time `w`, under LGR_CFG.PERIOD (R400). -/
def openAt (w : Nat) (s : State) : State :=
  let p := s.fld 0x0D0000 21 0
  let s := s.wrN 0x0D0004 3 (periodOf p w)
  { s with lgr := { s.lgr with period := p, openW := w, openS := s.now, late := false, advanced := false, opens := [] } }

/-- The accumulators of a domain: Q0 to Q7. -/
def quantities (s : State) (d : Nat) : List Nat := (List.range 8).map fun q => s.rdN (0x0D0100 + 0x20 * d + 3 * q) 3

/-- Every accumulator goes to the snapshot bank and clears (R400). -/
def takeSnapshot (s : State) : State :=
  let live := s.io.filter fun (a, _) => decide (0x0D0100 ≤ a ∧ a < 0x0D2120)
  let t := { s with io := Tab.clear (fun a => decide (0x0D0100 ≤ a ∧ a < 0x0D2120) || decide (0x0D4100 ≤ a ∧ a < 0x0D6120)) s.io }
  (t.each live fun (a, _) t => t.wr (a + 0x4000) (s.rd a)).put 0x0D0001 22 22 1

/-- The open period closes with its usage, and the period that contains `w` opens. -/
def closePeriod (w : Nat) (s : State) : State := openAt w ((takeSnapshot s).raise 0x0D0002 0)

/-- A write of LGR_SNAP_CTL (R400). -/
def snapRelease (w : Word) (s : State) : State := s.onlyIf (Word.bit w 0) (·.put 0x0D0001 22 22 0)

/-- CHANNEL_TIME_ADD (R398): at every stroke whose number is a multiple of 2^16. -/
def channelTimeAdd (s : State) : State :=
  if s.stk.time.num.toNat % 2 ^ 16 = 0 ∧ !s.stk.done.contains 3 then
    let s := { s with stk := { s.stk with done := 3 :: s.stk.done } }
    s.each s.dck.chans fun (_, c) s => match c with | some r => ledgerAdd r.dom 7 1 s | none => s
  else s

/-- A forward set adds its jump to A (R399). -/
def ledgerForward (jump : Nat) (s : State) : State := { s with lgr := { s.lgr with anchorS := s.lgr.anchorS + jump } }

/-! ### Records (R403) -/

/-- KINDs of R403. -/
def recPERIOD : Nat := 0
def recGAP : Nat := 1
def recREGRESSION : Nat := 2
def recEMPTY : Nat := 3
def recADVANCE : Nat := 4

/-- A stroke time in seven bytes, era then number. -/
def strokeBytes (n : Nat) : Bytes := beBytes (n % 2 ^ 56) 7

/-- EPOCH of a record: EPOCH_t, 0 for OWN. -/
def epochOf (s : State) (d : Nat) : Nat := if d < 256 then s.fld (0x051000 + 16 * d) 15 0 else 0

/-- Bytes 0–127 of a record: domain, kind, FIRST, LAST, the interval in wall time and stroke time, FLAGS, quantities. -/
def recordBody (s : State) (d kind first last w0 w1 s0 s1 flags : Nat) (q : List Nat) : Bytes :=
  beBytes 1 1 ++ beBytes kind 1 ++ beBytes d 2 ++ beBytes (Tab.get 0 s.lgr.seqs d) 4 ++ beBytes (first % 2 ^ 64) 8
    ++ beBytes (last % 2 ^ 64) 8 ++ beBytes w0 8 ++ beBytes w1 8 ++ strokeBytes s0 ++ strokeBytes s1 ++ beBytes (epochOf s d) 2
    ++ beBytes flags 8 ++ (List.range 8).flatMap fun i => beBytes (q.getD i 0) 8

/-- The key under which a domain's records are signed (R403). -/
def recordKey (s : State) (d : Nat) : Bytes :=
  if d < 256 then Tab.get [] s.key.metering d else fixedKey (Tab.get [] s.key.roots 256) (ascii "FT7240 metering own") []

/-- The first row of record `i` of the RECORD ring. -/
def recordRow (i : Nat) : Nat := 256 * 688 + 8 * (i % 39424)

/-- Signs a record's first 128 bytes and stores it in the RECORD ring of both banks, over the oldest (R403). -/
def storeRecord (d : Nat) (body : Bytes) (s : State) : State :=
  let rows := rowsOfBytes (body ++ (Config.hmacSha384 (recordKey s d) body).take 32 ++ List.replicate 8 0) 8
  let i := s.nva.recordAt
  let s := s.each [0, 1] fun b s => s.each rows.zipIdx fun (r, j) s => s.setNvaRow b (recordRow i + j) (some r)
  { s with
    nva := { s.nva with recordAt := (i + 1) % 39424, recordCount := min (s.nva.recordCount + 1) 39424 }
    lgr := { s.lgr with seqs := Tab.set 0 s.lgr.seqs d ((Tab.get 0 s.lgr.seqs d + 1) % 2 ^ 32) } }

/-- A stored record, oldest first: 168 bytes of bank 0. -/
def storedRecord (s : State) (i : Nat) : Bytes :=
  let first := (s.nva.recordAt + 39424 - s.nva.recordCount) % 39424
  (List.range 8).flatMap fun j => rowBytes (rowData (s.nvaRow 0 (recordRow (first + i) + j)))

/-- The field of `n` bytes at byte `i` of a record. -/
def recField (r : Bytes) (i n : Nat) : Nat := beNat ((r.drop i).take n)

/-- The stored records of a domain, oldest first. -/
def domainRecords (s : State) (d : Nat) : List Bytes :=
  ((List.range s.nva.recordCount).map (storedRecord s)).filter fun r => recField r 2 2 == d

/-- Whether the ring already holds the PERIOD record of a domain for period `n` (R401). -/
def periodRecorded (s : State) (d n : Nat) : Bool :=
  (domainRecords s d).any fun r => recField r 1 1 == recPERIOD && recField r 8 8 == n

/-- The domains that receive records: ACTIVE or SUSPENDED tenants, and OWN (R400). -/
def recordDomains (s : State) : List Nat :=
  ((List.range 256).filter fun t => tenantState s t == 1 || tenantState s t == 2) ++ [256]

/-- FLAGS of a record made now: bit 1 = WALL_INVALID. -/
def wallFlag (valid : Bool) : Nat := if valid then 0 else 2

/-- EMPTY_RUN records of every domain for the whole periods after `n` and before `m`, of length `p` (R405, R407). -/
def emptyRun (n m p flags : Nat) (s : State) : State :=
  s.onlyIf (decide (n + 1 < m)) fun s => s.each (recordDomains s) fun d s => storeRecord d
    (recordBody s d recEMPTY (n + 1) (m - 1) ((n + 1) * periodTicks p) (m * periodTicks p) s.now s.now flags []) s

/-- PERIOD_CLOSE (R400, R401): the first boundary at which W reaches the open period's end. With the snapshot held the
period stays open until the boundary after the release; where a set of the clock had passed whole periods, their EMPTY_RUN comes with
the late close (R407). -/
def periodClose (s : State) : State :=
  if !wallValid s || decide (wallNow s < periodEnd s) then s
  else if snapHeld s then
    if s.lgr.late then s else { s.raise 0x0D0002 3 with lgr := { s.lgr with late := true } }
  else
    let n := openPeriod s
    let p := s.lgr.period
    let run := s.lgr.advanced
    let s := closePeriod (wallNow s) s
    s.onlyIf run (emptyRun n (periodOf p (wallNow s)) p (wallFlag true))

/-- A tenant's open period closes when its erase completes (R402): its record carries FINAL, under the old epoch's key. -/
def finalRecord (t : Nat) (s : State) : State :=
  let n := openPeriod s
  let (w0, s0) := if (s.lgr.opens.any (·.1 == t)) then Tab.get (0, 0) s.lgr.opens t else (s.lgr.openW, s.lgr.openS)
  let s := storeRecord t (recordBody s t recPERIOD n n w0 (wallNow s) s0 s.now (1 + wallFlag (wallValid s)) (quantities s t)) s
  s.zero (0x0D0100 + 0x20 * t) 24

/-! ### Setting the clock (R406, R407) -/

/-- The clock is set to `w` at this boundary: regression or advance, and WALL_VALID. -/
def setClockNow (w : Nat) (s : State) : State :=
  let old := wallNow s
  let valid := wallValid s
  let fl := wallFlag valid
  let amount := (w + 2 ^ 64 - old) % 2 ^ 64
  let anchor (s : State) : State := { s.put 0x0D0001 23 23 1 with lgr := { s.lgr with anchorS := s.now, anchorW := w, setDue := none } }
  if w < old then
    let n := openPeriod s
    let s := s.each (recordDomains s) fun d s => storeRecord d (recordBody s d recREGRESSION n amount old w s.now s.now fl []) s
    (anchor s).raise 0x0D0002 1
  else if old < w then
    let n := openPeriod s
    let p := s.lgr.period
    let closed : Bool := decide (periodEnd s ≤ w) && !snapHeld s
    let s := if periodEnd s ≤ w then
        if snapHeld s then
          { s.onlyIf (!s.lgr.late) (·.raise 0x0D0002 3) with lgr := { s.lgr with late := true, advanced := true } }
        else closePeriod w s
      else s
    -- Whole periods between the closed one and the one that contains W′.
    let s := s.onlyIf closed (emptyRun n (periodOf p w) p fl)
    let s := s.each (recordDomains s) fun d s => storeRecord d (recordBody s d recADVANCE (openPeriod s) amount old w s.now s.now fl []) s
    (anchor s).raise 0x0D0002 2
  else anchor s

/-- W′ is set at the next boundary (R408 OP 2, LGR_SET_GO). -/
def setClockDue (w : Nat) (s : State) : State := { s with lgr := { s.lgr with setDue := some (w % 2 ^ 64) } }

/-- A write of LGR_SET_GO. -/
def lgrSetGo (w : Word) (s : State) : State := if Word.bit w 0 then setClockDue (s.rdN 0x0D000C 3) s else s

/-- P is set (R408 OP 3): 300 to 2,678,400 s. -/
def periodValid (p : Nat) : Bool := decide (300 ≤ p ∧ p ≤ 2678400)

/-- A write of LGR_CFG. (log 65, DEDUCED) -/
def lgrCfgWrite (w : Word) (s : State) : State :=
  if periodValid (Word.slice w 21 0) then s.put 0x0D0000 21 0 (Word.slice w 21 0) else s

/-- A write of LGR_EVT. -/
def lgrEvtWrite (w : Word) (s : State) : State := s.wr 0x0D0002 (s.rd 0x0D0002 &&& ~~~ (w &&& 0x1F))

/-- A period boundary: a clock that was set counts with W′ only (R406, R407). -/
def ledgerPeriod (s : State) : State :=
  match s.lgr.setDue with
  | some w => setClockNow w s
  | none => periodClose s

/-- The ledger at a boundary (R398–R401): a period closes first, since what becomes visible at the boundary belongs to the period that is
open in the stroke that it begins. -/
def ledgerBoundary (s : State) : State := channelTimeAdd (ledgerPeriod s)

/-! ### Checkpoints and power-fail records (R261, R262, R404) -/

/-- The tamper record as a row (R303), zero where there is none. -/
def tamperRow (s : State) : BitVec 168 :=
  match s.ppt.trec with
  | none => 0
  | some t => rowOfBytes (beBytes t.source 1 ++ beBytes t.cls 1 ++ strokeBytes t.stamp.toNat ++ beBytes t.ticks 6
      ++ beBytes t.flags 1 ++ beBytes t.count 2)

/-- The 68 bytes of a domain in a checkpoint. -/
def domainImage (s : State) (d : Nat) : Bytes :=
  ((quantities s d).flatMap fun q => beBytes q 8) ++ beBytes (Tab.get 0 s.lgr.seqs d) 4

/-- The totals of R404. -/
def totalBytes (s : State) : Bytes := (List.range 8).flatMap fun q => beBytes (Tab.get 0 s.lgr.totals q) 8

/-- Rows 213–239 of a checkpoint: the anchor pair, P, the open period number, WALL_VALID, the totals. -/
def clockImage (s : State) : Bytes :=
  strokeBytes s.lgr.anchorS ++ beBytes s.lgr.anchorW 8 ++ beBytes s.lgr.period 4 ++ beBytes (openPeriod s) 8
    ++ beBytes (if wallValid s then 1 else 0) 1 ++ totalBytes s

/-- The domains of checkpoint sequence `seq` (R404). -/
def checkpointDomains (seq : Nat) : List Nat := (List.range 257).filter fun d => d % 4 == seq % 4

/-- The rows of a checkpoint made now (R261, R303, R404): the tamper record is row 240, the counters of the parapet sources
are rows 241–250. Rows that no chapter lays down hold zeros (log 37, DESIGN CHOICE). -/
def checkpointRows (s : State) : List (BitVec 168) :=
  let body := 0 :: rowsOfBytes ((checkpointDomains s.nva.seq).flatMap (domainImage s)) 211
    ++ rowsOfBytes (clockImage s) 27 ++ [tamperRow s]
    ++ ((List.range 10).map fun i => rowOfWords ((List.range' (7 * i) 7).map fun k => if k < 64 then s.rd (0x080100 + k) else 0))
    ++ List.replicate 5 0
  headerRow (headerBytes s 0 0) body :: body

/-- The next sector of bank `b`'s JOURNAL ring. -/
def journalSector (s : State) (b : Nat) : Nat := 48 + (s.bank b).ring % 32

/-- NVA_CHECKPOINT_WRITE (R63, R261, task 6): in a BACKGROUND or URGENT cell of a free bank, and once it is URGENT in a CONTROL
cell as well, the checkpoint that is due
starts; the banks alternate, and a worn bank's turn goes to the other (R268). The active of a pair sends the image (R357). -/
def checkpointStart (b : Nat) (s : State) : State :=
  let turn : Bool := s.nva.seq % 2 == b || bankWorn s (1 - b)
  if turn && !bankWorn s b && decide (s.nva.nextAt ≤ s.now) && taskTakes s 6 (nvaCell s b) true && (s.bank b).job.isNone && decide (s.pwr.phase = .run) then
    let rows := checkpointRows s
    let s := s.onlyIf (mirroring s) (sendViaduct (.ledger rows))
    startWork b (.checkpoint (journalSector s b) rows) s
  else s

/-- The standby journals the image that its active sent (R357). -/
def imageStart (b : Nat) (s : State) : State :=
  match s.vdt.image with
  | some rows =>
    if backCell s b ∧ s.nva.seq % 2 = b then
      startWork b (.checkpoint (journalSector s b) rows) { s with vdt := { s.vdt with image := none } }
    else s
  | none => s

/-- Rows 1–7 of a power-fail or SAFE-HOLD record (R262, R404): the tamper record, the totals, W and the open period. -/
def reserveBody (s : State) : List (BitVec 168) :=
  tamperRow s :: rowsOfBytes (totalBytes s ++ beBytes (wallNow s) 8 ++ beBytes (openPeriod s) 8) 6

/-! ### After a loss of power, and after a takeover (R399, R405) -/

/-- Bytes of a record's rows. -/
def recordBytes (s : State) (r : NvaRecord) (first n : Nat) : Bytes :=
  (List.range' first n).flatMap fun i => rowBytes (rowData (s.nvaRow r.bank (r.row + i)))

/-- The latest checkpoint that holds domain `d`: of the four sequences, the one whose image names it. -/
def checkpointFor (s : State) (d : Nat) : Option NvaRecord :=
  -- A checkpoint's sequence mod 4 is that of its place: banks alternate and each ring's sectors follow one another.
  latestRecord s fun r => r.cause == 0 && (2 * (r.row / 256 - 48) + r.bank) % 4 == d % 4

/-- The image of domain `d` in a checkpoint. -/
def imageIn (s : State) (r : NvaRecord) (d : Nat) : Bytes := ((recordBytes s r 2 211).drop (68 * (d / 4))).take 68

/-- Domain `d` takes its accumulators and SEQ from its latest checkpoint. -/
def restoreDomain (d : Nat) (s : State) : State :=
  match checkpointFor s d with
  | none => s
  | some r =>
    let b := imageIn s r d
    let s := s.each (List.range 8) fun q s => s.wrN (0x0D0100 + 0x20 * d + 3 * q) 3 (recField b (8 * q) 8)
    { s with lgr := { s.lgr with seqs := Tab.set 0 s.lgr.seqs d (max (recField b 64 4) (nextSeq s)) } }
where
  /-- The SEQ after the last record that the ring holds of the domain. -/
  nextSeq (s : State) : Nat := match (domainRecords s d).getLast? with | some r => recField r 4 4 + 1 | none => 0

/-- The stroke time of a domain's latest checkpoint. -/
def checkpointTime (s : State) (d : Nat) : Nat := match checkpointFor s d with | some r => r.time.toNat | none => 0

/-- The records of R405 for one domain: where the restored period `n` has ended by now, its PERIOD record and an EMPTY_RUN
for the periods missed; and GAP from its checkpoint to stroke time `upTo` and wall time `wUp`, with the lost usage in OWN's. -/
def gapRecords (d n upTo wUp : Nat) (lost : List Nat) (s : State) : State :=
  let fl := wallFlag (wallValid s)
  let w := wallNow s
  let p := s.lgr.period
  let since := checkpointTime s d
  let s := if wallValid s && decide (periodEnd s ≤ w) && !periodRecorded s d n then
      (storeRecord d (recordBody s d recPERIOD n n (n * periodTicks p) (periodEnd s) since upTo fl (quantities s d)) s).zero
        (0x0D0100 + 0x20 * d) 24
    else s
  let m := periodOf p w
  let s := s.onlyIf (wallValid s && decide (n + 1 < m)) fun s => storeRecord d
    (recordBody s d recEMPTY (n + 1) (m - 1) ((n + 1) * periodTicks p) (m * periodTicks p) since upTo fl []) s
  storeRecord d (recordBody s d recGAP n n (wUp - 8 * (upTo - since)) wUp since upTo fl (if d = 256 then lost else [])) s

/-- The records of R405 for every domain; the period that contains W opens. -/
def ledgerGap (upTo wUp : Nat) (lost : List Nat) (s : State) : State :=
  let n := openPeriod s
  let s := s.each (recordDomains s) fun d s => gapRecords d n upTo wUp lost s
  let s := if wallValid s && decide (periodEnd s ≤ wallNow s) then openAt (wallNow s) s else s
  s.raise 0x0D0002 4

/-- The clock image of the latest checkpoint. -/
def latestClock (s : State) : Bytes :=
  match latestRecord s fun r => r.cause == 0 with | some k => recordBytes s k 213 27 | none => []

/-- P in a clock image. -/
def clockPeriod (c : Bytes) : Nat := if periodValid (recField c 15 4) then recField c 15 4 else 3600

/-- The ledger takes an anchor, the open period `n` and its length, and every domain's checkpointed counts. -/
def ledgerTakes (anchorS anchorW n p : Nat) (valid : Bool) (s : State) : State :=
  let s := (s.wrN 0x0D0004 3 n).flag 0x0D0001 23 valid
  let s := { s with lgr := { s.lgr with anchorS := anchorS, anchorW := anchorW % 2 ^ 64, period := p, openW := n * periodTicks p, openS := s.now } }
  s.each (List.range 257) restoreDomain

/-- The ledger at boot (R399, R405): W is that of the latest record, plus the ticks since STAMP. -/
def ledgerRestore (s : State) : State :=
  match latestRecord s fun r => r.cause ≤ 2 with
  | none => s.flag 0x0D0001 23 false
  | some r =>
    let c := latestClock s
    let ckTotals := (List.range 8).map fun q => recField c (28 + 8 * q) 8
    let b := recordBytes s r 2 6
    let (w, n, totals) := if r.cause = 0 then (recField c 7 8 + 8 * (r.time.toNat - recField c 0 7), recField c 19 8, ckTotals)
      else (recField b 64 8, recField b 72 8, (List.range 8).map fun q => recField b (8 * q) 8)
    let off := s.ppt.stampTicks * 10 ^ 7 / 32768
    let s := ledgerTakes s.now (w + off) n (clockPeriod c) (recField c 27 1 == 1 && !s.bit 0x080041 20) s
    ledgerGap r.time.toNat w ((List.range 8).map fun q => totals.getD q 0 - ckTotals.getD q 0) s

/-- The ledger of a new active (R405): from the last mirrored checkpoint to the takeover stroke. The lost usage is not known
here: the totals of the lost active went with it (log 38, DEDUCED). -/
def ledgerTakeover (s : State) : State :=
  let c := latestClock s
  let s := ledgerTakes (recField c 0 7) (recField c 7 8) (recField c 19 8) (clockPeriod c) (recField c 27 1 == 1) s
  ledgerGap s.now (wallNow s) [] s

/-- A standby that has become active takes its ledger from the last mirrored checkpoint (R405). -/
def ledgerFollows (before after : State) : State := if vdtRole before = 2 ∧ vdtRole after = 1 then ledgerTakeover after else after

end Sys2Proof.Machine
end

