-- ==== Sys2Proof/Machine/Counters.lean ====
section
/-! DEFINITION. The performance counters and latency histograms at the boundary, and their writes
(20_performance_counters.md). -/

namespace Sys2Proof.Machine

/-- The registers of counter `n` and of histogram `h`. -/
def pmcCounter (n : Nat) : Nat := 0x0F0100 + 8 * n
def pmcHist (h : Nat) : Nat := 0x0F1000 + 0x80 * h

/-- PMC_GCTL.FREEZE. -/
def pmcFrozen (s : State) : Bool := s.bit 0x0F0000 23

/-- Whether counter `n` counts the wraps of counter n − 1 (R420). -/
def pmcChained (s : State) (n : Nat) : Bool := n % 2 == 1 && s.bit (pmcCounter n) 23 && s.bit (pmcCounter n) 14

/-- Whether counter `n` has a load at this boundary (R421). -/
def pmcLoading (s : State) (n : Nat) : Bool := (Tab.get (none, none) s.pmc.loads n).2.isSome

/-- CNT_LOAD (R421): both words are loaded; the stroke's increments are discarded. -/
def cntLoad (n : Nat) (s : State) : State :=
  match Tab.get (none, none) s.pmc.loads n with
  | (low, some high) =>
    let s := (s.wr (pmcCounter n + 6) high).wr (pmcCounter n + 5) (low.getD (s.rd (pmcCounter n + 5)))
    { s with pmc := { s.pmc with loads := Tab.set (none, none) s.pmc.loads n (none, none), add := Tab.set 0 s.pmc.add n 0 } }
  | _ => s

/-- COUNTER_WRAP (R420): counter `n` takes `k` increments; at a wrap it sets its overflow bit, raises OVF, and with
FRZ_ON_OVF counting freezes after this boundary. The wraps are the second result. -/
def pmcCount (n k : Nat) (s : State) : State × Nat :=
  let v := s.rdN (pmcCounter n + 5) 2 + k
  let s := s.wrN (pmcCounter n + 5) 2 (v % 2 ^ 48)
  let wraps := v / 2 ^ 48
  if wraps = 0 then (s, 0)
  else
    let s := (s.raise (if n < 24 then 0x0F0004 else 0x0F0005) (n % 24)).raise 0x0F0001 0
    (s.onlyIf (s.bit 0x0F0000 22) (·.raise 0x0F0000 23), wraps)

/-- The counters of the pair (2i, 2i + 1) add what their events contributed; the odd one of a chained pair counts the even
one's wraps, and a load of the even one carries nothing. -/
def pmcPair (i : Nat) (s : State) : State :=
  let a := 2 * i
  let add (n : Nat) : Nat := if s.bit (pmcCounter n) 23 then Tab.get 0 s.pmc.add n else 0
  let (s, wraps) := if pmcLoading s a then (cntLoad a s, 0) else pmcCount a (add a) s
  if pmcLoading s (a + 1) then cntLoad (a + 1) s
  else (pmcCount (a + 1) (if pmcChained s (a + 1) then wraps else add (a + 1)) s).1

/-- The bin of a measurement (R426). -/
def pmcBin (s : State) (h u : Nat) : Nat :=
  let base := s.fld (pmcHist h + 1) 23 8
  let w := 2 ^ s.fld (pmcHist h + 1) 4 0
  if u < base then 0
  else if s.bit (pmcHist h) 14 then
    (if u < base + w then 1
     else match (List.range' 2 29).find? fun i => decide (u < base + 2 ^ (i - 1) * w) with | some i => i | none => 31)
  else if (u - base) / w < 30 then (u - base) / w + 1 else 31

/-- A saturating value of `n` words takes `k` more; HIST_SAT at the first saturation. -/
def pmcSaturate (a n k : Nat) (s : State) : State :=
  let v := s.rdN a n + k
  let top := 2 ^ (24 * n) - 1
  (s.wrN a n (min v top)).onlyIf (decide (top < v)) (·.raise 0x0F0001 1)

/-- A measurement of `u` units (R426): its bin, COUNT, SUM and MAX. The SUM of 72 bits wraps. -/
def pmcMeasure (h u : Nat) (s : State) : State :=
  let a := pmcHist h
  let s := pmcSaturate (a + 4) 2 1 (pmcSaturate (a + 0x10 + 2 * pmcBin s h u) 2 1 s)
  let s := s.wrN (a + 6) 3 ((s.rdN (a + 6) 3 + u) % 2 ^ 72)
  let s := s.onlyIf (decide ((s.rd (a + 9)).toNat < u)) (·.wr (a + 9) (BitVec.ofNat 24 (min u (2 ^ 24 - 1))))
  s.onlyIf (decide (2 ^ 24 ≤ u)) (·.raise 0x0F0001 1)

/-- HIST_CLR (R427): the bins, COUNT, SUM and MAX of a histogram are 0. -/
def histZero (h : Nat) (s : State) : State := (s.zero (pmcHist h + 4) 6).zero (pmcHist h + 0x10) 64

/-- CLR_ALL: every counter and histogram value is 0. -/
def pmcZeroAll (s : State) : State :=
  let s := s.each (List.range 32) fun n s => s.zero (pmcCounter n + 5) 2
  let s := s.each (List.range 4) histZero
  { s with pmc := { s.pmc with clearAll := false, loads := [] } }

/-- PMC_START (R422): with ARM set, FREEZE clears at the boundary that begins the start time, or at once where that time has
begun. -/
def pmcStart (s : State) : State :=
  let due : Bool := match aheadBy s (timeAt s 0x0F0008) with | some d => d == 0 | none => true
  if s.bit 0x0F0000 21 && due then ((s.put 0x0F0000 23 23 0).put 0x0F0000 21 21 0).raise 0x0F0001 2 else s

/-- The counters at a boundary (R419–R422, R427). (log 67, DEDUCED) -/
def pmcBoundary (s : State) : State :=
  let s := s.pmcEvent { code := 0x01 }
  let frozen := pmcFrozen s
  let s := if frozen then s.each (List.range 32) cntLoad else s.each (List.range 16) pmcPair
  let ms := if frozen then [] else s.pmc.meas.filter fun (h, _) => !s.pmc.clearHist.contains h
  let s := s.each ms fun (h, u) => pmcMeasure h u
  let s := s.each s.pmc.clearHist histZero
  let s := if s.pmc.clearAll then pmcZeroAll s else s
  pmcStart { s with pmc := { s.pmc with add := [], meas := [], clearHist := [] } }

/-! ### Writes (R421, R422, R427, R428) -/

/-- Whether a master may write a unit whose control register is at `a` (R428). -/
def pmcMayWrite (s : State) (m : Master) (a : Nat) : Bool :=
  match m with
  | .keep | .pf => true
  | .pier n user => !user && (s.fld a 22 16 == n.val || s.fld a 22 16 == 0x7F)
  | _ => false

/-- Whether a master may write `owner` into OWNER. -/
def pmcMayOwn (m : Master) (owner : Nat) : Bool :=
  match m with
  | .pier n _ => owner == n.val || owner == 0x7F
  | _ => true

/-- The OWNER encodings that name a core or nobody. -/
def pmcOwnerValid (owner : Nat) : Bool := decide (owner ≤ 66) || owner == 0x7F

/-- A write of PMC_GCTL: from KEEP and the PF only. (log 66, DEDUCED) -/
def pmcGctlWrite (m : Master) (w : Word) (s : State) : State :=
  match m with
  | .keep | .pf =>
    let s := s.put 0x0F0000 23 21 (Word.slice w 23 21)
    if Word.bit w 20 then { s with pmc := { s.pmc with clearAll := true } } else s
  | _ => s

/-- The events of R423. -/
def pmcCodes : List Nat :=
  [0, 1, 2, 3, 4, 5, 6, 7, 8, 9, 0x10, 0x11, 0x12, 0x13, 0x14, 0x15, 0x16, 0x18, 0x19, 0x1A, 0x20, 0x21, 0x22, 0x23, 0x24, 0x25, 0x26]

/-- The codes of MSEL. -/
def pmcSources (k : Nat) : Bool :=
  decide (k ≤ 0x42) || decide (0x50 ≤ k ∧ k ≤ 0x6B) || decide (0x70 ≤ k ∧ k ≤ 0x88) || k == 0x90 || k == 0x91 || k == 0xA0 || k == 0xFF

/-- A write of a register of counter `n` at offset `o`. -/
def pmcCounterWrite (m : Master) (n o : Nat) (w : Word) (s : State) : State :=
  let a := pmcCounter n
  if !pmcMayWrite s m a then s
  else match o with
    | 0 =>
      if !pmcMayOwn m (Word.slice w 22 16) then s
      else
        let s := s.onlyIf (pmcOwnerValid (Word.slice w 22 16)) (·.put a 22 16 (Word.slice w 22 16))
        let s := s.onlyIf (pmcCodes.contains (Word.slice w 7 0)) (·.put a 7 0 (Word.slice w 7 0))
        (s.put a 23 23 (Word.slice w 23 23)).put a 15 13 (Word.slice w 15 13)
    | 1 => s.wr (a + 1) (w &&& 0xFF01FF)
    | 2 => s.onlyIf (pmcSources (Word.slice w 7 0)) (·.wr (a + 2) (w &&& 0xFF))
    | 3 => s.wr (a + 3) w
    | 4 => s.wr (a + 4) w
    | 5 => { s with pmc := { s.pmc with loads := Tab.set (none, none) s.pmc.loads n (some w, (Tab.get (none, none) s.pmc.loads n).2) } }
    | 6 => { s with pmc := { s.pmc with loads := Tab.set (none, none) s.pmc.loads n ((Tab.get (none, none) s.pmc.loads n).1, some w) } }
    | _ => s

/-- A write of a register of histogram `h` at offset `o` (R427). -/
def pmcHistWrite (m : Master) (h o : Nat) (w : Word) (s : State) : State :=
  let a := pmcHist h
  let on := s.bit a 23
  if !pmcMayWrite s m a then s
  else match o with
    | 0 =>
      if !pmcMayOwn m (Word.slice w 22 16) then s
      else
        let s := s.onlyIf (pmcOwnerValid (Word.slice w 22 16)) (·.put a 22 16 (Word.slice w 22 16))
        let s := (s.put a 23 23 (Word.slice w 23 23)).put a 15 15 (Word.slice w 15 15)
        let s := if on then s else
          ((s.put a 14 14 (Word.slice w 14 14)).onlyIf (decide (Word.slice w 12 8 ≤ 20)) (·.put a 12 8 (Word.slice w 12 8))).onlyIf
            (decide (Word.slice w 2 0 ≤ 6)) (·.put a 2 0 (Word.slice w 2 0))
        if Word.bit w 13 then { s with pmc := { s.pmc with clearHist := s.pmc.clearHist ++ [h] } } else s
    | 1 => if on then s else
      (s.put (a + 1) 23 8 (Word.slice w 23 8)).onlyIf (decide (Word.slice w 4 0 ≤ 20)) (·.put (a + 1) 4 0 (Word.slice w 4 0))
    | 2 => if on then s else s.wr (a + 2) (w &&& 0x1FFF)
    | _ => s

/-- A write of a register of block 0x0F by a master. -/
def pmcWrite (m : Master) (a : Nat) (w : Word) (s : State) : State :=
  if a = 0x0F0000 then pmcGctlWrite m w s
  else if 0x0F0008 ≤ a ∧ a ≤ 0x0F000A then
    (match m with
     | .keep | .pf => s.wr a (if a = 0x0F000A then w &&& 0xFF else w)
     | _ => s)
  else if a = 0x0F0001 then s.wr a (s.rd a &&& ~~~ (w &&& 0x7))
  else if a = 0x0F0002 then s.wr a (w &&& 0x7)
  else if a = 0x0F0004 then s.wr a (s.rd a &&& ~~~ w)
  else if a = 0x0F0005 then s.wr a (s.rd a &&& ~~~ (w &&& 0xFF))
  else if 0x0F0100 ≤ a ∧ a < 0x0F0200 then pmcCounterWrite m ((a - 0x0F0100) / 8) ((a - 0x0F0100) % 8) w s
  else if 0x0F1000 ≤ a ∧ a < 0x0F1200 then pmcHistWrite m ((a - 0x0F1000) / 0x80) ((a - 0x0F1000) % 0x80) w s
  else s

/-- Whether a pier at USER may read an address of block 0x0F (R428). -/
def pmcUserRead (s : State) (core a : Nat) : Bool :=
  if 0x0F0100 ≤ a ∧ a < 0x0F0200 then
    let u := pmcCounter ((a - 0x0F0100) / 8)
    ((a - u) == 5 || (a - u) == 6) && s.fld u 22 16 == core && s.bit u 15
  else if 0x0F1000 ≤ a ∧ a < 0x0F1200 then
    let u := pmcHist ((a - 0x0F1000) / 0x80)
    (decide (4 ≤ a - u ∧ a - u ≤ 9) || decide (0x10 ≤ a - u ∧ a - u < 0x50)) && s.fld u 22 16 == core && s.bit u 15
  else false

end Sys2Proof.Machine
end

