-- ==== Sys2Proof/Machine/Commands.lean ====
section
/-! DEFINITION. The commands of R330 and the keystone calls of R246 that are not setup commands: command control, key
commands, graver jobs, the ledger, tenants, the plan, configuration, custodians, life cycle, debug. -/

namespace Sys2Proof.Machine

/-! ### Command control (R328, R335) -/

/-- A command that cannot start yet: it stays committed and not started. -/
def notStarted (c : Caller) (s : State) : State :=
  match c with
  | .host _ g idx => { s with hif := { s.hif with flights := s.hif.flights.map fun x =>
      if x.g == g.val && x.idx == idx then { x with started := false } else x } }
  | .pier .. => s

/-- The class whose pending action belongs to a command. -/
def quorumOf (s : State) (f : Flight) : Option Nat :=
  (List.range 6).find? fun k => match Tab.get none s.key.quorum k with
    | some a => a.caller == .host (Fin.ofNat 257 f.fn) (Fin.ofNat 520 f.g) f.idx
    | none => false

/-- The command of a function's ring that has a TAG, but for the one at `idx`. -/
def taggedFlight (s : State) (fn g idx : Nat) (tag : BitVec 32) : Option Flight :=
  s.hif.flights.find? fun f => f.fn == fn && f.g == g && f.tag == tag && f.idx != idx

/-- A command with the TAG has completed on the ring. -/
def taggedDone (s : State) (fn g : Nat) (tag : BitVec 32) : Bool :=
  (s.hif.due.any fun (n, h, _, e) => n == fn && h == g && e.tag == tag)
    || s.hif.written.any fun (k, e) => k / 4096 == g && (match e with | some e => e.tag == tag | none => false)

/-- CMD_ABORT (R328): the next boundary evaluates it. A graver job takes the request now (R155). -/
def cmdAbort (c : Caller) (tag : BitVec 32) (s : State) : State :=
  match c with
  | .pier .. => s
  | .host fn g idx =>
    match (taggedFlight s fn g idx tag).bind (·.graver) with
    | some n => jobAbortWrite n (s.updGrv n fun g => { g with abortBy := g.abortBy ++ [c] })
    | none => { s with hif := { s.hif with aborts := s.hif.aborts ++ [(c, tag)] } }

/-- The outcome of a CMD_ABORT at its boundary (R328): for the command of the same function and ring that has the TAG. -/
def abortDecide (c : Caller) (tag : BitVec 32) (s : State) : State :=
  match c with
  | .pier .. => s
  | .host fn g idx =>
    match taggedFlight s fn g idx tag with
    | none => finishEnd c (if taggedDone s fn g tag then stALREADY else stRANGE) s
    | some f =>
      match f.graver, quorumOf s f with
      | some n, _ => jobAbortWrite n (s.updGrv n fun g => { g with abortBy := g.abortBy ++ [c] })
      | none, some k => finishEnd c stOK (quorumCancel k stABORTED s)
      | none, none =>
        if f.started then finishEnd c stBUSY s
        else finishEnd c stOK (completeHost f stABORTED 0 0 [] s.tick s)

/-- The CMD_ABORTs of the stroke just ended, whose own command still runs. -/
def abortsDecide (s : State) : State :=
  let l := s.hif.aborts
  State.each { s with hif := { s.hif with aborts := [] } } l fun (c, tag) s =>
    match c with
    | .host _ g idx => if (s.flight g idx).isSome then abortDecide c tag s else s
    | .pier .. => s

/-- A completion entry in the layout of R325, with a phase of 0. -/
def entryBytes (e : Completion) : Bytes :=
  let le (v n : Nat) : Bytes := (beBytes v n).reverse
  le e.tag.toNat 4 ++ le e.status 2 ++ le e.epoch 2 ++ le e.commit.toNat 8 ++ le e.out.length 4 ++ le e.res0 4 ++ le e.res1 4 ++ [0, 0, 0, 0]

/-- CMD_LOST (R335): entries of the lost log, oldest first, as far as OUT_CAP allows. -/
def cmdLost (c : Caller) (s : State) : State :=
  match c with
  | .pier .. => s
  | .host fn g idx =>
    let cap := match s.flight g idx with | some f => f.outCap / 32 | none => 0
    let l := Tab.get [] s.hif.lost fn
    let s := { s with hif := { s.hif with lost := Tab.set [] s.hif.lost fn (l.drop cap) } }
    finish c stOK s (min cap l.length) (l.length - cap) ((l.take cap).flatMap entryBytes)

/-! ### Key commands (R184–R189) -/

/-- A use of a key object: handle and USAGE bit, with what refuses it counted. -/
def keyUse (s : State) (c : Caller) (h bit : Nat) : Nat × Nat :=
  let (st, i) := handleCheck s (callerDom c) h
  if st ≠ stOK then (st, i) else if (s.slot i).usage.getLsbD bit then (stOK, i) else (stUSAGE, i)

/-- Whether n more persistent slots keep to the domain's quota (R184, R192, R193). -/
def persistQuotaOk (s : State) (dom n : Nat) : Bool :=
  let room := s.fld 0x050004 13 0
  if dom < 256 then decide ((s.rd (0x051004 + 16 * dom)).toNat + n ≤ (s.rd (0x051003 + 16 * dom)).toNat ∧ n ≤ room)
  else decide (n + honoured s 3 4 ≤ room)

/-- An object becomes persistent (R182): its slots are counted, and its blocks with the commit block stand in the class. -/
def persistObject (i : Nat) (s : State) : State :=
  let v := s.slot i
  let l := objectSlots s i
  let s := s.each l fun j s => s.setSlot j { s.slot j with persist := true }
  let s := s.put 0x050004 13 0 (s.fld 0x050004 13 0 - l.length)
  let s := s.onlyIf (decide (v.dom < 256)) fun s =>
    s.wr (0x051004 + 16 * v.dom) (BitVec.ofNat 24 ((s.rd (0x051004 + 16 * v.dom)).toNat + l.length))
  resealObject i s

/-- The strokes of KEY_PERSIST: a SEAL_WRITE for every two slots and one for the commit block, in both banks at once
(R182, R254). -/
def persistStrokes (n : Nat) : Nat := 56 * ((n + 1) / 2 + 1)

/-- Whether the domain's quotas cover an object (R184). -/
def objectQuotaOk (s : State) (dom : Nat) (o : NewObject) : Bool :=
  slotQuotaOk s dom (objectSlotCount o.ty o.size) && (!o.persist || persistQuotaOk s dom (objectSlotCount o.ty o.size))

/-- The key-generation jobs of a type (R184): kinds and sizes. -/
def generateJobs (ty size : Nat) : List (Nat × Nat) :=
  match ty with
  | 0x10 => [(0x03, size / 2), (0x03, size / 2), (0x04, size)]
  | 0x12 => [(0x13, size)]
  | 0x14 => [(0x24, size)]
  | 0x15 => [(0x23, size)]
  | 0x20 => [(0x30, size)]
  | 0x30 => [(0x40, size)]
  | _ => []

/-- Whether KEY_GENERATE makes a type (R164, R184): no public type, no temporary prime, no RSA key of 16,384 bits. -/
def generates (ty size : Nat) : Bool :=
  (components ty size).isSome && !([0x11, 0x13, 0x16, 0x31, 0x40].contains ty) && !(ty == 0x10 && size == 16384)

/-- KEY_GENERATE (R184): a symmetric key is drawn from the expander, an asymmetric one made by graver jobs. -/
def keyGenerate (c : Caller) (ty usage flags : Byte) (size : Nat) (s : State) : State :=
  if 4 ≤ flags.toNat ∨ !generates ty.toNat size then finish c stFORMAT s
  else
    let (f, s) := s.useFree
    let jobs := generateJobs ty.toNat size
    let o : NewObject := ⟨ty.toNat, size, usage, flags.getLsbD 0, flags.getLsbD 1,
      if jobs = [] then Config.keyGen ty.toNat size (Config.freshBlock f) else [], true⟩
    if !objectQuotaOk s (callerDom c) o then finish c stQUOTA (keyCount 4 s)
    else if jobs = [] then keyBegin c (Config.cipherStrokes 0x40 (objectLen ty.toNat size)) stOK (.make o) s
    else keyBegin c 1 stOK (.generate o ⟨jobs, 0, [], none, none⟩) s

/-- The bytes of the DERIVE key behind a parent handle; `none` with the refusal. -/
def parentKey (s : State) (c : Caller) (h : Nat) : Nat × Bytes × Bool :=
  if h = 0xFFFFFF then
    match Tab.get [] s.key.roots (callerDom c) with
    | [] => (stSTALE, [], false)
    | r => (stOK, r, false)
  else
    let (st, i) := keyUse s c h 5
    let v := s.slot i
    (st, materialBytes ((components v.ty (sizeOf v.ty v.size)).getD []) (objectWords s i), v.exportable)

/-- The sizes in which KEY_DERIVE makes a type (R177, R179): every type that a caller may name but those that exist for trusted anchors
and for RSA key assembly only. -/
def derivable (ty : Nat) : List Nat :=
  match ty with
  | 0x01 | 0x02 | 0x03 | 0x04 | 0x40 => [0]
  | 0x10 => [2048, 3072, 4096, 8192, 16384] | 0x12 => [256, 384, 521] | 0x14 => [255, 448] | 0x15 => [255]
  | 0x20 => [768, 1024] | 0x30 => [65, 87] | _ => []

/-- The usage of a derived object (R177): as named; METHOD 1 makes a KEK, WRAP and UNWRAP, where the caller names one of these, else an ICK,
MAC (log 40, DESIGN CHOICE). -/
def derivedUsage (method usage : Byte) : Byte :=
  if method = 0 then usage else if usage.getLsbD 7 || usage.getLsbD 6 then 0xC0 else 0x01

/-- KEY_DERIVE (R176, R177, R184). The command names no size: which one a type of several sizes gets is free (log 40, DESIGN CHOICE). -/
def keyDerive (c : Caller) (parent : BitVec 24) (method ty usage flags : Byte) (label context : Bytes) (s : State) : State :=
  let sizes := derivable ty.toNat
  if 1 < method.toNat ∨ 4 ≤ flags.toNat ∨ label.length = 0 ∨ 64 < label.length ∨ 64 < context.length ∨ sizes = [] then
    finish c stFORMAT s
  else
    let (st, key, exportable) := parentKey s c parent.toNat
    let dur := (Config.cipherStrokes 0x41 (label.length + context.length))
    if st ≠ stOK then finish c st (keyRefuse st s) (dur := dur)
    else if flags.getLsbD 0 && !exportable then finish c stUSAGE (keyRefuse stUSAGE s) (dur := dur)
    else
      let (k, s) := s.useFree
      let size := sizes.getD ((Config.freeWord k).toNat % sizes.length) 0
      let u := derivedUsage method usage
      let cs := (components ty.toNat size).getD []
      let len := (cs.map (·.bytes)).sum
      let out := if method = 0 then kdf key (callerDom c) ty.toNat u.toNat label context len else Config.mkaKdf key label context len
      keyBegin c dur stOK (.make ⟨ty.toNat, size, u, flags.getLsbD 0, flags.getLsbD 1, materialWords cs out, false⟩) s (counts := [5])

/-- The key material of an object as bytes. -/
def objectBytes (s : State) (i : Nat) : Bytes :=
  let v := s.slot i
  materialBytes ((components v.ty (sizeOf v.ty v.size)).getD []) (objectWords s i)

/-- Zero padding to a multiple of 8 bytes. -/
def pad8 (b : Bytes) : Bytes := b ++ List.replicate ((8 - b.length % 8) % 8) 0

/-- The plaintext of a blob of R188. -/
def blobPlain (s : State) (i : Nat) : Bytes :=
  let v := s.slot i
  let m := objectBytes s i
  [1] ++ beBytes v.ty 1 ++ [v.usage] ++ [if v.exportable then 1 else 0] ++ beBytes m.length 2 ++ beBytes (sizeOf v.ty v.size) 2 ++ pad8 m

/-- KEY_WRAP (R184, R188, R189). -/
def keyWrap (c : Caller) (wrap target : BitVec 24) (format : Byte) (s : State) : State :=
  if 1 < format.toNat then finish c stFORMAT s
  else
    let (st, w) := keyUse s c wrap.toNat 7
    let (st2, i) := handleCheck s (callerDom c) target.toNat
    let v := s.slot i
    let okType : Bool := (s.slot w).ty == 2 || (format == 1 && (s.slot w).ty == 1)
    let st := if st ≠ stOK then st else if st2 ≠ stOK then st2 else if !v.exportable ∨ !okType then stUSAGE
      else if format = 1 ∧ v.ty ≠ 2 ∧ v.ty ≠ 3 then stFORMAT else stOK
    let plain := if format = 0 then blobPlain s i else (objectBytes s i).take 32
    let dur := Config.cipherStrokes 0x42 plain.length
    if st ≠ stOK then finish c st (keyRefuse st s) (dur := dur)
    else keyBegin c dur stOK .answer s (out := Config.kwWrap (objectBytes s w) plain)

/-- The object that an unwrapped format-0 plaintext holds (R188): type, size, usage, EXPORT, words. -/
def blobObject (p : Bytes) : Option (Nat × Nat × Byte × Bool × List Word) :=
  let ty := beNat ((p.drop 1).take 1)
  let len := beNat ((p.drop 4).take 2)
  let size := beNat ((p.drop 6).take 2)
  match components ty size with
  | none => none
  | some cs =>
    if p.take 1 = [1] ∧ (cs.map (·.bytes)).sum = len ∧ p.length = 8 + (pad8 ((p.drop 8).take len)).length
        ∧ (p.drop (8 + len)).all (· == 0) ∧ beNat ((p.drop 3).take 1) < 2 then
      some (ty, size, p.getD 2 0, p.getD 3 0 == 1, materialWords cs ((p.drop 8).take len))
    else none

/-- The object that an unwrapped raw key gives (R189): a SAK with the command's salt where the mask holds PLATE, else an
AES-256 key (log 41, DEDUCED). -/
def rawObject (mask : Byte) (salt p : Bytes) : Option (Nat × Nat × Byte × Bool × List Word) :=
  if mask.getLsbD 2 then
    (if p.length = 32 ∨ p.length = 16 then
      some (3, 0, mask, true, materialWords ((components 3 0).getD []) (List.replicate (32 - p.length) 0 ++ p ++ salt.take 12)) else none)
  else if p.length = 32 then some (2, 0, mask, true, materialWords ((components 2 0).getD []) p) else none

/-- KEY_UNWRAP (R184, R188, R189): an authentication failure returns FORMAT and creates nothing; EXPORT only where the
blob carries it (log 41, DEDUCED). -/
def keyUnwrap (c : Caller) (wrap : BitVec 24) (format mask flags : Byte) (salt blob : Bytes) (s : State) : State :=
  if 1 < format.toNat ∨ 4 ≤ flags.toNat then finish c stFORMAT s
  else
    let (st, w) := keyUse s c wrap.toNat 6
    let okType : Bool := (s.slot w).ty == 2 || (format == 1 && (s.slot w).ty == 1)
    let st := if st ≠ stOK then st else if !okType then stUSAGE else stOK
    let dur := Config.cipherStrokes 0x43 blob.length
    if st ≠ stOK then finish c st (keyRefuse st s) (dur := dur)
    else
      let object := (Config.kwUnwrap (objectBytes s w) blob).bind fun p => if format = 0 then blobObject p else rawObject mask salt p
      match object with
      | none => keyBegin c dur stFORMAT .answer s (counts := [3])
      | some (ty, size, usage, exportable, words) =>
        -- R179: a temporary prime carries no USAGE bit and never EXPORT.
        let prime := ty == 0x16
        keyBegin c dur stOK (.make ⟨ty, size, if prime then 0 else usage &&& mask, exportable && flags.getLsbD 0 && !prime, flags.getLsbD 1,
          words, false⟩) s

/-- KEY_MAC (R184). -/
def keyMac (c : Caller) (handle : BitVec 24) (alg : Byte) (data : Bytes) (s : State) : State :=
  if 1 < alg.toNat ∨ 9216 < data.length then finish c stFORMAT s
  else
    let (st, i) := keyUse s c handle.toNat 0
    let ty := (s.slot i).ty
    let st := if st ≠ stOK then st else if (alg = 0 ∧ ty ≠ 1 ∧ ty ≠ 2) ∨ (alg = 1 ∧ ty ≠ 4) then stUSAGE else stOK
    let dur := Config.cipherStrokes 0x44 data.length
    if st ≠ stOK then finish c st (keyRefuse st s) (dur := dur)
    else keyBegin c dur stOK .answer s (out := if alg = 0 then Config.aesCmac (objectBytes s i) data else Config.hmacSha384 (objectBytes s i) data)

/-- KEY_RESTRICT (R181, R184). -/
def keyRestrict (c : Caller) (handle : BitVec 24) (usageMask flagsMask : Byte) (s : State) : State :=
  let (st, i) := handleCheck s (callerDom c) handle.toNat
  if st ≠ stOK then finish c st (keyRefuse st s)
  else
    let s := s.each (objectSlots s i) fun j s => s.setSlot j { s.slot j with
      usage := (s.slot j).usage &&& usageMask, exportable := (s.slot j).exportable && flagsMask.getLsbD 0 }
    finish c stOK (s.onlyIf (s.slot i).persist (resealObject i))

/-- KEY_PERSIST (R182, R184). -/
def keyPersist (c : Caller) (handle : BitVec 24) (s : State) : State :=
  let (st, i) := handleCheck s (callerDom c) handle.toNat
  let n := (s.slot i).slots
  if st ≠ stOK then finish c st (keyRefuse st s)
  else if (s.slot i).persist then finish c stOK s
  else if !persistQuotaOk s (callerDom c) n then finish c stQUOTA (keyCount 4 s)
  else keyBegin c (persistStrokes n) stOK (.persist i) s

/-- KEY_DESTROY (R185, R187): in effect at the next boundary; from now on the handle is STALE for every command committed later. -/
def keyDestroy (c : Caller) (handle : BitVec 24) (s : State) : State :=
  let (st, i) := handleCheck s (callerDom c) handle.toNat
  if st ≠ stOK then finish c st (keyRefuse st s)
  else keyBegin c 1 stOK (.destroy i) { s with key := { s.key with doomed := s.key.doomed ++ [i] } }

/-- KEY_INFO (R184, R331). -/
def keyInfo (c : Caller) (handle : BitVec 24) (s : State) : State :=
  let (st, i) := handleCheck s (callerDom c) handle.toNat
  let v := s.slot i
  if st ≠ stOK then finish c st (keyRefuse st s)
  else finish c stOK s (v.ty * 2 ^ 16 + v.usage.toNat * 2 ^ 8 + (if v.exportable then 1 else 0) + (if v.persist then 2 else 0))
    (sizeOf v.ty v.size * 2 ^ 8 + v.slots)

/-- PLATE_INSTALL's key fields, as keystone call 88 (R119): the plate change that waits takes its SAK and salt. -/
def plateKeyInstall (c : Caller) (plate sak : Nat) (s : State) : State :=
  let waits := s.setup.any fun p => match p.change with | .install q d _ _ => q == plate && d == callerDom c | _ => false
  let (st, i) := sakCheck s (callerDom c) sak
  if !waits then finish c stRANGE s
  else if st ≠ stOK then finish c st (keyRefuse st s)
  else
    let key := (objectWords s i).take 15
    let put (l : List Word) : List Word := l.take 4 ++ key ++ l.drop 19
    finish c stOK { s with setup := s.setup.map fun p => match p.change with
      | .install q d l cur => if q = plate ∧ d = callerDom c then { p with change := .install q d (put l) cur } else p
      | _ => p }

/-! ### Graver jobs (R160, R186) -/

/-- The list words up to and including the first END, and whether an LDK stands among them. -/
def listToEnd (s : State) (n : Nat) : List Word :=
  let g := s.grv n
  let ends := (List.range 1024).find? fun e => Word.slice (Tab.get 0 g.list (4 * e)) 23 19 == 0
  (List.range (4 * (ends.getD 1023 + 1))).map fun i => Tab.get 0 g.list i
def listHasLdk (s : State) (n : Nat) : Bool :=
  (listToEnd s n).zipIdx.any fun (w, i) => i % 4 == 0 && Word.slice w 23 19 == 0x06

/-- The keystone's checks before a commit (R160); the first refusal. -/
def commitStatus (s : State) (n dom dur : Nat) : Nat :=
  let kind := s.fld (grvReg n 4) 7 0
  let size := s.fld (grvReg n 5) 14 0
  let handles := ((List.range 4).map fun h => (s.rd (grvReg n (0x0A + h))).toNat).filter (· ≠ 0)
  let bad := handles.findSome? fun h =>
    let (st, i) := handleCheck s dom h
    if st ≠ stOK then some st else if !(kindTypes kind).contains (s.slot i).ty then some stKEY
    else if !usageFits kind (s.slot i).usage then some stUSAGE else none
  let raw : Bool := kind == 0xF0
  if grvState s n ≠ 1 then stBUSY
  else if grvDom s n ≠ dom then stRIGHTS
  else if !raw && (jobDuration kind size).isNone then stRANGE
  else if raw && listHasLdk s n then stLIST
  else if !raw && Config.sha384 ((listToEnd s n).flatMap wordBytes) != Config.authorisedDigest kind size then stLIST
  else if bad.isSome then bad.getD 0
  else if !raw && (s.rd (grvReg n 7), s.rd (grvReg n 8)) != Config.authorisedRanges kind size then stRANGE
  else if curveKind kind && (!s.bit (grvReg n 4) 23 || s.rd (grvReg n 9) != Config.authorisedCheck kind size) then stCURVE
  else if (raw && !decide (1 ≤ dur ∧ dur < 2 ^ 24)) || (!raw && jobDuration kind size != some dur) then stRANGE
  else if !shareAllows s dom dur then stQUOTA
  else if outOverlap s n then stRANGE
  else if resultSlots s n ≠ 0 ∧ !slotQuotaOk s dom (resultSlots s n) then stQUOTA
  else stOK

/-- The commit of an authorised job (R152, R160, R186). -/
def commitJob (n dur : Nat) (c : Caller) (s : State) : State := commitOp n (some c) (s.wr (grvReg n 6) (BitVec.ofNat 24 dur))

/-- GRAVER_CLAIM (call 80, R151): the calling pier drives the graver (R159). -/
def graverClaim (c : Caller) (n : Nat) (s : State) : State :=
  let s' := claimOp n (callerDom c) s
  if grvState s' n = 1 ∧ (grvState s n = 0 ∨ grvState s n = 4) ∧ !s.bit 0x041001 n then
    finish c stOK (s'.updGrv n fun g => { g with driver := driverOf s' n (some c) })
  else finish c stBUSY s'

/-- GRAVER_COMMIT (call 81, R160). A refusal commits nothing. -/
def graverCommit (c : Caller) (n dur : Nat) (s : State) : State :=
  match commitStatus s n (callerDom c) dur with
  | 0 => finish c stOK (commitJob n dur c s)
  | st => finish c st (keyRefuse st s)

/-- GRAVER_RELEASE (call 82). -/
def graverRelease (c : Caller) (n : Nat) (s : State) : State :=
  if grvDom s n ≠ callerDom c then finish c stRIGHTS s
  else if grvState s n = 1 ∨ grvState s n = 4 then finish c stOK (releaseOp n s)
  else finish c stBUSY s

/-- The descriptor that the serving pier writes for a GRAVER_JOB, its list, which is then dirty (R160), and its public operands (R152, R331). -/
def jobSetup (n : Nat) (a : GraverArgs) (s : State) : State :=
  let kind := a.kind.toNat
  let (out, kout) := Config.authorisedRanges kind a.size
  let s := (s.wr (grvReg n 4) (BitVec.ofNat 24 (kind + (if a.curve then 2 ^ 23 else 0)))).wr (grvReg n 5) (BitVec.ofNat 24 (a.size % 2 ^ 15))
  let s := ((s.wr (grvReg n 7) out).wr (grvReg n 8) (if a.kout then kout else 0)).wr (grvReg n 9) (Config.authorisedCheck kind a.size)
  let s := s.each (List.range 4) fun i s => s.wr (grvReg n (0x0A + i)) (a.handles.getD i 0)
  (s.put (grvReg n 0) 11 11 1).updGrv n fun g =>
    let g := { g with list := (Config.authorisedList kind a.size).zipIdx.foldl (fun t (w, i) => Tab.set 0 t i w) [] }
    (Config.jobOperands kind a.size a.inp).foldl (fun g (b, w, v) => g.store b w [v]) g

/-- A GRAVER_JOB's flight names the graver that has it. -/
def flightGraver (c : Caller) (n : Option Nat) (s : State) : State :=
  match c with
  | .host _ g idx => { s with hif := { s.hif with flights := s.hif.flights.map fun x =>
      if x.g == g.val && x.idx == idx then { x with graver := n } else x } }
  | .pier .. => s

/-- The setup and the commit of a GRAVER_JOB on the graver that it has claimed; a refusal releases the graver. -/
def jobSubmit (c : Caller) (n : Nat) (a : GraverArgs) (dur : Nat) (s : State) : State :=
  let s := jobSetup n a s
  match commitStatus s n (callerDom c) dur with
  | 0 => commitJob n dur c s
  | st =>
    let s := keyRefuse st (releaseOp n s)
    match c with
    | .host .. => finish c st s
    | .pier .. => jobAnswer n c st 0 0 [] s

/-- A GRAVER_JOB whose claim made a wipe due goes on at the boundary that ends the wipe's stroke (R151, R158). Where the graver has left
CLAIMED the command waits for another. -/
def graverStage (n : Nat) (s : State) : State :=
  match (s.grv n).staged with
  | none => s
  | some (c, a, dur) =>
    if wiping s n then s
    else
      let s := s.updGrv n fun g => { g with staged := none }
      if grvState s n = 1 ∧ grvDom s n = callerDom c then jobSubmit c n a dur s
      else notStarted c (keyJobAgain n (flightGraver c none s))

/-- The gravers that a job may take: IDLE or DONE, and not draining (R151, R166). -/
def freeGravers (s : State) : List Nat := (List.range 16).filter fun n => (grvState s n == 0 || grvState s n == 4) && !s.bit 0x041001 n

/-- Graver `n` is claimed for a job: for another domain the setup comes after the wipe that the claim makes due (R151). -/
def jobClaim (c : Caller) (n : Nat) (a : GraverArgs) (dur : Nat) (s : State) : State :=
  let s := flightGraver c (some n) (claimOp n (callerDom c) s)
  if wiping s n then s.updGrv n fun g => { g with staged := some (c, a, dur) } else jobSubmit c n a dur s

/-- GRAVER_JOB (R331): the device claims a free graver, sets it up and commits the job; the job's end completes the command.
With no graver free the command waits; a claim for another domain makes a wipe due, and the setup comes after it (R151). Which graver, and
the duration of a RAW job, are free (log 4, DESIGN CHOICE). (log 120, DESIGN CHOICE) (log 61, DEDUCED) -/
def graverJob (c : Caller) (a : GraverArgs) (s : State) : State :=
  let kind := a.kind.toNat
  let (k, s) := s.useFree
  let free := freeGravers s
  if (jobDuration kind a.size).isNone ∧ kind ≠ 0xF0 then finish c (if (jobDuration kind 0).isNone ∧ !kindKnown kind then stFORMAT else stRANGE) s
  else
    match free[(Config.freeWord k).toNat % free.length]? with
    | none => notStarted c s
    | some n => jobClaim c n a ((jobDuration kind a.size).getD (1 + (Config.freeWord k).toNat % (2 ^ 24 - 1))) s
where
  /-- The kinds of R163. -/
  kindKnown (kind : Nat) : Bool :=
    [0x01, 0x02, 0x03, 0x04, 0x10, 0x11, 0x12, 0x13, 0x20, 0x21, 0x22, 0x23, 0x24, 0x30, 0x31, 0x32, 0x40, 0x41, 0x42].contains kind

/-! ### Key operations at a boundary (R15, R182, R184, R185) -/

/-- Puts operation `o'` in the place of `o`. -/
def swapOp (o o' : KeyOp) (s : State) : State := { s with key := { s.key with ops := s.key.ops.map fun x => if x = o then o' else x } }

/-- An object of the store that a KEY_GENERATE's last job has made gets the command's usage and flags. -/
def claimObject (i : Nat) (o : NewObject) (s : State) : State :=
  s.each (objectSlots s i) fun j s => s.setSlot j { s.slot j with usage := o.usage, exportable := o.exportable }

/-- The operation has its object: it is answered, or goes on with the strokes of KEY_PERSIST. -/
def objectMade (o : KeyOp) (persist : Bool) (h r1 : Nat) (s : State) : State :=
  let i := h % 2 ^ 16
  if persist then swapOp o { o with began := s.tick, due := s.tick + persistStrokes (s.slot i).slots, r0 := h, act := .persist i } s
  else opAnswer o stOK h r1 [] (dropOp o s)

/-- The SEAL_WRITEs of a KEY_PERSIST so far (R182): a data block every 56 strokes, the commit block last. -/
def persistProgress (o : KeyOp) (i : Nat) (s : State) : State :=
  let all := objectBlocks s i
  let have_ := match s.nva.vault with
    | some v => (v.blocks.filter fun b => match b with | .data h .. => h == i | .commit .. => false).length
    | none => 0
  addBlocks ((all.drop have_).take ((s.tick - o.began) / 56 - have_)) s

/-- The next job of a KEY_GENERATE takes a graver, the lowest that is free; it waits for one (log 150, DESIGN CHOICE). -/
def keyJobStart (o : KeyOp) (x : NewObject) (j : KeyJobs) (s : State) : State :=
  match j.todo, freeGravers s with
  | (kind, size) :: _, n :: _ =>
    let c : Caller := .pier 0 (callerDom o.caller)
    let a : GraverArgs := ⟨BitVec.ofNat 8 kind, curveKind kind, true, size, j.parts.map (BitVec.ofNat 24), []⟩
    jobClaim c n a ((jobDuration kind size).getD 0) (swapOp o { o with act := .generate x { j with graver := some n } } s)
  | _, _ => s

/-- A KEY_GENERATE ends: its temporary primes are destroyed (R179). -/
def keyJobsOver (j : KeyJobs) (s : State) : State := s.each j.parts fun h s => destroyObject (h % 2 ^ 16) s

/-- A KEY_GENERATE at a boundary (R184): a job that ended with RETRY is run again with fresh values, the primes go into the assembly, and the
last job's object is the command's. RESULT1 is the number of jobs that ran. -/
def keyJobsStep (o : KeyOp) (x : NewObject) (j : KeyJobs) (s : State) : State :=
  match j.last with
  | none => if j.graver.isNone then keyJobStart o x j s else s
  | some (st, h) =>
    let j := { j with ran := j.ran + 1, graver := none, last := none }
    let go (j : KeyJobs) : State := let o' := { o with act := .generate x j }; keyJobStart o' x j (swapOp o o' s)
    if st = stRETRY then go j
    else if st ≠ stOK then opAnswer o st 0 j.ran [] (dropOp o (keyJobsOver j s))
    else
      match j.todo with
      | _ :: (k :: rest) => go { j with todo := k :: rest, parts := j.parts ++ [h] }
      | _ =>
        let s := keyJobsOver j (claimObject (h % 2 ^ 16) x s)
        objectMade o (x.persist && persistQuotaOk s (callerDom o.caller) (s.slot (h % 2 ^ 16)).slots) h j.ran s

/-- A key operation at a boundary: what it does when its last stroke has ended (R15). An operation that needs the expander and has not had it
by then ends with FAULT (R314). -/
def keyOpStep (o : KeyOp) (s : State) : State :=
  match o.act with
  | .generate x j => keyJobsStep o x j s
  | .persist i =>
    if s.tick < o.due then persistProgress o i s
    else
      let s := dropOp o s
      let v := s.slot i
      if v.state ≠ .inUse then opAnswer o stOK o.r0 0 [] (keepBlocks (fun h _ => h != i) s)
      else if v.persist then opAnswer o stOK o.r0 0 [] s
      else if !persistQuotaOk s v.dom v.slots then opAnswer o stQUOTA 0 0 [] (keyCount 4 (keepBlocks (fun h _ => h != i) s))
      else opAnswer o stOK o.r0 0 [] (persistObject i s)
  | .destroy i =>
    let s := { s with key := { s.key with doomed := s.key.doomed.filter (· != i) } }
    opAnswer o stOK 0 0 [] (destroyObject i (dropOp o s))
  | .approve cls u sig =>
    if s.tick < o.due then s
    else
      let (ok, s) := quorumApproval cls u sig (dropOp o s)
      opAnswer o (if ok then stOK else stQUORUM) 0 0 [] s
  | .answer => if s.tick < o.due then s else opAnswer o o.status o.r0 0 o.out (dropOp o s)
  | .make x =>
    if s.tick < o.due then s
    else if x.fresh && !expanderReady s 0 then opAnswer o stFAULT 0 0 [] (dropOp o s)
    else if callerDom o.caller < 256 ∧ tenantState s (callerDom o.caller) = 3 then opAnswer o stTENANT 0 0 [] (dropOp o s)
    else if !objectQuotaOk s (callerDom o.caller) x then opAnswer { o with counts := [4] } stQUOTA 0 0 [] (dropOp o s)
    else
      let (_, h, s) := createObject (callerDom o.caller) x.ty x.size x.usage x.exportable x.words s
      objectMade o x.persist h 0 s

/-- Every key operation at a boundary, in the order in which they started. -/
def keyBoundary (s : State) : State := s.each s.key.ops keyOpStep

/-! ### The ledger (R400, R403, R408) -/

/-- LEDGER_READ OP 0: bytes 64–127 of a record of the open period. -/
def readOpenPeriod (c : Caller) (s : State) : State :=
  finish c stOK s (out := (quantities s (callerDom c)).flatMap fun q => beBytes q 8)

/-- LEDGER_READ OP 1: records of the caller's domain from a SEQ, as far as OUT_CAP allows. -/
def readRecords (c : Caller) (seq : Nat) (s : State) : State :=
  let l := domainRecords s (callerDom c)
  let oldest := match l with | r :: _ => recField r 4 4 | [] => Tab.get 0 s.lgr.seqs (callerDom c)
  let cap := match c with
    | .host _ g idx => (match s.flight g idx with | some f => f.outCap / 168 | none => 0)
    | .pier .. => l.length
  if seq < oldest then finish c stRANGE s 0 oldest
  else
    let rs := (l.filter fun r => decide (seq ≤ recField r 4 4)).take cap
    finish c stOK s rs.length (seq + rs.length) (rs.flatMap id)

/-- LEDGER_READ OP 2 and OP 3 (R408): refused with RIGHTS from a VF. -/
def setClock (c : Caller) (w : Nat) (s : State) : State :=
  if callerDom c ≠ 256 then finish c stRIGHTS s else finish c stOK (setClockDue w s)
def setPeriod (c : Caller) (secs : Nat) (s : State) : State :=
  if callerDom c ≠ 256 then finish c stRIGHTS s
  else if periodValid secs then finish c stOK (lgrCfgWrite (BitVec.ofNat 24 secs) s) else finish c stRANGE s

/-- LEDGER_SIGN (call 112, R400, R401, R403): the record is signed under its domain's metering key and stored in the RECORD
ring. OWN's ledger pier may sign for every domain (log 42, DEDUCED); a record out of sequence is refused, and a second PERIOD record
of a period is not stored. -/
def ledgerSign (c : Caller) (record : Bytes) (s : State) : State :=
  let d := recField record 2 2
  if record.length < 128 ∨ recField record 0 1 ≠ 1 ∨ 4 < recField record 1 1 ∨ 256 < d then finish c stFORMAT s
  else if callerDom c ≠ 256 ∧ callerDom c ≠ d then finish c stRIGHTS s
  else if recField record 1 1 = recPERIOD ∧ periodRecorded s d (recField record 8 8) then finish c stALREADY s
  else if recField record 4 4 ≠ Tab.get 0 s.lgr.seqs d then finish c stRANGE s
  else finish c stOK (storeRecord d (record.take 128) s)

/-! ### Tenants (R191–R194) -/

/-- The quota registers of tenant `t` with the values of a command (R192). -/
def quotaRegs (t : Nat) (q : Quotas) : List (Nat × Word) :=
  let a := 0x051000 + 16 * t
  [(a + 1, BitVec.ofNat 24 q.slots), (a + 3, BitVec.ofNat 24 q.pslots), (a + 5, BitVec.ofNat 24 q.chans),
   (a + 7, BitVec.ofNat 24 q.plates), (0x018100 + 2 * t, BitVec.ofNat 24 q.deck), (0x030100 + 2 * t, BitVec.ofNat 24 q.share),
   (a + 9, BitVec.ofNat 24 q.graver)]

/-- Whether seven quotas may be set (R192, R193): a set that would exceed a total, or a register, is refused whole with
QUOTA (log 43, DEDUCED). -/
def quotasOk (s : State) (t : Nat) (q : Quotas) : Bool :=
  totalOk s t 1 q.slots && totalOk s t 3 q.pslots && totalOk s t 5 q.chans && totalOk s t 7 q.plates && totalOk s t 9 q.graver
    && decide (q.deck < 2 ^ 18 ∧ q.share < 2 ^ 12 ∧ q.slots < 2 ^ 16 ∧ q.plates < 2 ^ 24)
    && shareFits s t q.share

/-- TENANT_QUOTA's change waits under an object of its own (kind 4). -/
def quotaChange (t : Nat) (q : Quotas) (s : State) : State := writeChange 4 t (.regs (quotaRegs t q)) .none 256 s

/-- Gives tenant `t` its root and metering key at its epoch (R191). -/
def deriveTenant (t : Nat) (s : State) : State :=
  match s.key.ownerRoot with
  | none => s
  | some r => { s with key := { s.key with
      roots := Tab.set [] s.key.roots t (tenantRoot r t (epochOf s t))
      metering := Tab.set [] s.key.metering t (meteringKey r t (epochOf s t)) } }

/-- TENANT_CREATE (R191, R192). -/
def tenantCreate (c : Caller) (t : Nat) (q : Quotas) (s : State) : State :=
  setupCommand c (fun s =>
    if tenantState s t ≠ 0 then finish c stTENANT s
    else if !quotasOk s t q then finish c stQUOTA s
    else finish c stOK (writeChange 3 t (.tenant t 1) .none 256 (quotaChange t q (deriveTenant t s)))) s

/-- TENANT_QUOTA (R192). -/
def tenantQuota (c : Caller) (t : Nat) (q : Quotas) (s : State) : State :=
  setupCommand c (fun s =>
    if tenantState s t = 0 ∨ tenantState s t = 3 then finish c stTENANT s
    else if !quotasOk s t q then finish c stQUOTA s
    else finish c stOK (quotaChange t q s)) s

/-- TENANT_SUSPEND and TENANT_RESUME (R191): from state `a` to state `b`. -/
def tenantMove (c : Caller) (t a b : Nat) (s : State) : State :=
  setupCommand c (fun s =>
    if tenantState s t ≠ a then finish c stTENANT s else finish c stOK (writeChange 3 t (.tenant t b) .none 256 s)) s

/-- TENANT_ERASE (R194), under the quorum of class 5. -/
def tenantErase (c : Caller) (e : Effective) (t : Nat) (s : State) : State :=
  setupCommand c (fun s =>
    if tenantState s t ≠ 1 ∧ tenantState s t ≠ 2 then finish c stTENANT s
    else if effectiveStatus s e (.tenant t 3) ≠ stOK then finish c (effectiveStatus s e (.tenant t 3)) s
    else withQuorum 5 c (Config.sha384 (beBytes 0x74 2 ++ beBytes t 1)) (.erase e t)
      (fun s => finish c stOK (writeChange 3 t (.tenant t 3) e 256 s)) s) s

/-- Whether a tenant under erase still holds something (R194): a plate reference, a graver, a slot. -/
def tenantHolds (s : State) (t : Nat) : Bool :=
  (s.dck.frames.any fun f => f.dom == t && f.chan.isSome)
    || (s.plc.recycles.any fun (p, e) => e != 0 && plateDom s p == t)
    || ((List.range 16).any fun n => grvDom s n == t && (grvState s n == 2 || grvState s n == 3))
    || (s.rd (0x051002 + 16 * t)).toNat != 0

/-- TENANT_ERASE_COMPLETE (R194, R402): the final record is made, EPOCH increments, the tenant is ABSENT with every quota 0. -/
def tenantEraseComplete (t : Nat) (s : State) : State :=
  if tenantState s t ≠ 3 ∨ tenantHolds s t then s
  else
    let s := finalRecord t s
    let e := (epochOf s t + 1) % 2 ^ 16
    let s := ownDeckLimit (s.each (quotaRegs t ⟨0, 0, 0, 0, 0, 0, 0⟩) fun (a, w) s => s.wr a w)
    let s := s.each (List.range 16) fun n s => if grvDom s n = t then releaseOp n s else s
    let s := { s with key := { s.key with roots := Tab.set [] s.key.roots t [], metering := Tab.set [] s.key.metering t [] } }
    eventVector (t + 1) ((s.wr (0x051000 + 16 * t) (BitVec.ofNat 24 e)).raise 0x050002 2)

/-! ### Plan and configuration (R331) -/

/-- PLAN_LOAD (R46, R47, R331): the shadow plan is written and checked. (log 64, DEDUCED) -/
def planLoad (c : Caller) (words : List Word) (s : State) : State :=
  if words.length ≠ planWords then finish c stFORMAT s
  else
    let t := (words.zipIdx.map fun (w, i) => (i, planWord i w)).filter fun (_, w) => decide (w ≠ 0)
    let stk := if s.bit 0x0004 1 then { s.stk with planA := t } else { s.stk with planB := t }
    let s := { s with stk := { stk with check := some (0, t, false) } }.put 0x0004 2 2 0
    let s := planCheckEnd s
    finish c (if s.bit 0x0004 2 then stOK else stPLAN) s (dur := 64)

/-- CONFIG_STORE: the setup in force goes into the CONFIG class. -/
def configStore (c : Caller) (s : State) : State :=
  if bankWorn s 0 ∧ bankWorn s 1 then finish c stWORN s
  else finish c stOK { s with nva := { s.nva with config := some (currentConfig s) } }

/-- CONFIG_ERASE: the class is erased, and R33 applies at the next boot. -/
def configErase (c : Caller) (s : State) : State :=
  if bankWorn s 0 ∧ bankWorn s 1 then finish c stWORN s
  else finish c stOK (eraseClass 80 64 { s with nva := { s.nva with config := none } })

/-! ### Custodians and quorums (R197–R199) -/

/-- Enrolled custodians. -/
def enrolled (s : State) : List Nat := (List.range 32).filter fun u => s.bit (0x050200 + u) 23

/-- The defaults of R198. -/
def defaultM (k : Nat) : Nat := match k with | 0 => 1 | 1 => 2 | 2 => 2 | 3 => 2 | 4 => 1 | _ => 0

/-- KEY_Qk_M follows QUORUM_SET, and the defaults reduced to the number enrolled (R198). (log 72, DEDUCED) -/
def quorumSizes (s : State) : State :=
  s.each (List.range 6) fun k s => s.wr (0x050300 + k) (BitVec.ofNat 24
    (match Tab.get none s.key.setM k with | some m => m | none => min (defaultM k) (enrolled s).length))

/-- Enrols custodian `u` with a key in a reserved slot (log 44, DESIGN CHOICE). -/
def enroll (u : Nat) (key : Bytes) (s : State) : State :=
  let s := { s with key := { s.key with custodians := Tab.set [] s.key.custodians u key } }
  quorumSizes (s.wr (0x050200 + u) (BitVec.ofNat 24 (2 ^ 23 + 0xFF00 + u)))

/-- CUSTODIAN_ENROLL (R197), under class 1. -/
def custodianEnroll (c : Caller) (u : Nat) (key : Bytes) (s : State) : State :=
  if key.length ≠ 64 then finish c stFORMAT s
  else withQuorum 1 c (Config.sha384 (beBytes 0x90 2 ++ beBytes u 1 ++ key)) (.enroll u key) (fun s => finish c stOK (enroll u key s)) s

/-- CUSTODIAN_REMOVE (R197, R199), under class 1: refused with QUORUM (log 44, DESIGN CHOICE) where fewer would be left than the largest M in
use, defaults included; the custodian's approvals are lost. -/
def custodianRemove (c : Caller) (u : Nat) (s : State) : State :=
  let largest := ((List.range 6).map (quorumSize s)).foldl max 0
  if !s.bit (0x050200 + u) 23 then finish c stRANGE s
  else if (enrolled s).length - 1 < largest then finish c stQUORUM s
  else withQuorum 1 c (Config.sha384 (beBytes 0x91 2 ++ beBytes u 1)) (.remove u) (fun s =>
    let approvals := Tab.update none (fun q => q.map fun a => { a with approved := a.approved.filter (· != u) }) s.key.quorum
    let s := { s with key := { s.key with custodians := Tab.set [] s.key.custodians u [], quorum := approvals } }
    let s := quorumSizes (s.wr (0x050200 + u) 0)
    finish c stOK (s.each (List.range 6) quorumShow)) s

/-- QUORUM_SET (R198), under class 1. -/
def quorumSet (c : Caller) (cls m : Nat) (s : State) : State :=
  if 5 < cls then finish c stFORMAT s
  else if (enrolled s).length < m then finish c stRANGE s
  else withQuorum 1 c (Config.sha384 (beBytes 0x92 2 ++ beBytes cls 1 ++ beBytes m 1)) (.setM cls m) (fun s =>
    finish c stOK (quorumSizes { s with key := { s.key with setM := Tab.set none s.key.setM cls (some m) } })) s

/-- QUORUM_REQUEST (call 104): the challenge is drawn and returned. -/
def quorumRequest (c : Caller) (cls : Nat) (digest : Bytes) (s : State) : State :=
  if quorumMet s cls c then finish c stOK s
  else
    let s := quorumHold cls c digest .caller s
    finish c stOK s (out := match Tab.get none s.key.quorum cls with | some a => a.challenge | none => [])

/-- QUORUM_APPROVE (call 105): one approval, verified by a job of kind 0x11 (110 strokes); it counts when the job has ended. -/
def quorumApprove (c : Caller) (cls u : Nat) (sig : Bytes) (s : State) : State :=
  if (Tab.get none s.key.quorum cls).isNone then finish c stRANGE s
  else keyBegin c 110 stOK (.approve cls u sig) s

/-! ### Life cycle and debug (R275, R281) -/

/-- Whether an ownership package passes (R174, R275): both signatures of its own anchors over the device ID and what it
holds, and its certificate for this device under those anchors. -/
def packageOk (s : State) (p : Bytes) : Bool :=
  let (pe, pd) := Config.packageAnchors p
  let (se, sd) := Config.packageSigs p
  let cert := Config.packageCert p
  let content := deviceId s ++ pe ++ pd ++ (Config.packageCustodians p).flatMap id ++ cert
  Config.ecdsaVerify pe content se && Config.mldsaVerify pd content sd
    && certChains { s with key := { s.key with anchors := some (pe, pd) } } cert && certDevice cert == deviceId s
    && certEc cert == Config.identityPub 0 s.key.identity && certDsa cert == Config.identityPub 1 s.key.identity

/-- Whether an analysis token passes (R275): both vendor signatures over the device ID and the target codeword. -/
def tokenOk (s : State) (target : Word) (p : Bytes) : Bool :=
  let content := deviceId s ++ beBytes target.toNat 3
  Config.ecdsaVerify Config.vendorKeys.1 content (p.take 96) && Config.mldsaVerify Config.vendorKeys.2 content (p.drop 96)

/-- The authorisation of R275 that needs no quorum. -/
def transitionAuthorised (s : State) (t : Nat) (target : Word) (p : Bytes) : Bool :=
  match t with
  | 2 => packageOk s p
  | 4 => tokenOk s target p
  | 1 => false
  | _ => true

/-- LIFECYCLE (call 122, R275): the keystone checks the authorisation and writes LCS_NEXT. -/
def lifecycleCommand (c : Caller) (target : Word) (p : Bytes) (s : State) : State :=
  match stateOf target with
  | none => finish c stFORMAT s
  | some t =>
    if !transitionAllowed s.lcs t ∨ !transitionAuthorised s t target p then finish c stNOT_ALLOWED s
    else
      let body (s : State) : State :=
        let s := lcsNextWrite target { s with lcy := { s.lcy with package := if t = 2 then some p else none } }
        finish c (match s.fld 0x070003 23 20 with | 0 => stOK | 2 => stBUSY | _ => stNOT_ALLOWED) s
      if s.lcs = 2 ∧ !(t = 3 ∧ s.bit 0x050001 22) then withQuorum 2 c (Config.sha384 (beBytes 0xA0 2 ++ beBytes target.toNat 3)) (.lifecycle target p) body s else body s

/-- DEBUG_CERT, OP 0 (call 123, R281), under class 4. -/
def debugCert (c : Caller) (cert : Bytes) (s : State) : State :=
  if !certValid s cert then finish c stNOT_ALLOWED (s.raise 0x078001 2)
  else withQuorum 4 c (Config.sha384 cert) (.cert cert) (fun s =>
    let d := certBody cert
    finish c stOK { s.wr 0x07800B (BitVec.ofNat 24 d.serial) with lcy := { s.lcy with certDue := some d } }) s

/-- DEBUG_CERT, OP 1 (R282): the certificate ends at the next boundary. -/
def debugCertEnd (c : Caller) (s : State) : State := finish c stOK { s with lcy := { s.lcy with certEnd := s.lcy.certEnd || certInForce s } }

end Sys2Proof.Machine
end

