-- ==== Sys2Proof/Machine/Containers.lean ====
section
/-! DEFINITION. The keystone's containers: recipient records, key backups, audit exports and imports (17_contact_and_removable_cards.md,
R393–R395), and the actions that proceed once their quorum is met (R199). -/

namespace Sys2Proof.Machine

/-! ### Blocks (R393) -/

/-- CHAIN of a block over the one before it. -/
def chainOf (prev block : Bytes) : Bytes := (Config.sha384 (prev ++ block.take 480)).take 32

/-- CHAIN, KIND, PART and payload of a block. -/
def blockChain (b : Bytes) : Bytes := b.drop 480
def blockKind (b : Bytes) : Nat := beNat ((b.drop 4).take 1)
def blockPart (b : Bytes) : Nat := beNat ((b.drop 5).take 1)
def blockPayload (b : Bytes) : Bytes := (b.drop 24).take 440

/-- The CHAIN that stands before block `i`. -/
def chainBefore (l : List Bytes) (i : Nat) : Bytes := if i = 0 then List.replicate 32 0 else blockChain (l.getD (i - 1) [])

/-- The payload of an encrypted block, under the backup key. -/
def openBlock (k b : Bytes) : Option Bytes := Config.gcmOpen k ((b.drop 8).take 12) (b.take 24) (blockPayload b) ((b.drop 464).take 16)

/-- Whether a block is of the encrypted part: the body of a key backup. -/
def encrypted (b : Bytes) : Bool := blockKind b == 1 && blockPart b == 1

/-- Whether block `i` is as R393 lays it out: MAGIC, the container's KIND and ID, INDEX without gap, COUNT, CHAIN and GTAG. -/
def blockGood (k : Bytes) (l : List Bytes) (i : Nat) : Bool :=
  let b := l.getD i []
  let first := l.getD 0 []
  b.length == 512 && beNat (b.take 4) == 0x46544331 && blockKind b == blockKind first && beNat ((b.drop 6).take 2) == 0
    && (b.drop 8).take 8 == (first.drop 8).take 8 && beNat ((b.drop 16).take 4) == i && beNat ((b.drop 20).take 4) == l.length
    && blockChain b == chainOf (chainBefore l i) b && (if encrypted b then (openBlock k b).isSome else (b.drop 464).take 16 == List.replicate 16 0)

/-- The payloads of a part, joined. -/
def partBytes (part : Nat) (l : List Bytes) : Bytes := (l.filter fun b => blockPart b == part).flatMap blockPayload

/-- The number of blocks before the trailer. -/
def beforeTrailer (l : List Bytes) : Nat := (l.filter fun b => blockPart b != 2).length

/-- Bytes of an owner identity certificate with its signatures (R174). -/
def ownerCertLength : Nat := 2704 + 96 + 4627

/-- The trailer's certificate chains to the owner anchors and both its signatures over the last CHAIN before it verify. -/
def trailerGood (s : State) (l : List Bytes) : Bool :=
  let t := partBytes 2 l
  let cert := t.take ownerCertLength
  let last := blockChain (l.getD (beforeTrailer l - 1) [])
  decide (beforeTrailer l ≠ 0) && certChains s cert && Config.ecdsaVerify (certEc cert) last ((t.drop ownerCertLength).take 96)
    && Config.mldsaVerify (certDsa cert) last (((t.drop ownerCertLength).drop 96).take 4627)

/-- The first INDEX at which a container fails R393; `none` where it is accepted. A trailer that does not verify fails at its first block
(log 154, DESIGN CHOICE). -/
def firstFailing (s : State) (k : Bytes) (l : List Bytes) : Option Nat :=
  match (List.range l.length).find? fun i => !blockGood k l i with
  | some i => some i
  | none => if trailerGood s l then none else some (beforeTrailer l)

/-- One block, its payload sealed where the key is given. -/
def makeBlock (kind part : Nat) (id : Bytes) (index count : Nat) (key : Option Bytes) (payload prev : Bytes) : Bytes :=
  let head := beBytes 0x46544331 4 ++ beBytes kind 1 ++ beBytes part 1 ++ [0, 0] ++ id ++ beBytes index 4 ++ beBytes count 4
  let data := payload ++ List.replicate (440 - payload.length) 0
  let (c, tag) := match key with
    | some k => Config.gcmSeal k (id ++ beBytes index 4) head data
    | none => (data, List.replicate 16 0)
  let b := head ++ c ++ tag
  b ++ chainOf prev b

/-- A byte string in payloads of 440 bytes. -/
def payloads (b : Bytes) : List Bytes := (List.range ((b.length + 439) / 440)).map fun i => (b.drop (440 * i)).take 440

/-- Blocks of one part from a place on, after the blocks made so far. -/
def addPart (kind part : Nat) (id : Bytes) (count : Nat) (key : Option Bytes) (b : Bytes) (l : List Bytes) : List Bytes :=
  (payloads b).foldl (fun l p => l ++ [makeBlock kind part id l.length count key p (chainBefore l l.length)]) l

/-- A whole container (R393): header, body, and the trailer with this device's certificate and two signatures. -/
def makeContainer (s : State) (kind : Nat) (id header body : Bytes) (key : Option Bytes) : List Bytes :=
  let trailer := s.key.ownerCert.length + 96 + 4627
  let count := (payloads header).length + (payloads body).length + (trailer + 439) / 440
  let l := addPart kind 1 id count key body (addPart kind 0 id count none header [])
  let last := blockChain (l.getLast?.getD [])
  addPart kind 2 id count none
    (s.key.ownerCert ++ Config.identitySign 0 s.key.identity last ++ Config.identitySign 1 s.key.identity last) l

/-- Whether the keystone can make a container: identity, certificate and expander at hand, the keys open. -/
def boxMay (s : State) : Bool := expanderReady s 0 && s.key.identity != [] && s.key.ownerCert != [] && !s.keysClosed

/-- A random container identifier. -/
def freshId (s : State) : Bytes × State :=
  let (k, s) := s.useFree
  ((beBytes (Config.freshBlock k).toNat 48).take 8, s)

/-! ### Recipient records (R394) -/

/-- The material bytes of a key object. -/
def heldBytes (s : State) (h : Nat) : Bytes := objectBytes s (h % 2 ^ 16)

/-- Whether both private values of a record are still held. -/
def stillHeld (s : State) (r : Recipient) : Bool := (handleCheck s 256 r.x).1 == stOK && (handleCheck s 256 r.kem).1 == stOK

/-- A recipient record is made: its private values become volatile objects of OWN, its blocks wait to be written. -/
def makeRecord (s : State) : Option (List Bytes × State) :=
  if !boxMay s then none
  else
    let (id, s) := freshId s
    let (i, s) := s.useFree
    let (j, s) := s.useFree
    let (st, x, s) := createObject 256 0x14 255 0x08 false (Config.keyGen 0x14 255 (Config.freshBlock i)) s
    let (st2, m, s) := createObject 256 0x20 1024 0x08 false (Config.keyGen 0x20 1024 (Config.freshBlock j)) s
    if st ≠ stOK ∨ st2 ≠ stOK then none
    else
      let header := deviceId s ++ Config.x25519Pub ((heldBytes s x).take 32) ++ Config.kemPub (heldBytes s m)
      let l := makeContainer s 3 id header [] none
      let r : Recipient := ⟨blockChain (l.getLast?.getD []), x, m⟩
      some (l, { s with rmc := { s.rmc with box := { s.rmc.box with recipients := s.rmc.box.recipients ++ [r] } } })

/-! ### Backups (R394) -/

/-- The persistent objects of the store, head slot by head slot. -/
def persistentObjects (s : State) : List Nat := (s.key.slots.filter fun (_, v) => v.head && v.persist && v.state == .inUse).map (·.1)

/-- The body of a backup: the owner root, then each persistent object as its domain, the length of its blob and the format 0 blob, under
the backup key (log 154, DESIGN CHOICE). -/
def backupBody (s : State) (k : Bytes) : Bytes :=
  s.key.ownerRoot.getD [] ++ (persistentObjects s).flatMap fun i =>
    let b := Config.kwWrap k (blobPlain s i)
    beBytes (s.slot i).dom 2 ++ beBytes b.length 2 ++ b

/-- The end of an export or import. -/
def boxResult (st : Nat) (bad : Option Nat) (s : State) : State := { s with rmc := { s.rmc with box := { s.rmc.box with result := some (st, bad) } } }

/-- An export (R394): the record is verified, the key built and the backup made for it. -/
def makeBackup (record : List Bytes) (s : State) : State :=
  if !boxMay s ∨ s.key.ownerRoot = none then boxResult stFAULT none s
  else
    match (if blockKind (record.getD 0 []) = 3 then firstFailing s [] record else some 0) with
    | some i => boxResult stFORMAT (some i) s
    | none =>
      let h := partBytes 0 record
      let (id, s) := freshId s
      let (i, s) := s.useFree
      let (j, s) := s.useFree
      let x := (beBytes (Config.freshBlock i).toNat 48).take 32
      let (ct, kz) := Config.kemEncap ((h.drop 44).take 1568) (beBytes (Config.freshBlock j).toNat 48)
      let chain := blockChain (record.getLast?.getD [])
      let k := (Config.hmacSha384 chain (Config.x25519Shared x ((h.drop 12).take 32) ++ kz)).take 32
      let header := deviceId s ++ Config.x25519Pub x ++ ct ++ h.take 12 ++ chain
      boxResult stOK none { s with rmc := { s.rmc with
        box := { s.rmc.box with ready := makeContainer s 1 id header (backupBody s k) (some k) } } }

/-! ### Audit exports (R395) -/

/-- The records of the RECORD ring, oldest first. -/
def auditBody (s : State) : Bytes := (List.range s.nva.recordCount).flatMap (storedRecord s)

/-- An audit export: a container of KIND 2 with a clear body and the device ID in its header (log 154, DESIGN CHOICE). -/
def makeAudit (s : State) : Option (List Bytes × State) :=
  if !boxMay s then none
  else
    let (id, s) := freshId s
    some (makeContainer s 2 id (deviceId s) (auditBody s) none, s)

/-! ### Import (R395) -/

/-- The objects of a backup's body after the owner root: domain and what the blob holds. -/
def backupObjects (k : Bytes) : Nat → Bytes → List (Nat × (Nat × Nat × Byte × Bool × List Word))
  | 0, _ => []
  | fuel + 1, b =>
    let n := beNat ((b.drop 2).take 2)
    if n = 0 then []
    else
      match (Config.kwUnwrap k ((b.drop 4).take n)).bind blobObject with
      | some o => (beNat (b.take 2), o) :: backupObjects k fuel (b.drop (4 + n))
      | none => backupObjects k fuel (b.drop (4 + n))

/-- A persistent object of a backup enters the store, where the domain's quotas cover it (log 154, DESIGN CHOICE). -/
def restoreObject (x : Nat × (Nat × Nat × Byte × Bool × List Word)) (s : State) : State :=
  let (dom, ty, size, usage, exportable, words) := x
  if !objectQuotaOk s dom ⟨ty, size, usage, exportable, true, words, false⟩ then s
  else
    let (_, h, s) := createObject dom ty size usage exportable words s
    persistObject (h % 2 ^ 16) s

/-- The recipient records are let go: their private values are destroyed (R394). -/
def dropRecipients (s : State) : State :=
  let l := s.rmc.box.recipients
  ({ s with rmc := { s.rmc with box := { s.rmc.box with recipients := [] } } }).each l fun r s =>
    if stillHeld s r then destroyObject (r.kem % 2 ^ 16) (destroyObject (r.x % 2 ^ 16) s) else s

/-- An import (R395): everything is verified before anything changes; else FORMAT with the first failing INDEX. A header that names
another device or no record held fails at INDEX 0 (log 154, DESIGN CHOICE). -/
def restoreBackup (l : List Bytes) (s : State) : State :=
  let h := partBytes 0 l
  let recipient := s.rmc.box.recipients.find? fun r => r.chain == (h.drop 1624).take 32 && stillHeld s r
  match recipient with
  | none => boxResult stFORMAT (some 0) s
  | some r =>
    let z := Config.x25519Shared ((heldBytes s r.x).take 32) ((h.drop 12).take 32) ++ Config.kemDecap (heldBytes s r.kem) ((h.drop 44).take 1568)
    let k := (Config.hmacSha384 r.chain z).take 32
    match firstFailing s k l with
    | some i => boxResult stFORMAT (some i) s
    | none =>
      if blockKind (l.getD 0 []) ≠ 1 ∨ (h.drop 1612).take 12 ≠ deviceId s then boxResult stFORMAT (some 0) s
      else
        let body := ((l.filter fun b => blockPart b == 1).map fun b => (openBlock k b).getD []).flatMap id
        let s := setRoot (body.take 48) s
        boxResult stOK none (dropRecipients (s.each (backupObjects k body.length (body.drop 48)) restoreObject))

/-! ### The transfers that carry containers -/

/-- A WRITE whose container is still to be made gets it at its first boundary; one that cannot be made is refused. -/
def containerMake (s : State) : State :=
  match s.rmc.busy, s.rmc.out with
  | some x, none =>
    let give (m : Option (List Bytes × State)) : State :=
      match m with
      | some (l, s) => { s with rmc := { s.rmc with out := some l } }
      | none => rmcEnd 5 s
    if x.op ≠ 3 then s
    else
      match x.use with
      | .record => give (makeRecord s)
      | .audit => give (makeAudit s)
      | .backup => if s.rmc.box.ready = [] then rmcEnd 5 s else give (some (s.rmc.box.ready, s))
      | _ => s
  | _, _ => s

/-- The digest of an export or import. -/
def boxDigest (op : Nat) (l : List Bytes) : Bytes := Config.sha384 (beBytes op 2 ++ blockChain (l.getLast?.getD []))

/-- RMC_OP_DONE for containers: a READ that ended with OK leads to the export for the record, or to the import of the backup, each under
the quorum of class 3 (R394). -/
def containerRead (s t : State) : State :=
  match s.rmc.busy with
  | some x =>
    if x.op ≠ 2 ∨ t.rmc.busy ≠ none ∨ t.fld 0x0C2005 23 20 ≠ 0 then t
    else
      let l := t.rmc.seen
      let ask (op : Nat) (act : QuorumAct) : State :=
        if quorumSize t 3 = 0 then { t with key := { t.key with due := t.key.due ++ [(3, .pier 0 256, act)] } }
        else quorumHold 3 (.pier 0 256) (boxDigest op l) act t
      match x.use with
      | .offer => ask 1 (.backup l)
      | .restore => ask 2 (.restore l)
      | _ => t
  | none => t

/-! ### Quorums that are met (R199) -/

/-- An action proceeds. -/
def proceed (x : Nat × Caller × QuorumAct) (s : State) : State :=
  let (k, c, act) := x
  let go (f : State → State) : State :=
    let t := f { s with key := { s.key with granted := s.key.granted ++ [(k, c)] } }
    { t with key := { t.key with granted := t.key.granted.erase (k, c) } }
  match act with
  | .caller => { s with key := { s.key with granted := s.key.granted ++ [(k, c)] } }
  | .enroll u key => go (custodianEnroll c u key)
  | .remove u => go (custodianRemove c u)
  | .setM cls m => go (quorumSet c cls m)
  | .lifecycle target p => go (lifecycleCommand c target p)
  | .cert b => go (debugCert c b)
  | .erase e t => go (tenantErase c e t)
  | .root => rootQuorumMet s
  | .backup l => makeBackup l s
  | .restore l => restoreBackup l s

/-- The actions whose quorum was met in the stroke just ended. -/
def proceedAll (s : State) : State :=
  let l := s.key.due
  ({ s with key := { s.key with due := [] } }).each l proceed

end Sys2Proof.Machine
end

