-- ==== Sys2Proof/Machine/CoreCtl.lean ====
section
/-! DEFINITION. The per-core window (R228–R230, R239–R245, R249): run, reset, load and digest, the keystone call as the
window shows it, interrupt sources, and the replacement of a pier (R28, R237). -/

namespace Sys2Proof.Machine

/-! ### State of a core -/

/-- CORE_n_STAT.STATE: 0 HELD, 1 RUNNING, 2 WAITING, 3 FAULTED, 4 RESETTING. -/
def coreState (s : State) (n : Nat) : Nat := s.fld (coreReg n 1) 23 21
def setCoreState (n v : Nat) (s : State) : State := s.put (coreReg n 1) 23 21 v

/-- CORE_n_STAT.BUSY follows the operation in progress. -/
def coreBusyShow (n : Nat) (s : State) : State := s.flag (coreReg n 1) 19 (s.core n).busy.isSome

/-- CORE_n_CTL.RUN. -/
def coreRun (s : State) (n : Nat) : Bool := s.bit (coreReg n 0) 23

/-- Core `n` executes instructions: RUNNING, not asked to hold, not stopped as a whole (R240, R247, R276, R438) and not
halted by debug. -/
def executing (s : State) (n : Nat) : Bool :=
  coreState s n == 1 && (n == 0 || coreRun s n) && s.pwr.phase == .run && s.pwr.safeHold.isNone && !s.lcy.halted.contains n

/-- The core cycles since reset that CYCLO and CYCHI show (R208). -/
def coreCycles (s : State) (n : Nat) : Nat := ((s.core n).cyc + min (s.core n).used 500) % 2 ^ 48

/-- The registers with the upper words that are views of other state: STK_NOW_HI, LGR_WALL and the cores' CYC_HI. -/
def upperWords (s : State) : Tab Word :=
  (((s.wr 0x0001 (BitVec.ofNat 24 (s.now / 2 ^ 24))).wrN 0x0D0009 2 (wallNow s / 2 ^ 24)).each (List.range 67) fun n s =>
    s.wr (coreReg n 0x11) (BitVec.ofNat 24 (coreCycles s n / 2 ^ 24))).io

/-- Latches of function `fn` (0 = PF) in the latch table. -/
def fnMaster (fn : Nat) : Nat := 68 + fn

/-- The latches of R6 of one master are reset: its upper words read what the registers hold now. -/
def latchReset (master : Nat) (s : State) : State :=
  { s with
    latch := s.latch.filter fun x => x.1 / 2 ^ 24 != master
    latchOwn := Tab.set none s.latchOwn master (some (upperWords s)) }

/-- The FLR of one function at its boundary (R6, R334): its latches are reset with it. -/
def flrTake (fn : Nat) (s : State) : State := if s.hif.flr.contains fn then latchReset (fnMaster fn) (flrTakeOne fn s) else s

/-! ### Core reset (R229, R245) -/

/-- Bits of CORE_n_STAT and the counters that a core reset leaves as they are. -/
def keptTag (s : State) (n : Nat) : Nat := (s.rd (coreReg n 0x48)).toNat

/-- A WAITING pier's call is withdrawn (R245): PEND clears, and an outcome that the keystone has made is kept. -/
def callWithdraw (n : Nat) (s : State) : State :=
  if !s.bit (coreReg n 0x40) 23 then s
  else
    let w := (keptTag s n, s.fld (coreReg n 0x40) 6 0)
    let mine (o : KeyOp) : Bool := o.withdrawn == none && (match o.caller with | .pier m _ => m == n | .host .. => false)
    let runs := s.key.ops.any mine
    let s := { s with key := { s.key with ops := s.key.ops.map fun (o : KeyOp) => if mine o then { o with withdrawn := some w } else o } }
    let k : List KeptOutcome := if (s.core n).answered ∧ !runs then
      [⟨keptTag s n, s.fld (coreReg n 0x40) 6 0, (List.range 8).map fun i => s.rd (coreReg n (0x50 + i))⟩] else []
    ({ s with kept := s.kept ++ k }).wr (coreReg n 0x40) 0

/-- A core reset of pier `n` (R229): the store buffer is discarded and counted, every register returns to its reset value,
the data SRAM is zeroed for 33 strokes, and the core is held after that. -/
def coreReset (n : Nat) (s : State) : State :=
  let c := s.core n
  let s := callWithdraw n s
  let s := s.wr (coreReg n 1) (BitVec.ofNat 24 (4 * 2 ^ 21 + 2 ^ 19 + min c.stb.length 8 * 2 ^ 8))
  let s := (s.put (coreReg n 0) 23 23 0).put (coreReg n 0) 19 19 0
  let s := latchReset n s
  let s := { s with lcy := { s.lcy with halted := s.lcy.halted.filter (· != n) } }
  s.setCore n { CoreState.init n with
    prog := c.prog, spare := c.spare, out := c.out, restart := c.restart, busy := some (.reset (s.tick + 33)) }

/-- The end of the zeroing (R229): the core is HELD. A pier that is restarted in place is then digested (R237). -/
def coreResetDone (n : Nat) (s : State) : State :=
  match (s.core n).busy with
  | some (.reset e) =>
    if e ≤ s.tick then
      let c := s.core n
      let b : Option CoreBusy := if c.restart then some (.dig (s.tick + 164)) else none
      coreBusyShow n (setCoreState n 0 (s.setCore n { c with busy := b }))
    else s
  | _ => s

/-! ### Run, load and digest (R228, R230) -/

/-- Starts core `n` at its program counter. -/
def coreStart (n : Nat) (s : State) : State := (setCoreState n 1 (s.put (coreReg n 0) 23 23 1)).put (coreReg n 0) 19 19 0

/-- A held-to-be core becomes HELD once its store buffer is empty. -/
def coreHold (n : Nat) (s : State) : State :=
  if n ≠ 0 ∧ coreState s n = 1 ∧ !coreRun s n ∧ (s.core n).stb = [] then
    setCoreState n 0 (s.setCore n { s.core n with idle := false })
  else s

/-- RUN as a write of CTL sets it (R230): 1 starts a held core and is discarded while BUSY; 0 holds at the next instruction
boundary after the store buffer drains. (log 97, DEDUCED) -/
def runWrite (n : Nat) (on : Bool) (s : State) : State :=
  if n = 0 then s
  else if on then (if (s.core n).busy.isNone ∧ coreState s n = 0 then coreStart n s else s)
  else coreHold n (s.put (coreReg n 0) 23 23 0)

/-- PCLR (R228). -/
def pclrWrite (n : Nat) (s : State) : State :=
  if n ≠ 0 ∧ coreState s n = 0 ∧ (s.core n).busy.isNone then
    coreBusyShow n (s.setCore n { s.core n with busy := some (.pclr (s.tick + 66)) })
  else s

/-- The program SRAM is zero (R228). -/
def pclrDone (n : Nat) (s : State) : State :=
  match (s.core n).busy with
  | some (.pclr e) => if e ≤ s.tick then coreBusyShow n (s.setCore n { s.core n with busy := none, prog := [] }) else s
  | _ => s

/-! ### The pier image in the PIER class (R228, R251) -/

/-- Parcels of the stored pier image: twelve in a row, the first in the lowest bits, from the class's first row (log 55, DESIGN CHOICE). -/
def pierImage (s : State) : Tab (BitVec 14) :=
  ((List.range 65536).map fun i =>
    (i, BitVec.ofNat 14 (((s.nvaRow 0 (256 * 656 + i / 12)).getD 0).toNat / 2 ^ (14 * (i % 12))))).filter fun x => decide (x.2 ≠ 0)

/-- The PIER class holds an image. -/
def pierStored (s : State) : Bool := s.nva.rows.any fun (k, _) => decide (256 * 656 ≤ k ∧ k < 256 * 688)

/-- DIG (R228). -/
def digWrite (n : Nat) (s : State) : State :=
  if n ≠ 0 ∧ coreState s n = 0 ∧ (s.core n).busy.isNone then
    coreBusyShow n (s.setCore n { s.core n with busy := some (.dig (s.tick + 164)) })
  else s

/-- The bytes that DIG hashes: each parcel as two bytes, most significant first. -/
def progBytes (c : CoreState) : Bytes :=
  (List.range 65536).flatMap fun a => let p := (Tab.get 0 c.prog a).toNat; [BitVec.ofNat 8 (p / 256), BitVec.ofNat 8 p]

/-- The digest appears (R228): word 15 holds its most significant bits. A pier that is restarted in place runs if the digest is one that the
verified image manifest gives (R237), and stays out of service otherwise (log 155, DESIGN CHOICE). -/
def digDone (n : Nat) (s : State) : State :=
  match (s.core n).busy with
  | some (.dig e) =>
    if e ≤ s.tick then
      let c := s.core n
      let digest := Config.sha384 (progBytes c)
      let s := s.wrN (coreReg n 0x20) 16 (beNat digest)
      let s := coreBusyShow n (s.setCore n { c with busy := none, restart := false })
      if !c.restart then s
      else if Config.manifestHolds digest then coreStart n s
      else setCoreState n 3 (s.setCore n { s.core n with out := true })
    else s
  | _ => s

/-- LOAD_EN (R228): only while HELD. -/
def loadEnWrite (n : Nat) (on : Bool) (s : State) : State :=
  if n ≠ 0 ∧ (coreState s n = 0 ∨ !on) then s.flag (coreReg n 0) 19 on else s

/-- A write of CORE_n_CTL from KEEP. -/
def coreCtlWrite (n : Nat) (w : Word) (s : State) : State :=
  if n = 0 then s
  else
    let s := s.onlyIf (Word.bit w 22) (coreReset n)
    let s := s.onlyIf (Word.bit w 21) (pclrWrite n)
    let s := s.onlyIf (Word.bit w 20) (digWrite n)
    let s := loadEnWrite n (Word.bit w 19) s
    runWrite n (Word.bit w 23) s

/-- A write of CORE_n_PLD_DATA (R228): stored from KEEP while HELD with the port open, else discarded with LOAD_ERR. -/
def pldWrite (keep : Bool) (n : Nat) (w : Word) (s : State) : State :=
  if n = 0 then s
  else if keep && coreState s n == 0 && s.bit (coreReg n 0) 19 then
    let a := s.fld (coreReg n 8) 15 0
    let s := s.setCore n { s.core n with prog := Tab.set 0 (s.core n).prog a (w.setWidth 14) }
    s.wr (coreReg n 8) (BitVec.ofNat 24 ((a + 1) % 65536))
  else s.raise (coreReg n 1) 18

/-! ### Keystone calls (R241–R245) -/

/-- Register `k` of the instruction field (R207, R211): g0–g7, then w0–w23 of the current window. -/
def CoreState.reg (c : CoreState) (k : Nat) : Word :=
  if k < 8 then Tab.get 0 c.g k
  else if k < 24 then Tab.get 0 c.w (16 * c.cwp + (k - 8))
  else Tab.get 0 c.w (16 * ((c.cwp + 1) % 15) + (k - 24))

/-- Writes register `k` of the instruction field. -/
def CoreState.setReg (c : CoreState) (k : Nat) (v : Word) : CoreState :=
  if k < 8 then { c with g := Tab.set 0 c.g k v }
  else if k < 24 then { c with w := Tab.set 0 c.w (16 * c.cwp + (k - 8)) v }
  else { c with w := Tab.set 0 c.w (16 * ((c.cwp + 1) % 15) + (k - 24)) v }

/-- The call numbers of R246. -/
def callNumbers : List Nat :=
  [64, 65, 66, 67, 68, 69, 70, 71, 72, 80, 81, 82, 88, 96, 97, 104, 105, 112, 120, 121, 122, 123]

/-- The operations of a withdrawn call go on for pier `n`, which makes the same call (R245). -/
def adoptOps (n : Nat) (w : Option (Nat × Nat)) (s : State) : State :=
  { s with key := { s.key with ops := s.key.ops.map fun (o : KeyOp) =>
      if o.withdrawn = w then { o with withdrawn := none, caller := .pier (Fin.ofNat 67 n) (callerDom o.caller) } else o } }

/-- A keystone call is posted (R241): KCALL, KARG0–7 and the start stroke; the pier waits. A number that R246 does not
assign is released at the next boundary with UNKNOWN (R244), and so is a call whose outcome was kept (R245). (log 112, DEDUCED) -/
def callPost (n num : Nat) (s : State) : State :=
  let c := s.core n
  let s := s.each (List.range 8) fun k s => s.wr (coreReg n (0x48 + k)) (c.reg (24 + k))
  let s := (s.wr (coreReg n 0x40) (BitVec.ofNat 24 (2 ^ 23 + num))).wrN (coreReg n 0x41) 2 ((s.now + 1) % 2 ^ 48)
  let s := setCoreState n 2 s
  match s.kept.find? fun k => k.tag == keptTag s n && k.num == num with
  | some k =>
    let s := { s with kept := s.kept.erase k }
    let s := s.each (List.range 8) fun i s => s.wr (coreReg n (0x50 + i)) (k.res.getD i 0)
    s.setCore n { c with answered := true, release := some (s.tick + 1, false) }
  | none =>
    let w := some (keptTag s n, num)
    if (s.key.ops.any fun o => o.withdrawn == w) = true then
      -- R245: the withdrawn call's operation goes on and answers this one.
      (adoptOps n w s).setCore n { c with answered := true, release := none }
    else if callNumbers.contains num then s.setCore n { c with answered := false, release := none }
    else ((s.zero (coreReg n 0x50) 8).wr (coreReg n 0x50) (BitVec.ofNat 24 stUNKNOWN)).setCore n
      { c with answered := true, release := some (s.tick + 1, false) }

/-- A write of CORE_n_KDONE from KEEP (R244): DUR is held; GO schedules the release at KSTART + DUR, or a late one at the
next boundary. The first GO of a call counts (log 45, DEDUCED). -/
def kdoneWrite (n : Nat) (w : Word) (s : State) : State :=
  if n = 0 then s
  else
    let dur := Word.slice w 17 0
    let s := s.wr (coreReg n 0x58) (BitVec.ofNat 24 dur)
    if Word.bit w 23 ∧ dur ≠ 0 ∧ s.bit (coreReg n 0x40) 23 ∧ (s.core n).release.isNone then
      let ahead := lead (s.now % 2 ^ 48) ((s.rdN (coreReg n 0x41) 2 + dur) % 2 ^ 48)
      let late := decide (ahead = 0 ∨ 2 ^ 47 ≤ ahead)
      s.setCore n { s.core n with release := some (if late then s.tick + 1 else s.tick + ahead, late) }
    else s

/-- The release at its boundary (R244), which a bank swap's pause delays (R365): w16 to w23 receive the results, or LATE; the pier runs on. -/
def kcallRelease (n : Nat) (s : State) : State :=
  match (s.core n).release with
  | some (e, late) =>
    if e ≤ s.tick ∧ s.spn.pausedUntil ≤ s.now ∧ s.bit (coreReg n 0x40) 23 then
      let c := (List.range 8).foldl (fun (c : CoreState) k =>
        c.setReg (24 + k) (if late then (if k = 0 then 0xFFFFFF else 0) else s.rd (coreReg n (0x50 + k)))) (s.core n)
      let dom := callDomain s n
      let took := lead (s.rdN (coreReg n 0x41) 2) (s.now % 2 ^ 48)
      let s := s.setCore n { c with release := none, answered := false }
      let s := ((setCoreState n 1 s).wr (coreReg n 0x40) 0).onlyIf late (·.bump (coreReg n 0x43) 23 0)
      (s.pmcEvent { code := 0x1A, src := some n, dom := dom }).pmcLatency 4 (1000 * took) dom none
    else s
  | none => s

/-- DADDR steps after an access to DDATA. -/
def daddrStep (n : Nat) (s : State) : State := s.wr (coreReg n 0x60) (BitVec.ofNat 24 ((s.fld (coreReg n 0x60) 14 0 + 1) % 2 ^ 15))

/-- A write of CORE_n_DDATA from KEEP (R249): only while WAITING; the shadow region is not written. -/
def ddataWrite (n : Nat) (w : Word) (s : State) : State :=
  if n = 0 then s
  else
    let a := s.fld (coreReg n 0x60) 14 0
    let s := if coreState s n = 2 ∧ a < shadowBase n then s.setCore n { s.core n with data := Tab.set 0 (s.core n).data a w } else s
    daddrStep n s

/-- A read of CORE_n_DDATA from KEEP. -/
def ddataRead (n : Nat) (s : State) : Word × State :=
  if n = 0 then (0, s)
  else (if coreState s n = 2 then Tab.get 0 (s.core n).data (s.fld (coreReg n 0x60) 14 0) else 0, daddrStep n s)

/-! ### Interrupt sources (R239) -/

/-- Whether source `k` of pier `n` is raised by its block. (log 94, DEDUCED) -/
def pierSource (s : State) (n k : Nat) : Bool :=
  let mine (m : Nat) : Bool := (s.grv m).driver == some n
  match k with
  | 0 => s.hif.flights.any fun f => s.fld (0x0A0400 + f.g) 6 0 == n
  | 1 => (List.range 16).any fun m => mine m && s.bit (grvReg m 1) 4
  | 2 => (List.range 16).any fun m => mine m && (s.bit (grvReg m 1) 2 || s.bit (grvReg m 1) 3 || s.bit (grvReg m 1) 5)
  | 3 => s.spn.events != []
  | 4 => (List.range 8).any fun q => rxq s q != []
  | 5 => [0x0C0002, 0x0C1002, 0x0C2002].any fun a => s.rd a &&& s.rd (a + 1) != 0
  | _ => false

/-- Whether keystone source `k` is raised. -/
def keystoneSource (s : State) (k : Nat) : Bool :=
  match k with
  | 0 => (List.range' 1 66).any fun n => s.bit (coreReg n 0x40) 23 && (s.core n).release.isNone
  | 1 => (List.range' 1 66).any fun n => coreState s n == 3
  | 2 => s.rd 0x080002 &&& s.rd 0x080003 != 0
  | 3 => s.hif.flights.any fun f => f.fn == 0 && needsKeys f.opcode
  | 4 => s.bit 0x060002 0 && s.bit 0x060003 0
  | 5 => s.rd 0x0005 &&& s.rd 0x0006 &&& 7 != 0
  | _ => false

def coreSource (s : State) (n k : Nat) : Bool := if n = 0 then keystoneSource s k else pierSource s n k

/-- CORE_n_IPEND (R239): a source that a boundary has made pending, until its block's event is cleared (log 46, DEDUCED). -/
def ipend (s : State) (n : Nat) : Nat :=
  bitsOf ((List.range 7).filter fun k => (s.core n).ipend.testBit k && coreSource s n k)

/-- The boundary makes sources pending by their class (R239): GUARANTEED sources and the keystone's at every boundary,
CONTROL sources of a pier at the boundary that begins a CONTROL cell of the pier. -/
def ipendBoundary (n : Nat) (s : State) : State :=
  let control := s.cell (43 + n) == 1
  let now := (List.range 7).filter fun k => coreSource s n k && (n == 0 || k == 1 || k == 6 || control || (s.core n).ipend.testBit k)
  s.setCore n { s.core n with ipend := bitsOf now }

/-- A pending source that is enabled (R239). -/
def enabledPending (s : State) (n : Nat) : Nat := ipend s n &&& (s.rd (coreReg n 5)).toNat

/-! ### Replacement of a pier (R28, R237) -/

/-- A spare pier that is free to serve: loaded, HELD and at rest. -/
def freeSpare (s : State) : Option Nat :=
  (List.range' 1 66).find? fun n => (s.core n).spare && coreState s n == 0 && (s.core n).busy.isNone
    && !(s.stk.underTest.any fun (c, _, _) => c == 43 + n)

/-- Spare `p` takes the work of pier `n`: its rings, with the committed commands of R321, and its standing domain. -/
def spareTakes (n p : Nat) (s : State) : State :=
  let s := s.setCore p { s.core p with spare := false }
  let s := s.each (List.range 520) fun g s => if s.fld (0x0A0400 + g) 6 0 = n then s.wr (0x0A0400 + g) (BitVec.ofNat 24 p) else s
  let s := (s.wr (coreReg p 6) (s.rd (coreReg n 6))).wr (coreReg n 6) 0x1FF
  coreStart p s

/-- A pier that has stopped answering the keystone is taken out of service as one that has faulted (R28). -/
def pierSilent (n : Nat) (s : State) : State :=
  if n ≠ 0 ∧ (coreState s n = 1 ∨ coreState s n = 2) then swLoseAck (pierParticipant n) (setCoreState n 3 s) else s

/-- A failed pier leaves service (R28, R237): a spare is started with its queues, and the failed pier is core-reset and
tested in its next TEST cell; with no spare free it is restarted in place. -/
def pierReplace (n : Nat) (s : State) : State :=
  if n = 0 ∨ coreState s n ≠ 3 ∨ (s.core n).out then s
  else
    match freeSpare s with
    | some p => testRequest (43 + n) 3 (coreReset n (spareTakes n p (s.setCore n { s.core n with out := true })))
    | none => coreReset n (s.setCore n { s.core n with restart := true })

/-- A lockstep mismatch of core `n` (R202): it stops at once with LS_FAIL. The keystone's puts the device into SAFE-HOLD. -/
def lockstepFail (n : Nat) (s : State) : State :=
  let s := s.raise (coreReg n 1) 20
  if n = 0 then { s with pwr := { s.pwr with safeHoldDue := s.pwr.safeHoldDue <|> some 1 } }
  else swLoseAck (pierParticipant n) (pptFire 49 (setCoreState n 3 s))

end Sys2Proof.Machine
end

