-- ==== Sys2Proof/Machine/IoSpace.lean ====
section
/-! DEFINITION. I/O space (R3–R11, R29, R30): which master reaches which address, what a write of each register does and
what a read of it returns. The access codes of the register tables act here; what a register's own rule adds is in the file
of its block. -/

namespace Sys2Proof.Machine

/-! ### Masters and grants (R6, R29, R30) -/

/-- The number of a master in the latch table. -/
def masterId : Master → Nat
  | .keep => 0
  | .pier n _ => n.val
  | .debug => 67
  | .pf => 68
  | .vf t => 69 + t.val

/-- Whether a master writes with the privilege KEEP (R7). -/
def isKeep : Master → Bool
  | .keep => true
  | _ => false

/-- Whether an address lies in no reserved range of R29. -/
def mapped (a : Nat) : Bool := decide (a < 0x110000 ∨ (0x200000 ≤ a ∧ a < 0x243000) ∨ (0x800000 ≤ a ∧ a < 0x1000000))

/-- Whether a master may read address `a` (R29). The debug port reads by the level and the right COUNTERS (R279, R281). (log 91, DEDUCED) -/
def mayRead (s : State) (m : Master) (a : Nat) : Bool :=
  mapped a && match m with
    | .keep => true
    | .pier n user =>
      if user then (a / 0x1000 == 0x200 + n.val) || (a / 0x10000 == 0x0F && pmcUserRead s n.val a)
      else decide (a < 0x110000 ∨ 0x800000 ≤ a) || a / 0x1000 == 0x200 + n.val
    | .pf =>
      if 0x200000 ≤ a ∧ a < 0x243000 then decide (0x201000 ≤ a) && !decide (0x40 ≤ a % 0x1000 ∧ a % 0x1000 ≤ 0x61)
      else if s.bit 0x100000 22 then a / 0x10000 == 0x10
      else true
    | .vf t => decide (0x800000 + 0x8000 * t.val ≤ a ∧ a < 0x808000 + 0x8000 * t.val)
    | .debug => debugLevel s == 2 || (debugLevel s == 1 && s.bit 0x078003 2 && a / 0x10000 == 0x0F)

/-- Whether a master may write address `a` (R29). -/
def mayWrite (s : State) (m : Master) (a : Nat) : Bool :=
  mapped a && match m with
    | .keep => true
    | .pier n user =>
      !user && (a == 0x0000C0 || [1, 2, 3, 4, 0xA, 0xB, 0xC, 0xD, 0xE, 0xF].contains (a / 0x10000)
        || a / 0x1000 == 0x200 + n.val || decide (0x800000 ≤ a))
    | .pf => [1, 2, 3, 0xA, 0xB, 0xE, 0xF].contains (a / 0x10000) || decide (0x800000 ≤ a)
    | .vf t => decide (0x800000 + 0x8000 * t.val ≤ a ∧ a < 0x808000 + 0x8000 * t.val)
    | .debug => debugLevel s == 2

/-! ### Writes, block by block -/

/-- A direct write of a register of a setup object (R16): clear-class rules, quotas, the limits of the port groups. The object
`kind`, `num` has the registers `regs`; their content with this write in it is a change that takes effect at the next stroke. A
read returns the content in force (log 128, DESIGN CHOICE). -/
def setupWrite (keep : Bool) (kind num : Nat) (regs : List Nat) (a : Nat) (w : Word) (s : State) : State :=
  match regAt a with
  | none => s
  | some r =>
    let v := plainValue (s.wr a (s.willBe a)) keep r a w
    if v = s.willBe a then s
    else writeChange kind num (.regs (regs.map fun b => (b, if b = a then v else s.willBe b))) .none 256 s

/-- A direct write of a register that is an object of its own. -/
def limitWrite (keep : Bool) (a : Nat) (w : Word) (s : State) : State := setupWrite keep 5 a [a] a w s

/-- A direct write of clear-class rule `k` of a side (R84): rule 0 keeps all but its action, whose code 3 is reserved. -/
def ruleWrite (keep : Bool) (side k a : Nat) (w : Word) (s : State) : State :=
  let regs := (List.range 4).map (ccReg side k)
  let old := s.willBe a
  if k = 0 then (if a = ccReg side 0 3 then setupWrite keep 2 (16 * side) regs a (Word.put old 1 0 (Word.slice w 1 0)) s else s)
  else setupWrite keep 2 (16 * side + k) regs a w s

/-- Writes of the stroke unit (R65). -/
def stkWrite (m : Master) (a : Nat) (w : Word) (s : State) : State :=
  let keep := isKeep m
  if a = 0x05 then stkEvtWrite w s
  else if a = 0x0B then s.onlyIf (Word.bit w 0) stkFwdGo
  else if a = 0x10 then s.onlyIf keep (planAddrWrite w)
  else if a = 0x11 then s.onlyIf keep (planData w)
  else if a = 0x12 then s.onlyIf (Word.bit w 0) planCheckGo
  else if 0x40 ≤ a ∧ a < 0xC0 then
    let k := (a - 0x40) / 0x20
    let o := (a - 0x40) % 0x20
    s.onlyIf keep fun s =>
      if o = 0 then swCtlWrite k w s
      else if 2 ≤ o ∧ o ≤ 4 then swTimeWrite k o w s
      else if 8 ≤ o ∧ o < 14 then swPartWrite k (o - 8) w s
      else s
  else if a = 0xC0 then
    (match m with
     | .keep => swPack 0 w s
     | .pier n _ => swPack n.val w s
     | _ => s)
  else if 0x100 ≤ a ∧ a < 0x120 then (if a % 4 = 0 then s.onlyIf keep (taskCfgWrite ((a - 0x100) / 4) w) else s)
  else if a = 0x130 then testRequest (Word.slice w 6 0) (Word.slice w 15 8) s
  else plainWrite keep a w s

/-- Writes of ports and deck (R86, R87). -/
def prtWrite (m : Master) (a : Nat) (w : Word) (s : State) : State :=
  let keep := isKeep m
  let o := a - 0x010000
  if o < 0x800 ∧ o % 0x100 = 2 then prtEvtWrite (o / 0x100) w s
  else if 0x1000 ≤ o ∧ o < 0x1080 then ruleWrite keep ((o - 0x1000) / 0x40) (o % 0x40 / 4) a w s
  else if o = 0x8003 then dckEvtWrite w s
  else if 0x8010 ≤ o ∧ o < 0x8058 ∧ o % 8 = 0 then s.onlyIf (reserveFits s ((o - 0x8010) / 8) (Word.slice w 17 0)) (limitWrite keep a w)
  else if 0x8010 ≤ o ∧ o < 0x8058 ∧ o % 8 = 1 then limitWrite keep a w s
  else if 0x8010 ≤ o ∧ o < 0x8058 ∧ o % 8 = 3 then pauseWrite ((o - 0x8010) / 8) w s
  else if 0x8100 ≤ o ∧ o < 0x8302 then limitWrite keep a w s
  else if 0x8500 ≤ o ∧ o < 0x8540 ∧ o % 8 = 2 then cqDone ((o - 0x8500) / 8) w s
  else if 0x8500 ≤ o ∧ o < 0x8540 ∧ o % 8 = 3 then cqTxData ((o - 0x8500) / 8) w s
  else if 0x8500 ≤ o ∧ o < 0x8540 ∧ o % 8 = 4 then cqTxSend ((o - 0x8500) / 8) w s
  else plainWrite keep a w s

/-- Writes of spans and trusses (R117). -/
def spnWrite (m : Master) (a : Nat) (w : Word) (s : State) : State :=
  if a = 0x021C01 then spnEvtWrite w s
  else if a = 0x021C03 then s.onlyIf (isKeep m) (spnSwapWrite w)
  else if a = 0x021C0A then pnevPop w s
  else plainWrite (isKeep m) a w s

/-- A write of SDC_c_CFG (R139, R142): with a drain that the spare slots cannot take the whole write is discarded. -/
def sdcCfgWrite (keep : Bool) (c : Nat) (w : Word) (s : State) : State :=
  let a := sdcReg c 0
  if Word.bit w 11 && !s.bit a 11 && !drainFits s c then s.put (sdcReg c 1) 20 20 1
  else
    let d := s.bit a 11
    let s := if s.bit a 22 then s else
      let s := s.put a 23 23 (Word.slice w 23 23)
      let s := if Word.slice w 19 16 ≤ 8 then s.put a 19 16 (Word.slice w 19 16) else s
      if Word.slice w 15 12 ≤ 5 then s.put a 15 12 (Word.slice w 15 12) else s
    let s := s.onlyIf (keep && Word.bit w 22) (·.put a 22 22 1)
    if Word.bit w 11 && !d then drainStart c s
    else if !Word.bit w 11 && d then drainReturn c s
    else s

/-- Writes of placement, plate cache and SDRAM (R141, R142). -/
def plcWrite (m : Master) (a : Nat) (w : Word) (s : State) : State :=
  let keep := isKeep m
  if a = 0x030000 then plcCfgWrite keep w s
  else if a = 0x030002 then plcEvtWrite w s
  else if a = 0x030031 then s.onlyIf (Word.bit w 23) snapshotGo
  else if 0x030100 ≤ a ∧ a < 0x030302 ∧ a % 2 = 0 then 
    s.onlyIf (shareFits s ((a - 0x030100) / 2) (Word.slice w 11 0)) (limitWrite keep a w)
  else if a = 0x038000 ∨ a = 0x039000 then sdcCfgWrite keep ((a - 0x038000) / 0x1000) w s
  else if a = 0x038002 ∨ a = 0x039002 then sdcEvtWrite ((a - 0x038000) / 0x1000) w s
  else plainWrite keep a w s

/-- Writes of the gravers (R169): the descriptor is locked from the commit until DONE. -/
def grvWrite (m : Master) (a : Nat) (w : Word) (s : State) : State :=
  let keep := isKeep m
  let n := (a - 0x040000) / 0x100
  let o := a % 0x100
  if a < 0x041000 then
    if o = 2 then s.onlyIf (Word.bit w 0) (jobAbortWrite n)
    else if o = 3 then s.onlyIf keep (authWrite n w)
    else if 4 ≤ o ∧ o ≤ 0x0E then s.onlyIf (descriptorOpen s n) (plainWrite keep a w)
    else if o = 0x11 then listDataWrite n w s
    else if o = 0x13 then bankDataWrite n w s
    else plainWrite keep a w s
  else if a = 0x041001 then s.onlyIf keep (drainWrite w)
  else if a = 0x041002 then grvEvtWrite w s
  else plainWrite keep a w s

/-- The width of a tenant limit register of R200. -/
def limitBits (o : Nat) : Nat := match o with | 1 => 16 | 3 => 14 | 5 => 18 | 7 => 24 | _ => 17

/-- Writes of the key store (R200). -/
def keyWrite (m : Master) (a : Nat) (w : Word) (s : State) : State :=
  let o := a % 16
  if a = 0x050002 then keyEvtWrite w s
  else if 0x051000 ≤ a ∧ a < 0x052000 ∧ (o = 1 ∨ o = 3 ∨ o = 5 ∨ o = 7 ∨ o = 9) then
    s.onlyIf (totalOk s ((a - 0x051000) / 16) o (w.toNat % 2 ^ limitBits o)) (limitWrite (isKeep m) a w)
  else plainWrite (isKeep m) a w s

/-- Writes of the NVA controller (R270). -/
def nvaWrite (m : Master) (a : Nat) (w : Word) (s : State) : State :=
  let keep := isKeep m
  if a = 0x060000 then s.onlyIf keep (nvaCfgWrite w)
  else if a = 0x060002 then nvaEvtWrite w s
  else if a = 0x060004 then s.onlyIf (keep && Word.bit w 0) swapWrite
  else if a = 0x060005 then s.onlyIf keep (minVersionWrite w)
  else if a = 0x060008 then s.onlyIf keep (digCtlWrite w)
  else if a = 0x060100 ∨ a = 0x060200 then s.onlyIf keep (nvaCmdWrite ((a - 0x060100) / 0x100) w)
  else if a = 0x060104 ∨ a = 0x060204 then s.onlyIf keep (radAddrWrite ((a - 0x060104) / 0x100) w)
  else plainWrite keep a w s

/-- Writes of life cycle and debug (R283): the debug-operation registers take none from I/O space. -/
def lcsWrite (m : Master) (a : Nat) (w : Word) (s : State) : State :=
  if a = 0x070002 then s.onlyIf (isKeep m) (lcsNextWrite w)
  else if a = 0x070004 then lcsEvtWrite w s
  else if a = 0x078001 then dbgEvtWrite w s
  else if 0x078010 ≤ a ∧ a ≤ 0x078012 then s
  else plainWrite (isKeep m) a w s

/-- Writes of the parapet (R304). -/
def pptWrite (m : Master) (a : Nat) (w : Word) (s : State) : State :=
  let keep := isKeep m
  if a = 0x080001 then s.onlyIf keep (pptCtlWrite w)
  else if a = 0x080002 then pptEvtWrite w s
  else if 0x080008 ≤ a ∧ a ≤ 0x08000D then s.onlyIf keep (pptClassWrite (a - 0x080008) w)
  else if a = 0x08002E then s.onlyIf keep (lightEnWrite w)
  else if a = 0x080042 then s.onlyIf (Word.bit w 0) trecClear
  else if 0x080060 ≤ a ∧ a < 0x080080 then
    let n := (a - 0x080060) / 2
    if a % 2 = 0 then { s with ppt := { s.ppt with seedLo := Tab.set 0 s.ppt.seedLo n w } } else guardSeedLoad n w s
  else plainWrite keep a w s

/-- Writes of the entropy block (R316). -/
def entWrite (m : Master) (a : Nat) (w : Word) (s : State) : State :=
  if a = 0x090000 then s.onlyIf (isKeep m) (entCtlWrite w)
  else if a = 0x090002 then entEvtWrite w s
  else plainWrite (isKeep m) a w s

/-- A write of register `o` of ring `g` (R339). -/
def ringWrite (g o : Nat) (w : Word) (s : State) : State :=
  match o with
  | 0 => ringCtlWrite g w s
  | 2 | 3 | 4 | 7 | 8 | 9 => ringBaseWrite g o w s
  | 5 => doorbellWrite g w s
  | 0xA => s.wr (ringBase g + 0xA) (w &&& 0xFFF)
  | _ => s

/-- Writes of the host interface (R338, R339). -/
def hifWrite (m : Master) (a : Nat) (w : Word) (s : State) : State :=
  if a = 0x0A0001 then hifEvtWrite w s
  else if 0x0A0800 ≤ a ∧ a < 0x0A0880 then ringWrite ((a - 0x0A0800) / 16) (a % 16) w s
  else plainWrite (isKeep m) a w s

/-- Writes of a tenant window (R319, R339). -/
def tenantWrite (a : Nat) (w : Word) (s : State) : State :=
  let t := (a - 0x800000) / 0x8000
  let o := a % 0x8000
  if o < 0x20 then ringWrite (8 + 2 * t + o / 16) (o % 16) w s else s

/-- Writes of the viaduct (R369). -/
def vdtWrite (m : Master) (a : Nat) (w : Word) (s : State) : State :=
  if a = 0x0B0000 then vdtCfgAfter (plainWrite (isKeep m) a w s)
  else if a = 0x0B0002 then vdtEvtWrite w s
  else if a = 0x0B0004 then vdtCtlWrite w s
  else plainWrite (isKeep m) a w s

/-- Writes of the custodian interfaces (R384, R396, R397). What the token or card will answer is free (log 4, DESIGN CHOICE) unless a
command's own row names it. -/
def cusWrite (m : Master) (a : Nat) (w : Word) (s : State) : State :=
  match a - 0x0C0000 with
  | 0x0000 => clrCfgWrite w s
  | 0x0002 => clrEvtWrite w s
  | 0x0004 => clrCmdWrite w .open_ false s
  | 0x0006 => clrFifoWrite w s
  | 0x1002 => iccEvtWrite w s
  | 0x1004 => iccCmdWrite w .open_ s
  | 0x1006 => iccFifoWrite w s
  | 0x2002 => rmcEvtWrite w s
  | 0x2004 => rmcCmdWrite w .open_ .raw s
  | 0x2006 => rmcFifoWrite w s
  | _ => plainWrite (isKeep m) a w s

/-- Writes of the ledger (R409). -/
def lgrWrite (m : Master) (a : Nat) (w : Word) (s : State) : State :=
  if a = 0x0D0000 then s.onlyIf (isKeep m) (lgrCfgWrite w)
  else if a = 0x0D0002 then lgrEvtWrite w s
  else if a = 0x0D000F then lgrSetGo w s
  else if a = 0x0D0010 then snapRelease w s
  else plainWrite (isKeep m) a w s

/-- Writes of the lamps (R418). -/
def lmpWrite (m : Master) (a : Nat) (w : Word) (s : State) : State :=
  if 0x0E0010 ≤ a ∧ a < 0x0E0028 ∧ a % 4 = 3 then clrShort ((a - 0x0E0010) / 4) w s else plainWrite (isKeep m) a w s

/-- Services the watchdog (R436). -/
def wdogWrite (w : Word) (s : State) : State :=
  if w = 0xA55A3C then { s with pwr := { s.pwr with wdAge := 0 } } else s

/-- A write of PWR_CTL (R435): a device reset of cause PWR_CTL, after the hold-up duties. -/
def pwrCtlWrite (keep : Bool) (w : Word) (s : State) : State :=
  if keep && w == 0x5AA5C3 then { s with pwr := { s.pwr with resetDue := s.pwr.resetDue <|> some 2 } } else s

/-- Writes of the power block (R446). -/
def pwrWrite (m : Master) (a : Nat) (w : Word) (s : State) : State :=
  if a = 0x100004 then pwrCtlWrite (isKeep m) w s
  else if a = 0x100006 then s.onlyIf (isKeep m) (wdogWrite w)
  else plainWrite (isKeep m) a w s

/-- Writes of a core's window (R230, R249). -/
def coreWrite (m : Master) (a : Nat) (w : Word) (s : State) : State :=
  let keep := isKeep m
  let n := (a - 0x200000) / 0x1000
  let o := a % 0x1000
  if o = 0 then s.onlyIf keep (coreCtlWrite n w)
  else if o = 9 then pldWrite keep n w s
  else if o = 5 then s.wr a (w &&& 0x7F)
  else if n = 0 then s
  else if o = 0x58 then s.onlyIf keep (kdoneWrite n w)
  else if o = 0x61 then s.onlyIf keep (ddataWrite n w)
  else plainWrite keep a w s

/-- A write of word `w` at address `a` of I/O space by a master that the grant admits. -/
def ioWrite (m : Master) (a : Nat) (w : Word) (s : State) : State :=
  match a / 0x10000 with
  | 0x0 => stkWrite m a w s
  | 0x1 => prtWrite m a w s
  | 0x2 => spnWrite m a w s
  | 0x3 => plcWrite m a w s
  | 0x4 => grvWrite m a w s
  | 0x5 => keyWrite m a w s
  | 0x6 => nvaWrite m a w s
  | 0x7 => lcsWrite m a w s
  | 0x8 => pptWrite m a w s
  | 0x9 => entWrite m a w s
  | 0xA => hifWrite m a w s
  | 0xB => vdtWrite m a w s
  | 0xC => cusWrite m a w s
  | 0xD => lgrWrite m a w s
  | 0xE => lmpWrite m a w s
  | 0xF => pmcWrite m a w s
  | 0x10 => pwrWrite m a w s
  | b => if b < 0x20 then s else if b < 0x25 then coreWrite m a w s else if 0x80 ≤ b then tenantWrite a w s else s

/-! ### Reads -/

/-- KEY_Tt_GRV_USE as it reads (R192): the units of 256 strokes committed in the present window. -/
def shareUnits (s : State) (t : Nat) : Word := BitVec.ofNat 24 (min ((graverUse s t + 255) / 256) 0x1FFFF)

/-- What a register shows that is a view of other state, or is hidden from a master: no side effect. (log 92, DEDUCED) -/
def ioView (s : State) (m : Master) (a : Nat) : Word :=
  let o := a % 0x10000
  match a / 0x10000 with
  | 0x0 =>
    if o = 0 then BitVec.ofNat 24 s.now
    else if o = 1 then BitVec.ofNat 24 (s.stk.time.num.toNat / 2 ^ 24)
    else if o = 2 then BitVec.ofNat 24 s.stk.time.era.toNat
    else if o = 3 then BitVec.ofNat 24 ((Config.hatch s.free).toNat * 2 ^ 12 + s.now % 4096)
    else if o = 0x11 then Tab.get 0 s.shadowPlan (s.rd 0x10).toNat
    else if 0x100 ≤ o ∧ o < 0x120 ∧ o % 4 = 1 then
      let t := (o - 0x100) / 4
      BitVec.ofNat 24 ((if s.stk.urgent.contains t then 2 ^ 23 else 0) + min (Tab.get 0 s.stk.ages t / 2 ^ 16) 0x7FFFFF)
    else if 0x131 ≤ o ∧ o ≤ 0x135 then
      BitVec.ofNat 24 (bitsOf (s.stk.tests.map (·.col)) / 2 ^ (24 * (o - 0x131)))
    else s.rd a
  | 0x1 =>
    if o = 0x8001 then BitVec.ofNat 24 (deckFree s)
    else if o = 0x8002 then BitVec.ofNat 24 (poolCells s)
    else s.rd a
  | 0x2 => if o = 0x1C08 then pnevStat s else if o = 0x1C09 then pnevPlate s else s.rd a
  | 0x3 =>
    if o = 1 then Word.put (s.rd a) 18 0 (cacheUse s)
    else if o = 4 then BitVec.ofNat 24 (pinUse s)
    else if o = 0x8003 ∨ o = 0x9003 then BitVec.ofNat 24 (spareSlots s ((o - 0x8000) / 0x1000))
    else if o = 5 ∨ o = 6 then BitVec.ofNat 24 (missDepth s (o - 5))
    else if 0x100 ≤ o ∧ o < 0x302 ∧ o % 2 = 1 then BitVec.ofNat 24 (occupancy s ((o - 0x100) / 2))
    else s.rd a
  | 0x5 =>
    if 9 ≤ o ∧ o ≤ 0xB then (if memoriesShown s then dirWord s (o - 9) else 0)
    else if 0x1000 ≤ o ∧ o < 0x2000 ∧ o % 16 = 0xA then shareUnits s ((o - 0x1000) / 16)
    else s.rd a
  | 0x6 =>
    if 0x119 ≤ o % 0x100 + 0x100 ∧ o % 0x100 + 0x100 ≤ 0x11C ∧ (o / 0x100 = 1 ∨ o / 0x100 = 2) then
      (sectorView s (o / 0x100 - 1) (o % 0x100)).getD 0
    else s.rd a
  | 0x9 => if 0x10 ≤ o ∧ o ≤ 0x13 then srcView s (o - 0x10) else s.rd a
  | 0xD => if 8 ≤ o ∧ o ≤ 0xA then BitVec.ofNat 24 (wallNow s / 2 ^ (24 * (o - 8))) else s.rd a
  | b =>
    if 0x20 ≤ b ∧ b < 0x25 then
      let n := (a - 0x200000) / 0x1000
      let c := a % 0x1000
      let hidden := (decide (0x48 ≤ c ∧ c < 0x58) || c == 0x61) && !isKeep m
      if hidden then 0
      else if n = 0 ∧ (c = 0 ∨ c = 2 ∨ c = 6 ∨ c = 8 ∨ (0x20 ≤ c ∧ c ≤ 0x61)) then 0
      else if c = 1 then
        Word.put (s.rd a) 17 16 (if coreState s n = 1 ∨ coreState s n = 2 then Word.slice (s.core n).psr 19 18 else 0)
      else if c = 2 then (if coreState s n = 0 then (s.core n).pc else 0)
      else if c = 4 then BitVec.ofNat 24 (ipend s n)
      else if c = 0x10 then BitVec.ofNat 24 (coreCycles s n)
      else if c = 0x11 then BitVec.ofNat 24 (coreCycles s n / 2 ^ 24)
      else s.rd a
    else if 0x80 ≤ b then
      let t := (a - 0x800000) / 0x8000
      let c := a % 0x8000
      if c = 0x10A then shareUnits s t
      else if 0x100 ≤ c ∧ c ≤ 0x10A then s.rd (0x051000 + 16 * t + (c - 0x100))
      else if c = 0x10B ∨ c = 0x10C then s.rd (domReg t (c - 0x10B))
      else if c = 0x10D then s.rd (0x030100 + 2 * t)
      else if c = 0x10E then BitVec.ofNat 24 (occupancy s t)
      else s.rd a
    else s.rd a

/-- The multi-word counters and time values of R6: address of the lowest word with its indices, and the number of upper
words. -/
def multiWord : List (Nat × List (Nat × Nat) × Nat) := [
  (0x000000, [], 1), (0x000008, [], 2), (0x000042, [(4, 0x20)], 2), (0x0B0008, [], 2), (0x0D000C, [], 2), (0x0F0008, [], 2),
  (0x010026, [(8, 0x100), (4, 0x20), (9, 2)], 1), (0x018400, [(9, 0x10), (8, 2)], 1), (0x018490, [(8, 2)], 1),
  (0x020010, [(28, 0x100), (12, 2)], 1), (0x024010, [(32, 0x100), (12, 2)], 1), (0x030010, [(13, 2)], 1),
  (0x038008, [(2, 0x1000), (9, 2)], 1), (0x040016, [(16, 0x100)], 1), (0x041010, [(10, 2)], 1), (0x050010, [(8, 2)], 1),
  (0x060006, [], 1), (0x06011A, [(2, 0x100)], 1), (0x060120, [(2, 0x100), (6, 2)], 1), (0x078008, [], 2), (0x080044, [], 1),
  (0x090020, [(7, 2)], 1), (0x0A0010, [(9, 2)], 1), (0x0B0018, [], 2), (0x0B0020, [(10, 2)], 1), (0x0C0200, [(8, 2)], 1),
  (0x0C1010, [(6, 2)], 1), (0x0C200B, [], 1), (0x0C2010, [(6, 2)], 1), (0x0D0004, [], 2), (0x0D0008, [], 2),
  (0x0D0100, [(257, 0x20), (8, 3)], 2), (0x0D4100, [(257, 0x20), (8, 3)], 2), (0x0F0105, [(32, 8)], 1),
  (0x0F1004, [(4, 0x80)], 1), (0x0F1006, [(4, 0x80)], 2), (0x0F1010, [(4, 0x80), (32, 2)], 1), (0x100008, [], 2),
  (0x200010, [(67, 0x1000)], 1), (0x200041, [(67, 0x1000)], 1)]

/-- The number of upper words of the value whose lowest word is at `a`; 0 where none is. -/
def upperCount (a : Nat) : Nat :=
  match multiWord.find? fun (b, ds, _) => decide (b ≤ a) && inDims ds (a - b) with
  | some (_, _, n) => n
  | none => 0

/-- Whether `a` is an upper word of a multi-word value. -/
def isUpper (a : Nat) : Bool := [1, 2].any fun i => decide (i ≤ a) && decide (i ≤ upperCount (a - i))

/-- What an upper word returns to a master that has not latched it since its latch was last reset (R6). -/
def latchDefault (s : State) (m a : Nat) : Word :=
  match Tab.get none s.latchOwn m with
  | some t => Tab.get (ioReset a) t a
  | none => Tab.get (ioReset a) s.latchBase a

/-- An upper word as master `m` reads it (R6). (log 119, DEDUCED) -/
def latched (s : State) (m a : Nat) : Word := (Tab.get none s.latch (m * 2 ^ 24 + a)).getD (latchDefault s m a)

/-- A read of a lowest word latches the upper words for the master (R6). -/
def latchUpper (m : Master) (a : Nat) (s : State) : State :=
  s.each (List.range (upperCount a)) fun i s =>
    { s with latch := Tab.set none s.latch (masterId m * 2 ^ 24 + (a + 1 + i)) (some (ioView s m (a + 1 + i))) }

/-- Whether a master may read ENT_i_DATA (R311). -/
def entReader (m : Master) (i : Nat) : Bool :=
  match m with
  | .keep => i == 0 || i == 4 || i == 5
  | .pier _ user => !user && i == 4
  | .pf => i == 5
  | _ => false

/-- A read whose register has a side effect of its own. -/
def sideRead (m : Master) (a : Nat) (s : State) : Option (Word × State) :=
  let core := match m with | .keep => true | .pier .. => true | _ => false
  if a / 0x10000 = 1 then
    let o := a - 0x010000
    if 0x8500 ≤ o ∧ o < 0x8540 ∧ o % 8 = 0 then some (cqDescRead ((o - 0x8500) / 8) s)
    else if 0x8500 ≤ o ∧ o < 0x8540 ∧ o % 8 = 1 then some (cqDataRead ((o - 0x8500) / 8) s)
    else none
  else if 0x040000 ≤ a ∧ a < 0x041000 ∧ a % 0x100 = 0x11 then some (listDataRead ((a - 0x040000) / 0x100) core s)
  else if 0x040000 ≤ a ∧ a < 0x041000 ∧ a % 0x100 = 0x13 then some (bankDataRead ((a - 0x040000) / 0x100) core s)
  else if a / 0x10000 = 9 then
    let o := a - 0x090000
    if 0x100 ≤ o ∧ o < 0x160 ∧ o % 16 = 0 then
      (if entReader m ((o - 0x100) / 16) then some (entDataTake ((o - 0x100) / 16) s) else some (0, s))
    else if 0x100 ≤ o ∧ o < 0x160 ∧ o % 16 = 1 then some (entStatTake ((o - 0x100) / 16) s)
    else none
  else if a = 0x0C0006 then some (clrFifoRead s)
  else if a = 0x0C1006 then some (iccFifoRead s)
  else if a = 0x0C2006 then some (rmcFifoRead s)
  else if a = 0x078012 then some (s.rd a, s.wr 0x078011 (s.rd 0x078011 + 1))
  else if 0x200000 ≤ a ∧ a < 0x243000 ∧ a % 0x1000 = 0x61 then
    (if isKeep m then some (ddataRead ((a - 0x200000) / 0x1000) s) else some (0, s))
  else if a = 0x000003 then some (ioView s m a, s.useFree.2)
  else none

/-- A read of address `a` by a master that the grant admits: the word, and the state it leaves. -/
def ioRead (m : Master) (a : Nat) (s : State) : Word × State :=
  match sideRead m a s with
  | some x => x
  | none => if isUpper a then (latched s (masterId m) a, s) else (ioView s m a, latchUpper m a s)

end Sys2Proof.Machine
end

