-- ==== Sys2Proof/Machine/Flags.lean ====
section
/-! DEFINITION. The flags of the Konus-24 (R209, R215): PSR bits 23 N, 22 Z, 21 C, 20 V. -/

namespace Sys2Proof.Machine

/-- The four flags. -/
structure Flags where
  n : Bool
  z : Bool
  c : Bool
  v : Bool
deriving DecidableEq, Repr

/-- The flags of a PSR. -/
def flagsOf (psr : Word) : Flags := ⟨Word.bit psr 23, Word.bit psr 22, Word.bit psr 21, Word.bit psr 20⟩

/-- A PSR with other flags. -/
def withFlags (psr : Word) (f : Flags) : Word :=
  Word.put psr 23 20 (8 * f.n.toNat + 4 * f.z.toNat + 2 * f.c.toNat + f.v.toNat)

/-- NZ (R215): N and Z follow, V is cleared, C is unchanged. -/
def flagsNZ (f : Flags) (r : Word) : Flags := ⟨r.msb, r == 0, f.c, false⟩

/-- NZC of a shift (R215): as NZ, with C the last bit shifted out; a shift by 0 leaves C (log 47, DEDUCED). -/
def flagsShift (f : Flags) (r : Word) (out : Option Bool) : Flags := { flagsNZ f r with c := out.getD f.c }

/-- The result and NZCV of `a + b + k`, k a carry of 0 or 1. -/
def addFlags (a b : Word) (k : Bool) : Word × Flags :=
  let t := a.toNat + b.toNat + k.toNat
  let r : Word := BitVec.ofNat 24 t
  (r, ⟨r.msb, r == 0, decide (2 ^ 24 ≤ t), a.msb == b.msb && r.msb != a.msb⟩)

/-- The result and NZCV of `a − b − (1 − k)`: C = 1 is no borrow. -/
def subFlags (a b : Word) (k : Bool) : Word × Flags :=
  let d := b.toNat + (1 - k.toNat)
  let r : Word := a - b - BitVec.ofNat 24 (1 - k.toNat)
  (r, ⟨r.msb, r == 0, decide (d ≤ a.toNat), a.msb != b.msb && r.msb != a.msb⟩)

/-- A left shift by `k` of 0–31 with the last bit shifted out (R217, R221). -/
def shlOut (a : Word) (k : Nat) : Word × Option Bool :=
  (a <<< k, if k = 0 then none else some (if k ≤ 24 then a.getLsbD (24 - k) else false))

/-- A logical right shift with the last bit shifted out. -/
def shrOut (a : Word) (k : Nat) : Word × Option Bool :=
  (a >>> k, if k = 0 then none else some (if k ≤ 24 then a.getLsbD (k - 1) else false))

/-- An arithmetic right shift with the last bit shifted out. -/
def asrOut (a : Word) (k : Nat) : Word × Option Bool :=
  (a.sshiftRight k, if k = 0 then none else some (if k ≤ 24 then a.getLsbD (k - 1) else a.msb))

/-- The conditions of R215. -/
def condition (cc : Nat) (f : Flags) : Bool :=
  match cc with
  | 0 => f.z
  | 1 => !f.z
  | 2 => f.c
  | 3 => !f.c
  | 4 => f.n
  | 5 => !f.n
  | 6 => f.v
  | 7 => !f.v
  | 8 => f.c && !f.z
  | 9 => !f.c || f.z
  | 10 => f.n == f.v
  | 11 => f.n != f.v
  | 12 => !f.z && f.n == f.v
  | 13 => f.z || f.n != f.v
  | _ => true

end Sys2Proof.Machine
end

