-- ==== Sys2Proof/Machine/Operands.lean ====
section
/-! DEFINITION. The operand forms of the Konus-24 (R207–R221): registers, immediates and offsets, the addresses that an
instruction may reach, and the special registers. -/

namespace Sys2Proof.Machine

/-! ### Immediates and offsets -/

/-- A signed field as a word. -/
def sextWord {w : Nat} (i : BitVec w) : Word := i.signExtend 24

/-- An unsigned field as a word. -/
def zextWord {w : Nat} (i : BitVec w) : Word := i.setWidth 24

/-- The effective address b + o, modulo 2^24 (R220). -/
def effAddr (c : CoreState) (b : Nat) (o : BitVec 10) : Nat := (c.reg b + sextWord o).toNat

/-! ### Address spaces (R204, R206, R210) -/

/-- The privilege of a core: 0 USER, 1 SUPER, 3 KEEP. -/
def CoreState.priv (c : CoreState) : Nat := Word.slice c.psr 19 18

/-- Whether program address `a` may be fetched (R204, R210). -/
def mayFetch (n : Nat) (c : CoreState) (a : Nat) : Bool :=
  if n = 0 then decide (a < 0x18000 ∨ (0xF00000 ≤ a ∧ a < 0xF09240))
  else decide (a < 0x10000) && (c.priv != 0 || decide (c.uplo.toNat ≤ a ∧ a ≤ c.uphi.toNat))

/-- What forbids a data access: DATA_ADDR (vector 3) outside R204, DATA_PROT (4) outside a USER's range (R210) or, for ST
and PUSH, in the shadow region (R206). -/
def dataFault (n : Nat) (c : CoreState) (store : Bool) (a : Nat) : Option Nat :=
  if shadowTop n ≤ a then some 3
  else if c.priv = 0 ∧ ¬ (c.udlo.toNat ≤ a ∧ a ≤ c.udhi.toNat) then some 4
  else if store && decide (shadowBase n ≤ a) then some 4
  else none

/-- The youngest store-buffer entry for a data address (R224). -/
def CoreState.pending (c : CoreState) (a : Nat) : Option Word :=
  c.stb.reverse.findSome? fun e => match e with
    | .data b w => if b = a then some w else none
    | .io .. => none

/-- The word at a data address, as the core loads it: the youngest pending store's, or the data SRAM's (R224). -/
def CoreState.load (c : CoreState) (a : Nat) : Word := (c.pending a).getD (Tab.get 0 c.data a)

/-- The data SRAM takes a word. -/
def CoreState.poke (c : CoreState) (a : Nat) (w : Word) : CoreState := { c with data := Tab.set 0 c.data a w }

/-- Writes the data word at an address past the store buffer, whose older entries for the address are superseded. -/
def CoreState.store (c : CoreState) (a : Nat) (w : Word) : CoreState :=
  { c.poke a w with
    stb := c.stb.filter fun e => match e with
      | .data b _ => b != a
      | .io .. => true }

/-! ### Special registers (R208, R209) -/

/-- What an access to a special register raises: ILLEGAL (0) for SR 17–31, PRIVILEGE (1) where the privilege may not make
it. -/
def srFault (c : CoreState) (sr : Nat) (write : Bool) : Option Nat :=
  if 16 < sr then some 0
  else if c.priv = 0 ∧ 5 ≤ sr ∧ sr ≤ 9 then some 1
  else if !write then none
  else if sr = 0 then none
  else if c.priv = 0 then some 1
  else if sr = 4 ∨ sr = 7 ∨ sr = 8 ∨ 14 ≤ sr then some 1
  else if c.priv = 3 ∧ 10 ≤ sr then some 1
  else none

/-- The value of a special register but CYCLO and CYCHI. -/
def srValue (n : Nat) (c : CoreState) (sr : Nat) : Word :=
  match sr with
  | 0 => c.psr
  | 1 => c.rp
  | 2 => c.slim
  | 3 => c.ssp
  | 4 => BitVec.ofNat 24 (c.res * 2 ^ 8 + c.cwp)
  | 5 => c.epc
  | 6 => c.esr
  | 7 => c.ecause
  | 8 => c.eval
  | 9 => c.vbase
  | 10 => if c.priv = 3 then 0 else c.udlo
  | 11 => if c.priv = 3 then 0 else c.udhi
  | 12 => if c.priv = 3 then 0 else c.uplo
  | 13 => if c.priv = 3 then 0 else c.uphi
  | 16 => BitVec.ofNat 24 n
  | _ => 0

/-- PSR as MTS writes it (R209): the flags at every privilege; IE at SUPER and KEEP; PRIV 0 or 1 at SUPER. -/
def psrWrite (c : CoreState) (w : Word) : Word :=
  let p := Word.put c.psr 23 20 (Word.slice w 23 20)
  if c.priv = 0 then p
  else
    let p := Word.put p 17 17 (Word.slice w 17 17)
    if c.priv = 1 ∧ Word.slice w 19 18 ≤ 1 then Word.put p 19 18 (Word.slice w 19 18) else p

/-- Whether the innermost shadow entry is the exception entry of record RP (R236). -/
def atRecordLevel (n : Nat) (c : CoreState) : Bool :=
  decide (c.ssp.toNat < shadowTop n) && decide (c.rp.toNat + 18 < shadowTop n) && c.load (c.ssp.toNat + 1) == (c.rp ||| 0x800000)

/-- Writes a special register (R208, R236). -/
def srWrite (n : Nat) (c : CoreState) (sr : Nat) (w : Word) : CoreState :=
  match sr with
  | 0 => { c with psr := psrWrite c w }
  | 1 => { c with rp := w }
  | 2 => { c with slim := w }
  | 3 => if shadowBase n ≤ w.toNat ∧ w.toNat ≤ shadowTop n ∧ w.toNat % 2 = 0 then { c with ssp := w } else c
  | 5 =>
    let c' := { c with epc := w }
    if atRecordLevel n c then (c'.store (c.rp.toNat + 17) w).store c.ssp.toNat w else c'
  | 6 =>
    let c' := { c with esr := w &&& 0xFE0000 }
    if atRecordLevel n c then c'.store (c.rp.toNat + 18) (w &&& 0xFE0000) else c'
  | 9 => { c with vbase := w }
  | 10 => { c with udlo := w }
  | 11 => { c with udhi := w }
  | 12 => { c with uplo := w }
  | 13 => { c with uphi := w }
  | _ => c

end Sys2Proof.Machine
end

