-- ==== Sys2Proof/Machine/Konus.lean ====
section
/-! DEFINITION. The frame in which a core executes an instruction (08_konus_processor.md, 09_exceptions_and_firmware.md):
store buffer, fetch checks, windows and call records, exception entry and return, keystone calls. The instructions are in
Machine/KonusInstr.lean. -/

namespace Sys2Proof.Machine

/-! ### The store buffer (R224, R240) -/

/-- The master that core `n` is at its present privilege. -/
def coreMaster (s : State) (n : Nat) : Master := if n = 0 then .keep else .pier (Fin.ofNat 67 n) ((s.core n).priv == 0)

/-- One entry drains. -/
def drainEntry (n : Nat) (e : StbEntry) (s : State) : State :=
  match e with
  | .data a w => s.setCore n ((s.core n).poke a w)
  | .io a w user => ioWrite (if n = 0 then .keep else .pier (Fin.ofNat 67 n) user) a w s

/-- The store buffer of core `n` drains in program order. -/
def drainCore (n : Nat) (s : State) : State :=
  let l := (s.core n).stb
  s.setCore n { s.core n with stb := [] } |>.each l (drainEntry n)

/-! ### Windows (R211–R213) -/

/-- The oldest resident frame. -/
def CoreState.oldest (c : CoreState) : Nat := (c.cwp + 16 - c.res) % 15

/-- Spills the oldest resident window into its record. -/
def CoreState.spill (c : CoreState) : CoreState :=
  let f := c.oldest
  let rec' := (Tab.get 0 c.recordOf f).toNat
  let c := (List.range 16).foldl (fun (d : CoreState) k => d.store (rec' + k) (Tab.get 0 c.w (16 * f + k))) c
  { c with res := c.res - 1 }

/-- Fills the frame of CWP from the record at `rec'`. -/
def CoreState.fill (c : CoreState) (rec' : Nat) : CoreState :=
  { c with w := (List.range 16).foldl (fun t k => Tab.set 0 t (16 * c.cwp + k) (c.load (rec' + k))) c.w, res := 1 }

/-- Spills where the windows are full: the core, and how many spilled. -/
def CoreState.makeRoom (c : CoreState) : CoreState × Nat := if c.res = 14 then (c.spill, 1) else (c, 0)

/-- Steps to the next window. -/
def CoreState.nextWindow (c : CoreState) : CoreState := { c with cwp := (c.cwp + 1) % 15, res := c.res + 1 }

/-- Steps back a window, with a fill from `rec'` where no window is left. -/
def CoreState.lastWindow (c : CoreState) (rec' : Nat) : CoreState × Nat :=
  let c := { c with cwp := (c.cwp + 14) % 15, res := c.res - 1 }
  if c.res = 0 then (c.fill rec', 1) else (c, 0)

/-- Pushes a shadow entry. -/
def CoreState.shadowPush (c : CoreState) (ra rec' : Word) : CoreState :=
  let ssp := c.ssp.toNat - 2
  { (c.store ssp ra).store (ssp + 1) rec' with ssp := BitVec.ofNat 24 ssp }

/-- Frames spilled (`fill = false`) or filled by core `n`: CORE_n_SPILL, CORE_n_FILL and the performance counters. -/
def windowCount (n : Nat) (fill : Bool) (k priv : Nat) (s : State) : State :=
  if k = 0 then s
  else
    let a := coreReg n (if fill then 0x13 else 0x12)
    (s.wr a (BitVec.ofNat 24 (min ((s.rd a).toNat + k) 0xFFFFFF))).pmcEvent
      { code := 5, src := some n, priv := some priv, amount := k }

/-- Core `n` uses `k` core cycles. -/
def useCycles (n k : Nat) (s : State) : State :=
  let c := s.core n
  (s.setCore n { c with used := c.used + k }).pmcEvent { code := 2, src := some n, priv := some c.priv, amount := k }

/-! ### What waits for the store buffer (R224) -/

/-- The oldest entry drains. -/
def drainOne (n : Nat) (s : State) : State :=
  match (s.core n).stb with
  | [] => s
  | e :: l => drainEntry n e (s.setCore n { s.core n with stb := l })

/-- One core cycle of a buffer with an entry at its head: a data word drains, and an OUT drains if its block accepts it in this cycle, which
the spec leaves open (free, log 90, DEDUCED). -/
def drainTry (n : Nat) (s : State) : Bool × State :=
  match (s.core n).stb with
  | [] => (true, s)
  | .data .. :: _ => (true, drainOne n s)
  | .io .. :: _ =>
    let (k, s) := s.useFree
    if Config.freeBit k then (true, drainOne n s) else (false, s)

/-- `k` core cycles in which the `old` oldest entries may drain. -/
def drainCycles (n : Nat) : Nat → Nat → State → State
  | 0, _, s => s
  | _, 0, s => s
  | k + 1, old + 1, s =>
    match drainTry n s with
    | (true, s) => drainCycles n k old s
    | (false, s) => drainCycles n k (old + 1) s

/-- What an instruction waits for at the store buffer before it is performed. -/
inductive StbWait where
  /-- Room for its own entries. -/
  | room (k : Nat)
  /-- Every earlier OUT has drained (IN). -/
  | outs
  /-- The buffer is empty (FENCE, TRAP 64–127). -/
  | empty
  deriving DecidableEq, Repr

/-- How many of the entries must drain first. -/
def StbWait.entries (w : StbWait) (l : List StbEntry) : Nat :=
  match w with
  | .room k => l.length + k - 8
  | .outs => l.length - (l.reverse.takeWhile fun e => match e with | .data .. => true | .io .. => false).length
  | .empty => l.length

/-- The `k` oldest entries drain while the core waits: the cycles, one for a data word and a free number for an OUT. -/
def drainWait (n : Nat) : Nat → State → Nat × State
  | 0, s => (0, s)
  | k + 1, s =>
    match (s.core n).stb with
    | [] => (0, s)
    | .data .. :: _ => let (c, s) := drainWait n k (drainOne n s); (c + 1, s)
    | .io .. :: _ =>
      let (i, s) := s.useFree
      let (c, s) := drainWait n k (drainOne n s)
      (c + 1 + (Config.freeWord i).toNat, s)

/-- The core stalls until its store buffer has what the instruction waits for: event 0x04. -/
def stbStall (n : Nat) (w : StbWait) (s : State) : State :=
  let k := w.entries (s.core n).stb
  if k = 0 then s
  else
    let (c, s) := drainWait n k s
    (useCycles n c s).pmcEvent { code := 4, src := some n, priv := some (s.core n).priv, amount := c }

/-- The core waits, in cycles of its own, until its store buffer is empty (R234). -/
def drainFirst (n : Nat) (s : State) : State :=
  let k := (s.core n).stb.length
  if k = 0 then s else let (c, s) := drainWait n k s; useCycles n c s

/-! ### The keystone's fetch path (R225–R227) -/

/-- The row that holds program address `a` (R204); those of the boot ROM are numbered from 2^20. -/
def rowOf (a : Nat) : Nat := if 0xF00000 ≤ a then 2 ^ 20 + (a - 0xF00000) / 12 else a / 12

/-- Whether the prefetch buffer or the branch cache holds row `r`. -/
def FetchPath.holds (f : FetchPath) (r : Nat) : Bool :=
  (match f.row with | some b => decide (b ≤ r ∧ r ≤ b + f.ahead) | none => false) || f.branch.any (·.2 == r)

/-- The running bank is busy with a row program or a sector erase, so that no row of it can be read (R226). Between the rows of a longer
work a read gets in. -/
def imageBusy (s : State) : Bool :=
  match (s.bank (runningBank s)).job with
  | none => false
  | some j => match j.work with
    | .sealRead .. | .digest .. => false
    | .program .. | .erase .. => true
    | _ => decide (s.tick - j.since < 63) || (s.tick - j.since) % 7 != 0

/-- An instruction of `len` parcels waits for a row that a busy bank holds (R226). -/
def fetchStalls (n len : Nat) (s : State) : Bool :=
  n == 0 && imageBusy s && (List.range len).any fun i =>
    let r := rowOf ((s.core 0).pc.toNat + i)
    decide (r < 2 ^ 20) && !s.kfetch.holds r

/-- The current row is `r`: the rows before it leave the buffer. -/
def FetchPath.moveTo (f : FetchPath) (r : Nat) : FetchPath :=
  match f.row with
  | some b => if b ≤ r ∧ r ≤ b + f.ahead then { f with row := some r, ahead := f.ahead - (r - b) } else { f with row := some r, ahead := 0, credit := 0 }
  | none => { f with row := some r, ahead := 0, credit := 0 }

/-- Core cycles of one row's read. -/
def rowCycles (r : Nat) : Nat := if r < 2 ^ 20 then 6 else 2

/-- `k` core cycles of reading ahead, up to three rows (R225). -/
def FetchPath.readAhead (f : FetchPath) (k : Nat) : FetchPath :=
  match f.row with
  | none => f
  | some b =>
    let c := rowCycles b
    let rows := min (3 - f.ahead) ((f.credit + k) / c)
    { f with ahead := f.ahead + rows, credit := if 3 ≤ f.ahead + rows then 0 else f.credit + k - rows * c }

/-- The keystone begins an instruction of `len` parcels and `k` cycles: its row is the current one. The first row into an empty buffer takes
its read. -/
def fetchSeq (n len k : Nat) (s : State) : State :=
  if n = 0 then
    let r := rowOf ((s.core 0).pc.toNat + (len - 1))
    let cold := if s.kfetch.row.isNone then rowCycles r else 0
    let f := s.kfetch.moveTo r
    let s := { s with kfetch := if imageBusy s then f else f.readAhead k }
    if cold = 0 then s else (useCycles 0 cold s).pmcEvent { code := 6, src := some 0, amount := cold }
  else s

/-- Further cycles of an instruction, in which the keystone reads ahead. -/
def fetchIdle (n k : Nat) (s : State) : State :=
  if n = 0 ∧ !imageBusy s then { s with kfetch := s.kfetch.readAhead k } else s

/-- The keystone's fetch after a change of flow (R225): the target row stands in the prefetch buffer or, for this target, in the branch cache; or
it takes 6 cycles more and enters the branch cache, which forgets what it used longest ago. (log 93, DEDUCED) -/
def fetchCost (n : Nat) (s : State) : State :=
  if n = 0 then
    let a := (s.core 0).pc.toNat
    let r := rowOf a
    let f := s.kfetch
    let inBuffer := match f.row with | some b => decide (b ≤ r ∧ r ≤ b + f.ahead) | none => false
    if inBuffer then { s with kfetch := f.moveTo r }
    else
      let hit := f.branch.contains (a, r)
      let s := { s with kfetch := { f.moveTo r with branch := ((a, r) :: f.branch.erase (a, r)).take 16 } }
      if hit then s else (useCycles 0 6 s).pmcEvent { code := 6, src := some 0, amount := 6 }
  else s

/-! ### Exception entry and return (R231–R238) -/

/-- A stack overflow (R237, R238): no handler runs. A pier stops FAULTED; the keystone stops and SAFE-HOLD follows. -/
def overflow (n v : Nat) (s : State) : State :=
  let s := setCoreState n 3 (s.wr (coreReg n 3) (BitVec.ofNat 24 (8 * 2 ^ 8 + v)))
  if n = 0 then { s with pwr := { s.pwr with safeHoldDue := s.pwr.safeHoldDue <|> some 2 } } else swLoseAck (pierParticipant n) s

/-- Whether an entry finds room for its record and its shadow entry (R234). A record that leaves data space finds none
(log 49, DEDUCED). -/
def entryFits (n : Nat) (c : CoreState) : Bool :=
  let g7 := (c.reg 7).toNat
  !decide (g7 < c.slim.toNat + 20 ∨ c.ssp.toNat < shadowBase n + 2)
    && !(c.priv == 0 && decide (g7 - 20 < c.udlo.toNat ∨ c.udhi.toNat < g7 - 1)) && decide (g7 ≤ shadowTop n)

/-- What exception entry makes of a core (R234), whose windows have room. -/
def entryCore (n v cause eval : Nat) (resume : Word) (c : CoreState) : CoreState :=
  let rec' := (c.reg 7).toNat - 20
  let recW : Word := BitVec.ofNat 24 rec'
  let cw : Word := BitVec.ofNat 24 cause
  let c1 := (((c.store (rec' + 19) cw).store (rec' + 18) c.psr).store (rec' + 17) resume).store (rec' + 16) c.rp
  let c2 := c1.shadowPush resume (recW ||| 0x800000)
  let c3 := { c2 with recordOf := Tab.set 0 c2.recordOf c2.cwp recW, rp := recW }
  let c4 := (c3.setReg 7 recW).nextWindow
  { c4 with
    epc := resume
    esr := c.psr
    ecause := cw
    eval := BitVec.ofNat 24 eval
    psr := Word.put (Word.put c.psr 19 18 (if n = 0 then 3 else 1)) 17 17 0
    pc := c.vbase + BitVec.ofNat 24 (2 * v)
    idle := false }

/-- Taking an exception (R234): vector `v`, the low bits of its cause (MARKF and NUM), EVAL and the resume address. A
CONTROL_FLOW of the keystone, and a FETCH with MARKF, put the device into SAFE-HOLD (R247). -/
def enter (n v low eval : Nat) (resume : Word) (s : State) : State :=
  let s := drainFirst n s
  let s := if n = 0 ∧ v = 7 then { s with pwr := { s.pwr with safeHoldDue := s.pwr.safeHoldDue <|> some 3 } }
    else if n = 0 ∧ v = 2 ∧ 128 ≤ low then { s with pwr := { s.pwr with safeHoldDue := s.pwr.safeHoldDue <|> some 4 } } else s
  let c := s.core n
  if !entryFits n c then overflow n v s
  else
    let (c', k) := c.makeRoom
    let s := s.setCore n (entryCore n v (v * 2 ^ 8 + low) eval resume c')
    let s := windowCount n false k c.priv (useCycles n (6 + 16 * k) s)
    fetchCost n (s.pmcEvent { code := 7, src := some n, priv := some c.priv })

/-! ### The frame of an instruction -/

/-- What an instruction comes to (R233). -/
inductive Done where
  /-- It is performed, in a number of core cycles; a change of flow may cost the keystone more. -/
  | next (s : State) (cycles : Nat) (flow : Bool)
  /-- It raises a vector and is left unperformed. -/
  | fault (s : State) (v eval : Nat)
  /-- It is performed and then raises a vector, with the low bits of the cause. -/
  | after (s : State) (cycles v low eval : Nat)

/-- TRACE (R281): the fetch address of a traced pier goes into the trace buffer, which keeps the last 4,096 (log 50, DEDUCED). -/
def traceFetch (n : Nat) (pc : Word) (s : State) : State :=
  if s.lcy.traced.contains n then
    let l := s.lcy.trace ++ [pc]
    { s with lcy := { s.lcy with trace := l.drop (l.length - 4096) } }
  else s

/-- An instruction of `len` parcels at the program counter of core `n`, which waits for its store buffer as `w` says; the older entries drain in
its cycles. The body sees the core with PC at the next instruction. The keystone waits for a row that it cannot read (R226).
(log 89, DESIGN CHOICE) (log 90, DEDUCED) (log 95, DEDUCED) -/
def instructionAt (w : StbWait) (n len : Nat) (body : CoreState → State → Done) (s : State) : State :=
  if !executing s n || (s.core n).idle || fetchStalls n len s then s
  else
    let c := s.core n
    let s := fetchSeq n len 1 (traceFetch n c.pc s)
    match (List.range len).find? fun i => !mayFetch n c (c.pc.toNat + i) with
    | some i => enter n 2 0 (c.pc.toNat + i) c.pc s
    | none =>
      let s := stbStall n w s
      let old := (s.core n).stb.length
      match body { s.core n with pc := c.pc + BitVec.ofNat 24 len } s with
      | .next s k flow =>
        let s := drainCycles n k old ((useCycles n k s).pmcEvent { code := 3, src := some n, priv := some c.priv })
        if flow then fetchCost n s else fetchIdle n (k - 1) s
      | .fault s v eval => enter n v 0 eval c.pc s
      | .after s k v low eval =>
        let s := (useCycles n k s).pmcEvent { code := 3, src := some n, priv := some c.priv }
        enter n v low eval (c.pc + BitVec.ofNat 24 len) s

/-- An instruction that takes no place in the store buffer and does not wait for it. -/
def instruction (n len : Nat) (body : CoreState → State → Done) (s : State) : State := instructionAt (.room 0) n len body s

/-- An instruction whose whole effect is on its core. -/
def coreOnly (n cycles : Nat) (f : CoreState → CoreState) (c : CoreState) (s : State) : Done :=
  .next (s.setCore n (f c)) cycles false

/-! ### Calls and returns (R212, R235) -/

/-- call(target) of R212: the core with PC at the return address. -/
def callOp (n : Nat) (target : Word) (c : CoreState) (s : State) : Done :=
  let g7 := (c.reg 7).toNat
  if g7 < c.slim.toNat + 18 ∨ c.ssp.toNat < shadowBase n + 2 then .fault s 8 0
  else
    match dataFault n c false (g7 - 1), dataFault n c false (g7 - 2) with
    | some v, _ => .fault s v (g7 - 1)
    | none, some v => .fault s v (g7 - 2)
    | none, none =>
      let rec' := g7 - 18
      let recW : Word := BitVec.ofNat 24 rec'
      let (c1, k) := c.makeRoom
      let c2 := { c1 with stb := c1.stb ++ [StbEntry.data (rec' + 17) c.pc, StbEntry.data (rec' + 16) c.rp] }
      let c3 := c2.shadowPush c.pc recW
      let c4 := { c3 with recordOf := Tab.set 0 c3.recordOf c3.cwp recW, rp := recW }
      let c5 := (c4.setReg 7 recW).nextWindow
      .next (windowCount n false k c.priv (s.setCore n { c5 with pc := target })) (4 + 16 * k) true

/-- Reads a list of data addresses: the first that may not be read, as a fault. -/
def readFault (n : Nat) (c : CoreState) (l : List Nat) (s : State) : Option Done :=
  l.findSome? fun a => (dataFault n c false a).map fun v => .fault s v a

/-- The word marks of the data words that a return reads (R206, R233): a word whose mark fails raises MARK with its address. The
record of the window that a fill loads is read with them; a word that the store buffer answers is not read (R224). -/
def markFault (c : CoreState) (bad : Option Word) (l : List Nat) (s : State) : Option Done :=
  let reads := (l ++ (if c.res = 1 then (List.range 16).map (c.rp.toNat + ·) else [])).filter fun a => (c.pending a).isNone
  match bad with
  | some a => if a.toNat ∈ reads then some (.fault (markMismatch s) 6 a.toNat) else none
  | none => none

/-- ret of R212. -/
def retOp (n : Nat) (bad : Option Word) (c : CoreState) (s : State) : Done :=
  let rp := c.rp.toNat
  let ssp := c.ssp.toNat
  if ssp = shadowTop n then .fault s 7 rp
  else
    match readFault n c [rp + 17, rp + 16] s <|> markFault c bad [rp + 17, rp + 16, ssp, ssp + 1] s with
    | some d => d
    | none =>
      let ra := c.load (rp + 17)
      if c.load ssp ≠ ra ∨ c.load (ssp + 1) ≠ c.rp then .fault s 7 rp
      else
        let (c1, k) := { c with ssp := c.ssp + 2 }.lastWindow rp
        let c2 := c1.setReg 7 (BitVec.ofNat 24 (rp + 18))
        .next (windowCount n true k c.priv (s.setCore n { c2 with rp := c.load (rp + 16), pc := ra })) (4 + 16 * k) true

/-- eret of R235. On the keystone PRIV stays 3 (R209). -/
def eretOp (n : Nat) (bad : Option Word) (c : CoreState) (s : State) : Done :=
  let rp := c.rp.toNat
  let ssp := c.ssp.toNat
  if c.priv = 0 then .fault s 1 0x3F21
  else if ssp = shadowTop n then .fault s 7 rp
  else
    match readFault n c [rp + 17, rp + 18, rp + 16] s <|> markFault c bad [rp + 17, rp + 18, rp + 16, ssp, ssp + 1] s with
    | some d => d
    | none =>
      let p := c.load (rp + 18) &&& 0xFE0000
      if c.load (ssp + 1) ≠ c.rp ||| 0x800000 ∨ c.load ssp ≠ c.load (rp + 17) ∨ c.priv < Word.slice p 19 18 ∨ Word.slice p 19 18 = 2 then .fault s 7 rp
      else
        let (c1, k) := { c with ssp := c.ssp + 2 }.lastWindow rp
        let c2 := c1.setReg 7 (BitVec.ofNat 24 (rp + 20))
        let psr := if n = 0 then Word.put p 19 18 3 else p
        .next (windowCount n true k c.priv (s.setCore n { c2 with rp := c.load (rp + 16), psr := psr, pc := c.load (rp + 17) }))
          (4 + 16 * k) true

/-- FLUSH (R213): every resident window but the current one is spilled. -/
def flushOp (n : Nat) (c : CoreState) (s : State) : Done :=
  if c.priv = 0 then .fault s 1 0x3F24
  else
    let k := c.res - 1
    let c' := (List.range k).foldl (fun (c : CoreState) _ => c.spill) c
    .next (windowCount n false k c.priv (s.setCore n c')) (1 + 16 * k) false

/-! ### Interrupts (R239) -/

/-- An enabled pending interrupt is taken, at an instruction boundary or out of WAIT. -/
def takeInterrupt (n : Nat) (s : State) : State :=
  let c := s.core n
  let on := enabledPending s n
  if executing s n && Word.bit c.psr 17 && on != 0 then
    let low := ((List.range 24).find? fun k => on.testBit k).getD 0
    enter n 11 low (ipend s n) c.pc (s.setCore n { c with idle := false })
  else s

end Sys2Proof.Machine
end

