-- ==== Sys2Proof/Machine/KonusInstr.lean ====
section
/-! DEFINITION. The instructions of the Konus-24 (R217–R221), one operation and one meaning for each; the decoding of
parcels (R216), which a debug step and a fetched reserved encoding use. -/

namespace Sys2Proof.Machine

/-! ### Shared forms -/

/-- `d` takes a result with its flags. -/
def putFlags (d : Nat) (r : Word × Flags) (c : CoreState) : CoreState := { c.setReg d r.1 with psr := withFlags c.psr r.2 }

/-- `d` takes a logical result: NZ. -/
def putNZ (d : Nat) (r : Word) (c : CoreState) : CoreState := putFlags d (r, flagsNZ (flagsOf c.psr) r) c

/-- `d` takes a shifted value: NZC. -/
def putShift (d : Nat) (r : Word × Option Bool) (c : CoreState) : CoreState :=
  putFlags d (r.1, flagsShift (flagsOf c.psr) r.1 r.2) c

/-- The flags alone. -/
def putOnly (r : Word × Flags) (c : CoreState) : CoreState := { c with psr := withFlags c.psr r.2 }
def putOnlyNZ (r : Word) (c : CoreState) : CoreState := putOnly (r, flagsNZ (flagsOf c.psr) r) c

/-- The carry of a core. -/
def CoreState.carry (c : CoreState) : Bool := (flagsOf c.psr).c

/-- A branch by `o` from the first parcel of an instruction of `len` parcels. -/
def branchTo (len : Nat) (o : Word) (c : CoreState) : Word := c.pc - BitVec.ofNat 24 len + o

/-- N, Z and V of a division; C is unchanged (R221). -/
def divFlags (c : CoreState) (r : Word) (v : Bool) : Flags := ⟨r.msb, r == 0, c.carry, v⟩

/-! ### The instructions -/

/-- MOV d, s (R217). -/
def opMov (n : Nat) (d r : Fin 32) : CoreState → State → Done :=
  coreOnly n 1 (fun c => c.setReg d (c.reg r))

/-- ADD d, s (R217). -/
def opAdd (n : Nat) (d r : Fin 32) : CoreState → State → Done :=
  coreOnly n 1 (fun c => putFlags d (addFlags (c.reg d) (c.reg r) false) c)

/-- SUB d, s (R217). -/
def opSub (n : Nat) (d r : Fin 32) : CoreState → State → Done :=
  coreOnly n 1 (fun c => putFlags d (subFlags (c.reg d) (c.reg r) true) c)

/-- CMP d, s (R217). -/
def opCmp (n : Nat) (d r : Fin 32) : CoreState → State → Done :=
  coreOnly n 1 (fun c => putOnly (subFlags (c.reg d) (c.reg r) true) c)

/-- AND d, s (R217). -/
def opAnd (n : Nat) (d r : Fin 32) : CoreState → State → Done :=
  coreOnly n 1 (fun c => putNZ d (c.reg d &&& c.reg r) c)

/-- OR d, s (R217). -/
def opOr (n : Nat) (d r : Fin 32) : CoreState → State → Done :=
  coreOnly n 1 (fun c => putNZ d (c.reg d ||| c.reg r) c)

/-- XOR d, s (R217). -/
def opXor (n : Nat) (d r : Fin 32) : CoreState → State → Done :=
  coreOnly n 1 (fun c => putNZ d (c.reg d ^^^ c.reg r) c)

/-- ADDQ d, #i (R217). -/
def opAddq (n : Nat) (d : Fin 32) (i : BitVec 5) : CoreState → State → Done :=
  coreOnly n 1 (fun c => putFlags d (addFlags (c.reg d) (sextWord i) false) c)

/-- MOVQ d, #i (R217). -/
def opMovq (n : Nat) (d : Fin 32) (i : BitVec 5) : CoreState → State → Done :=
  coreOnly n 1 (fun c => c.setReg d (sextWord i))

/-- SHLI d, #n (R217). -/
def opShli (n : Nat) (d : Fin 32) (k : Fin 24) : CoreState → State → Done :=
  coreOnly n 1 (fun c => putShift d (shlOut (c.reg d) k) c)

/-- SHRI d, #n (R217). -/
def opShri (n : Nat) (d : Fin 32) (k : Fin 24) : CoreState → State → Done :=
  coreOnly n 1 (fun c => putShift d (shrOut (c.reg d) k) c)

/-- ASRI d, #n (R217). -/
def opAsri (n : Nat) (d : Fin 32) (k : Fin 24) : CoreState → State → Done :=
  coreOnly n 1 (fun c => putShift d (asrOut (c.reg d) k) c)

/-- B.cc, short or long (R217): the short form takes a 6-bit offset. -/
def opBcc (n : Nat) (cc : Fin 15) (long : Bool) (o : BitVec 18) : CoreState → State → Done := fun c s =>
  if condition cc (flagsOf c.psr) then
    .next (s.setCore n { c with pc := branchTo (if long then 2 else 1) (if long then sextWord o else sextWord (o.setWidth 6)) c }) 3 true
  else .next (s.setCore n c) 1 false

/-- CALL label (R212, R217). -/
def opCall (n : Nat) (o : BitVec 21) : CoreState → State → Done := fun c s => callOp n (branchTo 2 (sextWord o) c) c s

/-- NOT d (R218). -/
def opNot (n : Nat) (d : Fin 32) : CoreState → State → Done :=
  coreOnly n 1 (fun c => putNZ d (~~~ c.reg d) c)

/-- NEG d (R218). -/
def opNeg (n : Nat) (d : Fin 32) : CoreState → State → Done :=
  coreOnly n 1 (fun c => putFlags d (subFlags 0 (c.reg d) true) c)

/-- JMP s (R218). -/
def opJmp (n : Nat) (r : Fin 32) : CoreState → State → Done := fun c s => .next (s.setCore n { c with pc := c.reg r }) 3 true

/-- CALLR s (R212, R218). -/
def opCallr (n : Nat) (r : Fin 32) : CoreState → State → Done := fun c s => callOp n (c.reg r) c s

/-- RET (R212, R218). -/
def opRet (n : Nat) (bad : Option Word) : CoreState → State → Done := fun c s => retOp n bad c s

/-- NOP (R218). -/
def opCoreNop (n : Nat) : CoreState → State → Done :=
  coreOnly n 1 (fun c => c)

/-- PUSH s (R214, R218): g7 steps first, and then the register is stored (log 48, DEDUCED). -/
def opPush (n : Nat) (r : Fin 32) : CoreState → State → Done := fun c s =>
  let g7 := (c.reg 7).toNat
  if g7 < c.slim.toNat + 1 then .fault s 8 0
  else
    match dataFault n c true (g7 - 1) with
    | some v => .fault s v (g7 - 1)
    | none =>
      let c := c.setReg 7 (BitVec.ofNat 24 (g7 - 1))
      .next (s.setCore n { c with stb := c.stb ++ [StbEntry.data (g7 - 1) (c.reg r)] }) 1 false

/-- POP d (R218): the register is loaded first, and then g7 steps (log 48, DEDUCED). -/
def opPop (n : Nat) (d : Fin 32) (markOk : Bool) : CoreState → State → Done := fun c s =>
  let a := (c.reg 7).toNat
  match dataFault n c false a with
  | some v => .fault s v a
  | none =>
    if !markOk && (c.pending a).isNone then .fault (markMismatch s) 6 a
    else
      let c := c.setReg d (c.load a)
      .next (s.setCore n (c.setReg 7 (c.reg 7 + 1))) 2 false

/-- LDI d, #i (R219). -/
def opLdi (n : Nat) (d : Fin 32) (i : BitVec 16) : CoreState → State → Done :=
  coreOnly n 1 (fun c => c.setReg d (sextWord i))

/-- LDH d, #i (R219). -/
def opLdh (n : Nat) (d : Fin 32) (i : BitVec 16) : CoreState → State → Done :=
  coreOnly n 1 (fun c => c.setReg d (zextWord i <<< 8))

/-- ADDI d, #i (R219). -/
def opAddi (n : Nat) (d : Fin 32) (i : BitVec 16) : CoreState → State → Done :=
  coreOnly n 1 (fun c => putFlags d (addFlags (c.reg d) (sextWord i) false) c)

/-- ANDI d, #i (R219). -/
def opAndi (n : Nat) (d : Fin 32) (i : BitVec 16) : CoreState → State → Done :=
  coreOnly n 1 (fun c => putNZ d (c.reg d &&& zextWord i) c)

/-- ORI d, #i (R219). -/
def opOri (n : Nat) (d : Fin 32) (i : BitVec 16) : CoreState → State → Done :=
  coreOnly n 1 (fun c => putNZ d (c.reg d ||| zextWord i) c)

/-- XORI d, #i (R219). -/
def opXori (n : Nat) (d : Fin 32) (i : BitVec 16) : CoreState → State → Done :=
  coreOnly n 1 (fun c => putNZ d (c.reg d ^^^ zextWord i) c)

/-- CMPI d, #i (R219). -/
def opCmpi (n : Nat) (d : Fin 32) (i : BitVec 16) : CoreState → State → Done :=
  coreOnly n 1 (fun c => putOnly (subFlags (c.reg d) (sextWord i) true) c)

/-- TSTI d, #i (R219). -/
def opTsti (n : Nat) (d : Fin 32) (i : BitVec 16) : CoreState → State → Done :=
  coreOnly n 1 (fun c => putOnlyNZ (c.reg d &&& zextWord i) c)

/-- LD d, [b + o] (R220). -/
def opLd (n : Nat) (d b : Fin 32) (o : BitVec 10) (markOk : Bool) : CoreState → State → Done := fun c s =>
  let a := effAddr c b o
  match dataFault n c false a with
  | some v => .fault s v a
  | none =>
    if !markOk && (c.pending a).isNone then .fault (markMismatch s) 6 a
    else .next ((s.setCore n (c.setReg d (c.load a))).pmcEvent { code := 9, src := some n, priv := some c.priv, addr := some a }) 2 false

/-- ST s, [b + o] (R220), through the store buffer. -/
def opSt (n : Nat) (r b : Fin 32) (o : BitVec 10) : CoreState → State → Done := fun c s =>
  let a := effAddr c b o
  match dataFault n c true a with
  | some v => .fault s v a
  | none =>
    .next ((s.setCore n { c with stb := c.stb ++ [StbEntry.data a (c.reg r)] }).pmcEvent
      { code := 9, src := some n, priv := some c.priv, addr := some a }) 1 false

/-- IN d, [b + o] (R30, R220): 4 to 40 cycles, which is free (log 4, DESIGN CHOICE). (log 96, DEDUCED) -/
def opInp (n : Nat) (d b : Fin 32) (o : BitVec 10) (markOk : Bool) : CoreState → State → Done := fun c s =>
  let a := effAddr c b o
  let m := coreMaster s n
  let (k, s) := s.useFree
  let cycles := 4 + (Config.freeWord k).toNat % 37
  let e : PmcEvent := { code := 8, src := some n, priv := some c.priv, addr := some a }
  if mayRead s m a then
    if !markOk then .fault (markMismatch s) 6 a
    else
      let (w, s) := ioRead m a s
      -- the registers of the core as the read left them, with d and PC
      let c' := (s.core n).setReg d w
      .next ((s.setCore n { c' with pc := c.pc }).pmcEvent e) cycles false
  else if n = 0 then .next ((s.setCore n (c.setReg d 0)).pmcEvent e) cycles false
  else .after ((s.setCore n (c.setReg d 0)).pmcEvent e) cycles 5 0 a

/-- OUT s, [b + o] (R30, R220), through the store buffer; the grant is checked when the instruction issues (R233). -/
def opOut (n : Nat) (r b : Fin 32) (o : BitVec 10) : CoreState → State → Done := fun c s =>
  let a := effAddr c b o
  let e : PmcEvent := { code := 8, src := some n, priv := some c.priv, addr := some a }
  if mayWrite s (coreMaster s n) a then
    .next ((s.setCore n { c with stb := c.stb ++ [StbEntry.io a (c.reg r) (c.priv == 0)] }).pmcEvent e) 1 false
  else if n = 0 then .next ((s.setCore n c).pmcEvent e) 1 false
  else .after ((s.setCore n c).pmcEvent e) 1 5 0 a

/-- ADC d, s (R221). -/
def opAdc (n : Nat) (d r : Fin 32) : CoreState → State → Done :=
  coreOnly n 1 (fun c => putFlags d (addFlags (c.reg d) (c.reg r) c.carry) c)

/-- SBC d, s (R221). -/
def opSbc (n : Nat) (d r : Fin 32) : CoreState → State → Done :=
  coreOnly n 1 (fun c => putFlags d (subFlags (c.reg d) (c.reg r) c.carry) c)

/-- TST d, s (R221). -/
def opTst (n : Nat) (d r : Fin 32) : CoreState → State → Done :=
  coreOnly n 1 (fun c => putOnlyNZ (c.reg d &&& c.reg r) c)

/-- MUL d, s (R221). -/
def opMul (n : Nat) (d r : Fin 32) : CoreState → State → Done :=
  coreOnly n 2 (fun c => putNZ d (c.reg d * c.reg r) c)

/-- MULHU d, s (R221). -/
def opMulhu (n : Nat) (d r : Fin 32) : CoreState → State → Done :=
  coreOnly n 2 (fun c => putNZ d (BitVec.ofNat 24 ((c.reg d).toNat * (c.reg r).toNat / 2 ^ 24)) c)

/-- MULHS d, s (R221). -/
def opMulhs (n : Nat) (d r : Fin 32) : CoreState → State → Done :=
  coreOnly n 2 (fun c => putNZ d (BitVec.ofInt 24 ((c.reg d).toInt * (c.reg r).toInt / 2 ^ 24)) c)

/-- DIVU d, s (R221). -/
def opDivu (n : Nat) (d r : Fin 32) : CoreState → State → Done :=
  coreOnly n 26 <| fun c =>
  if c.reg r = 0 then putFlags d (0xFFFFFF, divFlags c 0xFFFFFF true) c
  else putFlags d (c.reg d / c.reg r, divFlags c (c.reg d / c.reg r) false) c

/-- REMU d, s (R221). -/
def opRemu (n : Nat) (d r : Fin 32) : CoreState → State → Done :=
  coreOnly n 26 <| fun c =>
  if c.reg r = 0 then putOnly (c.reg d, divFlags c (c.reg d) true) c
  else putFlags d (c.reg d % c.reg r, divFlags c (c.reg d % c.reg r) false) c

/-- SHLV d, s (R221). -/
def opShlv (n : Nat) (d r : Fin 32) : CoreState → State → Done :=
  coreOnly n 1 (fun c => putShift d (shlOut (c.reg d) ((c.reg r).toNat % 32)) c)

/-- SHRV d, s (R221). -/
def opShrv (n : Nat) (d r : Fin 32) : CoreState → State → Done :=
  coreOnly n 1 (fun c => putShift d (shrOut (c.reg d) ((c.reg r).toNat % 32)) c)

/-- ASRV d, s (R221). -/
def opAsrv (n : Nat) (d r : Fin 32) : CoreState → State → Done :=
  coreOnly n 1 (fun c => putShift d (asrOut (c.reg d) ((c.reg r).toNat % 32)) c)

/-- RORI d, #n (R221): C is result bit 23. -/
def opRori (n : Nat) (d : Fin 32) (k : Fin 24) : CoreState → State → Done :=
  coreOnly n 1 <| fun c =>
  let v := (c.reg d).rotateRight k
  putShift d (v, some v.msb) c

/-- CLZ d, s (R221): Z alone follows. -/
def opClz (n : Nat) (d r : Fin 32) : CoreState → State → Done :=
  coreOnly n 1 <| fun c =>
  let k := ((List.range 24).find? fun i => (c.reg r).getLsbD (23 - i)).getD 24
  putFlags d (BitVec.ofNat 24 k, { flagsOf c.psr with z := k == 0 }) c

/-- MOVC d, s, cc (R221). -/
def opMovc (n : Nat) (d r : Fin 32) (cc : Fin 15) : CoreState → State → Done :=
  coreOnly n 1 (fun c => if condition cc (flagsOf c.psr) then c.setReg d (c.reg r) else c)

/-- MFS d, sr (R208, R221): CYCLO latches CYCHI for the core (R6). -/
def opMfs (n : Nat) (d sr : Fin 32) : CoreState → State → Done := fun c s =>
  match srFault c sr false with
  | some v => .fault s v 0x3F10
  | none =>
    let lo := coreReg n 0x10
    if sr.val = 14 then
      .next ((latchUpper (coreMaster s n) lo s).setCore n (c.setReg d (BitVec.ofNat 24 (coreCycles s n)))) 1 false
    else if sr.val = 15 then .next (s.setCore n (c.setReg d (latched s n (lo + 1)))) 1 false
    else .next (s.setCore n (c.setReg d (srValue n c sr))) 1 false

/-- MTS sr, s (R208, R221, R236). -/
def opMts (n : Nat) (sr r : Fin 32) : CoreState → State → Done := fun c s =>
  match srFault c sr true with
  | some v => .fault s v 0x3F11
  | none => .next (s.setCore n (srWrite n c sr (c.reg r))) 1 false

/-- TRAP #n (R221, R231, R241). -/
def opTrap (n : Nat) (num : Fin 128) : CoreState → State → Done := fun c s =>
  if n = 0 then .fault s 0 0x3F20
  else if num.val < 64 then .after (s.setCore n c) 0 10 num.val 0
  else if c.priv = 0 then .fault s 1 0x3F20
  else .next (callPost n num.val (s.setCore n c)) 1 false

/-- TRAP 64–127 is posted with the store buffer empty (R240). -/
def trapWait (num : Nat) : StbWait := if num < 64 then .room 0 else .empty

/-- ERET (R221, R235). -/
def opEret (n : Nat) (bad : Option Word) : CoreState → State → Done := fun c s => eretOp n bad c s

/-- WAIT (R221). -/
def opWait (n : Nat) : CoreState → State → Done := fun c s => .next (s.setCore n { c with idle := enabledPending s n == 0 }) 1 false

/-- FENCE (R221, R224): the store buffer is empty when it ends. -/
def opFence (n : Nat) : CoreState → State → Done :=
  coreOnly n 1 (fun c => c)

/-- FLUSH (R213, R221). -/
def opFlush (n : Nat) : CoreState → State → Done := fun c s => flushOp n c s

/-- BKPT (R221). -/
def opBkpt (n : Nat) : CoreState → State → Done := fun c s => .after (s.setCore n c) 0 9 0 0

/-! ### Their meanings -/

/-- MOV d, s (R217). -/
def execMov (n : Fin 67) (d r : Fin 32) (s : State) : Out := .next (instruction n 1 (opMov n d r) s)

/-- ADD d, s (R217). -/
def execAdd (n : Fin 67) (d r : Fin 32) (s : State) : Out := .next (instruction n 1 (opAdd n d r) s)

/-- SUB d, s (R217). -/
def execSub (n : Fin 67) (d r : Fin 32) (s : State) : Out := .next (instruction n 1 (opSub n d r) s)

/-- CMP d, s (R217). -/
def execCmp (n : Fin 67) (d r : Fin 32) (s : State) : Out := .next (instruction n 1 (opCmp n d r) s)

/-- AND d, s (R217). -/
def execAnd (n : Fin 67) (d r : Fin 32) (s : State) : Out := .next (instruction n 1 (opAnd n d r) s)

/-- OR d, s (R217). -/
def execOr (n : Fin 67) (d r : Fin 32) (s : State) : Out := .next (instruction n 1 (opOr n d r) s)

/-- XOR d, s (R217). -/
def execXor (n : Fin 67) (d r : Fin 32) (s : State) : Out := .next (instruction n 1 (opXor n d r) s)

/-- ADDQ d, #i (R217). -/
def execAddq (n : Fin 67) (d : Fin 32) (i : BitVec 5) (s : State) : Out := .next (instruction n 1 (opAddq n d i) s)

/-- MOVQ d, #i (R217). -/
def execMovq (n : Fin 67) (d : Fin 32) (i : BitVec 5) (s : State) : Out := .next (instruction n 1 (opMovq n d i) s)

/-- SHLI d, #n (R217). -/
def execShli (n : Fin 67) (d : Fin 32) (k : Fin 24) (s : State) : Out := .next (instruction n 1 (opShli n d k) s)

/-- SHRI d, #n (R217). -/
def execShri (n : Fin 67) (d : Fin 32) (k : Fin 24) (s : State) : Out := .next (instruction n 1 (opShri n d k) s)

/-- ASRI d, #n (R217). -/
def execAsri (n : Fin 67) (d : Fin 32) (k : Fin 24) (s : State) : Out := .next (instruction n 1 (opAsri n d k) s)

/-- B.cc, short or long (R217): the short form takes a 6-bit offset. -/
def execBcc (n : Fin 67) (cc : Fin 15) (long : Bool) (o : BitVec 18) (s : State) : Out := .next (instruction n (if long then 2 else 1) (opBcc n cc long o) s)

/-- CALL label (R212, R217). -/
def execCall (n : Fin 67) (o : BitVec 21) (s : State) : Out := .next (instructionAt (.room 2) n 2 (opCall n o) s)

/-- NOT d (R218). -/
def execNot (n : Fin 67) (d : Fin 32) (s : State) : Out := .next (instruction n 1 (opNot n d) s)

/-- NEG d (R218). -/
def execNeg (n : Fin 67) (d : Fin 32) (s : State) : Out := .next (instruction n 1 (opNeg n d) s)

/-- JMP s (R218). -/
def execJmp (n : Fin 67) (r : Fin 32) (s : State) : Out := .next (instruction n 1 (opJmp n r) s)

/-- CALLR s (R212, R218). -/
def execCallr (n : Fin 67) (r : Fin 32) (s : State) : Out := .next (instructionAt (.room 2) n 1 (opCallr n r) s)

/-- RET (R212, R218). -/
def execRet (n : Fin 67) (bad : Option Word) (s : State) : Out := .next (instruction n 1 (opRet n bad) s)

/-- NOP (R218). -/
def execCoreNop (n : Fin 67) (s : State) : Out := .next (instruction n 1 (opCoreNop n) s)

/-- PUSH s (R214, R218): g7 steps first, and then the register is stored (log 48, DEDUCED). -/
def execPush (n : Fin 67) (r : Fin 32) (s : State) : Out := .next (instructionAt (.room 1) n 1 (opPush n r) s)

/-- POP d (R218): the register is loaded first, and then g7 steps (log 48, DEDUCED). -/
def execPop (n : Fin 67) (d : Fin 32) (markOk : Bool) (s : State) : Out := .next (instruction n 1 (opPop n d markOk) s)

/-- LDI d, #i (R219). -/
def execLdi (n : Fin 67) (d : Fin 32) (i : BitVec 16) (s : State) : Out := .next (instruction n 2 (opLdi n d i) s)

/-- LDH d, #i (R219). -/
def execLdh (n : Fin 67) (d : Fin 32) (i : BitVec 16) (s : State) : Out := .next (instruction n 2 (opLdh n d i) s)

/-- ADDI d, #i (R219). -/
def execAddi (n : Fin 67) (d : Fin 32) (i : BitVec 16) (s : State) : Out := .next (instruction n 2 (opAddi n d i) s)

/-- ANDI d, #i (R219). -/
def execAndi (n : Fin 67) (d : Fin 32) (i : BitVec 16) (s : State) : Out := .next (instruction n 2 (opAndi n d i) s)

/-- ORI d, #i (R219). -/
def execOri (n : Fin 67) (d : Fin 32) (i : BitVec 16) (s : State) : Out := .next (instruction n 2 (opOri n d i) s)

/-- XORI d, #i (R219). -/
def execXori (n : Fin 67) (d : Fin 32) (i : BitVec 16) (s : State) : Out := .next (instruction n 2 (opXori n d i) s)

/-- CMPI d, #i (R219). -/
def execCmpi (n : Fin 67) (d : Fin 32) (i : BitVec 16) (s : State) : Out := .next (instruction n 2 (opCmpi n d i) s)

/-- TSTI d, #i (R219). -/
def execTsti (n : Fin 67) (d : Fin 32) (i : BitVec 16) (s : State) : Out := .next (instruction n 2 (opTsti n d i) s)

/-- LD d, [b + o] (R220). -/
def execLd (n : Fin 67) (d b : Fin 32) (o : BitVec 10) (markOk : Bool) (s : State) : Out := .next (instruction n 2 (opLd n d b o markOk) s)

/-- ST s, [b + o] (R220), through the store buffer. -/
def execSt (n : Fin 67) (r b : Fin 32) (o : BitVec 10) (s : State) : Out := .next (instructionAt (.room 1) n 2 (opSt n r b o) s)

/-- IN d, [b + o] (R30, R220): 4 to 40 cycles, which is free (log 4, DESIGN CHOICE). -/
def execInp (n : Fin 67) (d b : Fin 32) (o : BitVec 10) (markOk : Bool) (s : State) : Out := .next (instructionAt .outs n 2 (opInp n d b o markOk) s)

/-- OUT s, [b + o] (R30, R220), through the store buffer; the grant is checked when the instruction issues (R233). -/
def execOut (n : Fin 67) (r b : Fin 32) (o : BitVec 10) (s : State) : Out := .next (instructionAt (.room 1) n 2 (opOut n r b o) s)

/-- ADC d, s (R221). -/
def execAdc (n : Fin 67) (d r : Fin 32) (s : State) : Out := .next (instruction n 2 (opAdc n d r) s)

/-- SBC d, s (R221). -/
def execSbc (n : Fin 67) (d r : Fin 32) (s : State) : Out := .next (instruction n 2 (opSbc n d r) s)

/-- TST d, s (R221). -/
def execTst (n : Fin 67) (d r : Fin 32) (s : State) : Out := .next (instruction n 2 (opTst n d r) s)

/-- MUL d, s (R221). -/
def execMul (n : Fin 67) (d r : Fin 32) (s : State) : Out := .next (instruction n 2 (opMul n d r) s)

/-- MULHU d, s (R221). -/
def execMulhu (n : Fin 67) (d r : Fin 32) (s : State) : Out := .next (instruction n 2 (opMulhu n d r) s)

/-- MULHS d, s (R221). -/
def execMulhs (n : Fin 67) (d r : Fin 32) (s : State) : Out := .next (instruction n 2 (opMulhs n d r) s)

/-- DIVU d, s (R221). -/
def execDivu (n : Fin 67) (d r : Fin 32) (s : State) : Out := .next (instruction n 2 (opDivu n d r) s)

/-- REMU d, s (R221). -/
def execRemu (n : Fin 67) (d r : Fin 32) (s : State) : Out := .next (instruction n 2 (opRemu n d r) s)

/-- SHLV d, s (R221). -/
def execShlv (n : Fin 67) (d r : Fin 32) (s : State) : Out := .next (instruction n 2 (opShlv n d r) s)

/-- SHRV d, s (R221). -/
def execShrv (n : Fin 67) (d r : Fin 32) (s : State) : Out := .next (instruction n 2 (opShrv n d r) s)

/-- ASRV d, s (R221). -/
def execAsrv (n : Fin 67) (d r : Fin 32) (s : State) : Out := .next (instruction n 2 (opAsrv n d r) s)

/-- RORI d, #n (R221): C is result bit 23. -/
def execRori (n : Fin 67) (d : Fin 32) (k : Fin 24) (s : State) : Out := .next (instruction n 2 (opRori n d k) s)

/-- CLZ d, s (R221): Z alone follows. -/
def execClz (n : Fin 67) (d r : Fin 32) (s : State) : Out := .next (instruction n 2 (opClz n d r) s)

/-- MOVC d, s, cc (R221). -/
def execMovc (n : Fin 67) (d r : Fin 32) (cc : Fin 15) (s : State) : Out := .next (instruction n 2 (opMovc n d r cc) s)

/-- MFS d, sr (R208, R221): CYCLO latches CYCHI for the core (R6). -/
def execMfs (n : Fin 67) (d sr : Fin 32) (s : State) : Out := .next (instruction n 2 (opMfs n d sr) s)

/-- MTS sr, s (R208, R221, R236). -/
def execMts (n : Fin 67) (sr r : Fin 32) (s : State) : Out := .next (instruction n 2 (opMts n sr r) s)

/-- TRAP #n (R221, R231, R241). -/
def execTrap (n : Fin 67) (num : Fin 128) (s : State) : Out := .next (instructionAt (trapWait num) n 2 (opTrap n num) s)

/-- ERET (R221, R235). -/
def execEret (n : Fin 67) (bad : Option Word) (s : State) : Out := .next (instruction n 2 (opEret n bad) s)

/-- WAIT (R221). -/
def execWait (n : Fin 67) (s : State) : Out := .next (instruction n 2 (opWait n) s)

/-- FENCE (R221, R224): the store buffer is empty when it ends. -/
def execFence (n : Fin 67) (s : State) : Out := .next (instructionAt .empty n 2 (opFence n) s)

/-- FLUSH (R213, R221). -/
def execFlush (n : Fin 67) (s : State) : Out := .next (instruction n 2 (opFlush n) s)

/-- BKPT (R221). -/
def execBkpt (n : Fin 67) (s : State) : Out := .next (instruction n 2 (opBkpt n) s)

/-- A core instruction as a step of its core: what a debug step performs. -/
def coreStep (i : Instr) (s : State) : State :=
  match i with
  | .mov n d r => instruction n 1 (opMov n d r) s
  | .add n d r => instruction n 1 (opAdd n d r) s
  | .sub n d r => instruction n 1 (opSub n d r) s
  | .cmp n d r => instruction n 1 (opCmp n d r) s
  | .and n d r => instruction n 1 (opAnd n d r) s
  | .or n d r => instruction n 1 (opOr n d r) s
  | .xor n d r => instruction n 1 (opXor n d r) s
  | .addq n d i => instruction n 1 (opAddq n d i) s
  | .movq n d i => instruction n 1 (opMovq n d i) s
  | .shli n d k => instruction n 1 (opShli n d k) s
  | .shri n d k => instruction n 1 (opShri n d k) s
  | .asri n d k => instruction n 1 (opAsri n d k) s
  | .bcc n cc long o => instruction n (if long then 2 else 1) (opBcc n cc long o) s
  | .call n o => instructionAt (.room 2) n 2 (opCall n o) s
  | .not n d => instruction n 1 (opNot n d) s
  | .neg n d => instruction n 1 (opNeg n d) s
  | .jmp n r => instruction n 1 (opJmp n r) s
  | .callr n r => instructionAt (.room 2) n 1 (opCallr n r) s
  | .ret n bad => instruction n 1 (opRet n bad) s
  | .coreNop n => instruction n 1 (opCoreNop n) s
  | .push n r => instructionAt (.room 1) n 1 (opPush n r) s
  | .pop n d markOk => instruction n 1 (opPop n d markOk) s
  | .ldi n d i => instruction n 2 (opLdi n d i) s
  | .ldh n d i => instruction n 2 (opLdh n d i) s
  | .addi n d i => instruction n 2 (opAddi n d i) s
  | .andi n d i => instruction n 2 (opAndi n d i) s
  | .ori n d i => instruction n 2 (opOri n d i) s
  | .xori n d i => instruction n 2 (opXori n d i) s
  | .cmpi n d i => instruction n 2 (opCmpi n d i) s
  | .tsti n d i => instruction n 2 (opTsti n d i) s
  | .ld n d b o markOk => instruction n 2 (opLd n d b o markOk) s
  | .st n r b o => instructionAt (.room 1) n 2 (opSt n r b o) s
  | .inp n d b o markOk => instructionAt .outs n 2 (opInp n d b o markOk) s
  | .out n r b o => instructionAt (.room 1) n 2 (opOut n r b o) s
  | .adc n d r => instruction n 2 (opAdc n d r) s
  | .sbc n d r => instruction n 2 (opSbc n d r) s
  | .tst n d r => instruction n 2 (opTst n d r) s
  | .mul n d r => instruction n 2 (opMul n d r) s
  | .mulhu n d r => instruction n 2 (opMulhu n d r) s
  | .mulhs n d r => instruction n 2 (opMulhs n d r) s
  | .divu n d r => instruction n 2 (opDivu n d r) s
  | .remu n d r => instruction n 2 (opRemu n d r) s
  | .shlv n d r => instruction n 2 (opShlv n d r) s
  | .shrv n d r => instruction n 2 (opShrv n d r) s
  | .asrv n d r => instruction n 2 (opAsrv n d r) s
  | .rori n d k => instruction n 2 (opRori n d k) s
  | .clz n d r => instruction n 2 (opClz n d r) s
  | .movc n d r cc => instruction n 2 (opMovc n d r cc) s
  | .mfs n d sr => instruction n 2 (opMfs n d sr) s
  | .mts n sr r => instruction n 2 (opMts n sr r) s
  | .trap n num => instructionAt (trapWait num) n 2 (opTrap n num) s
  | .eret n bad => instruction n 2 (opEret n bad) s
  | .wait n => instruction n 2 (opWait n) s
  | .fence n => instructionAt .empty n 2 (opFence n) s
  | .flush n => instruction n 2 (opFlush n) s
  | .bkpt n => instruction n 2 (opBkpt n) s
  | _ => s

/-! ### Decoding (R216–R221) -/

/-- Bits [hi:lo] of a parcel. -/
def parcelBits (p : BitVec 14) (hi lo : Nat) : Nat := p.toNat / 2 ^ lo % 2 ^ (hi + 1 - lo)

/-- Whether an instruction that begins with this parcel has a second one. -/
def twoParcels (p : BitVec 14) : Bool := decide (14 ≤ parcelBits p 13 10)

/-- A register field. -/
def regField (k : Nat) : Fin 32 := Fin.ofNat 32 k

/-- The groups of one parcel but the shifts and Miscellaneous 1. -/
def decodeOne (n : Fin 67) (p : BitVec 14) : Option Instr :=
  let d := regField (parcelBits p 9 5)
  let r := regField (parcelBits p 4 0)
  let i := BitVec.ofNat 5 (parcelBits p 4 0)
  let k := parcelBits p 4 0
  let shift (f : Fin 24 → Instr) : Option Instr := if h : k < 24 then some (f ⟨k, h⟩) else none
  match parcelBits p 13 10 with
  | 0 => some (.mov n d r)
  | 1 => some (.add n d r)
  | 2 => some (.sub n d r)
  | 3 => some (.cmp n d r)
  | 4 => some (.and n d r)
  | 5 => some (.or n d r)
  | 6 => some (.xor n d r)
  | 7 => some (.addq n d i)
  | 8 => some (.movq n d i)
  | 9 => shift (.shli n d)
  | 10 => shift (.shri n d)
  | 11 => shift (.asri n d)
  | 12 =>
    let cc := parcelBits p 9 6
    if h : cc < 15 then some (.bcc n ⟨cc, h⟩ false ((BitVec.ofNat 6 (parcelBits p 5 0)).signExtend 18)) else none
  | _ =>
    match parcelBits p 9 5 with
    | 0 => some (.not n r)
    | 1 => some (.neg n r)
    | 2 => some (.jmp n r)
    | 3 => some (.callr n r)
    | 4 => if k = 0 then some (.ret n none) else none
    | 5 => if k = 0 then some (.coreNop n) else none
    | 6 => some (.push n r)
    | 7 => some (.pop n r true)
    | _ => none

/-- Miscellaneous 2 (R221): sub-operation `p`, fields `d`, `r`, `x`, and the whole second parcel. -/
def decodeMisc2 (n : Fin 67) (p d r x p1 : Nat) : Option Instr :=
  let two (f : Fin 32 → Fin 32 → Instr) : Option Instr := if x = 0 then some (f (regField d) (regField r)) else none
  let bare (i : Instr) : Option Instr := if p1 = 0 then some i else none
  match p with
  | 0x00 => two (.adc n)
  | 0x01 => two (.sbc n)
  | 0x02 => two (.tst n)
  | 0x03 => two (.mul n)
  | 0x04 => two (.mulhu n)
  | 0x05 => two (.mulhs n)
  | 0x06 => two (.divu n)
  | 0x07 => two (.remu n)
  | 0x08 => two (.shlv n)
  | 0x09 => two (.shrv n)
  | 0x0A => two (.asrv n)
  | 0x0B => if h : r < 24 ∧ x = 0 then some (.rori n (regField d) ⟨r, h.1⟩) else none
  | 0x0C => two (.clz n)
  | 0x0D => if h : x < 15 then some (.movc n (regField d) (regField r) ⟨x, h⟩) else none
  | 0x10 => two (.mfs n)
  | 0x11 => two (.mts n)
  | 0x20 => if p1 < 128 then some (.trap n (Fin.ofNat 128 p1)) else none
  | 0x21 => bare (.eret n none)
  | 0x22 => bare (.wait n)
  | 0x23 => bare (.fence n)
  | 0x24 => bare (.flush n)
  | 0x25 => bare (.bkpt n)
  | _ => none

/-- The groups of two parcels. -/
def decodeTwo (n : Fin 67) (p q : BitVec 14) : Option Instr :=
  if parcelBits p 13 10 = 14 then
    let d := regField (parcelBits p 9 5)
    let i := BitVec.ofNat 16 (parcelBits p 1 0 * 2 ^ 14 + q.toNat)
    match parcelBits p 4 2 with
    | 0 => some (.ldi n d i)
    | 1 => some (.ldh n d i)
    | 2 => some (.addi n d i)
    | 3 => some (.andi n d i)
    | 4 => some (.ori n d i)
    | 5 => some (.xori n d i)
    | 6 => some (.cmpi n d i)
    | _ => some (.tsti n d i)
  else
    match parcelBits p 9 8 with
    | 0 =>
      let d := regField (parcelBits p 4 0)
      let b := regField (parcelBits q 13 9)
      let o := BitVec.ofNat 10 (parcelBits p 5 5 * 2 ^ 9 + parcelBits q 8 0)
      match parcelBits p 7 6 with
      | 0 => some (.ld n d b o true)
      | 1 => some (.st n d b o)
      | 2 => some (.inp n d b o true)
      | _ => some (.out n d b o)
    | 1 =>
      let cc := parcelBits p 7 4
      if h : cc < 15 then some (.bcc n ⟨cc, h⟩ true (BitVec.ofNat 18 (parcelBits p 3 0 * 2 ^ 14 + q.toNat))) else none
    | 2 => if parcelBits p 7 7 = 0 then some (.call n (BitVec.ofNat 21 (parcelBits p 6 0 * 2 ^ 14 + q.toNat))) else none
    | _ => decodeMisc2 n (parcelBits p 7 0) (parcelBits q 13 9) (parcelBits q 8 4) (parcelBits q 3 0) q.toNat

/-- The instruction that core `n` reads from two parcels; `none` for a reserved encoding. -/
def decodeParcels (n : Fin 67) (p q : BitVec 14) : Option Instr := if twoParcels p then decodeTwo n p q else decodeOne n p

/-- A fetched encoding (R216): a reserved one raises ILLEGAL; another one is performed. -/
def runParcels (n : Fin 67) (p q : BitVec 14) (s : State) : State :=
  match decodeParcels n p q with
  | some i => coreStep i s
  | none => instruction n (if twoParcels p then 2 else 1) (fun _ s => .fault s 0 p.toNat) s

/-- The row behind a failed fetch of the keystone may be uncorrectable in the array (R253), which is free (log 4, DESIGN CHOICE). -/
def fetchRowFail (n a : Nat) (s : State) : State :=
  if n = 0 ∧ a < 0x18000 then
    let (k, s) := s.useFree
    if Config.freeBit k then readRow (runningBank s) (a / 12) 3 s else s
  else s

/-- A fetch that meets a program mark mismatch at parcel `i` of its instruction (R206, R228), or an uncorrectable row (R253): FETCH with MARKF,
at the parcel concerned, unless an address before it may not be fetched. -/
def fetchMarkFail (n i : Nat) (s : State) : State :=
  if !executing s n || (s.core n).idle then s
  else
    let c := s.core n
    let s := traceFetch n c.pc s
    match (List.range (i + 1)).find? fun j => !mayFetch n c (c.pc.toNat + j) with
    | some j => enter n 2 0 (c.pc.toNat + j) c.pc s
    | none => enter n 2 0x80 (c.pc.toNat + i) c.pc (fetchRowFail n (c.pc.toNat + i) s)

/-- The parcel at a program address (R204): of the running bank's image, or of a pier's program SRAM; the boot ROM's content
is not given, and is free (log 4, DESIGN CHOICE). -/
def fetchParcel (n : Nat) (a : Nat) (s : State) : BitVec 14 × State :=
  if n ≠ 0 then (Tab.get 0 (s.core n).prog a, s)
  else if a < 0x18000 then
    (BitVec.ofNat 14 ((rowData (s.nvaRow (runningBank s) (a / 12))).toNat / 2 ^ (14 * (a % 12))), s)
  else
    let (k, s) := s.useFree
    ((Config.freeWord k).setWidth 14, s)

/-- Core `n` performs the instruction at its program counter: a debug step (R281). -/
def stepCore (n : Fin 67) (s : State) : State :=
  let pc := (s.core n).pc.toNat
  let (p, s) := fetchParcel n pc s
  let (q, s) := fetchParcel n (pc + 1) s
  runParcels n p q s

/-! ### Interrupts, reserved encodings, lockstep -/

/-- INTERRUPT (R239). -/
def execInterrupt (n : Fin 67) (s : State) : Out := .next (takeInterrupt n s)

/-- ILLEGAL_INSTRUCTION (R216): the core fetches these parcels; the mark of one of them may fail (R206). -/
def execIllegalInstruction (n : Fin 67) (p q : BitVec 14) (bad : Option (Fin 2)) (s : State) : Out :=
  match bad with
  | some i => .next (if i.val = 0 ∨ twoParcels p then fetchMarkFail n i.val s else runParcels n p q s)
  | none => .next (runParcels n p q s)

/-- CORE_LOCKSTEP_MISMATCH (R202). -/
def execCoreLockstepMismatch (n : Fin 67) (s : State) : Out := .next (lockstepFail n s)

end Sys2Proof.Machine
end

