-- ==== Sys2Proof/Machine/Rows.lean ====
section
/-! DEFINITION. The commands that are a write or a read of one register (R4, R6, R7, R29, R30). Every one goes through the
grants and then through the register's own write or read; a row fixes the address and the field that makes it that row. -/

namespace Sys2Proof.Machine

/-- Whether the main domain runs: it is powered and out of reset and of power-fail hold (R434, R438). -/
def powered (s : State) : Bool := s.pwr.phase == .run || s.pwr.phase == .warned

/-- An effect of the main domain, which has none while the device is held (R434, R438). (log 122, DEDUCED) -/
def live (f : State → State) (s : State) : State := if powered s then f s else s

/-- An access out of grant (R30): a pier takes IO_RIGHTS, a host's access is counted. -/
def accessRefused (m : Master) (a : Nat) (s : State) : State :=
  match m with
  | .pier n _ => if executing s n then enter n 5 0 a (s.core n).pc s else s
  | .pf | .vf _ => hifCount 6 s
  | _ => s

/-- A write of `w` at `a` by master `m`. -/
def regWrite (m : Master) (a : Nat) (w : Word) (s : State) : State :=
  if !powered s then s else if mayWrite s m a then ioWrite m a w s else accessRefused m a s

/-- The word mark of a read fails (R2, R4): source 47; a host's read is answered as poisoned and counted, a core takes
MARK. (log 20, DEDUCED) -/
def readMarkFail (m : Master) (a : Nat) (s : State) : State :=
  let s := { markMismatch s with answered := false }
  match m with
  | .keep => if executing s 0 then enter 0 6 0 a (s.core 0).pc s else s
  | .pier n _ => if executing s n then enter n 6 0 a (s.core n).pc s else s
  | .pf | .vf _ => hifCount 7 s
  | .debug => s

/-- A read of `a` by master `m`: the word goes into `answer`. -/
def regRead (m : Master) (a : Nat) (markOk : Bool) (s : State) : State :=
  if !powered s then s
  else if !mayRead s m a then { accessRefused m a s with answer := 0, answered := true }
  else if !markOk then readMarkFail m a s
  else { (ioRead m a s).2 with answer := (ioRead m a s).1, answered := true }

/-! ### Stroke unit -/

/-- STK_FWD_GO (R43). -/
def execStkFwdGo (m : Master) (w : Word) (s : State) : Out := .next (regWrite m 0x00000B (Word.put w 0 0 1) s)

/-- STK_PLAN_DATA (R46). -/
def execStkPlanData (m : Master) (w : Word) (s : State) : Out := .next (regWrite m 0x000011 w s)

/-- STK_PLAN_CHECK (R47). -/
def execStkPlanCheck (m : Master) (w : Word) (s : State) : Out := .next (regWrite m 0x000012 (Word.put w 0 0 1) s)

/-- OP = ARM in STK_SWk_CTL (R55). -/
def execArm (m : Master) (k : Fin 4) (w : Word) (s : State) : Out := .next (regWrite m (swReg k 0) (Word.put w 1 0 1) s)

/-- OP = CANCEL in STK_SWk_CTL (R59). -/
def execCancel (m : Master) (k : Fin 4) (w : Word) (s : State) : Out := .next (regWrite m (swReg k 0) (Word.put w 1 0 2) s)

/-- A write of a PART word of a slot (R55). -/
def execSwitchPartAdd (m : Master) (k : Fin 4) (j : Fin 6) (w : Word) (s : State) : Out :=
  .next (regWrite m (swReg k (8 + j)) w s)

/-- STK_SW_PACK (R56). -/
def execStkSwPack (m : Master) (w : Word) (s : State) : Out := .next (regWrite m 0x0000C0 w s)

/-- STK_TREQ (R60). -/
def execStkTreq (m : Master) (w : Word) (s : State) : Out := .next (regWrite m 0x000130 w s)

/-- URG_CLR in STK_TASKt_CFG (R64). -/
def execUrgClr (m : Master) (t : Fin 8) (w : Word) (s : State) : Out := .next (regWrite m (taskReg t) (Word.put w 23 23 1) s)

/-- CNT_CLR in STK_EVT (R65). -/
def execStkCntClr (m : Master) (w : Word) (s : State) : Out := .next (regWrite m 0x000005 (Word.put w 23 23 1) s)

/-! ### Ports, deck and spans -/

/-- A read of DCK_CQq_RXDESC (R87). -/
def execCqRxdescRead (m : Master) (q : Fin 8) (s : State) : Out := .next (regRead m (cqReg q 0) true s)

/-- A read of DCK_CQq_RXDATA (R87). -/
def execCqRxdataRead (m : Master) (q : Fin 8) (s : State) : Out := .next (regRead m (cqReg q 1) true s)

/-- DCK_CQq_RXDONE (R84). -/
def execCqRxdone (m : Master) (q : Fin 8) (w : Word) (s : State) : Out := .next (regWrite m (cqReg q 2) (Word.put w 0 0 1) s)

/-- DCK_CQq_TXDATA (R464). -/
def execCqTxdata (m : Master) (q : Fin 8) (w : Word) (s : State) : Out := .next (regWrite m (cqReg q 3) w s)

/-- DCK_CQq_TXSEND (R464). -/
def execCqTxsend (m : Master) (q : Fin 8) (w : Word) (s : State) : Out := .next (regWrite m (cqReg q 4) w s)

/-- CNT_CLR in PRT_GRPg_EVT (R86). -/
def execPrtCntClr (m : Master) (g : Fin 8) (w : Word) (s : State) : Out :=
  .next (regWrite m (grpReg g 2) (Word.put w 23 23 1) s)

/-- CNT_CLR in DCK_EVT (R87). -/
def execDckCntClr (m : Master) (w : Word) (s : State) : Out := .next (regWrite m 0x018003 (Word.put w 23 23 1) s)

/-- GO in SPN_SWAP (R115). -/
def execSpnSwap (m : Master) (w : Word) (s : State) : Out := .next (regWrite m 0x021C03 (Word.put w 23 23 1) s)

/-- A read of SPN_PNEV_STAT (R117). -/
def execPnevStatRead (m : Master) (s : State) : Out := .next (regRead m 0x021C08 true s)

/-- SPN_PNEV_POP (R117). -/
def execPnevPop (m : Master) (w : Word) (s : State) : Out := .next (regWrite m 0x021C0A (Word.put w 0 0 1) s)

/-- CNT_CLR in SPN_EVT (R117). -/
def execSpnCntClr (m : Master) (w : Word) (s : State) : Out := .next (regWrite m 0x021C01 (Word.put w 23 23 1) s)

/-! ### Placement -/

/-- GO in PLC_PWIN_CTL (R141). -/
def execPlateSnapshot (m : Master) (w : Word) (s : State) : Out := .next (regWrite m 0x030031 (Word.put w 23 23 1) s)

/-- DRAIN = 1 in SDC_c_CFG (R139). -/
def execDrain (m : Master) (c : Fin 2) (w : Word) (s : State) : Out := .next (regWrite m (sdcReg c 0) (Word.put w 11 11 1) s)

/-- DRAIN = 0 in SDC_c_CFG (R364). -/
def execDrainReturn (m : Master) (c : Fin 2) (w : Word) (s : State) : Out :=
  .next (regWrite m (sdcReg c 0) (Word.put w 11 11 0) s)

/-- CNT_CLR in PLC_EVT (R141). -/
def execPlcCntClr (m : Master) (w : Word) (s : State) : Out := .next (regWrite m 0x030002 (Word.put w 23 23 1) s)

/-- CNT_CLR in SDC_c_EVT (R142). -/
def execSdcCntClr (m : Master) (c : Fin 2) (w : Word) (s : State) : Out :=
  .next (regWrite m (sdcReg c 2) (Word.put w 23 23 1) s)

/-! ### Gravers and the key store -/

/-- OP = CLAIM in GRV_n_AUTH (R151). -/
def execClaim (m : Master) (n : Fin 16) (w : Word) (s : State) : Out := .next (regWrite m (grvReg n 3) (Word.put w 23 22 1) s)

/-- OP = COMMIT in GRV_n_AUTH (R152). -/
def execCommit (m : Master) (n : Fin 16) (w : Word) (s : State) : Out := .next (regWrite m (grvReg n 3) (Word.put w 23 22 2) s)

/-- OP = RELEASE in GRV_n_AUTH (R169). -/
def execRelease (m : Master) (n : Fin 16) (w : Word) (s : State) : Out := .next (regWrite m (grvReg n 3) (Word.put w 23 22 3) s)

/-- GRV_n_CMD.ABORT (R155). -/
def execJobAbort (m : Master) (n : Fin 16) (w : Word) (s : State) : Out := .next (regWrite m (grvReg n 2) (Word.put w 0 0 1) s)

/-- GRV_n_LDATA (R159). -/
def execListWrite (m : Master) (n : Fin 16) (w : Word) (s : State) : Out := .next (regWrite m (grvReg n 0x11) w s)

/-- GRV_n_BDATA (R158). -/
def execBankAccess (m : Master) (n : Fin 16) (w : Option Word) (s : State) : Out :=
  match w with
  | some v => .next (regWrite m (grvReg n 0x13) v s)
  | none => .next (regRead m (grvReg n 0x13) true s)

/-- GRV_DRAIN (R166). -/
def execGraverDrain (m : Master) (w : Word) (s : State) : Out := .next (regWrite m 0x041001 w s)

/-- CNT_CLR in GRV_EVT (R169). -/
def execGrvCntClr (m : Master) (w : Word) (s : State) : Out := .next (regWrite m 0x041002 (Word.put w 23 23 1) s)

/-- CNT_CLR in KEY_EVT (R200). -/
def execKeyCntClr (m : Master) (w : Word) (s : State) : Out := .next (regWrite m 0x050002 (Word.put w 23 23 1) s)

/-! ### Cores -/

/-- A write of CORE_n_CTL; a core whose RUN is cleared stops, drains its store buffer and is held (R229, R240). -/
def coreCtl (m : Master) (n : Nat) (w : Word) (s : State) : State :=
  let t := regWrite m (coreReg n 0) w s
  if coreRun s n && !coreRun t n then coreHold n (drainCore n t) else t

/-- RUN in CORE_n_CTL (R229). -/
def execRun (m : Master) (n : Fin 67) (w : Word) (s : State) : Out := .next (coreCtl m n w s)

/-- RESET in CORE_n_CTL (R229). -/
def execCoreReset (m : Master) (n : Fin 67) (w : Word) (s : State) : Out := .next (coreCtl m n (Word.put w 22 22 1) s)

/-- PCLR in CORE_n_CTL (R228). -/
def execPclr (m : Master) (n : Fin 67) (w : Word) (s : State) : Out := .next (coreCtl m n (Word.put w 21 21 1) s)

/-- DIG in CORE_n_CTL (R228). -/
def execDig (m : Master) (n : Fin 67) (w : Word) (s : State) : Out := .next (coreCtl m n (Word.put w 20 20 1) s)

/-- LOAD_EN in CORE_n_CTL (R228). -/
def execLoadEn (m : Master) (n : Fin 67) (w : Word) (s : State) : Out := .next (coreCtl m n w s)

/-- CORE_n_PLD_DATA (R228). -/
def execPldData (m : Master) (n : Fin 67) (w : Word) (s : State) : Out := .next (regWrite m (coreReg n 9) w s)

/-- GO in CORE_n_KDONE (R243). -/
def execKdone (m : Master) (n : Fin 67) (w : Word) (s : State) : Out := .next (regWrite m (coreReg n 0x58) (Word.put w 23 23 1) s)

/-- CORE_n_DDATA (R244). -/
def execDdata (m : Master) (n : Fin 67) (w : Option Word) (s : State) : Out :=
  match w with
  | some v => .next (regWrite m (coreReg n 0x61) v s)
  | none => .next (regRead m (coreReg n 0x61) true s)

/-- A core's operation that a boundary ends, taken once it is due. -/
def execCoreResetDone (n : Fin 67) (s : State) : Out := .next (live (coreResetDone n) s)

/-- PCLR ends (R228). -/
def execPclrDone (n : Fin 67) (s : State) : Out := .next (live (pclrDone n) s)

/-- DIG ends (R228). -/
def execDigDone (n : Fin 67) (s : State) : Out := .next (live (digDone n) s)

/-- The call's pier goes on (R243). -/
def execKcallRelease (n : Fin 67) (s : State) : Out := .next (live (kcallRelease n) s)

/-- A spare pier takes a faulted pier's place at the boundary (R237), or the place of one that has stopped answering the
keystone (R28). -/
def execPierSpareStart (n : Fin 67) (answers : Bool) (s : State) : Out :=
  .next (live (fun s => pierReplace n (s.onlyIf (!answers) (pierSilent n))) s)

/-! ### Nonvolatile array -/

/-- A GO of NVA_b_CMD with an operation (R254). -/
def nvaGo (m : Master) (b op : Nat) (w : Word) (s : State) : State :=
  regWrite m (nvaReg b 0) (Word.put (Word.put w 23 23 1) 22 20 op) s

/-- PROGRAM (R254). -/
def execProgram (m : Master) (b : Fin 2) (w : Word) (s : State) : Out := .next (nvaGo m b 1 w s)

/-- ERASE (R254). -/
def execErase (m : Master) (b : Fin 2) (w : Word) (s : State) : Out := .next (nvaGo m b 2 w s)

/-- SEAL_WRITE (R256). -/
def execSealWrite (m : Master) (b : Fin 2) (w : Word) (s : State) : Out := .next (nvaGo m b 3 w s)

/-- SEAL_READ (R256). -/
def execSealRead (m : Master) (b : Fin 2) (w : Word) (s : State) : Out := .next (nvaGo m b 4 w s)

/-- NVA_b_RADDR (R254). -/
def execReadWindow (m : Master) (b : Fin 2) (w : Word) (s : State) : Out := .next (regWrite m (nvaReg b 4) w s)

/-- GO in NVA_SWAP (R259). -/
def execNvaSwap (m : Master) (w : Word) (s : State) : Out := .next (regWrite m 0x060004 (Word.put w 0 0 1) s)

/-- GO in NVA_DIG_CTL (R260). -/
def execDigest (m : Master) (w : Word) (s : State) : Out := .next (regWrite m 0x060008 (Word.put w 23 23 1) s)

/-- CNT_CLR in NVA_EVT (R270). -/
def execNvaCntClr (m : Master) (w : Word) (s : State) : Out := .next (regWrite m 0x060002 (Word.put w 23 23 1) s)

/-! ### Life cycle, parapet, entropy -/

/-- LCS_NEXT (R275). -/
def execLcsNext (m : Master) (w : Word) (s : State) : Out := .next (regWrite m 0x070002 w s)

/-- RELEASE in PPT_CTL (R298). -/
def execParapetRelease (m : Master) (w : Word) (s : State) : Out := .next (regWrite m 0x080001 (Word.put w 22 22 1) s)

/-- ERASE in PPT_CTL (R299). -/
def execParapetErase (m : Master) (w : Word) (s : State) : Out := .next (regWrite m 0x080001 (Word.put w 21 21 1) s)

/-- PPT_TREC_CLR (R303). -/
def execTrecClr (m : Master) (w : Word) (s : State) : Out := .next (regWrite m 0x080042 (Word.put w 0 0 1) s)

/-- PPT_GRDn_SEED_HI, which loads the seed (R290). -/
def execGuardSeed (m : Master) (i : Fin 16) (w : Word) (s : State) : Out := .next (regWrite m (0x080061 + 2 * i) w s)

/-- CNT_CLR in PPT_EVT (R304). -/
def execPptCntClr (m : Master) (w : Word) (s : State) : Out := .next (regWrite m 0x080002 (Word.put w 23 23 1) s)

/-- A read of ENT_i_DATA (R311). -/
def execEntDataRead (m : Master) (i : Fin 6) (s : State) : Out := .next (regRead m (drbgReg i 0) true s)

/-- A read of ENT_i_STAT (R314). -/
def execEntStatRead (m : Master) (i : Fin 6) (s : State) : Out := .next (regRead m (drbgReg i 1) true s)

/-- CNT_CLR in ENT_EVT (R316). -/
def execEntCntClr (m : Master) (w : Word) (s : State) : Out := .next (regWrite m 0x090002 (Word.put w 23 23 1) s)

/-! ### Host interface -/

/-- A doorbell (R319). -/
def execDoorbell (m : Master) (g : Fin 520) (w : Word) (s : State) : Out := .next (regWrite m (ringBase g + 5) w s)

/-- EN = 1 (R319). -/
def execRingEnable (m : Master) (g : Fin 520) (w : Word) (s : State) : Out :=
  .next (regWrite m (ringBase g) (Word.put w 23 23 1) s)

/-- EN = 0 (R319). -/
def execRingDisable (m : Master) (g : Fin 520) (w : Word) (s : State) : Out :=
  .next (regWrite m (ringBase g) (Word.put w 23 23 0) s)

/-- CNT_CLR in HIF_EVT (R338). -/
def execHifCntClr (m : Master) (w : Word) (s : State) : Out := .next (regWrite m 0x0A0001 (Word.put w 23 23 1) s)

/-! ### Viaduct -/

/-- HANDOVER in VDT_CTL (R361). -/
def execVdtHandover (m : Master) (w : Word) (s : State) : Out := .next (regWrite m 0x0B0004 (Word.put w 23 23 1) s)

/-- UNPAIR in VDT_CTL (R341). -/
def execUnpair (m : Master) (w : Word) (s : State) : Out := .next (regWrite m 0x0B0004 (Word.put w 22 22 1) s)

/-- RESYNC in VDT_CTL (R348). -/
def execResync (m : Master) (w : Word) (s : State) : Out := .next (regWrite m 0x0B0004 (Word.put w 21 21 1) s)

/-- CNT_CLR in VDT_EVT (R369). -/
def execVdtCntClr (m : Master) (w : Word) (s : State) : Out := .next (regWrite m 0x0B0002 (Word.put w 23 23 1) s)

/-! ### Custodian interfaces -/

/-- A command register's write by a master that may make it, with what the token or card will answer. -/
def guarded (m : Master) (a : Nat) (f : State → State) (s : State) : State :=
  if !powered s then s else if mayWrite s m a then f s else accessRefused m a s

/-- CLR_CMD with operation `op` (R384). -/
def clrOp (m : Master) (op : Nat) (w : Word) (o : ClrOutcome) (acked : Bool) (s : State) : State :=
  guarded m 0x0C0004 (clrCmdWrite (Word.put w 23 20 op) o acked) s

/-- SEARCH (R374). -/
def execClrSearch (m : Master) (w : Word) (found : List Token) (restarts : Nat) (s : State) : Out :=
  if found.all fun t => t.uid.length == 7 || (!t.utvetos && (t.uid.length == 4 || t.uid.length == 10)) then
    .next (clrOp m 1 w (.tokens found restarts) false s)
  else .fault .malformed

/-- ACTIVATE (R376). -/
def execClrActivate (m : Master) (w : Word) (a : Answer) (rate : BitVec 2) (s : State) : Out :=
  .next (clrOp m 2 w (.answer a rate.toNat) false s)

/-- EXCHANGE (R382). -/
def execClrExchange (m : Master) (w : Word) (a : Answer) (s : State) : Out := .next (clrOp m 3 w (.answer a 0) false s)

/-- DEACTIVATE (R376). -/
def execClrDeactivate (m : Master) (w : Word) (a : Answer) (s : State) : Out := .next (clrOp m 4 w (.answer a 0) false s)

/-- QUIET (R379). -/
def execClrQuiet (m : Master) (w : Word) (s : State) : Out := .next (clrOp m 5 w .open_ false s)

/-- UNLOCK (R380). -/
def execClrUnlock (m : Master) (w : Word) (reply : Option Byte) (s : State) : Out := .next (clrOp m 6 w (.unlock reply) false s)

/-- ABORT (R383). -/
def execClrAbort (m : Master) (w : Word) (acked : Bool) (s : State) : Out := .next (clrOp m 7 w .open_ acked s)

/-- FIELD_OFF (R381). -/
def execFieldOff (m : Master) (w : Word) (s : State) : Out := .next (clrOp m 8 w .open_ false s)

/-- CNT_CLR in CLR_EVT (R384). -/
def execClrCntClr (m : Master) (w : Word) (s : State) : Out := .next (regWrite m 0x0C0002 (Word.put w 23 23 1) s)

/-- ICC_CMD with operation `op` (R396). -/
def iccOp (m : Master) (op : Nat) (w : Word) (o : IccOutcome) (s : State) : State :=
  guarded m 0x0C1004 (iccCmdWrite (Word.put w 23 20 op) o) s

/-- ACTIVATE (R385). -/
def execIccActivate (m : Master) (w : Word) (atr : Option Bytes) (s : State) : Out := .next (iccOp m 1 w (.atr atr) s)

/-- EXCHANGE (R386). -/
def execIccExchange (m : Master) (w : Word) (a : Answer) (s : State) : Out := .next (iccOp m 2 w (.answer a) s)

/-- DEACTIVATE (R387). -/
def execIccDeactivate (m : Master) (w : Word) (s : State) : Out := .next (iccOp m 3 w .open_ s)

/-- ABORT (R396). -/
def execIccAbort (m : Master) (w : Word) (s : State) : Out := .next (iccOp m 4 w .open_ s)

/-- RESYNCH (R386). -/
def execIccResynch (m : Master) (w : Word) (ok : Bool) (s : State) : Out := .next (iccOp m 5 w (.resynch ok) s)

/-- CNT_CLR in ICC_EVT (R396). -/
def execIccCntClr (m : Master) (w : Word) (s : State) : Out := .next (regWrite m 0x0C1002 (Word.put w 23 23 1) s)

/-- RMC_CMD with operation `op` (R397). -/
def rmcOp (m : Master) (op : Nat) (w : Word) (o : RmcOutcome) (s : State) (use : BoxUse := .raw) : State :=
  guarded m 0x0C2004 (rmcCmdWrite (Word.put w 23 20 op) o use) s

/-- INIT (R389). -/
def execRmcInit (m : Master) (w : Word) (ccs : Bool) (mode : Fin 6) (blocks : BitVec 32) (tuned : Bool) (s : State) : Out :=
  .next (rmcOp m 1 w (.init ccs mode blocks.toNat tuned) s)

/-- READ (R389): blocks of 512 bytes. -/
def execRmcRead (m : Master) (w : Word) (data : List Bytes) (crcOk retryOk r1Ok : Bool) (use : BoxUse) (s : State) : Out :=
  if data.all fun b => b.length == 512 then .next (rmcOp m 2 w (.read data crcOk retryOk r1Ok) s use) else .fault .malformed

/-- WRITE (R391). -/
def execRmcWrite (m : Master) (w : Word) (r1Ok : Bool) (use : BoxUse) (s : State) : Out := .next (rmcOp m 3 w (.write r1Ok) s use)

/-- ABORT (R397). -/
def execRmcAbort (m : Master) (w : Word) (s : State) : Out := .next (rmcOp m 4 w .open_ s)

/-- POWER_OFF (R397). -/
def execRmcPowerOff (m : Master) (w : Word) (s : State) : Out := .next (rmcOp m 5 w .open_ s)

/-- CNT_CLR in RMC_EVT (R397). -/
def execRmcCntClr (m : Master) (w : Word) (s : State) : Out := .next (regWrite m 0x0C2002 (Word.put w 23 23 1) s)

/-! ### Ledger, lamps, counters, power -/

/-- RELEASE in LGR_SNAP_CTL (R400). -/
def execSnapRelease (m : Master) (w : Word) (s : State) : Out := .next (regWrite m 0x0D0010 (Word.put w 0 0 1) s)

/-- GO in LGR_SET_GO (R407). -/
def execLgrSetGo (m : Master) (w : Word) (s : State) : Out := .next (regWrite m 0x0D000F (Word.put w 0 0 1) s)

/-- CLR_SHORT in LMP_k_CLR (R416). -/
def execClrShort (m : Master) (k : Fin 6) (w : Word) (s : State) : Out := .next (regWrite m (lampReg k 3) (Word.put w 0 0 1) s)

/-- PMC_Cn_CNT_HI (R421). -/
def execCntLoad (m : Master) (n : Fin 32) (w : Word) (s : State) : Out := .next (regWrite m (pmcCounter n + 6) w s)

/-- FREEZE in PMC_GCTL (R422). -/
def execFreeze (m : Master) (w : Word) (s : State) : Out := .next (regWrite m 0x0F0000 w s)

/-- CLR_ALL in PMC_GCTL (R429). -/
def execClrAll (m : Master) (w : Word) (s : State) : Out := .next (regWrite m 0x0F0000 (Word.put w 20 20 1) s)

/-- CLR in PMC_Hh_CTL (R427). -/
def execHistClr (m : Master) (h : Fin 4) (w : Word) (s : State) : Out := .next (regWrite m (pmcHist h) (Word.put w 13 13 1) s)

/-- PWR_CTL (R435). -/
def execPwrCtl (m : Master) (w : Word) (s : State) : Out := .next (regWrite m 0x100004 w s)

/-- PWR_WDOG (R436). -/
def execPwrWdog (m : Master) (w : Word) (s : State) : Out := .next (regWrite m 0x100006 w s)

/-! ### Any register -/

/-- The master that a function's BAR0 is. -/
def barMaster (fn : Fin 257) : Master := if h : fn.val = 0 then .pf else .vf ⟨fn.val - 1, by omega⟩

/-- The word address that a byte offset of a function's BAR0 reaches (R3). A VF's BAR0 spans 128 KiB. -/
def barAddr (fn : Fin 257) (off : BitVec 26) : Nat :=
  if fn.val = 0 then off.toNat / 4 else 0x800000 + 0x8000 * (fn.val - 1) + off.toNat / 4 % 0x8000

/-- A write that names switch slot `k` (R69): of PRT_GRPg_CFG it is switch content, refused as R331 refuses a change that names the
slot. No other register has a form of its write that names a slot: there it has no effect. -/
def namedWrite (m : Master) (k a : Nat) (w : Word) (s : State) : State :=
  if !powered s then s
  else if !mayWrite s m a then accessRefused m a s
  else if 0x010000 ≤ a ∧ a < 0x010800 ∧ a % 0x100 = 0 then
    match regAt a with
    | none => s
    | some r =>
      let c := Change.regs [(a, plainValue s (isKeep m) r a w)]
      if slotStatus s k (participantsOf s c) = stOK then writeChange 6 a c (.slot (Fin.ofNat 4 k)) 256 s else s
  else s

/-- A write of any register (R7). A host's write ignores bits [31:24] of its dword; with byte enables that do not cover bytes 0
to 2 it is discarded and counted (R3, R4). -/
def execRegisterWrite (x : RegAccess) (d : BitVec 32) (s : State) : Out :=
  match x with
  | .io m a => .next (regWrite m a.toNat (d.setWidth 24) s)
  | .named m k a => .next (namedWrite m k a.toNat (d.setWidth 24) s)
  | .bar fn off be =>
    .next (if be.toNat % 8 = 7 then regWrite (barMaster fn) (barAddr fn off) (d.setWidth 24) s else live (hifCount 5) s)

/-- A host's read of any register (R3, R4, R6): the word is returned zero-extended. -/
def execHostRegisterRead (fn : Fin 257) (off : BitVec 26) (markOk : Bool) (s : State) : Out :=
  let t := regRead (barMaster fn) (barAddr fn off) markOk s
  .next { t with dword := t.answer.setWidth 32 }

end Sys2Proof.Machine
end

