-- ==== Sys2Proof/Machine/Debug.lean ====
section
/-! DEFINITION. The debug operations (R272, R278–R283). An operation is a write of DBG_OP through DBGACC; its row gives the
same operation with its operands. -/

namespace Sys2Proof.Machine

/-- DBGACC works (R272): the level is not 0. -/
def debugWorks (s : State) : Bool := powered s && debugLevel s != 0

/-- A core that the operation may name (R279, R281): any at LEVEL 2, a listed pier at LEVEL 1. -/
def debugNames (s : State) (n : Nat) : Bool := debugLevel s == 2 || (n != 0 && pierListed s n)

/-- Right `i` of R280 is held: HALT 0, INSPECT 1, COUNTERS 2, TRACE 3. -/
def debugRight (s : State) (i : Nat) : Bool := debugLevel s == 2 || s.bit 0x078003 i

/-- The operation is refused: DBG_OP.ERR and DBG_EVT.OP_ERR. -/
def debugFail (s : State) : State := (s.raise 0x078010 17).raise 0x078001 0

/-- DBG_STAT.HALTED. -/
def haltedShow (s : State) : State := s.flag 0x078000 21 (s.lcy.halted != [])

/-- Core `n` stops under debug: its store buffer drains first. -/
def debugStop (n : Nat) (s : State) : State :=
  let s := drainCore n s
  haltedShow { s with lcy := { s.lcy with halted := s.lcy.halted.filter (· != n) ++ [n] } }

/-- HALT (R281): under a certificate a spare first takes the work of a pier that serves. -/
def debugHalt (n : Nat) (s : State) : State :=
  if !(debugRight s 0 && debugNames s n) then debugFail s
  else if s.lcy.halted.contains n then s
  else if debugLevel s = 2 ∨ !coreRun s n then debugStop n (s.onlyIf (n != 0 && coreRun s n) (swLoseAck (pierParticipant n)))
  else match freeSpare s with
    | some p => swLoseAck (pierParticipant n) (debugStop n (spareTakes n p s))
    | none => debugFail s

/-- STEP (R281): one instruction of a halted core. -/
def debugStep (n : Fin 67) (s : State) : State :=
  if !(debugRight s 0 && debugNames s n && s.lcy.halted.contains n.val) then debugFail s
  else
    let s := stepCore n { s with lcy := { s.lcy with halted := s.lcy.halted.filter (· != n.val) } }
    debugStop n s

/-- RESUME (R281). -/
def debugResume (n : Nat) (s : State) : State :=
  if !(debugRight s 0 && debugNames s n && s.lcy.halted.contains n) then debugFail s
  else haltedShow { s with lcy := { s.lcy with halted := s.lcy.halted.filter (· != n) } }

/-- DBG_ADDR. -/
def debugAddr (s : State) : Nat := (s.rd 0x078011).toNat

/-- A register or special register of a core by debug address (log 51, DESIGN CHOICE): 0–31 the registers, 32–63 SR 0–31, 64 the program
counter. -/
def debugRegister (s : State) (n a : Nat) : Word :=
  if a < 32 then (s.core n).reg a
  else if a = 46 then BitVec.ofNat 24 (coreCycles s n)
  else if a = 47 then BitVec.ofNat 24 (coreCycles s n / 2 ^ 24)
  else if a < 64 then srValue n (s.core n) (a - 32)
  else if a = 64 then (s.core n).pc
  else 0

/-- The row and the word that a debug address of the NVA names (log 51, DESIGN CHOICE): bank in bit 22, row in [21:3], word in [2:0]. -/
def debugRow (s : State) (a : Nat) : Option Word :=
  let row := a / 8 % 2 ^ 19
  if windowAdmits row && decide (a % 8 < 7) then some (rowWord (rowData (s.nvaRow (a / 2 ^ 22 % 2) row)) (a % 8)) else none

/-- A word came with a good mark (R2), or the operation fails. -/
def debugGot (markOk : Bool) (w : Word) (s : State) : State :=
  if markOk then { s.wr 0x078012 w with answer := w, answered := true }
  else debugFail { markMismatch s with answered := false }

/-- READ (R278, R279, R281): the word at DBG_ADDR of a space goes into DBG_DATA. -/
def debugRead (n space : Nat) (markOk : Bool) (s : State) : State :=
  let a := debugAddr s
  let inspect := debugRight s 1 && debugNames s n && s.lcy.halted.contains n
  match space with
  | 0 => if inspect then debugGot markOk (debugRegister s n a) s else debugFail s
  | 1 => if inspect then debugGot markOk (if a < shadowTop n then (s.core n).load a else 0) s else debugFail s
  | 2 =>
    if mayRead s .debug a then debugGot markOk (ioRead .debug a s).1 (if markOk then (ioRead .debug a s).2 else s)
    else debugFail s
  | 3 =>
    if debugLevel s = 2 then
      (match debugRow s a with
       | some w => debugGot markOk w s
       | none => debugFail s)
    else debugFail s
  | _ => if debugRight s 3 then debugGot markOk (s.lcy.trace.getD a 0) s else debugFail s

/-- WRITE (R279): at LEVEL 2 only; NVA rows and the trace buffer take none. -/
def debugWrite (n space : Nat) (w : Word) (s : State) : State :=
  let a := debugAddr s
  if debugLevel s ≠ 2 then debugFail s
  else match space with
  | 0 =>
    if !s.lcy.halted.contains n then debugFail s
    else if a < 32 then s.setCore n ((s.core n).setReg a w)
    else if a < 64 then s.setCore n (srWrite n (s.core n) (a - 32) w)
    else if a = 64 then s.setCore n { s.core n with pc := w }
    else s
  | 1 =>
    if !s.lcy.halted.contains n then debugFail s
    else if a < shadowTop n then s.setCore n ((s.core n).store a w) else s
  | 2 => if mayWrite s .debug a then ioWrite .debug a w s else debugFail s
  | _ => debugFail s

/-- TRACE_ON (R281). -/
def debugTrace (n : Nat) (s : State) : State :=
  if debugRight s 3 && debugNames s n then { s with lcy := { s.lcy with traced := s.lcy.traced.filter (· != n) ++ [n] } }
  else debugFail s

/-- TRACE_OFF (R281): the core named is traced no longer. -/
def debugUntrace (n : Nat) (s : State) : State :=
  if debugRight s 3 && debugNames s n then { s with lcy := { s.lcy with traced := s.lcy.traced.filter (· != n) } } else debugFail s

/-- What DBG_OP holds after a write of OP, SPACE and CORE: a reserved encoding keeps its field (R10), ERR clears. -/
def debugOpWord (old op space core : Nat) : Word :=
  let sp := if space < 5 then space else old / 2 ^ 18 % 8
  let c := if core < 67 then core else old % 128
  BitVec.ofNat 24 (op * 2 ^ 21 + sp * 2 ^ 18 + c)

/-- A write of DBG_OP through DBGACC: the operation that it names is performed. -/
def debugOp (op space core : Nat) (markOk : Bool) (s : State) : State :=
  if !debugWorks s then s
  else
    let s := s.wr 0x078010 (debugOpWord (s.rd 0x078010).toNat op space core)
    let n := s.fld 0x078010 6 0
    let sp := s.fld 0x078010 20 18
    match op with
    | 1 => debugHalt n s
    | 2 => debugStep (Fin.ofNat 67 n) s
    | 3 => debugResume n s
    | 4 => debugRead n sp markOk s
    | 5 => debugWrite n sp (s.rd 0x078012) s
    | 6 => debugTrace n s
    | 7 => debugUntrace n s
    | _ => s

/-- Each access to DBG_DATA moves DBG_ADDR on (R283). -/
def debugAddrStep (s : State) : State := s.wr 0x078011 (s.rd 0x078011 + 1)

/-- An access to DBG_DATA through DBGACC (R283). -/
def debugData (w : Option Word) (s : State) : State :=
  if !debugWorks s then s
  else match w with
    | some v => debugAddrStep (s.wr 0x078012 v)
    | none => debugAddrStep { s with answer := s.rd 0x078012, answered := true }

/-- An access to a debug-operation register through DBGACC (R272, R283): 0 DBG_OP, 1 DBG_ADDR, 2 DBG_DATA. -/
def debugAccess (reg : Nat) (w : Option Word) (s : State) : State :=
  if !debugWorks s then s
  else
    let s := { s with lcy := { s.lcy with tap := 2 } }
    match reg, w with
    | 0, some v => debugOp (Word.slice v 23 21) (Word.slice v 20 18) (Word.slice v 6 0) true s
    | 1, some v => s.wr 0x078011 v
    | 0, none => { s with answer := s.rd 0x078010, answered := true, lcy := { s.lcy with tapWord := s.rd 0x078010 } }
    | 1, none => { s with answer := s.rd 0x078011, answered := true, lcy := { s.lcy with tapWord := s.rd 0x078011 } }
    | _, x => debugData x s

/-! ### The end of a certificate -/

/-- The certificate in force ends (R282): tracing stops, and every pier it halted is core-reset and serves as a spare. -/
def certStop (s : State) : State :=
  let s := { s with lcy := { s.lcy with certEnd := false } }
  if !certInForce s then s
  else
    let hs := s.lcy.halted
    let s := s.each hs fun n s => coreReset n (s.setCore n { s.core n with spare := true, out := false, restart := false })
    let s := haltedShow { s with lcy := { s.lcy with halted := [], traced := [] } }
    ((s.put 0x078000 23 22 0).zero 0x078003 8).raise 0x078001 3

/-- CERT_EXPIRY: the boundary at which stroke time reaches EXPIRY (R282). -/
def certExpiry (s : State) : State :=
  if certInForce s && decide ((certExpiryTime s).toNat ≤ s.now) then certStop s else s

/-- Certificates at a boundary: the end asked for, the expiry, then the one that is due. -/
def certBoundary (s : State) : State :=
  certOn (certExpiry (if s.lcy.certEnd then certStop s else s))

/-! ### Rows -/

/-- HALT. -/
def execDbgHalt (core : Fin 67) (s : State) : Out := .next (debugOp 1 0 core true s)

/-- STEP. -/
def execDbgStep (core : Fin 67) (s : State) : Out := .next (debugOp 2 0 core true s)

/-- RESUME. -/
def execDbgResume (core : Fin 67) (s : State) : Out := .next (debugOp 3 0 core true s)

/-- READ. -/
def execDbgRead (core : Fin 67) (space : Fin 8) (markOk : Bool) (s : State) : Out := .next (debugOp 4 space core markOk s)

/-- WRITE, of a word that DBG_DATA holds then. -/
def execDbgWrite (core : Fin 67) (space : Fin 8) (w : Word) (s : State) : Out :=
  .next (debugOp 5 space core true (if debugWorks s then s.wr 0x078012 w else s))

/-- TRACE_ON. -/
def execTraceOn (core : Fin 67) (s : State) : Out := .next (debugOp 6 0 core true s)

/-- TRACE_OFF. -/
def execTraceOff (s : State) : Out := .next (debugOp 7 0 (s.fld 0x078010 6 0) true s)

/-- DBG_DATA. -/
def execDbgData (w : Option Word) (s : State) : Out := .next (debugData w s)

/-- LCSR (R272): the 24-bit register takes the value of LCS_STATE, in every state. -/
def execLcsr (s : State) : Out :=
  .next (live (fun s => { s with
    answer := s.rd 0x070000, answered := true, lcy := { s.lcy with tap := 1, tapWord := s.rd 0x070000 } }) s)

/-- DBGACC (R272). -/
def execDbgacc (reg : Fin 3) (w : Option Word) (s : State) : Out := .next (debugAccess reg w s)

/-- CERT_EXPIRY (R282). -/
def execCertExpiry (s : State) : Out := .next (live certExpiry s)

end Sys2Proof.Machine
end

