-- ==== Sys2Proof/Machine/Response.lean ====
section
/-! DEFINITION. What the device does when it stops serving: the parapet's response (R285, R287, R298–R301), SAFE-HOLD (R247)
and transition mode (R276) have one stop in common. -/

namespace Sys2Proof.Machine

/-! ### The stop that these states have in common -/

/-- A pier stops, drains its store buffer and is HELD (R240). -/
def holdPier (n : Nat) (s : State) : State :=
  if coreState s n = 1 ∨ coreState s n = 2 then
    let s := drainCore n s
    setCoreState n 0 ((s.setCore n { s.core n with idle := false }).put (coreReg n 0) 23 23 0)
  else s

/-- Every pier is HELD. -/
def holdPiers (s : State) : State := s.each (List.range' 1 66) holdPier

/-- Every graver job that is running or committed completes with FAULT and releases nothing. -/
def faultJobs (s : State) : State := s.each (List.range 16) fun n s => jobStop n jFAULT s

/-- The host interface completes with HALTED, at this boundary, the committed commands to which R327 applies. -/
def haltFlights (s : State) : State :=
  s.each (s.hif.flights.filter fun f => haltedFor s f.opcode) fun f s => completeHost f stHALTED 0 0 [] s.tick s

/-- The data plane drops every frame. (log 99, DESIGN CHOICE) -/
def dropFrames (s : State) : State := dropDeck id s

/-- What LOCKDOWN, SAFE-HOLD and transition mode do alike, once State shows which of them is in force. -/
def stopService (s : State) : State := holdShow false (keyOpsFault (haltFlights (faultJobs (dropFrames s))))

/-! ### What is kept sealed (R175, R182, R191) -/

/-- What the SEALED class holds, brought up to what the keystone has sealed since boot: every change is sealed when it is
made, so that the model writes the class where the stores are about to be lost. Nothing is written without the seal key. -/
def vaultSync (s : State) : State :=
  match s.nva.vault with
  | some v =>
    if s.ppt.sealKey = some v.under ∧ s.bit 0x050001 21 = true ∧ s.pwr.phase = .run then
      let regs := ((List.range 256).map fun t => 0x051000 + 16 * t) ++ [0x07800B]
      { s with nva := { s.nva with vault := some { v with
          custodians := s.key.custodians
          quorums := s.key.setM
          regs := (regs.map fun a => (a, s.rd a)).filter fun x => decide (x.2 ≠ 0) } } }
    else s
  | none => s

/-! ### The volatile stores -/

/-- The key store is zeroed (R183), the reserved slots with it: every slot is free again, and what used it ends with FAULT. -/
def zeroKeys (s : State) : State :=
  let s := keyOpsFault s
  let s := s.each (List.range 256) fun t s => (s.wr (0x051002 + 16 * t) 0).wr (0x051004 + 16 * t) 0
  let s := ((s.put 0x050001 21 21 0).put 0x050001 15 0 64511).wr 0x050004 0x2000
  { s with
    key := { s.key with
      slots := [], ownerRoot := none, anchors := none, ownerCert := [], identity := [], roots := [], metering := [], custodians := []
      agree := [], agreed := [], due := [] }
    rmc := { s.rmc with out := none, box := ⟨[], [], s.rmc.box.result⟩ } }

/-- The plate cache, the tree caches and roots and the SDRAM keys are zeroed (R140): SDRAM keeps ciphertext that no key opens, below
roots that say that nothing was ever written. -/
def zeroPlates (s : State) : State :=
  let s := s.each (platesInUse s) fun p s => changePlate p (·.setPlate p (List.replicate 64 0)) s
  { s with plc := { s.plc with
      words := [], outgoing := [], outWay := [], refs := [], outRefs := [], cache := [], queue := [], waiting := [], recycles := []
      snapshot := none, extending := [], exhausted := [], moved := []
      versions := [], lineMacs := [], counts := [], nodeMacs := [], tree := [], sdKeys := [] } }

/-- The graver banks, ACC and lane-modulus registers are zeroed. -/
def zeroGravers (s : State) : State :=
  s.each (List.range 16) fun n s => ((s.updGrv n fun g => { g with mem := [] }).wr (grvReg n 0x18) 0).put (grvReg n 0) 19 19 0

/-- The volatile stores are zeroed: step 2 of R299, step M2 of R276, and the duties of R438. -/
def zeroStores (s : State) : State := zeroGravers (zeroPlates (zeroKeys (zeroDeck (dropFrames s))))

/-! ### The parapet (R285, R287, R298, R299) -/

/-- The firing that the tamper record names: the highest class, then the lowest source (R287). -/
def chiefFiring : List Firing → Option Firing
  | [] => none
  | f :: t =>
    match chiefFiring t with
    | none => some f
    | some g => if g.cls < f.cls ∨ (g.cls = f.cls ∧ f.src ≤ g.src) then some f else some g

/-- The parapet enters LOCKDOWN by a source (R298). -/
def enterLockdown (src : Nat) (s : State) : State :=
  if s.ppt.lockdown.isSome ∨ s.ppt.erased.isSome then s
  else
    let s := { s with ppt := { s.ppt with lockdown := some src, release := false } }
    stopService (s.raise 0x080002 1)

/-- Step 2 of an erase (R299): ERASED, the stores zeroed, the entropy block begun again (R315), the certificate
ended, sealed work abandoned (R300). -/
def enterErased (src : Nat) (s : State) : State :=
  if s.ppt.erased.isSome then s
  else
    let s := faultJobs (enterLockdown src s)
    let s := ({ s with ppt := { s.ppt with erased := some src, eraseLeft := some 64 } }).raise 0x080002 2
    let s := s.each [0, 1] fun b s =>
      match (s.bank b).job with
      | some ⟨.sealWrite .., _, _⟩ | some ⟨.sealRead .., _, _⟩ => nvaErr b 6 (abandon b s)
      | _ => s
    certStop (holdShow false (entRestart (zeroStores s)))

/-- The erase of the volatile stores is done: ERASE_PEND clears (R299). -/
def eraseDone (s : State) : State :=
  if s.ppt.eraseLeft.isSome then
    ({ s with ppt := { s.ppt with eraseLeft := none } }).put 0x080041 23 23 0
  else s

/-- The strokes that step 2 may still take pass. -/
def eraseTick (s : State) : State :=
  match s.ppt.eraseLeft with
  | none => s
  | some 0 => eraseDone s
  | some (n + 1) => if n = 0 then eraseDone s else { s with ppt := { s.ppt with eraseLeft := some n } }

/-- PARAPET_RESPONSE (R287): the sources that have fired since the last boundary are counted and latched, the record takes
the chief of them, and the highest class is applied once. What the backup domain has counted already is only applied, and
an erase of its own runs in boot step 0 (R301). -/
def parapetResponse (s : State) : State :=
  let fs := s.ppt.fired
  let s := { s with ppt := { s.ppt with fired := [] } }
  let new := fs.filter fun f => !f.counted
  let s := s.each new fun f s => pptCountLatch f.src f.cls s
  let s := match chiefFiring new with
    | some g => s.each (g :: new.erase g) fun f s => trecTake f.src f.cls s
    | none => s
  let s := s.each (fs.filter fun f => f.counted && decide (1 ≤ f.cls)) fun f s => (s.raise (0x080010 + f.src / 24) (f.src % 24)).raise 0x080002 0
  let s := match chiefFiring (fs.filter fun f => !(f.counted && f.cls == 3)) with
    | some g => if g.cls = 2 then enterLockdown g.src s else if g.cls = 3 then enterErased g.src s else s
    | none => s
  pptShow s

/-! ### SAFE-HOLD (R247) -/

/-- SAFE_HOLD: a cause of the stroke just ended stops the keystone and holds the device, and a record of it is written by
the path of a power-fail warning. The backup domain latches the cause (R437). (log 98, DEDUCED) -/
def safeHold (s : State) : State :=
  match s.pwr.safeHoldDue, s.pwr.safeHold with
  | some c, none =>
    let s := { s with pwr := { s.pwr with safeHold := some c, safeHoldDue := none, holdAge := 0, heldCause := c } }
    let s := setCoreState 0 3 (drainCore 0 s)
    let s := stopService (holdPiers s)
    pptShow (pptFire 52 (reserveRecord 2 (reserveBody s) s))
  | some _, some _ => { s with pwr := { s.pwr with safeHoldDue := none } }
  | none, _ => s

/-! ### Rows -/

/-- PARAPET_RESPONSE (R287). -/
def execParapetResponse (s : State) : Out := .next (live parapetResponse s)

/-- ERASE_DONE (R299). -/
def execEraseDone (s : State) : Out := .next (live eraseDone s)

/-- LOCKDOWN_RELEASE (R298). -/
def execLockdownRelease (s : State) : Out := .next (live pptRelease s)

/-- SAFE_HOLD (R247). -/
def execSafeHold (s : State) : Out := .next (live safeHold s)

end Sys2Proof.Machine
end

