-- ==== Sys2Proof/Machine/Transit.lean ====
section
/-! DEFINITION. Life-cycle transitions (R273, R275–R277): transition mode, its steps and marks, provisioning, the resume of
an unfinished transition at boot. -/

namespace Sys2Proof.Machine

/-- What a step does at its beginning (R276): M1 and M2 are done within their first strokes. -/
def stepBegins (k : Nat) (s : State) : State :=
  match k with
  | 1 => stepOne s
  | 2 => zeroStores s
  | _ => s

/-- What a step has done at its end: the erase of its class (R251, R276). With the class goes what State holds of it. -/
def stepEnds (k : Nat) (s : State) : State :=
  match k with
  | 1 => stepOne s
  | 3 => let s := eraseClass 144 512 s; { s with nva := { s.nva with vault := none } }
  | 4 => let s := eraseClass 80 64 s; { s with nva := { s.nva with config := none } }
  | 5 => let s := eraseClass 688 1232 s; { s with nva := { s.nva with recordAt := 0, recordCount := 0 } }
  | _ => s

/-- Programs mark k of record r (R273). -/
def markStep (r k : Nat) (s : State) : State := (logBoth (logRow r k) (markRow r k) s).put 0x070003 19 16 k

def setTransit (t : Transit) (s : State) : State := { s with lcy := { s.lcy with transit := some t } }

/-- The keystone's part of provisioning (R170, R175, R276): a new seal key, a new owner root, and what the ownership package
brings, all sealed under the new key. The KDF's label and context of the seal key are not given (log 39, DESIGN CHOICE). -/
def provisionKeys (s : State) : State :=
  let (k, s) := s.useFree
  let (j, s) := s.useFree
  let fresh := beBytes (Config.freshBlock k).toNat 48
  let root := beBytes (Config.freshBlock j).toNat 48
  let sealed := kdf Config.fingerprint 256 0x04 0x20 [] (fresh.take 32) 32
  let p := s.lcy.package.getD []
  let anchors := Config.packageAnchors p
  let s := { s with
    ppt := { s.ppt with sealKey := some sealed }
    key := { s.key with
      ownerRoot := some root, anchors := some anchors, ownerCert := Config.packageCert p, custodians := [], setM := [] }
    nva := { s.nva with vault := some ⟨sealed, sealCheckTag sealed, root, anchors, Config.packageCert p, [], [], [], []⟩ } }
  let s := s.each ((Config.packageCustodians p).take 32).zipIdx fun (key, u) s => enroll u key s
  { s with nva := { s.nva with vault := s.nva.vault.map fun v => { v with custodians := s.key.custodians } } }

/-- What follows a mark or INTENT: the next step of the list, the awaiting of provisioning, M7 of an abandoned transition,
the copies (R276). -/
def transitNext (t : Transit) (s : State) : State :=
  match t.todo with
  | k :: rest => setTransit { t with step := .mark k, todo := rest, endAt := s.tick + stepStrokes k } (stepBegins k s)
  | [] =>
    if t.abandon then
      (match t.step with
       | .mark 7 => { setTransit { t with step := .over } s with pwr := { s.pwr with resetDue := s.pwr.resetDue <|> some 5 } }
       | _ => setTransit { t with step := .mark 7, endAt := s.tick + 7 } s)
    else match t.step with
    | .mark 6 => setTransit { t with step := .copies, endAt := s.tick + 21 } s
    | _ =>
      if t.target = codewordOf 2 then
        (setTransit { t with step := .provision s.tick } (provisionKeys s)).raise 0x070004 2
      else setTransit { t with step := .copies, endAt := s.tick + 21 } s

/-- Words of the device ID, which vendor test writes at TEST to BLANK (R275, R283); their value is free (log 4, DESIGN CHOICE). (log 103, DESIGN CHOICE) -/
def writeDeviceId (s : State) : State :=
  s.each (List.range 4) fun i s => let (k, s) := s.useFree; s.wr (0x070008 + i) (Config.freeWord k)

/-- TRANSITION_STEP_DONE (R276): what is being programmed has ended, and what follows begins. (log 85, DESIGN CHOICE) -/
def transitStep (s : State) : State :=
  match s.lcy.transit with
  | none => s
  | some t =>
    if s.tick < t.endAt then s
    else match t.step with
    | .intent =>
      transitNext t (logBoth (logRow t.record 0) (intentRow s t.target t.source t.cause t.record) s)
    | .mark k => transitNext t (markStep t.record k (stepEnds k s))
    | .copies =>
      let s := programCopies t.record t.target s
      let s := if t.target = codewordOf 1 then writeDeviceId s else s
      { setTransit { t with step := .over } s with pwr := { s.pwr with resetDue := s.pwr.resetDue <|> some 5 } }
    | .provision _ => s
    | .over => s

/-- PROVISION_TIMEOUT (R276): 2^24 strokes without confirmation abandon the transition. -/
def provisionTimeout (s : State) : State :=
  match s.lcy.transit with
  | some t =>
    (match t.step with
     | .provision k =>
       if k + 2 ^ 24 ≤ s.tick then
         setTransit { t with step := .mark 1, endAt := s.tick + stepStrokes 1, todo := [3, 4, 5], abandon := true } (stepOne s)
       else s
     | _ => s)
  | none => s

/-- TRANSITION_MODE (R276): at the boundary after an accepted write. The banks' other work ends, for the controller takes
both from now on (log 52, DEDUCED). -/
def transitionMode (s : State) : State :=
  match s.lcy.accepted with
  | none => s
  | some (w, cause) =>
    let r := nextRecord s
    let src := s.rd 0x070001
    let s := { s with lcy := { s.lcy with accepted := none } }
    let s := certStop (s.raise 0x070000 23)
    let s := stopService (holdPiers (s.each [0, 1] abandon))
    setTransit { target := w, source := src, cause := cause, record := r, step := .intent, endAt := s.tick + 7,
                 todo := stepsOf ((stateOf w).getD 5), abandon := false } s

/-! ### Resume at boot (R277) -/

/-- The record of an unfinished transition, if there is one (R277). -/
def unfinishedRecord (s : State) : Option Nat :=
  match currentRecord s with
  | some r => if r != 0 && unfinished s r then some r else none
  | none => none

/-- A step and its mark, done again from its start. -/
def resumeStep (r : Nat) (k : Nat) (s : State) : State :=
  if markOf s r k then s else markStep r k (stepEnds k (stepBegins k s))

/-- Resumes the transition of record `r` in boot step 1: forward, with the copies that still read erased, or abandoned where
it leads into OWNED and M6 is absent. The strokes it takes are not counted (timing). -/
def resumeTransition (r : Nat) (s : State) : State :=
  match intentOf s r with
  | none => s
  | some (w, _) =>
    if w = codewordOf 2 ∧ !markOf s r 6 then
      markStep r 7 (s.each [1, 3, 4, 5] fun k s => markStep r k (stepEnds k (stepBegins k s)))
    else programCopies r w (s.each (stepsOf ((stateOf w).getD 5)) fun k s => resumeStep r k s)

/-! ### Rows -/

/-- TRANSITION_MODE (R276). -/
def execTransitionMode (s : State) : Out := .next (live transitionMode s)

/-- TRANSITION_STEP_DONE (R276). -/
def execTransitionStepDone (s : State) : Out := .next (live transitStep s)

/-- PROVISION_TIMEOUT (R276). -/
def execProvisionTimeout (s : State) : Out := .next (live provisionTimeout s)

end Sys2Proof.Machine
end

