-- ==== Sys2Proof/Machine/TestPlan.lean ====
section
/-! DEFINITION. The tests that TEST cells serve (R45, R60, R61): what a step of each kind does to its unit. The outcome of a
test is the environment's, and comes with its command (log 24, DEDUCED). -/

namespace Sys2Proof.Machine

/-- The step does not run; it is counted and stays queued (R61). -/
def testDefer (s : State) : State := s.bump 0x000004 23 16

/-- Counts a column's plan cell that a test uses (R423): cores, gravers, SDRAM controllers. -/
def testCell (c : Nat) (s : State) : State :=
  if 28 ≤ c ∧ c < 44 then s.pmcEvent { code := 0x22, src := some (0x70 + (c - 28)), cls := some 2 }
  else if 44 ≤ c ∧ c < 110 then s.pmcEvent { code := 0x22, src := some (c - 43), cls := some 2 }
  else if 110 ≤ c ∧ c < 112 then s.pmcEvent { code := 0x22, src := some (0x90 + (c - 110)), cls := some 2 }
  else s

/-- The progress of a test of column `c`: `none` before its first step. (log 83, DEDUCED) -/
def testProgress (s : State) (c : Nat) : Option Nat := (s.stk.underTest.find? (·.1 == c)).map (·.2.2)

def setProgress (c k p : Nat) (s : State) : State :=
  { s with stk := { s.stk with underTest := s.stk.underTest.filter (·.1 != c) ++ [(c, k, p)] } }

def clearProgress (c : Nat) (s : State) : State :=
  { s with stk := { s.stk with underTest := s.stk.underTest.filter (·.1 != c) } }

/-- A step of a test of one or two steps (R116, R203): the last one ends the test, passed where every step passed. -/
def stepOf (c k : Nat) (pass : Bool) (ends : Bool → State → State) (s : State) : State :=
  match testProgress s c with
  | none => if k = 3 then setProgress c k (if pass then 1 else 2) s else ends pass (testDone c k s)
  | some p => ends (pass && p == 1) (testDone c k (clearProgress c s))

/-- A TEST cell of span `n` begins, and it serves a request (R114): a span in service is covered by a FREE span, and leaves dispatch
with its last batch released. Without a FREE span the step is deferred (R61). -/
def spanTestCover (n : Nat) (s : State) : State :=
  if s.cell n ≠ 2 ∨ (testHead s n).isNone ∨ (testProgress s n).isSome ∨ 2 < spnState s n then s
  else if spnState s n = 0 then coverSpan n 3 s
  else if (freeSpan s).isNone then s
  else swLoseAck n ((coverSpan n 3 s).raise 0x021C01 2)

/-- A test step of span `n` (R114, R116), which its TEST cell has taken out of service; a span that nothing could cover keeps its
request (R61). The span is back at the boundary after its last step. -/
def spanTestStep (n k : Nat) (pass : Bool) (s : State) : State :=
  if spnState s n < 3 then testDefer s
  else stepOf n k pass (fun ok s => { s with spn := { s.spn with tested := s.spn.tested ++ [(n, k, ok, s.now)] } }) s

/-- A test of graver `n` (R165, R167): it waits for a running job; a job that is committed and cannot start ends with ABORTED
(log 53, DEDUCED). -/
def graverTestStep (n k : Nat) (pass : Bool) (s : State) : State :=
  if grvState s n = 3 then s
  else drainGraver n (grvTestEnd n pass (testDone (28 + n) k (jobStop n jABORTED s)))

/-- A pier leaves service for its test: its spare `p` has its work, and it is HELD. -/
def pierOut (n p : Nat) (s : State) : State := holdPier n (callWithdraw n (spareTakes n p s))

/-- The test of pier `n` ends (R203): its data SRAM is zeroed, and its program SRAM is cleared and reloaded from the PIER class; it becomes a
spare, or stays out of service FAULTED. -/
def pierTested (n : Nat) (pass : Bool) (s : State) : State :=
  let prog := if pierStored s then pierImage s else []
  let s := s.setCore n { s.core n with prog := prog, data := [], spare := pass, out := !pass, restart := false }
  setCoreState n (if pass then 0 else 3) s

/-- A test step of pier `n` (R61, R203). -/
def pierTestStep (n k : Nat) (pass : Bool) (s : State) : State :=
  let first := (testProgress s (43 + n)).isNone
  let serves := coreRun s n && !(s.core n).out
  if (s.core n).busy.isSome then testDefer s
  else if first && serves then
    match freeSpare s with
    | none => testDefer s
    | some p => stepOf (43 + n) k pass (pierTested n) (swLoseAck (pierParticipant n) (pierOut n p s))
  else stepOf (43 + n) k pass (pierTested n) s

/-- A step of SDRAM channel `c` (R61, R364): the one-stroke calibration, or the beginning of a full retrain, which is
refused unless the channel is drained. -/
def sdcTestStep (c k : Nat) (pass : Bool) (s : State) : State :=
  let s := testDone (110 + c) k s
  if k = 1 then s.onlyIf (!pass) (·.raise (sdcReg c 2) 0)
  else if s.bit (sdcReg c 1) 21 then setProgress (110 + c) 2 1 (s.put (sdcReg c 1) 23 23 0)
  else s

/-- SDRAM_RETRAIN_DONE (R364): a failed retrain leaves the channel drained. -/
def sdcRetrainDone (c : Nat) (pass : Bool) (s : State) : State :=
  match testProgress s (110 + c) with
  | none => s
  | some _ =>
    let s := clearProgress (110 + c) s
    if pass then s.put (sdcReg c 1) 23 23 1 else s.raise (sdcReg c 2) 0

/-- A step of bank `b` (R269): the recalibration of its references; a busy bank defers it. -/
def nvaTestStep (b k : Nat) (s : State) : State :=
  if (s.bank b).job.isSome then testDefer s else testDone (112 + b) k s

/-- CAL of a lane while its recalibration step is in progress (R71); the viaduct's two lanes have no such bit. (log 108, DEDUCED) (log 109, DEDUCED) -/
def laneCal (l : Nat) (on : Bool) (s : State) : State := if l < 32 then s.flag (laneReg l 1) 22 on else s

/-- A step of the device test sequencer (R71, R296, R309, R310). -/
def deviceTestStep (k : Nat) (pass : Bool) (s : State) : State :=
  if 0x20 ≤ k ∧ k ≤ 0x23 then
    (if sourceTestMay s (k - 0x20) then sourceTestBegin (k - 0x20) (testDone 114 k s) else testDefer s)
  else if k = 0x28 then katEnd pass (testDone 114 k s)
  else if 0x40 ≤ k ∧ k ≤ 0x61 then laneCal (k - 0x40) true (testDone 114 k s)
  else
    let s := testDone 114 k { s with ppt := { s.ppt with testing := some k } }
    if pass then s else (s.raise 0x080018 (k - 0x80)).raise 0x080002 4

/-- TEST_STEP (R60, R61): the TEST cell of column `c` serves the head request, once in a stroke. -/
def testStep (c : Nat) (pass : Bool) (s : State) : State :=
  if s.cell c ≠ 2 ∨ c ∈ s.stk.served then s
  else match testHead s c with
  | none => s
  | some r =>
    let s := { s with stk := { s.stk with served := s.stk.served ++ [c] } }
    let s := testCell c s
    if c < 28 then spanTestStep c r.kind pass s
    else if c < 44 then graverTestStep (c - 28) r.kind pass s
    else if c < 110 then pierTestStep (c - 43) r.kind pass s
    else if c < 112 then sdcTestStep (c - 110) r.kind pass s
    else if c < 114 then nvaTestStep (c - 112) r.kind s
    else deviceTestStep r.kind pass s

/-- A new stroke: no column has served a test, every monitor watches, and every lane's recalibration step is over. -/
def testBoundary (s : State) : State :=
  State.each { s with
    stk := { s.stk with served := [] }
    ppt := { s.ppt with testing := none } } (List.range 34) fun l s => laneCal l false s

/-- SDC_CALIBRATION_QUEUE (R444): every 2^20 strokes the controller of channel `c` queues its one-stroke calibration. -/
def sdcCalibration (c : Nat) (s : State) : State :=
  if s.now % 2 ^ 20 = 0 ∧ s.fld (sdcReg c 0) 15 12 ≠ 0 ∧ !s.stk.done.contains (c + 1) then
    testRequest (110 + c) 1 { s with stk := { s.stk with done := (c + 1) :: s.stk.done } }
  else s

/-! ### Rows -/

/-- TEST_STEP (R60). -/
def execTestStep (col : Fin 115) (pass : Bool) (s : State) : Out := .next (live (testStep col pass) s)

/-- SDRAM_RETRAIN_DONE (R364). -/
def execSdramRetrainDone (c : Fin 2) (pass : Bool) (s : State) : Out := .next (live (sdcRetrainDone c pass) s)

/-- SDC_CALIBRATION_QUEUE (R444). -/
def execSdcCalibrationQueue (c : Fin 2) (s : State) : Out := .next (live (sdcCalibration c) s)

end Sys2Proof.Machine
end

