-- ==== Sys2Proof/Machine/Power.lean ====
section
/-! DEFINITION. Power, clocks and reset (R430–R440), and the backup domain's own events (R288–R291, R301–R303, R431): the
hold-up duties, power-fail hold, the device reset and what brings it about. -/

namespace Sys2Proof.Machine

/-! ### The hold-up duties (R435, R438) -/

/-- The line and viaduct transmitters go to electrical idle (R438). -/
def linesIdle (s : State) : State := (s.each (List.range' 16 16) (setPort · 0)).put 0x0B0001 18 18 0

/-- The pins of a device that is unpowered, held or in reset (R31): SerDes transmitters idle, no PCIe link, lamp sinks open, HOLD_OUT low, the field
off, the card contacts deactivated, the SD clock stopped. -/
def pinsRest (s : State) : State :=
  let s := (linesIdle (s.each (List.range 16) (setPort · 0))).wr 0x0A0000 0
  let s := s.each (List.range 6) fun k s => (s.put (lampReg k 2) 23 21 0).setLamp k Lamp.init
  rmcPowerOff (iccDeactivate (fieldOff (s.put 0x0B0001 16 16 0)))

/-- The moment of a warning (R438): what happens at once and within 10 µs, and the record of R262. What the gravers and the
host interface were doing is lost: no completion is written. (log 100, DEDUCED) -/
def dutiesBegin (s : State) : State :=
  let s := holdPiers (drainCore 0 (vaultSync s))
  let s := setCoreState 0 0 s
  let s := { s with
    pwr := { s.pwr with phase := .warned, warnAt := s.tick, holdDone := false }
    hif := { s.hif with fetched := [], flights := [], due := [] } }
  let s := reserveRecord 1 (reserveBody s) s
  linesIdle (holdShow false (zeroStores (faultJobs s)))

/-- The duties are done: 46 µs, 58 strokes, after the warning (R438). -/
def dutiesDone (s : State) : Bool := s.pwr.phase == .warned && decide (s.pwr.warnAt + 58 ≤ s.tick)

/-- A device reset is asked for with a cause of PWR_RCAUSE; the first cause stands. -/
def askReset (c : Nat) (s : State) : State := { s with pwr := { s.pwr with resetDue := s.pwr.resetDue <|> some c } }

/-- The duties of a device reset that is asked for begin (R435). -/
def resetDuties (s : State) : State :=
  if s.pwr.resetDue.isSome && s.pwr.phase == .run then dutiesBegin s else s

/-- The threshold of the core-voltage monitor in millivolts (R438). -/
def monitorTrip (s : State) : Nat := 700 + 5 * s.fld 0x100007 3 0

/-- POWER_FAIL_WARNING (R438): the pin, filtered for 100 ns, counts where PFW_PIN_EN is 1; the monitor where VDD_CORE has been at `mv`
millivolts, below its threshold, for 200 ns. A warning during the duties or the hold is ignored. (log 115, DEDUCED) -/
def powerFailWarning (pin : Bool) (mv ns : Nat) (s : State) : State :=
  if s.pwr.phase != .run then s
  else if pin then
    if ns < 100 then s
    else if s.bit 0x100005 22 then (dutiesBegin s).put 0x100000 15 15 1
    else s.put 0x100000 15 15 1
  else if mv < monitorTrip s ∧ 200 ≤ ns then dutiesBegin s
  else s

/-- POWER_FAIL_HOLD (R438): 50 µs after the warning. -/
def powerFailHold (s : State) : State :=
  if s.pwr.phase == .warned && s.pwr.resetDue.isNone && decide (s.pwr.warnAt + 63 ≤ s.tick) then
    pinsRest { s with pwr := { s.pwr with phase := .hold, holdDone := true } }
  else s

/-! ### The device reset (R434) -/

/-- The registers that a device reset keeps: the backup domain (0x080040–0x0800FF, the counters of sources 0 to 31 and the conditions of
sources 0 to 23, which it watches on), and the device ID, which SYSTEM holds. -/
def keptRegister (a : Nat) : Bool :=
  a == 0x080004 || decide (0x080040 ≤ a ∧ a < 0x080120) || decide (0x070008 ≤ a ∧ a < 0x07000C) || a == 0x080008 || a == 0x080009

/-- The classes of sources 24 to 31 in a register that also holds main-domain sources. -/
def backupClasses : Word := 0x00FFFF

/-- A bank after a reset: its work is gone, the array and its wear figures stay. -/
def bankReset (v : NvaBank) : NvaBank := { v with job := none, pend := none, read := none, remapDue := [] }

/-- The registers that show what the NVA holds, after a reset. -/
def nvaShow (s : State) : State :=
  let s := (s.put 0x060000 0 0 s.nva.bootBank).wr 0x060005 s.nva.minVersion
  let s := s.each [0, 1] fun b s => s.put (nvaReg b 3) 7 0 (128 - min 128 (s.bank b).taken)
  resShow s

/-- What a device reset leaves as it was (R434): the backup domain, the NVA's contents and the commands that wait; the rest of
the state is that after reset. Firings that the backup domain has counted wait for the first boundary (R301). -/
def resetKeeping (s : State) : State :=
  let r := State.reset
  { r with
    pending := s.pending
    io := s.io.filter fun x => keptRegister x.1
    ppt := { r.ppt with
      fired := s.ppt.fired.filter (·.counted), swRun := s.ppt.swRun, loopRun := s.ppt.loopRun, lfsr := s.ppt.lfsr
      seedLo := s.ppt.seedLo, stamp := s.ppt.stamp, stampTicks := s.ppt.stampTicks, trec := s.ppt.trec, sealKey := s.ppt.sealKey }
    nva := { s.nva with
      banks := Tab.update NvaBank.init bankReset s.nva.banks, swapDue := false, digest := none, booted := false }
    free := s.free }

/-- A device reset with a cause of PWR_RCAUSE (R434, R446): every main-domain block, register and SRAM; the backup domain and
the NVA's contents are kept. The latches of R6 take the upper words as the reset leaves them. (log 117, DEDUCED) -/
def deviceReset (c : Nat) (s : State) : State :=
  let t := resetKeeping s
  let t := t.wr 0x08000A ((ioReset 0x08000A &&& ~~~ backupClasses) ||| (s.rd 0x08000A &&& backupClasses))
  let t := t.wr 0x100001 (BitVec.ofNat 24 (c * 2 ^ 20 + s.pwr.heldCause * 2 ^ 17 + (if s.pwr.holdDone then 2 ^ 16 else 0)))
  let t := t.put 0x060001 22 21 (s.fld 0x060001 22 21)
  let t := lifeCycleRead (nvaShow t)
  { t with latchBase := upperWords t }

/-- DEVICE_RESET (R434, R435): once the duties of a reset that is asked for have ended. -/
def deviceResetDue (s : State) : State :=
  match s.pwr.resetDue with
  | some c => if dutiesDone s then deviceReset c { s with pwr := { s.pwr with holdDone := true } } else resetDuties s
  | none => s

/-- MAIN_POWER_ON (R430, R434): once every supply has been within its range for 1 ms. No duties run; cause 7 where the backup domain was
reset with it. -/
def mainPowerOn (us : Nat) (s : State) : State :=
  if us < 1000 then s else deviceReset (if s.pwr.backupReset then 7 else 0) (vaultSync s)

/-- RST_N (R435): a pulse of 1 µs is accepted and stretched until the duties are done; a device held for want of its fabric
PLL has none to do. -/
def rstN (ns : Nat) (s : State) : State :=
  if ns < 1000 then s
  else if s.pwr.phase = .reset then deviceReset 1 s
  else if powered s then resetDuties (askReset 1 s) else s

/-- POWER_RETURN (R439): with the pin inactive and every supply in range, VDD_CORE at `mv` millivolts has been above the monitor's threshold
for 430 backup ticks. -/
def powerReturn (ticks mv : Nat) (s : State) : State :=
  if s.pwr.phase = .hold ∧ 430 ≤ ticks ∧ monitorTrip s < mv then deviceReset 6 s else s

/-! ### Watchdog and SAFE-HOLD timer (R436, R437) -/

/-- The watchdog interval in strokes. -/
def wdInterval (s : State) : Nat := 2 ^ s.fld 0x100005 15 11

/-- WDOG_WARN: half the interval without a good write. -/
def wdogWarn (s : State) : State :=
  if s.pwr.safeHold.isNone ∧ wdInterval s / 2 ≤ s.pwr.wdAge then s.raise 0x100002 1 else s

/-- WATCHDOG_EXPIRY: the full interval. -/
def watchdogExpiry (s : State) : State :=
  if s.pwr.safeHold.isNone ∧ wdInterval s ≤ s.pwr.wdAge ∧ s.pwr.phase = .run then resetDuties (askReset 3 s) else s

/-- SAFE_HOLD_TIMER: 2^SH_LOG strokes in SAFE-HOLD; never with SH_LOG = 0. -/
def safeHoldTimer (s : State) : State :=
  let l := s.fld 0x100005 4 0
  if s.pwr.safeHold.isSome ∧ l ≠ 0 ∧ 2 ^ l ≤ s.pwr.holdAge ∧ s.pwr.phase = .run then resetDuties (askReset 4 s) else s

/-- The counts of a stroke: the watchdog pauses while debug has halted the keystone and while the running bank holds it up
(R226), and stops in SAFE-HOLD. (log 101, DEDUCED) -/
def powerTick (s : State) : State :=
  if s.pwr.safeHold.isSome then { s with pwr := { s.pwr with holdAge := s.pwr.holdAge + 1, bootAge := s.pwr.bootAge + 1 } }
  else
    let paused := s.lcy.halted.contains 0 || (s.bank (runningBank s)).job.isSome
    { s with pwr := { s.pwr with wdAge := if paused then s.pwr.wdAge else s.pwr.wdAge + 1, bootAge := s.pwr.bootAge + 1 } }

/-! ### Clocks (R433) -/

/-- PLL_LOCK_TIMEOUT (R433): a PLL has not locked within 100 µs and is tried again, twice; then the fabric PLL leaves the
device in reset, and another leaves its blocks disabled. (log 54, DEDUCED) (log 88, DEDUCED) -/
def pllLockTimeout (pll : Nat) (s : State) : State :=
  if s.pwr.phase ≠ .run ∨ s.fld 0x100000 21 18 ≠ 0 ∨ s.bit 0x100000 17 then s
  else
    let n := min 3 (Tab.get 0 s.pwr.pllTries pll + 1)
    let s := { s with pwr := { s.pwr with pllTries := Tab.set 0 s.pwr.pllTries pll n } }
    if pll = 0 ∧ n = 3 then pinsRest { s.put 0x100000 22 22 1 with pwr := { s.pwr with phase := .reset } } else s

/-! ### The backup domain -/

/-- BACKUP_POWER_ON (R291, R434): VBAT and VDD_AUX have both been absent. -/
def backupPowerOn (s : State) : State :=
  let s := stepOne s
  let s := ((s.wr 0x080004 0).zero 0x080042 0xBE).zero 0x080100 32
  let s := (s.wr 0x080041 (ioReset 0x080041)).raise 0x080041 20
  { s with
    ppt := { s.ppt with stamp := ⟨0, 0⟩, stampTicks := 0, trec := none }
    pwr := { s.pwr with heldCause := 0, backupReset := true } }

/-- VBAT_SWITCH (R430, R431): below 2.7 V the backup domain runs from VBAT, and back above 2.9 V. VDD_AUX is the first supply
to come and the last to go, so without it main power is absent. What the SEALED class holds stays. (log 102, DEDUCED) -/
def vbatSwitch (mv : Nat) (s : State) : State :=
  if mv < 2700 then pinsRest { (vaultSync s).raise 0x080041 21 with pwr := { s.pwr with phase := .off } }
  else if 2900 < mv then s.put 0x080041 21 21 0
  else s

/-- BACKUP_TICK (R288–R290, R302): the counter, STAMP, the samples of switches and loops. -/
def backupTick (csw : BitVec 8) (loops : BitVec 16) (s : State) : State :=
  let s := s.wrN 0x080044 2 ((s.rdN 0x080044 2 + 1) % 2 ^ 48)
  let s := if s.pwr.phase = .off then { s with ppt := { s.ppt with stampTicks := s.ppt.stampTicks + 1 } }
    else { s with ppt := { s.ppt with stamp := s.stk.time, stampTicks := 0 } }
  let s := s.each (List.range 8) fun n s => switchSample n (csw.getLsbD n) s
  s.each (List.range 16) fun n s => loopSample n (loops.getLsbD n) s

/-! ### Rows -/

/-- MAIN_POWER_ON (R434). -/
def execMainPowerOn (microseconds : Nat) (s : State) : Out := .next (mainPowerOn microseconds s)

/-- RST_N (R435). -/
def execRstN (nanoseconds : Nat) (s : State) : Out := .next (rstN nanoseconds s)

/-- DEVICE_RESET (R434). -/
def execDeviceReset (s : State) : Out := .next (live deviceResetDue s)

/-- PLL_LOCK_TIMEOUT (R433). -/
def execPllLockTimeout (pll : Fin 38) (s : State) : Out := .next (pllLockTimeout pll s)

/-- POWER_FAIL_WARNING (R438). -/
def execPowerFailWarning (pin : Bool) (mv ns : Nat) (s : State) : Out := .next (powerFailWarning pin mv ns s)

/-- POWER_FAIL_HOLD (R438). -/
def execPowerFailHold (s : State) : Out := .next (powerFailHold s)

/-- POWER_RETURN (R439). -/
def execPowerReturn (ticks mv : Nat) (s : State) : Out := .next (powerReturn ticks mv s)

/-- WDOG_WARN (R436). -/
def execWdogWarn (s : State) : Out := .next (live wdogWarn s)

/-- WATCHDOG_EXPIRY (R436). -/
def execWatchdogExpiry (s : State) : Out := .next (live watchdogExpiry s)

/-- SAFE_HOLD_TIMER (R437). -/
def execSafeHoldTimer (s : State) : Out := .next (live safeHoldTimer s)

/-- BACKUP_POWER_ON (R434). -/
def execBackupPowerOn (s : State) : Out := .next (backupPowerOn s)

/-- VBAT_SWITCH (R431). -/
def execVbatSwitch (auxMillivolt : Nat) (s : State) : Out := .next (vbatSwitch auxMillivolt s)

/-- BACKUP_TICK (R302). -/
def execBackupTick (csw : BitVec 8) (loops : BitVec 16) (s : State) : Out := .next (backupTick csw loops s)

end Sys2Proof.Machine
end

