-- ==== Sys2Proof/Machine/Boot.lean ====
section
/-! DEFINITION. Boot (R441–R445): the steps from the release of reset to the data plane declared ready, and appliance mode
(R33–R35, R70). -/

namespace Sys2Proof.Machine

/-! ### Boot stop and the steps before the keystone -/

def bootStep (k : Nat) (s : State) : State := s.put 0x100000 21 18 k

/-- Boot stop in a step (R443): the keystone is halted. -/
def bootStop (k : Nat) (s : State) : State := setCoreState 0 0 ((bootStep k s).put 0x100000 22 22 1)

/-- Step 0 (R301, R441): the PLL has locked and the supplies are in range; step 2 of an erase that the backup domain began
while main power was absent runs now. -/
def bootZero (s : State) : State :=
  let s := (s.put 0x100000 17 17 1).put 0x100000 14 8 0x7F
  if s.bit 0x080041 23 then
    let src := match s.ppt.trec with | some r => r.source | none => 0
    let s := zeroStores (s.put 0x080041 23 23 0)
    pptShow (({ s with ppt := { s.ppt with erased := some src } }.raise 0x080002 2).raise 0x100001 15)
  else s

/-- Stroke time resumes at `t` (R42); an era that has reached 0xFF shows (R39). -/
def resumeTime (t : StrokeTime) (s : State) : State := { s with stk := { s.stk with time := t } }.flag 0x0004 0 (t.era = 0xFF)

/-- What the latest record names is repaired; the seal counter and stroke time resume from it (R42, R257, R262). -/
def bootResume (o : Option NvaRecord) (s : State) : State :=
  match o with
  | none => s
  | some r =>
    resumeTime (strokeAdd r.time (2 ^ 21)) ((repairInterrupted r.interrupted s).wrN 0x060006 2 ((r.sealV + 2) * 2 ^ 16 % 2 ^ 48))

/-- Step 2 (R42, R257, R262, R264): from the latest record, then the next RESERVE slots are erased. -/
def bootRecover (s : State) : State :=
  entRestart (resShow ((bootResume (latestRecord s fun _ => true) s).each [0, 1] readySlot))

/-- Step 3 (R258): the running bank, BOOT_BANK's image first. -/
def bootBank (env : BootEnv) (s : State) : Option Nat :=
  let ok := fun b => (if b = 0 then env.image0 else env.image1) && decide (s.nva.minVersion.toNat ≤ (imageVersion s b).toNat)
  [s.nva.bootBank, 1 - s.nva.bootBank].find? ok

/-- The keys of SDRAM channel `c` come from the expander at every boot (R126, R140). -/
def sdramKeys (c : Nat) (s : State) : State :=
  let (i, s) := s.useFree
  let (j, s) := s.useFree
  let k := (beBytes (Config.freshBlock i).toNat 32, beBytes (Config.freshBlock j).toNat 32)
  { s with plc := { s.plc with sdKeys := Tab.set ([], []) s.plc.sdKeys c k } }

/-- Step 4 (R178, R183, R315, R441): the keystone starts; the known-answer test; the per-boot keys; the store is empty, with every slot free. -/
def bootKeystone (b : Nat) (env : BootEnv) (s : State) : State :=
  let s := (katEnd env.kat (setCoreState 0 1 (s.put 0x060001 23 23 b))).put 0x050001 15 0 64511
  let (k, s) := s.useFree
  let (j, s) := s.useFree
  sdramKeys 1 (sdramKeys 0 { s with plc := { s.plc with bootKey := k }, key := { s.key with genDraw := some j } })

/-! ### Identity and sealed state (R172–R175, R182) -/

/-- What the vault holds is loaded: roots, anchors, custodians, quorum sizes, tenant states, and the persistent objects that a valid commit
block names; every other block is erased (R182). The tenant roots and metering keys are derived again. -/
def vaultLoad (v : Vault) (s : State) : State :=
  let s := { s with key := { s.key with
    ownerRoot := some v.ownerRoot, anchors := some v.anchors, ownerCert := v.ownerCert, custodians := v.custodians
    setM := v.quorums } }
  let s := s.each v.custodians fun (u, _) s => s.wr (0x050200 + u) (BitVec.ofNat 24 (2 ^ 23 + 0xFF00 + u))
  let s := s.each v.regs fun (a, w) s => s.wr a w
  let objects := validObjects v.blocks
  let s := s.each (objects.flatMap (·.2)) fun (i, x) s =>
    let s := slotsTaken x.dom 1 (s.setSlot i { x with persist := true, state := .inUse })
    let s := s.put 0x050004 13 0 (s.fld 0x050004 13 0 - 1)
    if x.dom < 256 then s.wr (0x051004 + 16 * x.dom) (s.rd (0x051004 + 16 * x.dom) + 1) else s
  let s := keepBlocks (fun h _ => objects.any (·.1 == h)) s
  let s := s.each ((List.range 256).filter fun t => tenantState s t != 0) fun t s =>
    let e := s.fld (0x051000 + 16 * t) 15 0
    { s with key := { s.key with
        roots := Tab.set [] s.key.roots t (tenantRoot v.ownerRoot t e)
        metering := Tab.set [] s.key.metering t (meteringKey v.ownerRoot t e) } }
  let s := { s with key := { s.key with roots := Tab.set [] s.key.roots 256 (fixedKey v.ownerRoot (ascii "FT7240 own root") []) } }
  quorumSizes ((s.put 0x050001 23 23 1).put 0x050001 21 21 1)

/-- Step 5. The identity follows from the fingerprint while its circuit is on (R173, R271). In OWNED a failed seal check sets
SEAL_LOST and begins the transition to RELEASED (R172). -/
def bootIdentity (env : BootEnv) (s : State) : State :=
  let s := if s.lcs ≤ 3 then { s with key := { s.key with identity := Config.fingerprint } } else s
  if s.lcs ≠ 2 then s
  else
    match s.nva.vault, s.ppt.sealKey with
    | some v, some k =>
      if env.sealCheck = true ∧ v.sealTag = sealCheckTag k ∧ v.under = k then vaultLoad v s
      else requestTransition (codewordOf 3) 1 ((s.put 0x050001 22 22 1).raise 0x050002 0)
    | _, _ => requestTransition (codewordOf 3) 1 ((s.put 0x050001 22 22 1).raise 0x050002 0)

/-! ### SDRAM, pier images, plan (R49, R228, R444) -/

/-- Step 6 (R444): the plate cache, the tree caches and the roots stand empty (R140, PLC_STAT.READY); SIZE from the stored configuration, else as fitted. A channel that fails three attempts raises TRAIN_FAIL
and leaves both without SDRAM; so does the SDRAM PLL that has not locked (R433). -/
def bootSdram (env : BootEnv) (s : State) : State :=
  let stored := match s.nva.config with
    | some c => (c.regs.find? fun (x : Nat × Word) => x.1 == sdcReg 0 0).map fun (x : Nat × Word) => Word.slice x.2 15 12
    | none => none
  let size := min 5 (stored.getD env.sdramSize)
  let pll := decide (3 ≤ Tab.get 0 s.pwr.pllTries 1)
  let bad := ([(0, env.train0), (1, env.train1)].filter fun x => pll || !x.2).map (·.1)
  let s := s.put 0x030001 23 23 1
  if size = 0 then s
  else if bad.isEmpty then
    s.each [0, 1] fun c s => ((s.put (sdcReg c 0) 15 12 size).put (sdcReg c 0) 23 23 1).put (sdcReg c 1) 23 23 1
  else s.each bad fun c s => s.raise (sdcReg c 2) 0

/-- Step 7 (R228): the image is loaded into every pier, spares included, and each stays HELD. (log 107, DEDUCED) -/
def bootPiers (s : State) : State :=
  if pierStored s then
    let p := pierImage s
    s.each (List.range' 1 66) fun n s => s.setCore n { s.core n with prog := p }
  else s

/-- Step 8 (R49): the stored plan if it passes the check, else the default plan, in buffer A. -/
def bootPlan (s : State) : State :=
  let plan := match s.nva.config.bind (·.plan) with
    | some p => if planFailure p = none then p else defaultPlan
    | none => defaultPlan
  { s with stk := { s.stk with planA := plan, planB := [] } }.put 0x0004 1 1 0

/-! ### The stored configuration (R441 step 9) -/

/-- A register of the stored configuration that boot writes back: limits, shares, thresholds and clear classes, not uses or
what the sealed state restores. -/
def storedLimit (a : Nat) : Bool :=
  (decide (0x051000 ≤ a ∧ a < 0x052000) && [1, 3, 5, 7, 9].contains ((a - 0x051000) % 16))
    || decide (0x011000 ≤ a ∧ a < 0x011080) || (decide (0x018100 ≤ a ∧ a < 0x018302) && a % 2 == 0)
    || (decide (0x018010 ≤ a ∧ a < 0x018058) && a % 8 != 2) || (decide (0x030100 ≤ a ∧ a < 0x030302) && a % 2 == 0)
    || a == 0x018000 || a == 0x030000 || a == 0x0B0000

/-- Channels are opened as they were, without plates, and pinned homes are taken again. -/
def bootChannels (c : StoredConfig) (s : State) : State :=
  let s := s.each c.chans fun (n, r) s =>
    match r with
    | some r => openChannel n { r with plates := [none, none, none, none], current := none } s
    | none => s
  s.each c.pins fun (n, h) s =>
    match planPin n (some h) (planNow s) with
    | some p => setLayout p.1 s
    | none => s

/-- Step 9: the stored limits, the plate capacity of R131 and the locks of R74 and R123, and the channels. BLANK skips it
(R442). -/
def bootConfig (s : State) : State :=
  if s.lcs = 1 then s
  else
    let s := match s.nva.config with
      | some c => s.each (c.regs.filter fun (x : Nat × Word) => storedLimit x.1) fun (a, w) s => s.wr a w
      | none => s
    let s := s.put 0x030000 4 0 (capMax s)
    let s := (s.put 0x030000 23 23 1).put 0x018000 23 23 1
    ownDeckLimit (match s.nva.config with
    | some c => vdtCfgAfter (bootChannels c s)
    | none => s)

/-! ### The row -/

/-- The strokes that the steps have taken. -/
def bootTakes (n : Nat) (s : State) : State :=
  { s with
    stk := { s.stk with time := strokeAdd s.stk.time n }
    pwr := { s.pwr with bootAge := s.pwr.bootAge + n } }

/-- Steps 8 to 10: the piers, the plan and the stored configuration. -/
def bootEnds (env : BootEnv) (s : State) : State :=
  bootStep 10 (ledgerRestore (bootTakes env.strokes (bootConfig (bootPlan (bootPiers s)))))

/-- Steps 4 to 10, once a bank is chosen. (log 106, DEDUCED) -/
def bootServe (b : Nat) (env : BootEnv) (s : State) : State :=
  let s := bootSdram env (bootIdentity env (bootKeystone b env s))
  if pierStored s && !env.pierImage then bootStop 7 s else bootEnds env s

/-- BOOT (R441): from step 0, where a device that has been released stands. A transition to resume is resumed in step 1 and
ends in the device reset (R277). A fabric PLL that fails leaves the device in reset (R433). (log 104, DEDUCED) (log 105, DESIGN CHOICE) -/
def boot (env : BootEnv) (s : State) : State :=
  if s.pwr.phase ≠ .run ∨ s.fld 0x100000 23 18 ≠ 0 ∨ s.pwr.resetDue.isSome = true then s
  else if !env.fabricPll then pinsRest { s.put 0x100000 22 22 1 with pwr := { s.pwr with phase := .reset } }
  else
    let s := bootZero s
    match unfinishedRecord s with
    | some r => askReset 5 (((lifeCycleRead (resumeTransition r s)).raise 0x070000 22).raise 0x070004 1)
    | none =>
      let s := levelShow (lifeCycleRead s)
      if s.lcs = 5 then bootStop 1 s
      else
        let s := bootRecover s
        match bootBank env s with
        | none => bootStop 3 s
        | some b => bootServe b env s

/-- The data plane is declared ready (R442): after step 9, and not before instance 3 has delivered the per-boot keys (R314). -/
def dataPlaneReady (s : State) : State :=
  if s.pwr.phase ≠ .run ∨ s.fld 0x100000 23 18 ≠ 10 ∨ s.pwr.resetDue.isSome = true ∨ s.bit 0x090001 23 = false then s
  else
    let s := (s.put 0x100000 23 23 1).wrN 0x100008 2 s.stk.time.num.toNat
    let s := (s.wr 0x10000A (BitVec.ofNat 24 s.stk.time.era.toNat)).wr 0x10000B (BitVec.ofNat 24 s.pwr.bootAge)
    { s.raise 0x100002 0 with stk := { s.stk with quiet := some 0 } }

/-! ### Appliance mode (R33–R35, R70) -/

/-- The MODEs that a line group tries, in order (R70). -/
def tryModes : List Nat := [1, 3, 4, 5, 6]

/-- Line group `g` takes a MODE; its medium stays. -/
def applianceSet (g m : Nat) (s : State) : State := s.put (grpReg (4 + g) 0) 11 8 m

/-- APPLIANCE_MODE_ENTRY (R33): OWNED, no stored configuration, and 2,500,000 strokes since ready without a host mailbox
command. The ports of the four pairs are enabled and each line group tries its first MODE. -/
def applianceEntry (s : State) : State :=
  match s.stk.quiet with
  | some n =>
    if s.lcs = 2 ∧ s.nva.config = none ∧ 2500000 ≤ n ∧ s.dataPlane then
      let s := { s with stk := { s.stk with quiet := none, appliance := true, endAppliance := false, tries := [] } }
      let s := s.put 0x100000 16 16 1
      let s := s.each (List.range 32) fun p s => s.put (portReg p 0) 23 23 1
      s.each (List.range 4) fun g s =>
        applianceSet g 1 { s with stk := { s.stk with tries := Tab.set (0, 0) s.stk.tries g (0, s.tick) } }
    else s
  | none => s

/-- APPLIANCE_MODE_END (R35): at the boundary after the first host command. -/
def applianceEnd (s : State) : State :=
  if s.stk.endAppliance then
    { s with stk := { s.stk with quiet := none, appliance := false, endAppliance := false } }.put 0x100000 16 16 0
  else s

/-- A port of line group `g` has reached UP. -/
def lineGroupUp (s : State) (g : Nat) : Bool := (List.range 4).any fun p => portState s (16 + 4 * g + p) == 4

/-- APPLIANCE_MODE_TRY (R70): 2^22 strokes without a port in UP, and the group moves on to the next MODE. After MODE 6 it begins
again with MODE 1 (log 131, DESIGN CHOICE). -/
def applianceTry (g : Nat) (s : State) : State :=
  let (i, t) := Tab.get (0, 0) s.stk.tries g
  if s.stk.appliance && decide (i < 5) && !lineGroupUp s g && decide (t + 2 ^ 22 ≤ s.tick) then
    let j := (i + 1) % 5
    applianceSet g (tryModes.getD j 1) { s with stk := { s.stk with tries := Tab.set (0, 0) s.stk.tries g (j, s.tick) } }
  else s

/-- A port of line group `g` has reached UP: the trying is over, and client group `g` is given the same MODE, with its own medium (R70). (log 118, DEDUCED) -/
def applianceFollow (g : Nat) (s : State) : State :=
  if s.stk.appliance && lineGroupUp s g then
    { s with stk := { s.stk with tries := Tab.set (0, 0) s.stk.tries g (5, s.tick) } }.put (grpReg g 0) 11 8 (s.fld (grpReg (4 + g) 0) 11 8)
  else s

/-- The channel that appliance mode opens for a line port that is UP, in one direction: GCM-AES-XPN-256, the owner's domain,
the port's paired client port. What R34 does not give is the default of CHANNEL_OPEN (log 58, DESIGN CHOICE). -/
def applianceChan (s : State) (port : Nat) (rx : Bool) : Chan where
  dom := 256
  rx := rx
  replay := true
  stipple := false
  offset := 0
  sciMode := 0
  clearTags := 0
  suite := 3
  window := 0
  client := port - 16
  line := port
  vid := 0
  sci := BitVec.ofNat 64 (s.rdN (portReg port 2) 3 % 2 ^ 64)
  rate := match modeActive s (port / 4) with | 1 => 400000 | 2 => 200000 | 3 => 100000 | 4 => 50000 | 5 => 25000 | _ => 10000
  minLen := if rx then 96 else 64
  group := 0
  size := 0
  count := 0
  plog := 0
  phase := 0
  burst := 0
  stipDa := 0
  stipSa := 0
  plates := [none, none, none, none]
  current := none

/-- The channel numbers that appliance mode uses (log 58, DESIGN CHOICE): 2 · line port for transmit, one more for receive. -/
def applianceNum (port : Nat) (rx : Bool) : Nat := 2 * port + (if rx then 1 else 0)

/-- Opens the channels of the line ports that are UP (R34). -/
def applianceOpen (s : State) : State :=
  if !s.stk.appliance then s
  else
    s.each ((List.range' 16 16).filter (portUp s)) fun port s =>
      s.each [false, true] fun rx s =>
        let c := applianceNum port rx
        if (Tab.get none s.dck.chans c).isSome then s else openChannel c (applianceChan s port rx) s

/-- The channels of a keyed line group carry traffic: each open channel of the group that has none gets a plate with a key
derived from the group's CAK. The derivation of these keys is not given (log 58, DESIGN CHOICE): the words are free. -/
def applianceKeyed (s : State) : State :=
  if !s.stk.appliance then s
  else
    let ports := (List.range' 16 16).filter fun port => (Tab.get [] s.key.agreed ((port - 16) / 4)) != []
    s.each ports fun port s =>
      s.each [false, true] fun rx s =>
        let c := applianceNum port rx
        match Tab.get none s.dck.chans c with
        | none => s
        | some r =>
          if r.plates.any (·.isSome) then s
          else
            let (k, s) := s.useFree
            let key := leWords (Config.freshBlock k).toNat 15
            let ssci := (Config.freeWord k).setWidth 32
            let args : InstallArgs := ⟨BitVec.ofNat 24 c, 0, 3, !rx, BitVec.ofNat 24 c, 0, ssci, none⟩
            applyChange (.install c 256 (plateImage s c r args key 3) (!rx)) none s

/-- Appliance mode at a boundary. -/
def applianceBoundary (s : State) : State :=
  let s := match s.stk.quiet with
    | some n => { s with stk := { s.stk with quiet := some (n + 1) } }
    | none => s
  let s := applianceEntry (applianceEnd s)
  applianceKeyed (applianceOpen ((s.each (List.range 4) applianceTry).each (List.range 4) applianceFollow))

/-! ### Rows -/

/-- BOOT (R441). -/
def execBoot (env : BootEnv) (s : State) : Out := .next (boot env s)

/-- DATA_PLANE_READY (R442). -/
def execDataPlaneReady (s : State) : Out := .next (dataPlaneReady s)

/-- APPLIANCE_MODE_ENTRY (R33). -/
def execApplianceModeEntry (s : State) : Out := .next (live applianceEntry s)

/-- APPLIANCE_MODE_END (R35). -/
def execApplianceModeEnd (s : State) : Out := .next (live applianceEnd s)

/-- APPLIANCE_MODE_TRY (R70). -/
def execApplianceModeTry (g : Fin 4) (s : State) : Out := .next (live (applianceTry g) s)

end Sys2Proof.Machine
end

