-- ==== Sys2Proof/Machine/Events.lean ====
section
/-! DEFINITION. The rows that no master writes: what the device does when something falls due, and what comes from outside. Each
is its block's own operation, which tests whether it is due; a row whose condition does not hold changes nothing. STROKE_BOUNDARY
performs those that nothing outside decides (log 7, DEDUCED, log 24, DEDUCED). -/

namespace Sys2Proof.Machine

/-- Task 7 (R64): a cell of a pier column in which every tenant's deck and graver share is recomputed; the shares follow from the
quotas in force whenever they are used, so that nothing else changes. (log 113, DEDUCED) -/
def quotaRebalance (s : State) : State := if (List.range 66).any fun i => taskCell s 7 (44 + i) then taskItem 7 s else s

/-- The wipe of a graver that a claim or a release made due (R151). -/
def graverWipe (n : Nat) (s : State) : State := if (s.grv n).wipeDue then wipe n s else s

/-- The stroke is lost (R38). -/
def loseStroke (s : State) : State := { s with stk := { s.stk with lost := true } }

/-- The condition of a source has ended. -/
def conditionCleared (src : Nat) (s : State) : State :=
  let s := pptClear src s
  if s.bit 0x080005 18 ∨ s.bit 0x080005 19 then s else { s with stk := { s.stk with lost := false } }

/-- The four readings of every 2^10 strokes (R294): a condition that begins fires, one that has ended is over. -/
def temperature (q0 q1 q2 q3 : Byte) (s : State) : State :=
  if s.now % 2 ^ 10 ≠ 0 then s
  else
    let l := [q0.toNat, q1.toNat, q2.toNat, q3.toNat]
    let s := s.each l.zipIdx fun (v, q) s => s.wr (0x080029 + q) (BitVec.ofNat 24 v)
    let s := if l.any fun v => decide (s.fld 0x080028 15 8 < v) then pptBegin 44 s else pptClear 44 s
    if l.any fun v => decide (v < s.fld 0x080028 7 0) then pptBegin 45 s else pptClear 45 s

/-- PCIe hot reset and link down: every function is treated as under FLR (R334), HIF_STAT shows no link, and an
event tells which it was. -/
def pcieLost (e : Nat) (s : State) : State := flrReceive 0 (hifEvent e (s.wr 0x0A0000 0))

/-- The link trains; one whose PLL failed stays down (R433). How many VFs the host enables is the host's: a free number (log 60, DESIGN CHOICE). -/
def pcieUp (speed width : Nat) (s : State) : State :=
  if 3 ≤ Tab.get 0 s.pwr.pllTries 2 ∨ (s.lcs = 5 ∧ s.bit 0x100000 22) then s
  else
    let (k, s) := s.useFree
    s.wr 0x0A0000 (BitVec.ofNat 24 (2 ^ 23 + speed % 8 * 2 ^ 20 + width % 16 * 2 ^ 16 + (Config.freeWord k).toNat % 257))

/-- COUNTER_WRAP of counter n: its pair adds what the present stroke has contributed, where counter n passes 2^48 with it. -/
def counterWrap (n : Nat) (s : State) : State :=
  let add : Nat := if s.bit (pmcCounter n) 23 && !pmcChained s n then Tab.get 0 s.pmc.add n else 0
  if pmcFrozen s ∨ s.rdN (pmcCounter n + 5) 2 + add < 2 ^ 48 then s
  else
    let i := n / 2
    let s := pmcPair i s
    { s with pmc := { s.pmc with add := Tab.set 0 (Tab.set 0 s.pmc.add (2 * i) 0) (2 * i + 1) 0 } }

/-! ### Strokes, setup and switches -/

/-- SETUP_EFFECT (R16). -/
def execSetupEffect (s : State) : Out := .next (live (setupEffect) s)

/-- PLAN_CHECK_DONE (R47). -/
def execPlanCheckDone (s : State) : Out := .next (live (planCheckEnd) s)

/-- SWITCH_ACK (R56). -/
def execSwitchAck (k : Fin 4) (i : Fin 60) (s : State) : Out := .next (live (switchAck k i) s)

/-- SWITCH_DECISION (R57). -/
def execSwitchDecision (k : Fin 4) (s : State) : Out := .next (live (switchDecision k) s)

/-- SWITCH_STROKE (R57). -/
def execSwitchStroke (k : Fin 4) (s : State) : Out := .next (live (switchStroke k) s)

/-- TASK_URGENT (R63). -/
def execTaskUrgent (t : Fin 8) (s : State) : Out := .next (live (taskPromote t) s)

/-! ### Background tasks (R63, R64) -/

/-- SDRAM_SCRUB (R64). -/
def execSdramScrub (c : Fin 2) (plate : BitVec 24) (r : LineCheck) (s : State) : Out :=
  .next (live (scrubSlot c plate.toNat r) s)

/-- PLATE_WRITE_BACK (R64). -/
def execPlateWriteBack (plate : BitVec 24) (s : State) : Out := .next (live (writeBackTask plate.toNat) s)

/-- INTEGRITY_TREE_REFRESH (R64). -/
def execIntegrityTreeRefresh (c : Fin 2) (level : Fin 9) (node : BitVec 24) (ok : Bool) (s : State) : Out :=
  .next (live (treeRefresh c level node.toNat ok) s)

/-- PLATE_CACHE_SCRUB (R64). -/
def execPlateCacheScrub (plate : BitVec 24) (uncorrectable : Bool) (s : State) : Out :=
  .next (live (cacheScrub plate.toNat uncorrectable) s)

/-- DECK_SCRUB (R64). -/
def execDeckScrub (s : State) : Out := .next (live (deckScrub) s)

/-- NVA_WEAR_LEVELLING (R267). -/
def execNvaWearLevelling (b : Fin 2) (sector : Nat) (s : State) : Out := .next (live (wearLevel b sector) s)

/-- NVA_CHECKPOINT_WRITE (R261). -/
def execNvaCheckpointWrite (b : Fin 2) (s : State) : Out := .next (live (fun s => imageStart b (checkpointStart b s)) s)

/-- TENANT_QUOTA_REBALANCE (R64). -/
def execTenantQuotaRebalance (s : State) : Out := .next (live (quotaRebalance) s)

/-! ### Ports and frames -/

/-- GROUP_MODE_CHANGE (R69). -/
def execGroupModeChange (g : Fin 8) (s : State) : Out := .next (live (groupModeChange g) s)

/-- PORT_DISABLE (R69). -/
def execPortDisable (g : Fin 8) (p : Fin 4) (s : State) : Out := .next (live (portDisable (4 * g + p)) s)

/-- BRINGUP_TIMEOUT (R68). -/
def execBringupTimeout (g : Fin 8) (p : Fin 4) (s : State) : Out := .next (live (bringupTimeout (4 * g + p)) s)

/-- PORT_UP (R68). -/
def execPortUp (g : Fin 8) (p : Fin 4) (s : State) : Out := .next (live (portEnterUp (4 * g + p)) s)

/-- PORT_LINK_DOWN (R68). -/
def execPortLinkDown (g : Fin 8) (p : Fin 4) (s : State) : Out := .next (live (portLinkDown (4 * g + p)) s)

/-- AN_COMPLETE (R67). -/
def execAnComplete (g : Fin 8) (p : Fin 4) (s : State) : Out := .next (live (anComplete (4 * g + p)) s)

/-- TRAINING_COMPLETE (R67). -/
def execTrainingComplete (g : Fin 8) (p : Fin 4) (s : State) : Out := .next (live (trainingComplete (4 * g + p)) s)

/-- LANE_LOCK (R86). -/
def execLaneLock (lane : Fin 32) (locked localFault remoteFault : Bool) (s : State) : Out :=
  .next (live (fun s => laneLock lane locked (portFaults lane localFault remoteFault s)) s)

/-- MARGIN_RECAL_QUEUE (R71). -/
def execMarginRecalQueue (lane : Fin 34) (margin : Nat) (s : State) : Out := .next (live (marginRecal lane margin) s)

/-- CELL_TAKE (R76). No bytes take nothing. -/
def execCellTake (port : Fin 33) (bytes : Bytes) (s : State) : Out :=
  .next (live (fun s => if bytes.isEmpty then s else cellTake port bytes s) s)

/-- PAUSE_REPEAT (R79). -/
def execPauseRepeat (g p : Fin 4) (s : State) : Out := .next (live (pauseRepeat (4 * g + p)) s)

/-- PAUSE_QUANTA_EXPIRY (R72). -/
def execPauseQuantaExpiry (port : Fin 16) (s : State) : Out := .next (live (pauseExpiry port) s)

/-- FRAME_BIND (R83). -/
def execFrameBind (port : Fin 32) (fcsOk : Bool) (fecCorr fecUnc : Nat) (s : State) : Out :=
  .next (live (frameBind port fcsOk fecCorr fecUnc) s)

/-- FRAME_AGE_OUT (R81). -/
def execFrameAgeOut (id : Nat) (s : State) : Out := .next (live (ageOut id) s)

/-- FRAME_TRANSMIT (R80). -/
def execFrameTransmit (port : Fin 32) (whole : Bool) (s : State) : Out := .next (live (frameTransmit port whole) s)

/-! ### Spans -/

/-- STIPPLE_EMISSION (R105). -/
def execStippleEmission (chan : BitVec 18) (s : State) : Out := .next (live (stippleEmit chan.toNat) s)

/-- BATCH_RELEASE (R89). -/
def execBatchRelease (n : Fin 28) (s : State) : Out := .next (live (batchRelease n) s)

/-- SPAN_FAULT (R115). -/
def execSpanFault (n : Fin 28) (s : State) : Out := .next (live (spanFault n) s)

/-- SPAN_FAULT_COVER (R115). -/
def execSpanFaultCover (n : Fin 28) (s : State) : Out := .next (live (spanFaultCover n) s)

/-- SPAN_TEST_RETURN (R114). -/
def execSpanTestReturn (n : Fin 28) (s : State) : Out := .next (live (spanTestReturn n) s)

/-- SPAN_SWAP_EFFECT (R115). -/
def execSpanSwapEffect (s : State) : Out := .next (live (spnSwapEffect) s)

/-- TRUSS_NUMBER_FREE (R111). -/
def execTrussNumberFree (i : Fin 32) (s : State) : Out := .next (live (trussFree i) s)

/-! ### Plates -/

/-- PLATE_CHANGE_EFFECT (R120). -/
def execPlateChangeEffect (plate : BitVec 24) (s : State) : Out := .next (live (plateChangeEffect plate.toNat) s)

/-- RECYCLE_COMPLETE (R122). -/
def execRecycleComplete (plate : BitVec 24) (s : State) : Out := .next (live (recycleComplete plate.toNat) s)

/-- PLATE_FETCH (R133, R135). -/
def execPlateFetch (c : Fin 2) (s : State) : Out := .next (live (plateFetch c) s)

/-- PLATE_FETCH_DONE (R136). -/
def execPlateFetchDone (plate : BitVec 24) (r : FetchCheck) (s : State) : Out :=
  .next (live (plateFetchDone plate.toNat r) s)

/-- MISS_LATE (R136). -/
def execMissLate (plate : BitVec 24) (s : State) : Out := .next (live (missLate plate.toNat) s)

/-- SCORE_HALVING (R132). -/
def execScoreHalving (s : State) : Out := .next (live (scoreHalving) s)

/-- PIN_REGION_MOVE (R125). -/
def execPinRegionMove (plate : BitVec 24) (s : State) : Out :=
  .next (live (fun s => enterPinned plate.toNat (leavePinned plate.toNat s)) s)

/-- SNAPSHOT_TAKEN (R141). -/
def execSnapshotTaken (s : State) : Out := .next (live (snapshotTake) s)

/-- DRAINED (R139). -/
def execDrained (c : Fin 2) (s : State) : Out := .next (live (drainDone c) s)

/-! ### Gravers -/

/-- GRAVER_WIPE (R151): the wipe that a claim or a release made due. -/
def execGraverWipe (n : Fin 16) (s : State) : Out := .next (live (graverWipe n) s)

/-- JOB_START (R52, R153). -/
def execJobStart (n : Fin 16) (s : State) : Out := .next (live (fun s => if jobMayStart s n then jobBegin n s else s) s)

/-- JOB_COMPLETE (R153). -/
def execJobComplete (n : Fin 16) (s : State) : Out := .next (live (jobFinish n) s)

/-- JOB_ABORT_TAKE (R155). -/
def execJobAbortTake (n : Fin 16) (s : State) : Out := .next (live (jobAbortNow n) s)

/-- GRAVER_CHECK_FAIL (R165). -/
def execGraverCheckFail (n : Fin 16) (s : State) : Out :=
  .next (live (checkFail n) s)

/-- END (R149). -/
def execEndList (n : Fin 16) (s : State) : Out := .next (live (listCommand n 0 (endOp n)) s)

/-- MAC (R149). -/
def execMac (n : Fin 16) (s : State) : Out := .next (live (listCommand n 0x01 (macOp n (some 0))) s)

/-- MACW (R149). -/
def execMacw (n : Fin 16) (s : State) : Out := .next (live (listCommand n 2 fun g => macOp n (auxValue g) g) s)

/-- ASH (R149). -/
def execAsh (n : Fin 16) (s : State) : Out := .next (live (listCommand n 0x03 (ashOp n)) s)

/-- ACLR (R149). -/
def execAclr (n : Fin 16) (s : State) : Out := .next (live (listCommand n 0x04 (aclrOp n)) s)

/-- GRAVER_MOV (R149). -/
def execGraverMov (n : Fin 16) (s : State) : Out := .next (live (listCommand n 0x05 (movOp n)) s)

/-- LDK (R154). -/
def execLdk (n : Fin 16) (stalled : Bool) (s : State) : Out := .next (live (listCommand n 6 (ldkOp n stalled)) s)

/-- LDK_DELIVERY (R154). -/
def execLdkDelivery (n : Fin 16) (s : State) : Out := .next (live (ldkDelivery n) s)

/-- GRAVER_CMP (R149). -/
def execGraverCmp (n : Fin 16) (s : State) : Out := .next (live (listCommand n 0x07 (cmpOp n)) s)

/-- LMOD (R149). -/
def execLmod (n : Fin 16) (s : State) : Out := .next (live (listCommand n 0x08 (lmodOp n)) s)

/-- LOOP (R149). -/
def execLoop (n : Fin 16) (s : State) : Out := .next (live (listCommand n 0x10 (loopOp n)) s)

/-- NEXT (R149). -/
def execNext (n : Fin 16) (s : State) : Out := .next (live (listCommand n 0x11 (nextOp n)) s)

/-! ### Key store -/

/-- KEY_SLOTS_FREE (R185). -/
def execKeySlotsFree (slot : BitVec 16) (s : State) : Out := .next (live (freeObject slot.toNat) s)

/-- TENANT_ERASE_COMPLETE (R194). -/
def execTenantEraseComplete (t : Fin 256) (s : State) : Out := .next (live (tenantEraseComplete t) s)

/-- QUORUM_TIMEOUT (R199). -/
def execQuorumTimeout (cls : Fin 6) (s : State) : Out := .next (live (quorumExpire cls) s)

/-- AGREEMENT_START (R195). -/
def execAgreementStart (site : Fin 5) (s : State) : Out := .next (live (agreementStart site) s)

/-- AGREEMENT_MESSAGE_1 (R195). -/
def execAgreementMessage1 (site : Fin 5) (msg : AgreeMsg) (s : State) : Out := .next (live (agreementOne site msg) s)

/-- AGREEMENT_MESSAGE_2 (R195). -/
def execAgreementMessage2 (site : Fin 5) (msg : AgreeMsg) (s : State) : Out := .next (live (agreementMessageTwo site msg) s)

/-- AGREEMENT_MESSAGE_3 (R196). -/
def execAgreementMessage3 (site : Fin 5) (msg : AgreeMsg) (s : State) : Out :=
  .next (live (agreementMessageThree site msg) s)

/-- AGREEMENT_RETRY (R195). -/
def execAgreementRetry (site : Fin 5) (s : State) : Out := .next (live (agreementRetry site) s)

/-! ### Nonvolatile array -/

/-- NVA_OP_START (R254). -/
def execNvaOpStart (b : Fin 2) (s : State) : Out := .next (live (opStart b) s)

/-- NVA_OP_DONE (R254). -/
def execNvaOpDone (b : Fin 2) (pulses : Nat) (verified : Bool) (errors : List (Nat × Nat)) (s : State) : Out :=
  .next (live (workEnd b pulses verified errors) s)

/-- READ_WINDOW_DONE (R253). -/
def execReadWindowDone (b : Fin 2) (bitErrors : Nat) (s : State) : Out := .next (live (windowDone b bitErrors) s)

/-- REMAP_COPY_DONE (R266). -/
def execRemapCopyDone (b : Fin 2) (errors : List (Nat × Nat)) (s : State) : Out := .next (live (remapCopyDone b errors) s)

/-- RESERVE_SLOT_ERASE (R262). -/
def execReserveSlotErase (b : Fin 2) (s : State) : Out := .next (live (slotEraseStart b) s)

/-- BANK_SWAP (R259). -/
def execBankSwap (s : State) : Out := .next (live (bankSwap) s)

/-- DIGEST_DONE (R260). -/
def execDigestDone (errors : List (Nat × Nat)) (s : State) : Out := .next (live (digestEnd errors) s)

/-! ### Parapet -/

/-- CASE_SWITCH_FIRE (R288): an armed switch fires after DEB + 1 disagreeing samples, with or without main power. -/
def execCaseSwitchFire (i : Fin 8) (samples : Nat) (s : State) : Out :=
  .next (if s.bit (cswReg i) 23 ∧ s.fld (cswReg i) 3 0 < samples then pptBegin i s else s)

/-- GUARD_LOOP_FIRE (R289, R290): an armed loop fires after DEB + 1 mismatches, with or without main power. -/
def execGuardLoopFire (i : Fin 16) (samples : Nat) (s : State) : Out :=
  .next (if loopArmed s i ∧ s.fld (grdReg i) 3 0 < samples then pptBegin (8 + i) s else s)

/-- SUPPLY_WINDOW_FIRE (R292). -/
def execSupplyWindowFire (v : Fin 7) (copy : Fin 2) (mv ns : Nat) (s : State) : Out := .next (live (supplyWindow v copy mv ns) s)

/-- SUPPLY_GLITCH_FIRE (R292). -/
def execSupplyGlitchFire (v : Fin 7) (mv ns : Nat) (s : State) : Out := .next (live (supplyGlitch v mv ns) s)

/-- CLOCK_MONITOR_FIRE (R38, R293), of a copy of the monitors: 0 REFCLK at `value` Hz for some cycles, 1 a fabric clock half-period of `value` ps, 2
the fabric PLL's lock, with which the stroke is lost; 3 missed cycles of the backup oscillator, which the backup domain watches without main power too. -/
def execClockMonitorFire (i : Fin 4) (copy : Fin 2) (value cycles : Nat) (s : State) : Out :=
  .next (match i with
    | 0 => live (fun s => if refclkOut value cycles ∧ monitorWatches s (0x8E + copy) then pptBegin 40 s else s) s
    | 1 => live (fun s => if value < 320 ∧ monitorWatches s (0x8E + copy) then pptBegin 41 s else s) s
    | 2 => live (fun s => if monitorWatches s (0x8E + copy) then loseStroke (pptBegin 42 s) else s) s
    | 3 => if 4 ≤ cycles then pptBegin 25 s else s)

/-- STROKE_GENERATOR_MISMATCH (R38). -/
def execStrokeGeneratorMismatch (s : State) : Out := .next (live (fun s => loseStroke (pptBegin 43 s)) s)

/-- TEMPERATURE_SAMPLE (R294). -/
def execTemperatureSample (q0 q1 q2 q3 : Byte) (s : State) : Out := .next (live (temperature q0 q1 q2 q3) s)

/-- LIGHT_FIRE (R295): an enabled sensor. -/
def execLightFire (i : Fin 24) (ns : Nat) (s : State) : Out := .next (live (lightSensor i ns) s)

/-- VBAT_LOW (R284): source 24, watched while main power is present. -/
def execVbatLow (s : State) : Out := .next (live (pptBegin 24) s)

/-- SOURCE_CONDITION_CLEARED (R287, R298): the condition of a source is over, and with those of 42 and 43 the loss of the
stroke. -/
def execSourceConditionCleared (src : Fin 64) (s : State) : Out := .next (conditionCleared src s)

/-! ### Entropy -/

/-- HEALTH_TEST_FAIL (R308). -/
def execHealthTestFail (k : Fin 4) (apt : Bool) (bits : List Bool) (s : State) : Out := .next (live (healthFail k apt bits) s)

/-- CONDITIONED_BLOCK (R307). -/
def execConditionedBlock (raw : List Bool) (s : State) : Out := .next (live (conditionedBlock raw) s)

/-- STARTUP_PASS (R306). -/
def execStartupPass (k : Fin 4) (s : State) : Out := .next (live (startupPass k) s)

/-- SOURCE_TEST_END (R310). -/
def execSourceTestEnd (k : Fin 4) (s : State) : Out := .next (live (sourceTestEnd k) s)

/-- INSTANTIATE (R311). -/
def execInstantiate (i : Fin 6) (s : State) : Out := .next (live (drbgInstantiate i) s)

/-- RESEED (R312). -/
def execReseed (i : Fin 6) (s : State) : Out := .next (live (drbgReseed i) s)

/-- BLOCKED_RESEED (R313). -/
def execBlockedReseed (i : Fin 6) (s : State) : Out := .next (live (drbgUnblock i) s)

/-! ### Host interface -/

/-- DESCRIPTOR_FETCH (R320). -/
def execDescriptorFetch (g : Fin 520) (desc : Bytes) (dmaOk : Bool) (s : State) : Out :=
  .next (live (fetchDescriptor g desc dmaOk) s)

/-- COMMAND_COMMIT (R321). -/
def execCommandCommit (s : State) : Out := .next (live (commitAll) s)

/-- COMPLETION_WRITE (R323). -/
def execCompletionWrite (g : Fin 520) (ok : Bool) (s : State) : Out := .next (live (writeCompletion g ok) s)

/-- MSIX_MESSAGE (R337). -/
def execMsixMessage (g : Fin 520) (masked : Bool) (s : State) : Out := .next (live (sendMessage g masked) s)

/-- FLR (R334). (log 116, DEDUCED) -/
def execFlr (f : Fin 257) (s : State) : Out := .next (live (flrReceive f) s)

/-- FLR_TAKE (R334). -/
def execFlrTake (f : Fin 257) (s : State) : Out := .next (live (flrTake f) s)

/-- PCIE_HOT_RESET (R334). -/
def execPcieHotReset (s : State) : Out := .next (live (pcieLost 4) s)

/-- PCIE_LINK_DOWN (R334). -/
def execPcieLinkDown (s : State) : Out := .next (live (pcieLost 3) s)

/-- PCI_PERST_N (R334, R434): the endpoint is reset and its link goes (log 59, DEDUCED). -/
def execPciPerstN (s : State) : Out := .next (live (pcieLost 3) s)

/-- PCIE_LINK_UP (R318): a link whose PLL failed stays down (R433). -/
def execPcieLinkUp (speed width : Nat) (s : State) : Out := .next (live (pcieUp speed width) s)

/-- VF_ENABLE_CLEAR (R334): an FLR of every VF. -/
def execVfEnableClear (s : State) : Out := .next (live (fun s => (s.each (List.range' 1 256) flrReceive).put 0x0A0000 8 0 0) s)

/-! ### Viaduct -/

/-- HEARTBEAT_SEND (R345). -/
def execHeartbeatSend (s : State) : Out := .next (live (heartbeatSend) s)

/-- HEARTBEAT (R345). -/
def execHeartbeat (b : Beat) (s : State) : Out := .next (live (heartbeatTake b) s)

/-- RES (R137). -/
def execRes (plate : BitVec 24) (value : BitVec 64) (s : State) : Out := .next (live (resTake plate.toNat value.toNat) s)

/-- RES_ACK (R137). -/
def execResAck (plate : BitVec 24) (value : BitVec 64) (s : State) : Out :=
  .next (live (resAckTake plate.toNat value.toNat) s)

/-- MARK (R356). -/
def execMark (stroke : StrokeTime) (marks : List (Nat × BitVec 64)) (s : State) : Out :=
  .next (live (markTake stroke.toNat (marks.map fun x => (x.1, x.2.toNat))) s)

/-- MARK_ACK (R356). -/
def execMarkAck (stroke : StrokeTime) (s : State) : Out := .next (live (markAckTake stroke.toNat) s)

/-- MARK_ACK_TIMEOUT (R356). -/
def execMarkAckTimeout (s : State) : Out := .next (live (markTimeout) s)

/-- SETUP (R353). -/
def execSetup (id : Nat) (content : Mirrored) (s : State) : Out := .next (live (setupTake id content) s)

/-- SETUP_ACK (R353). -/
def execSetupAck (id : Nat) (s : State) : Out := .next (live (setupAckTake id) s)

/-- SETUP_ACK_LATE (R353). -/
def execSetupAckLate (id : Nat) (s : State) : Out := .next (live (setupAckLate id) s)

/-- LEDGER (R357). -/
def execLedger (image : List Nat) (s : State) : Out := .next (live (ledgerTake (image.map (BitVec.ofNat 168))) s)

/-- RELINQUISH (R358). -/
def execRelinquish (s : State) : Out := .next (live (relinquishTake) s)

/-- HANDOVER (R361). -/
def execHandover (t : StrokeTime) (s : State) : Out := .next (live (handoverTake t) s)

/-- HANDOVER_ACK (R361). -/
def execHandoverAck (s : State) : Out := .next (live (handoverAckTake) s)

/-- HANDOVER_STROKE (R361). -/
def execHandoverStroke (s : State) : Out := .next (live (fun s => ledgerFollows s (handoverStroke s)) s)

/-- SWEEP_START (R350). -/
def execSweepStart (s : State) : Out := .next (live (sweepStart) s)

/-- SWEEP_DONE (R350, R351). -/
def execSweepDone (s : State) : Out := .next (live (sweepDone) s)

/-- VIADUCT_LINK_UP (R346). -/
def execViaductLinkUp (s : State) : Out := .next (live (viaductUp) s)

/-- VIADUCT_LINK_DOWN (R352). -/
def execViaductLinkDown (s : State) : Out := .next (live (viaductDown) s)

/-- PAIR_SILENCE (R358). -/
def execPairSilence (s : State) : Out := .next (live (pairSilence) s)

/-- TAKEOVER (R359). -/
def execTakeover (s : State) : Out := .next (live (fun s => ledgerFollows s (takeover s)) s)

/-- HOLD_IN_SAMPLE (R342). -/
def execHoldInSample (level : Bool) (s : State) : Out := .next (live (holdSample level) s)

/-! ### Custodian interfaces -/

/-- CLR_OP_DONE (R374–R382). -/
def execClrOpDone (s : State) : Out := .next (live (clrOpDone) s)

/-- FIELD_SETTLED (R371). -/
def execFieldSettled (s : State) : Out := .next (live (fieldSettled) s)

/-- FIELD_FAULT (R371). -/
def execFieldFault (s : State) : Out := .next (live (fieldFault) s)

/-- CLR_BLOCK_TIMEOUT (R373). -/
def execClrBlockTimeout (badCrc : Bool) (s : State) : Out := .next (live (clrBlockTimeout badCrc) s)

/-- CLR_WTX (R373). -/
def execClrWtx (wtxm : Byte) (s : State) : Out := .next (live (clrWtx wtxm.toNat) s)

/-- LPCD_PING (R381). -/
def execLpcdPing (amplitude phase : BitVec 12) (s : State) : Out := .next (live (lpcdPing amplitude.toNat phase.toNat) s)

/-- QUIET_EXPIRY (R379). -/
def execQuietExpiry (e : Fin 8) (s : State) : Out := .next (live (quietExpiry e) s)

/-- ICC_OP_DONE (R385, R386). -/
def execIccOpDone (s : State) : Out := .next (live (iccOpDone) s)

/-- ICC_BLOCK_TIMEOUT (R386). -/
def execIccBlockTimeout (s : State) : Out := .next (live (iccBlockTimeout) s)

/-- ICC_WTX (R386). -/
def execIccWtx (mult : Byte) (s : State) : Out := .next (live (iccWtx mult.toNat) s)

/-- ICC_CLASS_RETRY (R385). -/
def execIccClassRetry (atr : Option Bytes) (s : State) : Out := .next (live (iccClassRetry atr) s)

/-- ICC_CARD_REMOVED (R387). -/
def execIccCardRemoved (s : State) : Out := .next (live (iccRemoved) s)

/-- ICC_CARD_INSERTED (R387). -/
def execIccCardInserted (s : State) : Out := .next (live (iccInserted) s)

/-- ICC_OVERCURRENT (R387). -/
def execIccOvercurrent (milliamp : Nat) (s : State) : Out := .next (live (iccOvercurrent milliamp) s)

/-- RMC_OP_DONE (R389, R391). -/
def execRmcOpDone (s : State) : Out := .next (live (fun s => containerRead s (rmcOpDone s)) s)

/-- RMC_RETUNE (R390). -/
def execRmcRetune (taps : Bool) (s : State) : Out := .next (live (rmcRetune taps) s)

/-- RMC_BUSY_TIMEOUT (R391). -/
def execRmcBusyTimeout (s : State) : Out := .next (live (rmcBusyTimeout) s)

/-- RMC_CARD_REMOVED (R388). -/
def execRmcCardRemoved (s : State) : Out := .next (live (rmcRemoved) s)

/-- RMC_CARD_INSERTED (R388). -/
def execRmcCardInserted (s : State) : Out := .next (live (rmcInserted) s)

/-! ### Ledger, lamps and counters -/

/-- PERIOD_CLOSE (R400). -/
def execPeriodClose (s : State) : Out := .next (live (ledgerPeriod) s)

/-- CHANNEL_TIME_ADD (R398). -/
def execChannelTimeAdd (s : State) : Out := .next (live (channelTimeAdd) s)

/-- LAMP_PERIOD_START (R410). -/
def execLampPeriodStart (k : Fin 6) (imeas : Byte) (s : State) : Out := .next (live (lampPeriodStart k imeas) s)

/-- LAMP_SHORT (R415). -/
def execLampShort (k : Fin 6) (s : State) : Out := .next (live (lampShort k) s)

/-- LAMP_RETRY (R415). -/
def execLampRetry (k : Fin 6) (s : State) : Out := .next (live (lampRetry k) s)

/-- LAMP_RETRIES_RESET (R415). -/
def execLampRetriesReset (k : Fin 6) (s : State) : Out := .next (live (lampRetriesReset k) s)

/-- COUNTER_WRAP (R420): the counter passes its last value with what the stroke has added. -/
def execCounterWrap (n : Fin 32) (s : State) : Out := .next (live (counterWrap n) s)

/-- PMC_START (R422). -/
def execPmcStart (s : State) : Out := .next (live (pmcStart) s)

end Sys2Proof.Machine
end

