-- ==== Sys2Proof/Machine/Calls.lean ====
section
/-! DEFINITION. The host commands of R330 and the keystone calls of R246: each is its block's operation within the frame of
R326, R327 and R242 (`command`), under its opcode and its call number; 128 stands for no call, 0x1000 for no opcode. -/

namespace Sys2Proof.Machine

/-- TRUSS_PIN (R111, R331). -/
def trussPin (c : Caller) (e : Effective) (n target : Nat) (s : State) : State :=
  match pinTarget target with
  | none => finish c stFORMAT s
  | some t => chanCommand c e n (.pinChan n t) s

/-- NOP (R330). -/
def execNop (c : Caller) (s : State) : Out :=
  .next (live (command 0x00 128 c (fun s => finish c stOK s)) s)

/-- CMD_ABORT (R330). -/
def execCmdAbort (c : Caller) (tag : BitVec 32) (s : State) : Out :=
  .next (live (command 0x01 128 c (cmdAbort c tag)) s)

/-- CMD_LOST (R335). -/
def execCmdLost (c : Caller) (s : State) : Out :=
  .next (live (command 0x02 128 c (cmdLost c)) s)

/-- CHANNEL_OPEN (R332). -/
def execChannelOpen (c : Caller) (eff : Effective) (a : ChannelArgs) (s : State) : Out :=
  .next (live (command 0x10 128 c (channelOpen c eff a)) s)

/-- CHANNEL_CLOSE (R331). -/
def execChannelClose (c : Caller) (eff : Effective) (chan : BitVec 24) (s : State) : Out :=
  .next (live (command 0x11 128 c (chanCommand c eff chan.toNat (.closeChan chan.toNat))) s)

/-- CHANNEL_RATE (R331). -/
def execChannelRate (c : Caller) (eff : Effective) (chan : BitVec 24) (rate : Nat) (s : State) : Out :=
  .next (live (command 0x12 128 c (chanCommand c eff chan.toNat (.rateChan chan.toNat rate))) s)

/-- TRUSS_PIN (R111, R331). -/
def execTrussPin (c : Caller) (eff : Effective) (chan : BitVec 24) (target : Byte) (s : State) : Out :=
  .next (live (command 0x13 128 c (trussPin c eff chan.toNat target.toNat)) s)

/-- PLATE_INSTALL (R120, R333). -/
def execPlateInstall (c : Caller) (eff : Effective) (a : InstallArgs) (s : State) : Out :=
  .next (live (command 0x20 128 c (plateInstall c eff a)) s)

/-- PLATE_RETIRE (R120). -/
def execPlateRetire (c : Caller) (eff : Effective) (plate : BitVec 24) (s : State) : Out :=
  .next (live (command 0x21 128 c (plateCommand c eff plate.toNat (.retire plate.toNat (callerDom c))
    fun s e => retireCheck s plate.toNat (callerDom c) (some e))) s)

/-- PLATE_RECYCLE (R122). -/
def execPlateRecycle (c : Caller) (eff : Effective) (plate : BitVec 24) (s : State) : Out :=
  .next (live (command 0x22 128 c (plateCommand c eff plate.toNat (.recycle plate.toNat (callerDom c))
    fun s e => recycleCheck s plate.toNat (callerDom c) (some e))) s)

/-- PLATE_PIN (R125). -/
def execPlatePin (c : Caller) (eff : Effective) (plate : BitVec 24) (s : State) : Out :=
  .next (live (command 0x23 128 c (plateCommand c eff plate.toNat (.pin plate.toNat true)
    fun s eff => pinCheck s plate.toNat true (some eff))) s)

/-- PLATE_UNPIN (R125). -/
def execPlateUnpin (c : Caller) (eff : Effective) (plate : BitVec 24) (s : State) : Out :=
  .next (live (command 0x24 128 c (plateCommand c eff plate.toNat (.pin plate.toNat false)
    fun s eff => pinCheck s plate.toNat false (some eff))) s)

/-- PLATE_READ (R331). -/
def execPlateRead (c : Caller) (plate : BitVec 24) (s : State) : Out :=
  .next (live (command 0x25 128 c (plateRead c plate.toNat)) s)

/-- GRAVER_JOB (R331). -/
def execGraverJob (c : Caller) (a : GraverArgs) (s : State) : Out :=
  .next (live (command 0x30 128 c (graverJob c a)) s)

/-- KEY_GENERATE (R184). -/
def execKeyGenerate (c : Caller) (ty usage flags : Byte) (size : Nat) (s : State) : Out :=
  .next (live (command 0x40 64 c (keyGenerate c ty usage flags size)) s)

/-- KEY_DERIVE (R176, R177). -/
def execKeyDerive (c : Caller) (parent : BitVec 24) (method ty usage flags : Byte) (label context : Bytes) (s : State) : Out :=
  .next (live (command 0x41 65 c (keyDerive c parent method ty usage flags label context)) s)

/-- KEY_WRAP (R188). -/
def execKeyWrap (c : Caller) (wrap target : BitVec 24) (format : Byte) (s : State) : Out :=
  .next (live (command 0x42 66 c (keyWrap c wrap target format)) s)

/-- KEY_UNWRAP (R189). -/
def execKeyUnwrap (c : Caller) (wrap : BitVec 24) (format mask flags : Byte) (salt : Bytes) (blob : Bytes) (s : State) : Out :=
  .next (live (command 0x43 67 c (keyUnwrap c wrap format mask flags salt blob)) s)

/-- KEY_MAC (R184). -/
def execKeyMac (c : Caller) (handle : BitVec 24) (alg : Byte) (data : Bytes) (s : State) : Out :=
  .next (live (command 0x44 68 c (keyMac c handle alg data)) s)

/-- KEY_RESTRICT (R181). -/
def execKeyRestrict (c : Caller) (handle : BitVec 24) (usageMask flagsMask : Byte) (s : State) : Out :=
  .next (live (command 0x45 69 c (keyRestrict c handle usageMask flagsMask)) s)

/-- KEY_PERSIST (R182). -/
def execKeyPersist (c : Caller) (handle : BitVec 24) (s : State) : Out :=
  .next (live (command 0x46 70 c (keyPersist c handle)) s)

/-- KEY_DESTROY (R185). -/
def execKeyDestroy (c : Caller) (handle : BitVec 24) (s : State) : Out :=
  .next (live (command 0x47 71 c (keyDestroy c handle)) s)

/-- KEY_INFO (R184). -/
def execKeyInfo (c : Caller) (handle : BitVec 24) (s : State) : Out :=
  .next (live (command 0x48 72 c (keyInfo c handle)) s)

/-- SWITCH_ARM (R56, R331). -/
def execSwitchArm (c : Caller) (t : StrokeTime) (kind : Byte) (s : State) : Out :=
  .next (live (command 0x50 96 c (switchArm c t kind.toNat)) s)

/-- SWITCH_CANCEL (R59, R331). -/
def execSwitchCancel (c : Caller) (slot : Byte) (s : State) : Out :=
  .next (live (command 0x51 97 c (switchCancel c slot.toNat)) s)

/-- LEDGER_READ, the open period (R408). -/
def execReadOpenPeriod (c : Caller) (s : State) : Out :=
  .next (live (command 0x60 128 c (readOpenPeriod c)) s)

/-- LEDGER_READ, records (R408). -/
def execReadRecords (c : Caller) (seq : BitVec 32) (s : State) : Out :=
  .next (live (command 0x60 128 c (readRecords c seq.toNat)) s)

/-- LEDGER_READ, SET_CLOCK (R408). -/
def execSetClock (c : Caller) (w : BitVec 64) (s : State) : Out :=
  .next (live (command 0x60 128 c (setClock c w.toNat)) s)

/-- LEDGER_READ, SET_PERIOD (R408). -/
def execSetPeriod (c : Caller) (secs : BitVec 32) (s : State) : Out :=
  .next (live (command 0x60 128 c (setPeriod c secs.toNat)) s)

/-- TENANT_CREATE (R191). -/
def execTenantCreate (c : Caller) (t : Fin 256) (q : Quotas) (s : State) : Out :=
  .next (live (command 0x70 121 c (tenantCreate c t q)) s)

/-- TENANT_QUOTA (R192). -/
def execTenantQuota (c : Caller) (t : Fin 256) (q : Quotas) (s : State) : Out :=
  .next (live (command 0x71 121 c (tenantQuota c t q)) s)

/-- TENANT_SUSPEND (R191). -/
def execTenantSuspend (c : Caller) (t : Fin 256) (s : State) : Out :=
  .next (live (command 0x72 121 c (tenantMove c t 1 2)) s)

/-- TENANT_RESUME (R191). -/
def execTenantResume (c : Caller) (t : Fin 256) (s : State) : Out :=
  .next (live (command 0x73 121 c (tenantMove c t 2 1)) s)

/-- TENANT_ERASE (R194). -/
def execTenantErase (c : Caller) (eff : Effective) (t : Fin 256) (s : State) : Out :=
  .next (live (command 0x74 121 c (tenantErase c eff t)) s)

/-- PLAN_LOAD (R331). -/
def execPlanLoad (c : Caller) (words : List Word) (s : State) : Out :=
  .next (live (command 0x80 120 c (planLoad c words)) s)

/-- CLEAR_CLASS_SET (R331). -/
def execClearClassSet (c : Caller) (eff : Effective) (side : Fin 2) (k : Fin 16) (mtch act : Word) (da : BitVec 48) (s : State) : Out :=
  .next (live (command 0x81 128 c (clearClassSet c eff side k mtch act da)) s)

/-- CONFIG_STORE (R331). -/
def execConfigStore (c : Caller) (s : State) : Out :=
  .next (live (command 0x82 128 c (configStore c)) s)

/-- CONFIG_ERASE (R331). -/
def execConfigErase (c : Caller) (s : State) : Out :=
  .next (live (command 0x83 128 c (configErase c)) s)

/-- CUSTODIAN_ENROLL (R197). -/
def execCustodianEnroll (c : Caller) (u : Fin 32) (key : Bytes) (s : State) : Out :=
  .next (live (command 0x90 128 c (custodianEnroll c u key)) s)

/-- CUSTODIAN_REMOVE (R197). -/
def execCustodianRemove (c : Caller) (u : Fin 32) (s : State) : Out :=
  .next (live (command 0x91 128 c (custodianRemove c u)) s)

/-- QUORUM_SET (R198). -/
def execQuorumSet (c : Caller) (cls : Byte) (size : Nat) (s : State) : Out :=
  .next (live (command 0x92 128 c (quorumSet c cls.toNat size)) s)

/-- LIFECYCLE (R275). -/
def execLifecycle (c : Caller) (target : Word) (package : Bytes) (s : State) : Out :=
  .next (live (command 0xA0 122 c (lifecycleCommand c target package)) s)

/-- DEBUG_CERT (R281). -/
def execDebugCert (c : Caller) (cert : Bytes) (s : State) : Out :=
  .next (live (command 0xA1 123 c (debugCert c cert)) s)

/-- DEBUG_CERT with OP = END (R281). -/
def execDebugCertEnd (c : Caller) (s : State) : Out :=
  .next (live (command 0xA1 123 c (debugCertEnd c)) s)

/-- QUORUM_REQUEST (R199, R246). -/
def execQuorumRequest (c : Caller) (cls : Fin 6) (digest : Bytes) (s : State) : Out :=
  .next (live (command 0x1000 104 c (quorumRequest c cls digest)) s)

/-- QUORUM_APPROVE (R199, R246). -/
def execQuorumApprove (c : Caller) (cls : Fin 6) (u : Fin 32) (sig : Bytes) (s : State) : Out :=
  .next (live (command 0x1000 105 c (quorumApprove c cls u sig)) s)

/-- GRAVER_CLAIM (R246). -/
def execGraverClaim (c : Caller) (n : Fin 16) (s : State) : Out :=
  .next (live (command 0x1000 80 c (graverClaim c n)) s)

/-- GRAVER_COMMIT (R160, R246). -/
def execGraverCommit (c : Caller) (n : Fin 16) (dur : Nat) (s : State) : Out :=
  .next (live (command 0x1000 81 c (graverCommit c n dur)) s)

/-- GRAVER_RELEASE (R246). -/
def execGraverRelease (c : Caller) (n : Fin 16) (s : State) : Out :=
  .next (live (command 0x1000 82 c (graverRelease c n)) s)

/-- PLATE_INSTALL key fields (R119, R246). -/
def execPlateKeyInstall (c : Caller) (plate : BitVec 24) (sak : BitVec 24) (s : State) : Out :=
  .next (live (command 0x1000 88 c (plateKeyInstall c plate.toNat sak.toNat)) s)

/-- LEDGER_SIGN (R246, R403). -/
def execLedgerSign (c : Caller) (record : Bytes) (s : State) : Out :=
  .next (live (command 0x1000 112 c (ledgerSign c record)) s)

end Sys2Proof.Machine
end

