-- ==== Sys2Proof/Machine/Boundary.lean ====
section
/-! DEFINITION. STROKE_BOUNDARY (R53): what every boundary evaluates, in the order of R53, from the operations that the rows of
single events share. What only the outside decides (a frame's last byte, a card's answer, what a fetch or a program finds) has
its own row and does not happen here (log 24, DEDUCED). -/

namespace Sys2Proof.Machine

/-! ### The stroke's end -/

/-- Stroke time moves on: to the target of a forward set that was accepted (R43), else by one stroke. A forward set's jump does
not move wall time (R399). -/
def boundaryTime (s : State) : State :=
  if s.stk.forward.isSome then
    let t := forwardEffect s
    ledgerForward (lead s.stk.time.num.toNat t.stk.time.num.toNat - 1) t
  else moveTime 1 s

/-- What left the device in the stroke just ended is gone, and nothing has been done in the new one. -/
def boundaryClear (s : State) : State :=
  testBoundary { s with
    stk := { s.stk with done := [] }
    dck := { s.dck with wire := [] }
    vdt := { s.vdt with sent := [] }
    vwire := { s.vwire with frames := [] }
    hif := { s.hif with messages := [] } }

/-- A core at a boundary: its store buffer has drained, WAIT is over, 500 cycles have passed, and what was cleared to run is
HELD (R205, R221, R224, R229). -/
def coreBoundary (n : Nat) (s : State) : State :=
  let s := drainCore n s
  let c := s.core n
  coreHold n (s.setCore n { c with idle := false, cyc := (c.cyc + 500) % 2 ^ 48, used := c.used - 500 })

/-- The parapet, SAFE-HOLD and the life cycle come before the completions of R53 (R247, R276, R299). -/
def boundaryGuard (s : State) : State :=
  let s := pptRelease (eraseTick (parapetResponse s))
  certBoundary (provisionTimeout (transitStep (transitionMode (safeHold s))))

/-- The plan check may take 64 strokes (R47). -/
def checkTick (s : State) : State :=
  match s.stk.check with
  | some (0, _, _) => planCheckEnd s
  | some (n + 1, p, d) => if n = 0 then planCheckEnd s else { s with stk := { s.stk with check := some (n, p, d) } }
  | none => s

/-- Object slots that are being destroyed. -/
def destroyingHeads (s : State) : List Nat := (s.key.slots.filter fun (_, v) => v.head && v.state == .destroying).map (·.1)

/-- The outcomes of withdrawn calls are kept while the command that they serve is in flight (R245). -/
def keptOnly (s : State) : State :=
  { s with kept := s.kept.filter fun k => k.tag == 0xFFFFFF || s.hif.flights.any fun f => 2 ^ 12 * f.g + f.idx == k.tag }

/-- Item 1: what has ended with the stroke. The batches are released in ascending span number, so of two copies of one PN the lower
span's sets the replay bit (R97, log 137, DESIGN CHOICE). -/
def boundaryEnds (k : Nat) (s : State) : State :=
  let s := ledgerBoundary s
  let s := proceedAll (keyBoundary (nvaEnds (s.each (List.range 16) jobFinish)))
  let s := s.each (List.range 28) batchRelease
  let s := s.each (List.range 67) coreBoundary
  let s := s.each (List.range 67) fun n s => digDone n (pclrDone n (coreResetDone n s))
  let s := s.each (List.range' 1 66) kcallRelease
  let s := s.each (s.plc.recycles.map (·.1)) recycleComplete
  let s := s.each (List.range 32) trussFree
  let s := s.each (List.range 28) spanTestReturn
  let s := s.each [0, 1] drainDone
  let s := s.each ((s.plc.queue ++ s.plc.waiting).map (·.plate)) missLate
  let s := checkTick (snapshotTake s)
  let s := s.each (destroyingHeads s) freeObject
  let s := s.each (List.range 256) tenantEraseComplete
  let s := s.each (List.range 5) agreementRetry
  ledgerFollows s (viaductBoundary k (keptOnly s))

/-- Item 2: aborts and cancels of operations; FLRs; actions whose quorum has not come. -/
def boundaryAborts (s : State) : State :=
  let s := (abortsDecide s).each (List.range 16) jobAbortNow
  let s := s.each s.hif.flr flrTake
  let s := s.each (List.range 6) quorumExpire
  containerMake (rmcBoundary (iccBoundary (clrBoundary s)))

/-- Items 3 and 4: the decisions two strokes ahead, then the cancels written in the stroke just ended: CAUSE 2, or 8 where
the decision has committed the switch (R57, R59). -/
def boundarySwitches (s : State) : State :=
  let s := s.each (List.range 4) switchDecision
  let l := s.stk.cancels
  let s := { s with stk := { s.stk with cancels := [] } }
  s.each l fun k s => if swState s k = 1 then cancelSlot k 2 s else if swState s k = 2 then s.put (swReg k 1) 7 4 8 else s

/-- Item 5: content that falls on the new stroke. -/
def boundaryContent (s : State) : State :=
  let s := contentEffect ((List.range 4).filter (switchDue s)) s
  let s := s.each (List.range 8) groupModeChange
  let s := s.each (List.range 32) portDisable
  let s := s.each (List.range 32) bringupTimeout
  let s := s.each (List.range 32) portStart
  let s := s.each s.spn.faults spanFaultCover
  let s := (spnSwapEffect s).each (List.range 28) spanTestCover
  let s := s.each (s.plc.cache.map (·.1)) leavePinned
  applianceBoundary s

/-- Item 6: plan cells, tasks that become URGENT, and what falls due by its stroke number. -/
def boundaryCells (s : State) : State :=
  let s := s.each (List.range 8) taskPromote
  let s := s.each [0, 1] sdcCalibration
  let s := scoreHalving s
  let s := s.each (s.dck.frames.map (·.id)) ageOut
  let s := s.each (List.range 16) fun p s => pauseExpiry p (pauseRepeat p s)
  entBoundary (lampBoundary s)

/-- The fetches of channel `c` in this stroke's cell: a GUARANTEED cell carries up to 73 of them (R135). -/
def fetchCells (c : Nat) (s : State) : State :=
  s.each (List.range (if s.cell (110 + c) = 0 then 73 else 1)) fun _ s => plateFetch c s

/-- Item 7: starts. -/
def boundaryStarts (s : State) : State :=
  let s := s.each (List.range 16) graverWipe
  let s := s.each (List.range 16) fun n s => graverStage n (if jobMayStart s n then jobBegin n s else s)
  let s := s.each [0, 1] fetchCells
  let s := s.each [0, 1] fun c s => returnMove c (drainMove c s)
  let s := s.each [0, 1] fun b s => imageStart b (checkpointStart b s)
  let s := commitAll (nvaBoundary s)
  let s := s.each (List.range' 1 66) pierReplace
  let s := s.each (List.range 67) ipendBoundary
  dispatch s

/-- Power at a boundary: the watchdog, the SAFE-HOLD timer, and a device reset that is due. -/
def boundaryPower (s : State) : State := deviceResetDue (safeHoldTimer (watchdogExpiry (wdogWarn s)))

/-- STROKE_BOUNDARY. A device that is held has no strokes; during the hold-up duties only they go on (R438). (log 1, DEDUCED) -/
def strokeBoundary (s : State) : State :=
  if !powered s then s
  else
    let k := s.now
    let s := boundaryClear (powerTick (boundaryTime s))
    if s.pwr.phase = .warned then powerFailHold (deviceResetDue s)
    else
      let s := boundaryGuard (pmcBoundary s)
      let s := boundarySwitches (boundaryAborts (boundaryEnds k s))
      boundaryPower (boundaryStarts (boundaryCells (boundaryContent s)))

/-! ### Rows -/

/-- STROKE_BOUNDARY (R53). -/
def execStrokeBoundary (s : State) : Out := .next (strokeBoundary s)

/-- STROKE_WRAP (R39): the boundary that ends the last stroke of an era. -/
def execStrokeWrap (s : State) : Out :=
  .next (if strokeWraps s.stk.time 1 && s.stk.forward.isNone then strokeBoundary s else s)

/-- FORWARD_SET_EFFECT (R43): the boundary at which an accepted forward set takes effect. -/
def execForwardSetEffect (s : State) : Out := .next (if s.stk.forward.isSome then strokeBoundary s else s)

end Sys2Proof.Machine
end

