-- ==== Sys2Proof/Machine/Dispatch.lean ====
section
/-! DEFINITION. The effect of every command of the table: one arm per constructor, each a call of the command's meaning. -/

namespace Sys2Proof.Machine

open Sys2Proof

def exec (i : Instr) (s : State) : Host.Outcome State Fault Refusal :=
  match i with
  | .strokeBoundary => Sys2Proof.Machine.execStrokeBoundary s
  | .setupEffect => Sys2Proof.Machine.execSetupEffect s
  | .applianceModeEntry => Sys2Proof.Machine.execApplianceModeEntry s
  | .applianceModeEnd => Sys2Proof.Machine.execApplianceModeEnd s
  | .applianceModeTry g => Sys2Proof.Machine.execApplianceModeTry g s
  | .strokeWrap => Sys2Proof.Machine.execStrokeWrap s
  | .stkFwdGo m w => Sys2Proof.Machine.execStkFwdGo m w s
  | .forwardSetEffect => Sys2Proof.Machine.execForwardSetEffect s
  | .stkPlanData m w => Sys2Proof.Machine.execStkPlanData m w s
  | .stkPlanCheck m w => Sys2Proof.Machine.execStkPlanCheck m w s
  | .planCheckDone => Sys2Proof.Machine.execPlanCheckDone s
  | .arm m k w => Sys2Proof.Machine.execArm m k w s
  | .cancel m k w => Sys2Proof.Machine.execCancel m k w s
  | .switchPartAdd m k j w => Sys2Proof.Machine.execSwitchPartAdd m k j w s
  | .stkSwPack m w => Sys2Proof.Machine.execStkSwPack m w s
  | .switchAck k ix => Sys2Proof.Machine.execSwitchAck k ix s
  | .switchDecision k => Sys2Proof.Machine.execSwitchDecision k s
  | .switchStroke k => Sys2Proof.Machine.execSwitchStroke k s
  | .stkTreq m w => Sys2Proof.Machine.execStkTreq m w s
  | .testStep col pass => Sys2Proof.Machine.execTestStep col pass s
  | .taskUrgent t => Sys2Proof.Machine.execTaskUrgent t s
  | .urgClr m t w => Sys2Proof.Machine.execUrgClr m t w s
  | .sdramScrub c plate r => Sys2Proof.Machine.execSdramScrub c plate r s
  | .plateWriteBack plate => Sys2Proof.Machine.execPlateWriteBack plate s
  | .integrityTreeRefresh c level node ok => Sys2Proof.Machine.execIntegrityTreeRefresh c level node ok s
  | .plateCacheScrub plate uncorrectable => Sys2Proof.Machine.execPlateCacheScrub plate uncorrectable s
  | .deckScrub => Sys2Proof.Machine.execDeckScrub s
  | .nvaWearLevelling b sector => Sys2Proof.Machine.execNvaWearLevelling b sector s
  | .nvaCheckpointWrite b => Sys2Proof.Machine.execNvaCheckpointWrite b s
  | .tenantQuotaRebalance => Sys2Proof.Machine.execTenantQuotaRebalance s
  | .stkCntClr m w => Sys2Proof.Machine.execStkCntClr m w s
  | .groupModeChange g => Sys2Proof.Machine.execGroupModeChange g s
  | .portDisable g p => Sys2Proof.Machine.execPortDisable g p s
  | .bringupTimeout g p => Sys2Proof.Machine.execBringupTimeout g p s
  | .portUp g p => Sys2Proof.Machine.execPortUp g p s
  | .portLinkDown g p => Sys2Proof.Machine.execPortLinkDown g p s
  | .marginRecalQueue lane margin => Sys2Proof.Machine.execMarginRecalQueue lane margin s
  | .cellTake port bytes => Sys2Proof.Machine.execCellTake port bytes s
  | .pauseRepeat g p => Sys2Proof.Machine.execPauseRepeat g p s
  | .frameBind port fcsOk fecCorr fecUnc => Sys2Proof.Machine.execFrameBind port fcsOk fecCorr fecUnc s
  | .frameAgeOut id => Sys2Proof.Machine.execFrameAgeOut id s
  | .frameTransmit port whole => Sys2Proof.Machine.execFrameTransmit port whole s
  | .cqRxdescRead m q => Sys2Proof.Machine.execCqRxdescRead m q s
  | .cqRxdataRead m q => Sys2Proof.Machine.execCqRxdataRead m q s
  | .cqRxdone m q w => Sys2Proof.Machine.execCqRxdone m q w s
  | .cqTxdata m q w => Sys2Proof.Machine.execCqTxdata m q w s
  | .cqTxsend m q w => Sys2Proof.Machine.execCqTxsend m q w s
  | .prtCntClr m g w => Sys2Proof.Machine.execPrtCntClr m g w s
  | .dckCntClr m w => Sys2Proof.Machine.execDckCntClr m w s
  | .stippleEmission chan => Sys2Proof.Machine.execStippleEmission chan s
  | .batchRelease n => Sys2Proof.Machine.execBatchRelease n s
  | .spanFault n => Sys2Proof.Machine.execSpanFault n s
  | .spanFaultCover n => Sys2Proof.Machine.execSpanFaultCover n s
  | .spanTestReturn n => Sys2Proof.Machine.execSpanTestReturn n s
  | .spnSwap m w => Sys2Proof.Machine.execSpnSwap m w s
  | .spanSwapEffect => Sys2Proof.Machine.execSpanSwapEffect s
  | .pnevStatRead m => Sys2Proof.Machine.execPnevStatRead m s
  | .pnevPop m w => Sys2Proof.Machine.execPnevPop m w s
  | .trussNumberFree ix => Sys2Proof.Machine.execTrussNumberFree ix s
  | .spnCntClr m w => Sys2Proof.Machine.execSpnCntClr m w s
  | .plateChangeEffect plate => Sys2Proof.Machine.execPlateChangeEffect plate s
  | .recycleComplete plate => Sys2Proof.Machine.execRecycleComplete plate s
  | .plateFetch c => Sys2Proof.Machine.execPlateFetch c s
  | .plateFetchDone plate r => Sys2Proof.Machine.execPlateFetchDone plate r s
  | .missLate plate => Sys2Proof.Machine.execMissLate plate s
  | .scoreHalving => Sys2Proof.Machine.execScoreHalving s
  | .pinRegionMove plate => Sys2Proof.Machine.execPinRegionMove plate s
  | .plateSnapshot m w => Sys2Proof.Machine.execPlateSnapshot m w s
  | .snapshotTaken => Sys2Proof.Machine.execSnapshotTaken s
  | .drain m c w => Sys2Proof.Machine.execDrain m c w s
  | .drainReturn m c w => Sys2Proof.Machine.execDrainReturn m c w s
  | .drained c => Sys2Proof.Machine.execDrained c s
  | .plcCntClr m w => Sys2Proof.Machine.execPlcCntClr m w s
  | .sdcCntClr m c w => Sys2Proof.Machine.execSdcCntClr m c w s
  | .sdcCalibrationQueue c => Sys2Proof.Machine.execSdcCalibrationQueue c s
  | .claim m n w => Sys2Proof.Machine.execClaim m n w s
  | .commit m n w => Sys2Proof.Machine.execCommit m n w s
  | .release m n w => Sys2Proof.Machine.execRelease m n w s
  | .graverWipe n => Sys2Proof.Machine.execGraverWipe n s
  | .jobStart n => Sys2Proof.Machine.execJobStart n s
  | .jobComplete n => Sys2Proof.Machine.execJobComplete n s
  | .jobAbort m n w => Sys2Proof.Machine.execJobAbort m n w s
  | .jobAbortTake n => Sys2Proof.Machine.execJobAbortTake n s
  | .listWrite m n w => Sys2Proof.Machine.execListWrite m n w s
  | .bankAccess m n w => Sys2Proof.Machine.execBankAccess m n w s
  | .graverDrain m w => Sys2Proof.Machine.execGraverDrain m w s
  | .graverCheckFail n => Sys2Proof.Machine.execGraverCheckFail n s
  | .endList n => Sys2Proof.Machine.execEndList n s
  | .mac n => Sys2Proof.Machine.execMac n s
  | .macw n => Sys2Proof.Machine.execMacw n s
  | .ash n => Sys2Proof.Machine.execAsh n s
  | .aclr n => Sys2Proof.Machine.execAclr n s
  | .graverMov n => Sys2Proof.Machine.execGraverMov n s
  | .ldk n stalled => Sys2Proof.Machine.execLdk n stalled s
  | .ldkDelivery n => Sys2Proof.Machine.execLdkDelivery n s
  | .graverCmp n => Sys2Proof.Machine.execGraverCmp n s
  | .lmod n => Sys2Proof.Machine.execLmod n s
  | .loop n => Sys2Proof.Machine.execLoop n s
  | .next n => Sys2Proof.Machine.execNext n s
  | .grvCntClr m w => Sys2Proof.Machine.execGrvCntClr m w s
  | .keySlotsFree slot => Sys2Proof.Machine.execKeySlotsFree slot s
  | .tenantEraseComplete t => Sys2Proof.Machine.execTenantEraseComplete t s
  | .quorumRequest c cls digest => Sys2Proof.Machine.execQuorumRequest c cls digest s
  | .quorumApprove c cls u sig => Sys2Proof.Machine.execQuorumApprove c cls u sig s
  | .quorumTimeout cls => Sys2Proof.Machine.execQuorumTimeout cls s
  | .agreementStart site => Sys2Proof.Machine.execAgreementStart site s
  | .agreementMessage1 site msg => Sys2Proof.Machine.execAgreementMessage1 site msg s
  | .agreementMessage2 site msg => Sys2Proof.Machine.execAgreementMessage2 site msg s
  | .agreementMessage3 site msg => Sys2Proof.Machine.execAgreementMessage3 site msg s
  | .agreementRetry site => Sys2Proof.Machine.execAgreementRetry site s
  | .keyCntClr m w => Sys2Proof.Machine.execKeyCntClr m w s
  | .mov n d src => Sys2Proof.Machine.execMov n d src s
  | .add n d src => Sys2Proof.Machine.execAdd n d src s
  | .sub n d src => Sys2Proof.Machine.execSub n d src s
  | .cmp n d src => Sys2Proof.Machine.execCmp n d src s
  | .and n d src => Sys2Proof.Machine.execAnd n d src s
  | .or n d src => Sys2Proof.Machine.execOr n d src s
  | .xor n d src => Sys2Proof.Machine.execXor n d src s
  | .addq n d ix => Sys2Proof.Machine.execAddq n d ix s
  | .movq n d ix => Sys2Proof.Machine.execMovq n d ix s
  | .shli n d k => Sys2Proof.Machine.execShli n d k s
  | .shri n d k => Sys2Proof.Machine.execShri n d k s
  | .asri n d k => Sys2Proof.Machine.execAsri n d k s
  | .bcc n cc long o => Sys2Proof.Machine.execBcc n cc long o s
  | .call n o => Sys2Proof.Machine.execCall n o s
  | .not n d => Sys2Proof.Machine.execNot n d s
  | .neg n d => Sys2Proof.Machine.execNeg n d s
  | .jmp n src => Sys2Proof.Machine.execJmp n src s
  | .callr n src => Sys2Proof.Machine.execCallr n src s
  | .ret n bad => Sys2Proof.Machine.execRet n bad s
  | .nop c => Sys2Proof.Machine.execNop c s
  | .coreNop n => Sys2Proof.Machine.execCoreNop n s
  | .push n src => Sys2Proof.Machine.execPush n src s
  | .pop n d markOk => Sys2Proof.Machine.execPop n d markOk s
  | .ldi n d ix => Sys2Proof.Machine.execLdi n d ix s
  | .ldh n d ix => Sys2Proof.Machine.execLdh n d ix s
  | .addi n d ix => Sys2Proof.Machine.execAddi n d ix s
  | .andi n d ix => Sys2Proof.Machine.execAndi n d ix s
  | .ori n d ix => Sys2Proof.Machine.execOri n d ix s
  | .xori n d ix => Sys2Proof.Machine.execXori n d ix s
  | .cmpi n d ix => Sys2Proof.Machine.execCmpi n d ix s
  | .tsti n d ix => Sys2Proof.Machine.execTsti n d ix s
  | .ld n d b o markOk => Sys2Proof.Machine.execLd n d b o markOk s
  | .st n src b o => Sys2Proof.Machine.execSt n src b o s
  | .inp n d b o markOk => Sys2Proof.Machine.execInp n d b o markOk s
  | .out n src b o => Sys2Proof.Machine.execOut n src b o s
  | .adc n d src => Sys2Proof.Machine.execAdc n d src s
  | .sbc n d src => Sys2Proof.Machine.execSbc n d src s
  | .tst n d src => Sys2Proof.Machine.execTst n d src s
  | .mul n d src => Sys2Proof.Machine.execMul n d src s
  | .mulhu n d src => Sys2Proof.Machine.execMulhu n d src s
  | .mulhs n d src => Sys2Proof.Machine.execMulhs n d src s
  | .divu n d src => Sys2Proof.Machine.execDivu n d src s
  | .remu n d src => Sys2Proof.Machine.execRemu n d src s
  | .shlv n d src => Sys2Proof.Machine.execShlv n d src s
  | .shrv n d src => Sys2Proof.Machine.execShrv n d src s
  | .asrv n d src => Sys2Proof.Machine.execAsrv n d src s
  | .rori n d k => Sys2Proof.Machine.execRori n d k s
  | .clz n d src => Sys2Proof.Machine.execClz n d src s
  | .movc n d src cc => Sys2Proof.Machine.execMovc n d src cc s
  | .mfs n d sr => Sys2Proof.Machine.execMfs n d sr s
  | .mts n sr src => Sys2Proof.Machine.execMts n sr src s
  | .trap n num => Sys2Proof.Machine.execTrap n num s
  | .eret n bad => Sys2Proof.Machine.execEret n bad s
  | .wait n => Sys2Proof.Machine.execWait n s
  | .fence n => Sys2Proof.Machine.execFence n s
  | .flush n => Sys2Proof.Machine.execFlush n s
  | .bkpt n => Sys2Proof.Machine.execBkpt n s
  | .interrupt n => Sys2Proof.Machine.execInterrupt n s
  | .coreLockstepMismatch n => Sys2Proof.Machine.execCoreLockstepMismatch n s
  | .pierSpareStart n answers => Sys2Proof.Machine.execPierSpareStart n answers s
  | .run m n w => Sys2Proof.Machine.execRun m n w s
  | .coreReset m n w => Sys2Proof.Machine.execCoreReset m n w s
  | .coreResetDone n => Sys2Proof.Machine.execCoreResetDone n s
  | .pclr m n w => Sys2Proof.Machine.execPclr m n w s
  | .pclrDone n => Sys2Proof.Machine.execPclrDone n s
  | .dig m n w => Sys2Proof.Machine.execDig m n w s
  | .digDone n => Sys2Proof.Machine.execDigDone n s
  | .loadEn m n w => Sys2Proof.Machine.execLoadEn m n w s
  | .pldData m n w => Sys2Proof.Machine.execPldData m n w s
  | .kdone m n w => Sys2Proof.Machine.execKdone m n w s
  | .kcallRelease n => Sys2Proof.Machine.execKcallRelease n s
  | .ddata m n w => Sys2Proof.Machine.execDdata m n w s
  | .safeHold => Sys2Proof.Machine.execSafeHold s
  | .program m b w => Sys2Proof.Machine.execProgram m b w s
  | .erase m b w => Sys2Proof.Machine.execErase m b w s
  | .sealWrite m b w => Sys2Proof.Machine.execSealWrite m b w s
  | .sealRead m b w => Sys2Proof.Machine.execSealRead m b w s
  | .nvaOpStart b => Sys2Proof.Machine.execNvaOpStart b s
  | .nvaOpDone b pulses verified errors => Sys2Proof.Machine.execNvaOpDone b pulses verified errors s
  | .readWindow m b w => Sys2Proof.Machine.execReadWindow m b w s
  | .readWindowDone b bitErrors => Sys2Proof.Machine.execReadWindowDone b bitErrors s
  | .remapCopyDone b errors => Sys2Proof.Machine.execRemapCopyDone b errors s
  | .reserveSlotErase b => Sys2Proof.Machine.execReserveSlotErase b s
  | .nvaSwap m w => Sys2Proof.Machine.execNvaSwap m w s
  | .bankSwap => Sys2Proof.Machine.execBankSwap s
  | .digest m w => Sys2Proof.Machine.execDigest m w s
  | .digestDone errors => Sys2Proof.Machine.execDigestDone errors s
  | .nvaCntClr m w => Sys2Proof.Machine.execNvaCntClr m w s
  | .lcsNext m w => Sys2Proof.Machine.execLcsNext m w s
  | .transitionMode => Sys2Proof.Machine.execTransitionMode s
  | .transitionStepDone => Sys2Proof.Machine.execTransitionStepDone s
  | .provisionTimeout => Sys2Proof.Machine.execProvisionTimeout s
  | .certExpiry => Sys2Proof.Machine.execCertExpiry s
  | .dbgHalt core => Sys2Proof.Machine.execDbgHalt core s
  | .dbgStep core => Sys2Proof.Machine.execDbgStep core s
  | .dbgResume core => Sys2Proof.Machine.execDbgResume core s
  | .dbgRead core space markOk => Sys2Proof.Machine.execDbgRead core space markOk s
  | .dbgWrite core space w => Sys2Proof.Machine.execDbgWrite core space w s
  | .traceOn core => Sys2Proof.Machine.execTraceOn core s
  | .traceOff => Sys2Proof.Machine.execTraceOff s
  | .dbgData w => Sys2Proof.Machine.execDbgData w s
  | .lcsr => Sys2Proof.Machine.execLcsr s
  | .dbgacc reg w => Sys2Proof.Machine.execDbgacc reg w s
  | .caseSwitchFire ix samples => Sys2Proof.Machine.execCaseSwitchFire ix samples s
  | .guardLoopFire ix samples => Sys2Proof.Machine.execGuardLoopFire ix samples s
  | .supplyWindowFire v copy mv ns => Sys2Proof.Machine.execSupplyWindowFire v copy mv ns s
  | .supplyGlitchFire v mv ns => Sys2Proof.Machine.execSupplyGlitchFire v mv ns s
  | .clockMonitorFire ix copy value cycles => Sys2Proof.Machine.execClockMonitorFire ix copy value cycles s
  | .temperatureSample q0 q1 q2 q3 => Sys2Proof.Machine.execTemperatureSample q0 q1 q2 q3 s
  | .lightFire ix ns => Sys2Proof.Machine.execLightFire ix ns s
  | .parapetResponse => Sys2Proof.Machine.execParapetResponse s
  | .eraseDone => Sys2Proof.Machine.execEraseDone s
  | .parapetRelease m w => Sys2Proof.Machine.execParapetRelease m w s
  | .lockdownRelease => Sys2Proof.Machine.execLockdownRelease s
  | .parapetErase m w => Sys2Proof.Machine.execParapetErase m w s
  | .trecClr m w => Sys2Proof.Machine.execTrecClr m w s
  | .guardSeed m ix w => Sys2Proof.Machine.execGuardSeed m ix w s
  | .pptCntClr m w => Sys2Proof.Machine.execPptCntClr m w s
  | .backupPowerOn => Sys2Proof.Machine.execBackupPowerOn s
  | .vbatSwitch auxMillivolt => Sys2Proof.Machine.execVbatSwitch auxMillivolt s
  | .healthTestFail k apt bits => Sys2Proof.Machine.execHealthTestFail k apt bits s
  | .conditionedBlock raw => Sys2Proof.Machine.execConditionedBlock raw s
  | .startupPass k => Sys2Proof.Machine.execStartupPass k s
  | .sourceTestEnd k => Sys2Proof.Machine.execSourceTestEnd k s
  | .instantiate ix => Sys2Proof.Machine.execInstantiate ix s
  | .reseed ix => Sys2Proof.Machine.execReseed ix s
  | .blockedReseed ix => Sys2Proof.Machine.execBlockedReseed ix s
  | .entDataRead m ix => Sys2Proof.Machine.execEntDataRead m ix s
  | .entStatRead m ix => Sys2Proof.Machine.execEntStatRead m ix s
  | .entCntClr m w => Sys2Proof.Machine.execEntCntClr m w s
  | .doorbell m g w => Sys2Proof.Machine.execDoorbell m g w s
  | .descriptorFetch g desc dmaOk => Sys2Proof.Machine.execDescriptorFetch g desc dmaOk s
  | .commandCommit => Sys2Proof.Machine.execCommandCommit s
  | .completionWrite g ok => Sys2Proof.Machine.execCompletionWrite g ok s
  | .msixMessage g masked => Sys2Proof.Machine.execMsixMessage g masked s
  | .ringEnable m g w => Sys2Proof.Machine.execRingEnable m g w s
  | .ringDisable m g w => Sys2Proof.Machine.execRingDisable m g w s
  | .flr f => Sys2Proof.Machine.execFlr f s
  | .flrTake f => Sys2Proof.Machine.execFlrTake f s
  | .pcieHotReset => Sys2Proof.Machine.execPcieHotReset s
  | .pcieLinkDown => Sys2Proof.Machine.execPcieLinkDown s
  | .hifCntClr m w => Sys2Proof.Machine.execHifCntClr m w s
  | .cmdAbort c tag => Sys2Proof.Machine.execCmdAbort c tag s
  | .cmdLost c => Sys2Proof.Machine.execCmdLost c s
  | .channelOpen c eff a => Sys2Proof.Machine.execChannelOpen c eff a s
  | .channelClose c eff chan => Sys2Proof.Machine.execChannelClose c eff chan s
  | .channelRate c eff chan rate => Sys2Proof.Machine.execChannelRate c eff chan rate s
  | .trussPin c eff chan target => Sys2Proof.Machine.execTrussPin c eff chan target s
  | .plateInstall c eff a => Sys2Proof.Machine.execPlateInstall c eff a s
  | .plateRetire c eff plate => Sys2Proof.Machine.execPlateRetire c eff plate s
  | .plateRecycle c eff plate => Sys2Proof.Machine.execPlateRecycle c eff plate s
  | .platePin c eff plate => Sys2Proof.Machine.execPlatePin c eff plate s
  | .plateUnpin c eff plate => Sys2Proof.Machine.execPlateUnpin c eff plate s
  | .plateRead c plate => Sys2Proof.Machine.execPlateRead c plate s
  | .graverJob c a => Sys2Proof.Machine.execGraverJob c a s
  | .keyGenerate c ty usage flags size => Sys2Proof.Machine.execKeyGenerate c ty usage flags size s
  | .keyDerive c parent method ty usage flags label context => Sys2Proof.Machine.execKeyDerive c parent method ty usage flags label context s
  | .keyWrap c wrap target format => Sys2Proof.Machine.execKeyWrap c wrap target format s
  | .keyUnwrap c wrap format mask flags salt blob => Sys2Proof.Machine.execKeyUnwrap c wrap format mask flags salt blob s
  | .keyMac c handle alg data => Sys2Proof.Machine.execKeyMac c handle alg data s
  | .keyRestrict c handle usageMask flagsMask => Sys2Proof.Machine.execKeyRestrict c handle usageMask flagsMask s
  | .keyPersist c handle => Sys2Proof.Machine.execKeyPersist c handle s
  | .keyDestroy c handle => Sys2Proof.Machine.execKeyDestroy c handle s
  | .keyInfo c handle => Sys2Proof.Machine.execKeyInfo c handle s
  | .switchArm c src kind => Sys2Proof.Machine.execSwitchArm c src kind s
  | .switchCancel c slot => Sys2Proof.Machine.execSwitchCancel c slot s
  | .readOpenPeriod c => Sys2Proof.Machine.execReadOpenPeriod c s
  | .readRecords c seq => Sys2Proof.Machine.execReadRecords c seq s
  | .setClock c w => Sys2Proof.Machine.execSetClock c w s
  | .setPeriod c secs => Sys2Proof.Machine.execSetPeriod c secs s
  | .tenantCreate c t q => Sys2Proof.Machine.execTenantCreate c t q s
  | .tenantQuota c t q => Sys2Proof.Machine.execTenantQuota c t q s
  | .tenantSuspend c t => Sys2Proof.Machine.execTenantSuspend c t s
  | .tenantResume c t => Sys2Proof.Machine.execTenantResume c t s
  | .tenantErase c eff t => Sys2Proof.Machine.execTenantErase c eff t s
  | .planLoad c words => Sys2Proof.Machine.execPlanLoad c words s
  | .clearClassSet c eff side k mtch act da => Sys2Proof.Machine.execClearClassSet c eff side k mtch act da s
  | .configStore c => Sys2Proof.Machine.execConfigStore c s
  | .configErase c => Sys2Proof.Machine.execConfigErase c s
  | .custodianEnroll c u key => Sys2Proof.Machine.execCustodianEnroll c u key s
  | .custodianRemove c u => Sys2Proof.Machine.execCustodianRemove c u s
  | .quorumSet c cls size => Sys2Proof.Machine.execQuorumSet c cls size s
  | .lifecycle c target package => Sys2Proof.Machine.execLifecycle c target package s
  | .debugCert c cert => Sys2Proof.Machine.execDebugCert c cert s
  | .debugCertEnd c => Sys2Proof.Machine.execDebugCertEnd c s
  | .graverClaim c n => Sys2Proof.Machine.execGraverClaim c n s
  | .graverCommit c n dur => Sys2Proof.Machine.execGraverCommit c n dur s
  | .graverRelease c n => Sys2Proof.Machine.execGraverRelease c n s
  | .plateKeyInstall c plate sak => Sys2Proof.Machine.execPlateKeyInstall c plate sak s
  | .ledgerSign c record => Sys2Proof.Machine.execLedgerSign c record s
  | .heartbeatSend => Sys2Proof.Machine.execHeartbeatSend s
  | .heartbeat b => Sys2Proof.Machine.execHeartbeat b s
  | .res plate value => Sys2Proof.Machine.execRes plate value s
  | .resAck plate value => Sys2Proof.Machine.execResAck plate value s
  | .mark stroke marks => Sys2Proof.Machine.execMark stroke marks s
  | .markAck stroke => Sys2Proof.Machine.execMarkAck stroke s
  | .markAckTimeout => Sys2Proof.Machine.execMarkAckTimeout s
  | .setup id content => Sys2Proof.Machine.execSetup id content s
  | .setupAck id => Sys2Proof.Machine.execSetupAck id s
  | .setupAckLate id => Sys2Proof.Machine.execSetupAckLate id s
  | .ledger image => Sys2Proof.Machine.execLedger image s
  | .relinquish => Sys2Proof.Machine.execRelinquish s
  | .handover src => Sys2Proof.Machine.execHandover src s
  | .handoverAck => Sys2Proof.Machine.execHandoverAck s
  | .vdtHandover m w => Sys2Proof.Machine.execVdtHandover m w s
  | .handoverStroke => Sys2Proof.Machine.execHandoverStroke s
  | .unpair m w => Sys2Proof.Machine.execUnpair m w s
  | .resync m w => Sys2Proof.Machine.execResync m w s
  | .sweepStart => Sys2Proof.Machine.execSweepStart s
  | .sweepDone => Sys2Proof.Machine.execSweepDone s
  | .viaductLinkUp => Sys2Proof.Machine.execViaductLinkUp s
  | .viaductLinkDown => Sys2Proof.Machine.execViaductLinkDown s
  | .pairSilence => Sys2Proof.Machine.execPairSilence s
  | .takeover => Sys2Proof.Machine.execTakeover s
  | .vdtCntClr m w => Sys2Proof.Machine.execVdtCntClr m w s
  | .clrSearch m w found restarts => Sys2Proof.Machine.execClrSearch m w found restarts s
  | .clrActivate m w a rate => Sys2Proof.Machine.execClrActivate m w a rate s
  | .clrExchange m w a => Sys2Proof.Machine.execClrExchange m w a s
  | .clrDeactivate m w a => Sys2Proof.Machine.execClrDeactivate m w a s
  | .clrQuiet m w => Sys2Proof.Machine.execClrQuiet m w s
  | .clrUnlock m w reply => Sys2Proof.Machine.execClrUnlock m w reply s
  | .clrAbort m w acked => Sys2Proof.Machine.execClrAbort m w acked s
  | .fieldOff m w => Sys2Proof.Machine.execFieldOff m w s
  | .clrOpDone => Sys2Proof.Machine.execClrOpDone s
  | .fieldSettled => Sys2Proof.Machine.execFieldSettled s
  | .fieldFault => Sys2Proof.Machine.execFieldFault s
  | .clrBlockTimeout badCrc => Sys2Proof.Machine.execClrBlockTimeout badCrc s
  | .clrWtx wtxm => Sys2Proof.Machine.execClrWtx wtxm s
  | .lpcdPing amplitude phase => Sys2Proof.Machine.execLpcdPing amplitude phase s
  | .quietExpiry e => Sys2Proof.Machine.execQuietExpiry e s
  | .clrCntClr m w => Sys2Proof.Machine.execClrCntClr m w s
  | .iccActivate m w atr => Sys2Proof.Machine.execIccActivate m w atr s
  | .iccExchange m w a => Sys2Proof.Machine.execIccExchange m w a s
  | .iccDeactivate m w => Sys2Proof.Machine.execIccDeactivate m w s
  | .iccAbort m w => Sys2Proof.Machine.execIccAbort m w s
  | .iccResynch m w ok => Sys2Proof.Machine.execIccResynch m w ok s
  | .iccOpDone => Sys2Proof.Machine.execIccOpDone s
  | .iccBlockTimeout => Sys2Proof.Machine.execIccBlockTimeout s
  | .iccWtx mult => Sys2Proof.Machine.execIccWtx mult s
  | .iccClassRetry atr => Sys2Proof.Machine.execIccClassRetry atr s
  | .iccCardRemoved => Sys2Proof.Machine.execIccCardRemoved s
  | .iccCardInserted => Sys2Proof.Machine.execIccCardInserted s
  | .iccOvercurrent milliamp => Sys2Proof.Machine.execIccOvercurrent milliamp s
  | .iccCntClr m w => Sys2Proof.Machine.execIccCntClr m w s
  | .rmcInit m w ccs mode blocks tuned => Sys2Proof.Machine.execRmcInit m w ccs mode blocks tuned s
  | .rmcRead m w data crcOk retryOk r1Ok use => Sys2Proof.Machine.execRmcRead m w data crcOk retryOk r1Ok use s
  | .rmcWrite m w r1Ok use => Sys2Proof.Machine.execRmcWrite m w r1Ok use s
  | .rmcAbort m w => Sys2Proof.Machine.execRmcAbort m w s
  | .rmcPowerOff m w => Sys2Proof.Machine.execRmcPowerOff m w s
  | .rmcOpDone => Sys2Proof.Machine.execRmcOpDone s
  | .rmcRetune taps => Sys2Proof.Machine.execRmcRetune taps s
  | .rmcBusyTimeout => Sys2Proof.Machine.execRmcBusyTimeout s
  | .rmcCardRemoved => Sys2Proof.Machine.execRmcCardRemoved s
  | .rmcCardInserted => Sys2Proof.Machine.execRmcCardInserted s
  | .rmcCntClr m w => Sys2Proof.Machine.execRmcCntClr m w s
  | .periodClose => Sys2Proof.Machine.execPeriodClose s
  | .snapRelease m w => Sys2Proof.Machine.execSnapRelease m w s
  | .channelTimeAdd => Sys2Proof.Machine.execChannelTimeAdd s
  | .lgrSetGo m w => Sys2Proof.Machine.execLgrSetGo m w s
  | .lampPeriodStart k imeas => Sys2Proof.Machine.execLampPeriodStart k imeas s
  | .lampShort k => Sys2Proof.Machine.execLampShort k s
  | .lampRetry k => Sys2Proof.Machine.execLampRetry k s
  | .lampRetriesReset k => Sys2Proof.Machine.execLampRetriesReset k s
  | .clrShort m k w => Sys2Proof.Machine.execClrShort m k w s
  | .counterWrap n => Sys2Proof.Machine.execCounterWrap n s
  | .cntLoad m n w => Sys2Proof.Machine.execCntLoad m n w s
  | .freeze m w => Sys2Proof.Machine.execFreeze m w s
  | .pmcStart => Sys2Proof.Machine.execPmcStart s
  | .clrAll m w => Sys2Proof.Machine.execClrAll m w s
  | .histClr m h w => Sys2Proof.Machine.execHistClr m h w s
  | .mainPowerOn microseconds => Sys2Proof.Machine.execMainPowerOn microseconds s
  | .rstN nanoseconds => Sys2Proof.Machine.execRstN nanoseconds s
  | .pwrCtl m w => Sys2Proof.Machine.execPwrCtl m w s
  | .deviceReset => Sys2Proof.Machine.execDeviceReset s
  | .pllLockTimeout pll => Sys2Proof.Machine.execPllLockTimeout pll s
  | .boot env => Sys2Proof.Machine.execBoot env s
  | .dataPlaneReady => Sys2Proof.Machine.execDataPlaneReady s
  | .powerFailWarning pin mv ns => Sys2Proof.Machine.execPowerFailWarning pin mv ns s
  | .powerFailHold => Sys2Proof.Machine.execPowerFailHold s
  | .powerReturn ticks mv => Sys2Proof.Machine.execPowerReturn ticks mv s
  | .pwrWdog m w => Sys2Proof.Machine.execPwrWdog m w s
  | .wdogWarn => Sys2Proof.Machine.execWdogWarn s
  | .watchdogExpiry => Sys2Proof.Machine.execWatchdogExpiry s
  | .safeHoldTimer => Sys2Proof.Machine.execSafeHoldTimer s
  | .registerWrite x d => Sys2Proof.Machine.execRegisterWrite x d s
  | .anComplete g p => Sys2Proof.Machine.execAnComplete g p s
  | .trainingComplete g p => Sys2Proof.Machine.execTrainingComplete g p s
  | .laneLock lane locked localFault remoteFault => Sys2Proof.Machine.execLaneLock lane locked localFault remoteFault s
  | .pauseQuantaExpiry port => Sys2Proof.Machine.execPauseQuantaExpiry port s
  | .sdramRetrainDone c pass => Sys2Proof.Machine.execSdramRetrainDone c pass s
  | .vbatLow => Sys2Proof.Machine.execVbatLow s
  | .strokeGeneratorMismatch => Sys2Proof.Machine.execStrokeGeneratorMismatch s
  | .sourceConditionCleared src => Sys2Proof.Machine.execSourceConditionCleared src s
  | .backupTick csw loops => Sys2Proof.Machine.execBackupTick csw loops s
  | .pcieLinkUp speed width => Sys2Proof.Machine.execPcieLinkUp speed width s
  | .pciPerstN => Sys2Proof.Machine.execPciPerstN s
  | .vfEnableClear => Sys2Proof.Machine.execVfEnableClear s
  | .holdInSample level => Sys2Proof.Machine.execHoldInSample level s
  | .illegalInstruction n p0 p1 bad => Sys2Proof.Machine.execIllegalInstruction n p0 p1 bad s
  | .hostRegisterRead fn off markOk => Sys2Proof.Machine.execHostRegisterRead fn off markOk s

end Sys2Proof.Machine
end

