-- ==== Sys2Proof/Machine/Parcels.lean ====
section
/-! DEFINITION. The parcels of the Konus-24's instructions (R216–R221), written out from the encoding tables: what a program
holds for an instruction. The decoder of Machine/KonusInstr.lean reads them back. -/

namespace Sys2Proof.Machine

/-- A parcel of three fields: the group or its extension in [13:10], then [9:5] and [4:0]. -/
def parcel (hi mid lo : Nat) : BitVec 14 := BitVec.ofNat 14 (hi * 2 ^ 10 + mid * 2 ^ 5 + lo)

/-- The parcel of an instruction that has one (R217, R218), and the core that holds it. -/
def oneParcel : Instr → Option (Fin 67 × BitVec 14)
  | .mov n d r => some (n, parcel 0 d r)
  | .add n d r => some (n, parcel 1 d r)
  | .sub n d r => some (n, parcel 2 d r)
  | .cmp n d r => some (n, parcel 3 d r)
  | .and n d r => some (n, parcel 4 d r)
  | .or n d r => some (n, parcel 5 d r)
  | .xor n d r => some (n, parcel 6 d r)
  | .addq n d i => some (n, parcel 7 d i.toNat)
  | .movq n d i => some (n, parcel 8 d i.toNat)
  | .shli n d k => some (n, parcel 9 d k)
  | .shri n d k => some (n, parcel 10 d k)
  | .asri n d k => some (n, parcel 11 d k)
  | .bcc n cc false o =>
    if (o.setWidth 6).signExtend 18 = o then some (n, BitVec.ofNat 14 (12 * 2 ^ 10 + cc.val * 2 ^ 6 + o.toNat % 2 ^ 6)) else none
  | .not n d => some (n, parcel 13 0 d)
  | .neg n d => some (n, parcel 13 1 d)
  | .jmp n r => some (n, parcel 13 2 r)
  | .callr n r => some (n, parcel 13 3 r)
  | .ret n none => some (n, parcel 13 4 0)
  | .coreNop n => some (n, parcel 13 5 0)
  | .push n r => some (n, parcel 13 6 r)
  | .pop n d true => some (n, parcel 13 7 d)
  | _ => none

/-- The two parcels of an immediate instruction (R219). -/
def immParcels (n : Fin 67) (p : Nat) (d : Fin 32) (i : BitVec 16) : Option (Fin 67 × BitVec 14 × BitVec 14) :=
  some (n, parcel 14 d (p * 2 ^ 2 + i.toNat / 2 ^ 14), BitVec.ofNat 14 i.toNat)

/-- The two parcels of a memory or I/O instruction (R220). -/
def memParcels (n : Fin 67) (p : Nat) (d b : Fin 32) (o : BitVec 10) : Option (Fin 67 × BitVec 14 × BitVec 14) :=
  some (n, BitVec.ofNat 14 (15 * 2 ^ 10 + p * 2 ^ 6 + o.toNat / 2 ^ 9 * 2 ^ 5 + d.val), BitVec.ofNat 14 (b.val * 2 ^ 9 + o.toNat % 2 ^ 9))

/-- The two parcels of Miscellaneous 2 (R221). -/
def miscParcels (n : Fin 67) (p d r x : Nat) : Option (Fin 67 × BitVec 14 × BitVec 14) :=
  some (n, BitVec.ofNat 14 (15 * 2 ^ 10 + 3 * 2 ^ 8 + p), BitVec.ofNat 14 (d * 2 ^ 9 + r * 2 ^ 4 + x))

/-- The parcels of an instruction that has two (R217, R219–R221), and the core that holds it. -/
def twoParcel : Instr → Option (Fin 67 × BitVec 14 × BitVec 14)
  | .bcc n cc true o => some (n, BitVec.ofNat 14 (15 * 2 ^ 10 + 1 * 2 ^ 8 + cc.val * 2 ^ 4 + o.toNat / 2 ^ 14), BitVec.ofNat 14 o.toNat)
  | .call n o => some (n, BitVec.ofNat 14 (15 * 2 ^ 10 + 2 * 2 ^ 8 + o.toNat / 2 ^ 14), BitVec.ofNat 14 o.toNat)
  | .ldi n d i => immParcels n 0 d i
  | .ldh n d i => immParcels n 1 d i
  | .addi n d i => immParcels n 2 d i
  | .andi n d i => immParcels n 3 d i
  | .ori n d i => immParcels n 4 d i
  | .xori n d i => immParcels n 5 d i
  | .cmpi n d i => immParcels n 6 d i
  | .tsti n d i => immParcels n 7 d i
  | .ld n d b o true => memParcels n 0 d b o
  | .st n r b o => memParcels n 1 r b o
  | .inp n d b o true => memParcels n 2 d b o
  | .out n r b o => memParcels n 3 r b o
  | .adc n d r => miscParcels n 0x00 d r 0
  | .sbc n d r => miscParcels n 0x01 d r 0
  | .tst n d r => miscParcels n 0x02 d r 0
  | .mul n d r => miscParcels n 0x03 d r 0
  | .mulhu n d r => miscParcels n 0x04 d r 0
  | .mulhs n d r => miscParcels n 0x05 d r 0
  | .divu n d r => miscParcels n 0x06 d r 0
  | .remu n d r => miscParcels n 0x07 d r 0
  | .shlv n d r => miscParcels n 0x08 d r 0
  | .shrv n d r => miscParcels n 0x09 d r 0
  | .asrv n d r => miscParcels n 0x0A d r 0
  | .rori n d k => miscParcels n 0x0B d k 0
  | .clz n d r => miscParcels n 0x0C d r 0
  | .movc n d r cc => miscParcels n 0x0D d r cc
  | .mfs n d sr => miscParcels n 0x10 d sr 0
  | .mts n sr r => miscParcels n 0x11 sr r 0
  | .trap n k => miscParcels n 0x20 0 0 k
  | .eret n none => miscParcels n 0x21 0 0 0
  | .wait n => miscParcels n 0x22 0 0 0
  | .fence n => miscParcels n 0x23 0 0 0
  | .flush n => miscParcels n 0x24 0 0 0
  | .bkpt n => miscParcels n 0x25 0 0 0
  | _ => none

end Sys2Proof.Machine
end

