-- ==== Sys2Proof/Safety.lean ====
section
/-! DEFINITION. What statements and proofs call a running device and a safe run: the conditions under which commands have their
effect, the invariant that every step keeps, and what one command may do to the parts of the state that few commands touch. -/

namespace Sys2Proof.Machine

/-- Command `c` completes on `s`: it answers a next state, and that state satisfies `P`. -/
def Does (c : Instr) (s : State) (P : State → Prop) : Prop := ∃ t, exec c s = .next t ∧ P t

/-- Master `m` may write the register at `a` of a device that runs: the grants of R29 admit it. -/
abbrev Reaches (m : Master) (a : Nat) (s : State) : Prop := powered s = true ∧ mayWrite s m a = true

/-- Master `m` may read the register at `a` of a device that runs (R29). -/
abbrev Reads (m : Master) (a : Nat) (s : State) : Prop := powered s = true ∧ mayRead s m a = true

/-- The machine after a read that answers `w`. -/
def answering (w : Word) (s : State) : State := { s with answer := w, answered := true }

/-- Every register of `s` but those listed reads the same in `t`. -/
def RegsKept (s t : State) (l : List Nat) : Prop := ∀ a, a ∉ l → t.rd a = s.rd a

/-- `t` differs from `s` in registers only, and its register at `a` holds `f a`. -/
def OnlyRegs (s t : State) (f : Nat → Word) : Prop := (∀ a, t.rd a = f a) ∧ { t with io := s.io } = s

/-- What CNT_CLR in the event register at `ev` leaves: the events that `w` names with a 1 among those of `mask` clear, the
counters whose addresses `block` holds are 0, and nothing else changes. -/
def Cleared (ev mask : Nat) (w : Word) (block : Nat → Bool) (s t : State) : Prop :=
  OnlyRegs s t fun a =>
    if a = ev then s.rd ev &&& ~~~(w &&& BitVec.ofNat 24 mask) else if block a = true then 0 else s.rd a

/-- The addresses of `n` registers from `base`. -/
def inBlock (base n a : Nat) : Bool := decide (base ≤ a ∧ a < base + n)

/-- Only the ages and the urgency of the background tasks, and the number of free values used, may differ. -/
def OnlyTasks (s t : State) : Prop :=
  { t with stk := { t.stk with urgent := s.stk.urgent, ages := s.stk.ages }, free := s.free } = s

/-- Graver `n` runs and is about to execute an entry of opcode `op`: it has not ended, does not hold or stall, and the entry is
not the last of the list memory (R146, R150). -/
structure AtEntry (s : State) (n op : Nat) : Prop where
  running : grvState s n = 3
  going : (s.grv n).ended = false
  free : (s.grv n).halt = none
  fed : (s.grv n).stalled = none
  place : (s.grv n).entry < 1023
  code : entryOp (s.grv n) = op

/-- The device takes the command of opcode `op` that entry `idx` of ring `g` of function `fn` has committed as `f`: it does not run yet,
and no fence, no state of the device, no right, no tenant state, no role and no lost stroke of R38, R322, R326, R327 and R341 turns it away or
keeps it waiting. -/
structure Takes (s : State) (op : Nat) (fn : Fin 257) (g : Fin 520) (idx : Nat) (f : Flight) : Prop where
  on : powered s = true
  entry : s.flight g idx = some f
  code : f.opcode = op
  owner : f.fn = fn
  unfenced : fenced s f = false
  going : haltedFor s op = false
  rights : ownOnly op = true → fn = 0
  tenant : fn ≠ 0 → tenantState s (fn - 1) = 1
  begins : commandRuns s (.host fn g idx) = false
  role : setupOp op = true → s.fld 0x0B0001 23 22 ≠ 2
  stroke : needsKeys op = true → s.stk.lost = false

/-- The command `f` ends: it is no longer in flight, and its completion is due with these results from the next boundary on or
later (R323). -/
def Completes (s t : State) (f : Flight) (status r0 r1 : Nat) (out : Bytes) : Prop :=
  t.hif.flights = s.hif.flights.filter (fun x => !(x.g == f.g && x.idx == f.idx))
  ∧ ∃ at_, s.tick < at_ ∧ t.hif.due = s.hif.due ++ [(f.fn, f.g, at_, ⟨f.tag, status, f.epoch, f.commit, r0, r1, out, false⟩)]

/-- The command `f` ends with OK and the output `out`, or with FORMAT where the output buffer has no room for it (R324). -/
def Outputs (s t : State) (f : Flight) (out : Bytes) : Prop :=
  if f.outCap < out.length then Completes s t f stFORMAT 0 0 [] else Completes s t f stOK 0 0 out

/-- The command `f` ends with `status`; with OK, the change `c` of object `num` of a kind waits for the stroke or the slot that
its EFFECTIVE field `e` names (R16), and otherwise no change is written. -/
def SetsUp (s t : State) (f : Flight) (status r0 kind num : Nat) (c : Change) (e : Effective) (dom : Nat) : Prop :=
  Completes s t f status (if status = stOK then r0 else 0) 0 []
  ∧ t.setup = if status = stOK then s.setup ++ [⟨kind, num, c, (effectiveStroke e dom s).1⟩] else s.setup

/-- The tick whose boundary ends the last stroke of an operation of command `f` that takes `dur` strokes (R15): they count from the command's commit. -/
def lastStroke (s : State) (f : Flight) (dur : Nat) : Nat := max (s.tick + 1) (f.began + dur)

/-- The device has started command `f` as the key operation `o`, and nothing else changes: the command is in flight, started. -/
def begun (s : State) (f : Flight) (o : KeyOp) : State :=
  { markStarted f s with key := { s.key with ops := s.key.ops ++ [o] } }

/-- The keystone takes call `num` of pier `n` under domain `d`: it is outstanding, its domain is the one of R242, its buffers lie in its data
space (R243), the key store answers, the device is no STANDBY (R341) and the stroke stands (R38). -/
structure Calls (s : State) (num : Nat) (n : Fin 67) (d : Fin 257) : Prop where
  on : powered s = true
  pier : n ≠ 0
  pending : callPending s n num = true
  fresh : (s.core n).answered = false
  domain : callDomain s n = some d.val
  open_ : s.keysClosed = false
  fits : callBuffersFit s n = true
  role : s.fld 0x0B0001 23 22 ≠ 2
  stroke : s.stk.lost = false

/-- The keystone has answered pier `n`'s call (R243) with a status and two result words. -/
def Answers (t : State) (n : Fin 67) (status r0 r1 : Nat) : Prop :=
  (t.core n).answered = true ∧ t.rd (coreReg n 0x50) = BitVec.ofNat 24 status ∧ t.rd (coreReg n 0x53) = BitVec.ofNat 24 r0
  ∧ t.rd (coreReg n 0x54) = BitVec.ofNat 24 r1

/-- Core `n` stands before an instruction of `len` parcels: it executes and does not wait, its store buffer is empty, and the
parcels may be fetched (R204, R210); on the keystone the prefetch buffer has a row, and no busy bank holds the next one (R225, R226). -/
structure AtInstr (s : State) (n len : Nat) : Prop where
  runs : executing s n = true
  awake : (s.core n).idle = false
  drained : (s.core n).stb = []
  fetch : ∀ i < len, mayFetch n (s.core n) ((s.core n).pc.toNat + i) = true
  row : n = 0 → s.kfetch.row.isSome = true
  reads : fetchStalls n len s = false

/-- Only the cores, the keystone's fetch path, the performance counters and the trace buffer of a traced pier may differ. -/
def OnlyCores (s t : State) : Prop :=
  { t with cores := s.cores, kfetch := s.kfetch, pmc := s.pmc, lcy := { t.lcy with trace := s.lcy.trace } } = s

/-- Every core but `n` is as it was. -/
def OthersKept (s t : State) (n : Nat) : Prop := ∀ m, m ≠ n → t.core m = s.core m

/-- Core `n` has performed an instruction of `len` parcels in `k` cycles: register `d`, where there is one, holds `r`, the flags
are `fl`, and of the machine nothing else changes but the program counter and the count of cycles. -/
structure Computes (s t : State) (n len k : Nat) (d : Option (Fin 32)) (r : Word) (fl : Flags) : Prop where
  pc : (t.core n).pc = (s.core n).pc + BitVec.ofNat 24 len
  dest : ∀ x, d = some x → (t.core n).reg x = r
  regs : ∀ x : Fin 32, d ≠ some x → (t.core n).reg x = (s.core n).reg x
  frames : ∀ i, i / 16 ≠ (s.core n).cwp → i / 16 ≠ ((s.core n).cwp + 1) % 15 → Tab.get 0 (t.core n).w i = Tab.get 0 (s.core n).w i
  psr : (t.core n).psr = withFlags (s.core n).psr fl
  used : (t.core n).used = (s.core n).used + k
  rest : { t.core n with g := (s.core n).g, w := (s.core n).w, pc := (s.core n).pc, psr := (s.core n).psr, used := (s.core n).used }
    = s.core n
  others : OthersKept s t n
  only : OnlyCores s t

/-- N, Z, C and V of `a + b + k` (R215): C is the carry out, and V says that the signed sum does not fit. -/
def sumFlags (a b : Word) (k : Nat) : Flags :=
  let r := a + b + BitVec.ofNat 24 k
  ⟨r.msb, r == 0, decide (2 ^ 24 ≤ a.toNat + b.toNat + k), decide (r.toInt ≠ a.toInt + b.toInt + k)⟩

/-- N, Z, C and V of `a − b − k` (R215): C = 1 is no borrow, and V says that the signed difference does not fit. -/
def differenceFlags (a b : Word) (k : Nat) : Flags :=
  let r := a - b - BitVec.ofNat 24 k
  ⟨r.msb, r == 0, decide (b.toNat + k ≤ a.toNat), decide (r.toInt ≠ a.toInt - b.toInt - k)⟩

/-- N and Z of a result, V clear, C as given (R215). -/
def resultFlags (r : Word) (c : Bool) : Flags := ⟨r.msb, r == 0, c, false⟩

/-- Core `n` has gone on at `target`: nothing else of it changes but the count of cycles. A change of flow costs three, and on the keystone
six more where the target row stands neither in the prefetch buffer nor in the branch cache (R225). -/
structure Jumps (s t : State) (n : Nat) (target : Word) : Prop where
  core : { t.core n with used := (s.core n).used } = { s.core n with pc := target }
  used : (t.core n).used = (s.core n).used + 3 ∨ (n = 0 ∧ (t.core n).used = (s.core n).used + 9)
  others : OthersKept s t n
  only : OnlyCores s t

/-- Core `n` has called `target` (R212): the return address and RP wait for the record at g7 − 18, the shadow entry holds the
return address and the record, the next window is current, and its w0 to w7 are what w16 to w23 were. -/
structure Called (s t : State) (n : Nat) (target ra : Word) : Prop where
  pc : (t.core n).pc = target
  rp : (t.core n).rp = (s.core n).reg 7 - 18
  g7 : (t.core n).reg 7 = (s.core n).reg 7 - 18
  stb : (t.core n).stb = [StbEntry.data (((s.core n).reg 7).toNat - 1) ra, StbEntry.data (((s.core n).reg 7).toNat - 2) (s.core n).rp]
  shadow : ((t.core n).ssp = (s.core n).ssp - 2 ∧ (t.core n).load ((s.core n).ssp.toNat - 2) = ra
    ∧ (t.core n).load ((s.core n).ssp.toNat - 1) = (t.core n).rp)
  window : (t.core n).cwp = ((s.core n).cwp + 1) % 15
  passed : ∀ k < 8, (t.core n).reg (8 + k) = (s.core n).reg (24 + k)
  globals : ∀ k < 7, (t.core n).reg k = (s.core n).reg k
  psr : (t.core n).psr = (s.core n).psr
  others : OthersKept s t n
  regs : ∀ a, a ≠ coreReg n 0x12 → t.rd a = s.rd a

/-- Core `n` has taken an exception of vector `v` (R234), with the low bits of its cause, EVAL and the resume address: the
record at g7 − 20, the exception registers, the mode and the program counter are those of R234, and no other core changes. -/
structure Enters (s t : State) (n v low eval : Nat) (resume : Word) : Prop where
  pc : (t.core n).pc = (s.core n).vbase + BitVec.ofNat 24 (2 * v)
  epc : (t.core n).epc = resume
  esr : (t.core n).esr = (s.core n).psr
  ecause : (t.core n).ecause = BitVec.ofNat 24 (v * 2 ^ 8 + low)
  eval : (t.core n).eval = BitVec.ofNat 24 eval
  psr : (t.core n).psr = Word.put (Word.put (s.core n).psr 19 18 (if n = 0 then 3 else 1)) 17 17 0
  rp : (t.core n).rp = (s.core n).reg 7 - 20
  g7 : (t.core n).reg 7 = (s.core n).reg 7 - 20
  record : ((t.core n).load (((s.core n).reg 7).toNat - 1) = BitVec.ofNat 24 (v * 2 ^ 8 + low)
    ∧ (t.core n).load (((s.core n).reg 7).toNat - 2) = (s.core n).psr ∧ (t.core n).load (((s.core n).reg 7).toNat - 3) = resume
    ∧ (t.core n).load (((s.core n).reg 7).toNat - 4) = (s.core n).rp)
  shadow : ((t.core n).ssp = (s.core n).ssp - 2 ∧ (t.core n).load (((s.core n).ssp).toNat - 2) = resume
    ∧ (t.core n).load (((s.core n).ssp).toNat - 1) = (t.core n).rp ||| 0x800000)
  window : (t.core n).cwp = ((s.core n).cwp + 1) % 15
  others : OthersKept s t n
  regs : ∀ a, a ≠ coreReg n 0x12 → t.rd a = s.rd a

/-- An exception of core `n` finds room for its record and its shadow entry (R234), the record below the shadow region. -/
def Room (s : State) (n : Nat) : Prop := entryFits n (s.core n) = true ∧ ((s.core n).reg 7).toNat ≤ shadowBase n

/-- Source `src` has fired with main power present (R287): its firing waits for the next boundary with the class that acts
(R286), and a condition that lasts shows in PPT_ACTIVE. -/
def Fires (s t : State) (src : Nat) : Prop :=
  t.ppt.fired = s.ppt.fired ++ [⟨src, pptActing s src, false⟩]
  ∧ (pptLasting src = true → t.bit (0x080004 + src / 24) (src % 24) = true)
  ∧ t.pending = s.pending ∧ t.stk.time = s.stk.time ∧ t.pwr = s.pwr

/-- The condition of source `src` is not present: PPT_ACTIVE does not show it. -/
abbrev Quiet (s : State) (src : Nat) : Prop := s.bit (0x080004 + src / 24) (src % 24) = false

/-- The commands that end a stroke or the device's run: a boundary, a forward set taking effect, a reset, power, boot. -/
def movesTime : Instr → Bool
  | .strokeBoundary | .strokeWrap | .forwardSetEffect | .deviceReset | .mainPowerOn _ | .rstN _ | .powerReturn _ _
  | .powerFailWarning _ _ _ | .powerFailHold | .vbatSwitch _ | .pllLockTimeout _ | .watchdogExpiry | .safeHoldTimer | .boot _ => true
  | _ => false

/-- The cause codes of SAFE-HOLD (R247): 1 CODE, 2 OVERFLOW, 3 CONTROL_FLOW, 4 FETCH of a failed word mark. -/
def legalCause (c : Nat) : Prop := 1 ≤ c ∧ c ≤ 4

/-- The invariant of the SAFE-HOLD causes: the cause in force and the cause that waits for its boundary are codes of R247, and
what the backup domain latched for the next boot (R437) is such a code or 0. -/
structure Inv (s : State) : Prop where
  held : ∀ c, s.pwr.safeHold = some c → legalCause c
  due : ∀ c, s.pwr.safeHoldDue = some c → legalCause c
  latched : s.pwr.heldCause ≤ 4

/-- What a command does to the queue, to stroke time, to power, to ERASED and to SAFE-HOLD where it neither ends a stroke nor
the device's run: the queue, stroke time and what holds the device stay, ERASED and SAFE-HOLD stay once entered, and the
invariant is kept. -/
structure Steady (s t : State) : Prop where
  queue : t.pending = s.pending
  time : t.stk.time = s.stk.time
  phase : t.pwr.phase = s.pwr.phase
  erased : s.ppt.erased.isSome = true → t.ppt.erased = s.ppt.erased
  hold : s.pwr.safeHold.isSome = true → t.pwr.safeHold = s.pwr.safeHold
  inv : Inv s → Inv t

/-- What every command does, whatever becomes of the device's run: the queue stays and the invariant is kept. -/
structure Goes (s t : State) : Prop where
  queue : t.pending = s.pending
  inv : Inv s → Inv t

end Sys2Proof.Machine
end

