-- ==== Sys2Proof/Certificates/Slice0/Obligations.lean ====
section
/-! DEFINITION. The statements about the model that the provers settle: what the commands of each family do to the state that the
manual gives the FT7240, and the invariants that every step keeps. -/

set_option maxRecDepth 4000

open Sys2Proof Sys2Proof.Machine

/-! ### The queue, the invariant and what a run keeps -/

/-- The command at the front of the queue is the step, on the machine that holds the rest of the queue; on an empty queue the
block idles (log 2, DESIGN CHOICE). -/
def Obligations.StepTakesTheFrontCommand : Prop :=
  (∀ (c : Instr) (rest : List Instr) (s : State),
    step { s with pending := c :: rest } = exec c { s with pending := rest })
  ∧ ∀ s : State, s.pending = [] → step s = .next s

/-- R247: the SAFE-HOLD causes in the state are codes of its table; every step of every command keeps that. -/
def Obligations.EveryStepKeepsTheInvariant : Prop :=
  ∀ s t : State, Inv s → step s = .next t → Inv t

/-- Right after reset no SAFE-HOLD cause is held, due or latched. -/
def Obligations.ResetMeetsTheInvariant : Prop := Inv State.reset

/-- The commands that end a stroke or the device's run: a boundary, a reset, power, boot. -/
def Obligations.RunGoesOn : Prop :=
  ∀ (c : Instr) (s t : State), movesTime c = false → exec c s = .next t → Steady s t

/-- R39: a stroke boundary ends one stroke: the stroke number counts on by one, and with its wrap the era. -/
def Obligations.BoundaryCountsTheStroke : Prop :=
  (∀ s : State, s.pwr.phase = .run → s.stk.forward = none →
    Does .strokeBoundary s fun t => t.stk.time = strokeAdd s.stk.time 1)
  ∧ (∀ s : State, s.pwr.phase = .run → s.stk.forward = none → s.stk.time.num = 0xFFFFFFFFFFFF →
    Does .strokeWrap s fun t => t.stk.time.num = 0
      ∧ t.stk.time.era = (if s.stk.time.era = 0xFF then 0xFF else s.stk.time.era + 1))
  ∧ (∀ (s : State) (u : StrokeTime) (d : Nat), s.pwr.phase = .run → s.stk.forward = some u → aheadBy s u = some d →
    Does .forwardSetEffect s fun t => t.stk.time = u)

/-- Setup (R16, R19, R43, R46, R47, R365): forward sets, the plan port and the plan check; a change takes effect from its effective
stroke on, of two changes to one object that are due together only the later is used, and while dispatch pauses none takes effect. -/
def Obligations.StrokeSetup : Prop :=
  ((∀ (m : Master) (w : Word) (s : State) (d : Nat), Reaches m 0x00000B s → s.stk.forward = none →
     aheadBy s (timeAt s 0x000008) = some d → 1 ≤ d → d ≤ 2 ^ 46 → (∀ k < 4, swState s k ≠ 1 ∧ swState s k ≠ 2) →
     exec (.stkFwdGo m w) s
       = .next (({ s with stk := { s.stk with forward := some (timeAt s 0x000008) } }.put 0x000004 4 4 0).put 0x000004 3 3 1))
   ∧ (∀ (w : Word) (s : State), powered s = true → (s.rd 0x000010).toNat < 61440 →
     Does (.stkPlanData .keep w) s fun t =>
       (∀ j, Tab.get 0 t.shadowPlan j = if j = (s.rd 0x000010).toNat
         then planWord j w else Tab.get 0 s.shadowPlan j)
       ∧ t.activePlan = s.activePlan
       ∧ t.rd 0x000010 = BitVec.ofNat 24 (((s.rd 0x000010).toNat + 1) % 61440)
       ∧ t.rd 0x000004 = (s.rd 0x000004).put 2 2 0
       ∧ ∀ a, a ≠ 0x000010 → a ≠ 0x000004 → t.rd a = s.rd a)
   ∧ (∀ (m : Master) (w : Word) (s : State), Reaches m 0x000012 s → s.bit 0x000013 20 = false →
     exec (.stkPlanCheck m w) s
       = .next ({ s with stk := { s.stk with check := some (64, s.shadowPlan, false) } }.put 0x000013 20 20 1))
   ∧ (∀ (s : State) (n : Nat) (p : Tab Word), powered s = true → s.stk.check = some (n, p, false) →
     Does .planCheckDone s fun t => t.stk.check = none ∧ match planFailure s.shadowPlan with
       | none => t.rd 0x000013 = 0 ∧ t.rd 0x000004 = (s.rd 0x000004).put 2 2 1
         ∧ ∀ a, a ≠ 0x000013 → a ≠ 0x000004 → t.rd a = s.rd a
       | some (r, c, q) => t.rd 0x000013 = BitVec.ofNat 24 (r * 2 ^ 21 + c * 2 ^ 12 + q)
         ∧ t.rd 0x000005 = (s.rd 0x000005).put 4 4 1 ∧ ∀ a, a ≠ 0x000013 → a ≠ 0x000005 → t.rd a = s.rd a))
  ∧ (∀ s : State, powered s = true →
   (∀ (kind num a n : Nat) (v : Word), s.spn.pausedUntil ≤ s.now → s.setup = [⟨kind, num, .regs [(a, v)], .stroke n⟩] → n ≤ s.now →
     Does .setupEffect s fun t => t.rd a = v ∧ t.setup = [] ∧ RegsKept s t [a] ∧ t.stk = s.stk ∧ t.key = s.key ∧ t.plc = s.plc)
   ∧ (∀ (kind num a n k : Nat) (v w : Word), s.spn.pausedUntil ≤ s.now →
     s.setup = [⟨kind, num, .regs [(a, v)], .stroke n⟩, ⟨kind, num, .regs [(a, w)], .stroke k⟩] → n ≤ s.now → k ≤ s.now →
     Does .setupEffect s fun t => t.rd a = w ∧ t.setup = [] ∧ RegsKept s t [a])
   ∧ (∀ (kind num n k : Nat) (c d : Change), s.setup = [⟨kind, num, c, .stroke n⟩, ⟨kind, num, d, .slot k⟩] → s.now < n →
     Does .setupEffect s fun t => t = s)
   ∧ (s.now < s.spn.pausedUntil → Does .setupEffect s fun t => t = s))

/-- Switch slots: arming, cancelling, participants, acknowledgments, the decision and the stroke S. -/
def Obligations.SwitchSlots : Prop :=
  (∀ (k : Fin 4) (w : Word) (s : State), powered s = true → Word.slice w 9 8 = s.fld (swReg k 0) 9 8 →
    Word.slice w 9 8 ≤ 1 → armCause s k = 0 →
    Does (.arm .keep k w) s fun t => t.rd (swReg k 1) = 1
      ∧ (∀ j < 6, t.rd (swReg k (0x10 + j)) = 0 ∧ t.rd (swReg k (0x18 + j)) = 0)
      ∧ ∀ a, a ≠ swReg k 1 → (∀ j < 6, a ≠ swReg k (0x10 + j) ∧ a ≠ swReg k (0x18 + j)) → t.rd a = s.rd a)
  ∧ (∀ (k : Fin 4) (w : Word) (s : State), powered s = true → swState s k = 1 →
    exec (.cancel .keep k w) s = .next { s with stk := { s.stk with cancels := s.stk.cancels ++ [k.val] } })
  ∧ (∀ (k : Fin 4) (j : Fin 6) (w : Word) (s : State), powered s = true → swState s k ≠ 1 → swState s k ≠ 2 →
    exec (.switchPartAdd .keep k j w) s = .next (s.wr (swReg k (8 + j)) (if j = 5 then BitVec.ofNat 24 (Word.slice w 6 0) else w)))
  ∧ (∀ (n : Fin 67) (w : Word) (s : State), powered s = true → Word.slice w 6 0 = 60 + n.val → Word.slice w 17 16 < 4 →
    swState s (Word.slice w 17 16) = 1 → ackInTime s (Word.slice w 17 16) = true →
    exec (.stkSwPack (.pier n false) w) s
      = .next (s.raise (swReg (Word.slice w 17 16) (0x10 + (60 + n.val) / 24)) ((60 + n.val) % 24)))
  ∧ (∀ (k : Fin 4) (i : Fin 60) (s : State), powered s = true → swState s k = 1 → ackInTime s k = true → i.val ≠ 53 →
    (i.val = 58 → mirroring s = true → ∀ x ∈ s.vdt.slotWait, x.1 ≠ k.val) → exec (.switchAck k i) s = .next (s.raise (swReg k (0x10 + i.val / 24)) (i.val % 24)))
  ∧ (∀ (k : Fin 4) (s : State), powered s = true → swState s k = 1 → aheadBy s (timeAt s (swReg k 2)) = some 2 →
    s.fld (swReg k 0) 9 8 = 0 → maskAt s (swReg k 8) ≠ 0 →
    (maskAt s (swReg k 8) &&& maskAt s (swReg k 0x10)) = maskAt s (swReg k 8) →
    exec (.switchDecision k) s = .next ((s.wr (swReg k 1) 2).raise 0x000005 0))
  ∧ (∀ (k : Fin 4) (s : State), powered s = true → swState s k = 1 → aheadBy s (timeAt s (swReg k 2)) = some 2 →
    s.fld (swReg k 0) 9 8 = 0 → maskAt s (swReg k 8) ≠ 0 →
    (maskAt s (swReg k 8) &&& maskAt s (swReg k 0x10)) ≠ maskAt s (swReg k 8) →
    Does (.switchDecision k) s fun t => swState t k = 3 ∧ t.fld (swReg k 1) 7 4 = 1 ∧ t.bit 0x000005 1 = true
      ∧ (∀ c ∈ t.setup, c.eff ≠ .slot k))
  ∧ (∀ (k : Fin 4) (s : State), powered s = true → swState s k = 2 → timeAt s (swReg k 2) = s.stk.time →
    s.fld (swReg k 0) 9 8 = 1 →
    exec (.switchStroke k) s
      = .next (((s.put (swReg k 1) 2 0 4).flag 0x000004 1 (!s.bit 0x000004 1)).put 0x000004 2 2 1))

/-- Test requests, test steps, background tasks and the stroke unit's counters. -/
def Obligations.TestsAndTasks : Prop :=
  (∀ (m : Master) (w : Word) (s : State), Reaches m 0x000130 s → Word.slice w 6 0 ≤ 114 →
    testKindOk (Word.slice w 6 0) (Word.slice w 15 8) = true →
    (∀ r ∈ s.stk.tests, ¬ (r.col = Word.slice w 6 0 ∧ r.kind = Word.slice w 15 8)) →
    exec (.stkTreq m w) s
      = .next { s with stk := { s.stk with tests := s.stk.tests ++ [⟨Word.slice w 6 0, Word.slice w 15 8, s.now⟩] } })
  ∧ (∀ (c : Fin 115) (pass : Bool) (s : State) (r : TestReq), powered s = true → 112 ≤ c.val → c.val < 114 →
    s.cell c = 2 → c.val ∉ s.stk.served → testHead s c = some r → (s.bank (c.val - 112)).job = none →
    exec (.testStep c pass) s
      = .next { s with stk := { s.stk with
          served := s.stk.served ++ [c.val]
          tests := s.stk.tests.filter fun q => !(q.col == c.val && q.kind == r.kind) } })
  ∧ (∀ (t : Fin 8) (s : State), powered s = true → 2 ^ s.fld (taskReg t) 5 0 < Tab.get 0 s.stk.ages t → t.val ∉ s.stk.urgent →
    Does (.taskUrgent t) s fun u => u.stk = { s.stk with urgent := s.stk.urgent ++ [t.val] }
      ∧ u.rd (taskReg t + 2) = (s.rd (taskReg t + 2)).put 23 0 (min (s.fld (taskReg t + 2) 23 0 + 1) (2 ^ 24 - 1))
      ∧ u.rd 0x000005 = (s.rd 0x000005).put 5 5 1
      ∧ ∀ a, a ≠ taskReg t + 2 → a ≠ 0x000005 → u.rd a = s.rd a)
  ∧ (∀ (t : Fin 8) (w : Word) (s : State), powered s = true →
    exec (.urgClr .keep t w) s = .next (if 12 ≤ Word.slice w 5 0 ∧ Word.slice w 5 0 ≤ Word.slice (ioReset (taskReg t)) 5 0
      then (s.wr (taskReg t + 2) 0).put (taskReg t) 5 0 (Word.slice w 5 0) else s))

/-! ### Event registers and background tasks -/

/-- CNT_CLR (R65, R86, R87, R117, R141, R142, R169, R200, R270, R304, R316, R338, R369, R384, R396, R397): a write of an event
register with bit 23 set clears every counter of its block; its other bits clear the events they name, and nothing else
changes. -/
def Obligations.CntClrClearsItsCounters : Prop :=
  ∀ (m : Master) (w : Word) (s : State),
    (Reaches m 0x000005 s → Does (.stkCntClr m w) s fun t => OnlyRegs s t fun a =>
      if a = 0x000005 then s.rd 5 &&& ~~~(w &&& 0xFF) else if a = 0x000004 then ((s.rd 4).put 23 16 0).put 15 8 0 else s.rd a)
    ∧ (∀ g : Fin 8, Reaches m (grpReg g 2) s → Does (.prtCntClr m g w) s
        (Cleared (grpReg g 2) 0xFF w (fun a => (List.range 4).any fun p => inBlock (portReg (4 * g + p) 6) 18 a) s))
    ∧ (Reaches m 0x018003 s → Does (.dckCntClr m w) s (Cleared 0x018003 0xF w (inBlock 0x018400 0xA0) s))
    ∧ (Reaches m 0x021C01 s → Does (.spnCntClr m w) s (Cleared 0x021C01 0x3F w (fun a =>
        ((List.range 28).any fun n => inBlock (spnReg n 0x10) 24 a) || (List.range 32).any fun k => inBlock (trsReg k 0x10) 24 a) s))
    ∧ (Reaches m 0x030002 s → Does (.plcCntClr m w) s (Cleared 0x030002 0x7F w (inBlock 0x030010 26) s))
    ∧ (∀ c : Fin 2, Reaches m (sdcReg c 2) s → Does (.sdcCntClr m c w) s (Cleared (sdcReg c 2) 0xF w (inBlock (sdcReg c 8) 18) s))
    ∧ (Reaches m 0x041002 s → Does (.grvCntClr m w) s (Cleared 0x041002 0xFFFF w (inBlock 0x041010 20) s))
    ∧ (Reaches m 0x050002 s → Does (.keyCntClr m w) s (Cleared 0x050002 0x1F w (inBlock 0x050010 16) s))
    ∧ (Reaches m 0x060002 s → Does (.nvaCntClr m w) s (Cleared 0x060002 0xFF w (fun a =>
        inBlock (nvaReg 0 0x20) 12 a || inBlock (nvaReg 1 0x20) 12 a) s))
    ∧ (Reaches m 0x080002 s → Does (.pptCntClr m w) s (Cleared 0x080002 0x1F w (inBlock 0x080100 64) s))
    ∧ (Reaches m 0x090002 s → Does (.entCntClr m w) s (Cleared 0x090002 0x1F w (inBlock 0x090020 14) s))
    ∧ (Reaches m 0x0A0001 s → Does (.hifCntClr m w) s (Cleared 0x0A0001 0x1F w (inBlock 0x0A0010 18) s))
    ∧ (Reaches m 0x0B0002 s → Does (.vdtCntClr m w) s (Cleared 0x0B0002 0x1FF w (inBlock 0x0B0020 20) s))
    ∧ (Reaches m 0x0C0002 s → Does (.clrCntClr m w) s (Cleared 0x0C0002 0x3F w (inBlock 0x0C0200 16) s))
    ∧ (Reaches m 0x0C1002 s → Does (.iccCntClr m w) s (Cleared 0x0C1002 0x1F w (inBlock 0x0C1010 12) s))
    ∧ (Reaches m 0x0C2002 s → Does (.rmcCntClr m w) s (Cleared 0x0C2002 0x1F w (inBlock 0x0C2010 12) s))

/-- R63, R64: a background task visits one item in a cell that lets it run. A good slot's scrub reads four lines and steps
SDC_c_SCRUB; a write-back makes a dirty entry clean and resident; the other visits that find nothing wrong leave all but the
tasks' own ages as it was. -/
def Obligations.BackgroundTaskVisits : Prop :=
  (∀ (c : Fin 2) (p : BitVec 24) (s : State), powered s = true → taskCell s 0 (110 + c) = true →
    Does (.sdramScrub c p .good) s fun t =>
      t.rd (sdcReg c 0x20) = BitVec.ofNat 24 ((permuted s p.toNat / 2 + 1) % (plateCapacity s / 2) % 2 ^ 23)
      ∧ t.rdN (sdcReg c 18) 2 = min (s.rdN (sdcReg c 18) 2 + 4) (2 ^ 48 - 1)
      ∧ RegsKept s t [sdcReg c 0x20, sdcReg c 18, sdcReg c 19] ∧ t.plc = s.plc ∧ t.dck = s.dck)
  ∧ (∀ (p : BitVec 24) (l : Line) (s : State), powered s = true → Tab.get none s.plc.cache p.toNat = some l → l.dirty = true →
    taskCell s 1 (110 + plateChannel s p.toNat) = true →
    Does (.plateWriteBack p) s fun t => Tab.get none t.plc.cache p.toNat = some { l with dirty := false }
      ∧ (∀ k < 3, Tab.get 0 t.plc.versions (lineKey (plateChannel s p.toNat) (plateSlot s p.toNat) k)
          = Tab.get 0 s.plc.versions (lineKey (plateChannel s p.toNat) (plateSlot s p.toNat) k) + 1)
      ∧ t.plc.words = s.plc.words ∧ t.dck = s.dck)
  ∧ (∀ (c : Fin 2) (k : Fin 9) (i : BitVec 24) (s : State), powered s = true → taskCell s 2 (110 + c) = true →
    Does (.integrityTreeRefresh c k i true) s (OnlyTasks s))
  ∧ (∀ (p : BitVec 24) (s : State), powered s = true → (taskCell s 3 110 = true ∨ taskCell s 3 111 = true) →
    Does (.plateCacheScrub p false) s (OnlyTasks s))
  ∧ (∀ (i : Fin 66) (s : State), powered s = true → (taskCell s 4 (44 + i) = true → Does .deckScrub s (OnlyTasks s))
    ∧ (taskCell s 7 (44 + i) = true → Does .tenantQuotaRebalance s (OnlyTasks s)))
  ∧ (∀ s : State, powered s = true → s.stk.time.num.toNat % 2 ^ s.fld 0x030000 15 11 = 0 → s.stk.done.contains 0 = false →
    Tab.rising s.plc.cache = true →
    Does .scoreHalving s fun t => t.io = s.io ∧ ∀ p, Tab.get none s.plc.cache p ≠ none →
      t.plateFld p 59 23 16 = s.plateFld p 59 23 16 / 2)
  ∧ (∀ (c : Fin 2) (s : State), powered s = true → s.now % 2 ^ 20 = 0 → s.fld (sdcReg c 0) 15 12 ≠ 0 →
    s.stk.done.contains (c + 1) = false → (∀ r ∈ s.stk.tests, ¬(r.col = 110 + c.val ∧ r.kind = 1)) →
    exec (.sdcCalibrationQueue c) s
      = .next { s with stk := { s.stk with done := (c.val + 1) :: s.stk.done, tests := s.stk.tests ++ [⟨110 + c, 1, s.now⟩] } })
  ∧ (∀ (c : Fin 2) (pass : Bool) (s : State), powered s = true → testProgress s (110 + c) ≠ none →
    Does (.sdramRetrainDone c pass) s fun t => t.bit (sdcReg c 1) 23 = (pass || s.bit (sdcReg c 1) 23)
      ∧ t.bit (sdcReg c 2) 0 = (!pass || s.bit (sdcReg c 2) 0) ∧ testProgress t (110 + c) = none
      ∧ RegsKept s t [sdcReg c 1, sdcReg c 2])

/-! ### Ports, deck, control queues -/

/-- Ports and lanes (R67–R69, R71, R86): a port without frames in the deck moves between its states, its group's view and its events
follow, and no other register changes; LOCK follows the lane's clock recovery; a margin below MARGIN_MIN on a lane of an UP port
queues its recalibration. -/
def Obligations.PortsAndLanes : Prop :=
  (∀ (g : Fin 8) (p : Fin 4) (s : State), powered s = true →
     (portState s (4 * g + p) = 1 → Does (.anComplete g p) s fun t => portState t (4 * g + p) = 2
       ∧ RegsKept s t [portReg (4 * g + p) 1, grpReg g 1] ∧ Tab.get 0 t.dck.since (4 * g + p) = s.tick)
     ∧ (portState s (4 * g + p) = 2 → Does (.trainingComplete g p) s fun t => portState t (4 * g + p) = 3
       ∧ RegsKept s t [portReg (4 * g + p) 1, grpReg g 1] ∧ Tab.get 0 t.dck.since (4 * g + p) = s.tick)
     ∧ ((portState s (4 * g + p) = 1 ∨ portState s (4 * g + p) = 2) →
       Tab.get 0 s.dck.since (4 * g + p) + 2 ^ s.fld (grpReg g 0) 4 0 ≤ s.tick →
       Does (.bringupTimeout g p) s fun t => portState t (4 * g + p) = portState s (4 * g + p)
         ∧ t.fld (portReg (4 * g + p) 1) 23 16 = min (s.fld (portReg (4 * g + p) 1) 23 16 + 1) 255
         ∧ RegsKept s t [portReg (4 * g + p) 1, grpReg g 1] ∧ Tab.get 0 t.dck.since (4 * g + p) = s.tick)
     ∧ (portState s (4 * g + p) = 3 → (∀ l ∈ portLanes s (4 * g + p), s.bit (laneReg l 1) 23 = true) →
       Does (.portUp g p) s fun t => portState t (4 * g + p) = 4 ∧ t.bit (grpReg g 2) (4 + p) = true
         ∧ RegsKept s t [portReg (4 * g + p) 1, grpReg g 1, grpReg g 2])
     ∧ (portState s (4 * g + p) = 4 → (∀ f ∈ s.dck.frames, f.port ≠ 4 * g + p ∧ f.egress ≠ 4 * g + p) →
       Does (.portLinkDown g p) s fun t => portState t (4 * g + p) = firstState (modeActive s g) (mediumActive s g)
         ∧ t.bit (grpReg g 2) p = true ∧ RegsKept s t [portReg (4 * g + p) 1, grpReg g 1, grpReg g 2])
     ∧ (portState s (4 * g + p) ≠ 0 → s.bit (portReg (4 * g + p) 0) 23 = false →
       (∀ f ∈ s.dck.frames, f.port ≠ 4 * g + p ∧ f.egress ≠ 4 * g + p) →
       Does (.portDisable g p) s fun t => portState t (4 * g + p) = 0
         ∧ RegsKept s t [portReg (4 * g + p) 1, grpReg g 1, grpReg g 2])
     ∧ (modeDue s g = true → (∀ f ∈ s.dck.frames, f.port / 4 ≠ g ∧ f.egress / 4 ≠ g) →
       Does (.groupModeChange g) s fun t => Tab.get 0 t.dck.active g = s.rd (grpReg g 0) &&& 0x031F00
         ∧ portState t (4 * g + p) = (if s.bit (portReg (4 * g + p) 0) 23 = true ∧ portPresent (s.fld (grpReg g 0) 11 8) p = true
             then firstState (s.fld (grpReg g 0) 11 8) (s.fld (grpReg g 0) 17 16) else 0)
         ∧ t.bit (laneReg (4 * g + p) 1) 23 = false))
  ∧ ((∀ (l : Fin 32) (lf rf : Bool) (s : State), powered s = true → Tab.get 0 s.pwr.pllTries (4 + l) < 3 →
     (portState s (laneOwner s l) = 2
       ∨ portState s (laneOwner s l) = 3 ∧ firstState (modeActive s (l / 4)) (mediumActive s (l / 4)) = 3) →
     Does (.laneLock l true lf rf) s fun t => t.bit (laneReg l 1) 23 = true ∧ t.bit (portReg (laneOwner s l) 1) 4 = lf
       ∧ t.bit (portReg (laneOwner s l) 1) 3 = rf ∧ portState t (laneOwner s l) = portState s (laneOwner s l)
       ∧ RegsKept s t [laneReg l 1, grpReg (l / 4) 1, portReg (laneOwner s l) 1] ∧ { t with io := s.io } = s)
   ∧ (∀ (l : Fin 32) (lf rf : Bool) (s : State), powered s = true →
     Does (.laneLock l false lf rf) s fun t => t.bit (laneReg l 1) 23 = false ∧ t.bit (portReg (laneOwner s l) 1) 4 = lf
       ∧ t.bit (portReg (laneOwner s l) 1) 3 = rf ∧ portState t (laneOwner s l) = portState s (laneOwner s l)
       ∧ RegsKept s t [laneReg l 1, grpReg (l / 4) 1, portReg (laneOwner s l) 1] ∧ { t with io := s.io } = s)
   ∧ (∀ (l : Fin 34) (k : Nat) (s : State), powered s = true → l.val < 32 → portState s (laneOwner s l) = 4 →
     min 63 k < s.fld (laneReg l 0) 23 18 → (∀ r ∈ s.stk.tests, ¬(r.col = 114 ∧ r.kind = 0x40 + l.val)) →
     exec (.marginRecalQueue l k) s = .next { s.put (laneReg l 1) 5 0 (min 63 k) with
       stk := { s.stk with tests := s.stk.tests ++ [⟨114, 0x40 + l, s.now⟩] } }))

/-- Frames in the deck (R72, R76, R77, R79–R83): bytes that arrive begin a frame; a frame whose FCS fails is discarded and
counted; a classified frame is bound to its channel with the next sequence number; an aged frame goes; a ready frame leaves
whole. -/
def Obligations.FramesInTheDeck : Prop :=
  (∀ (port : Fin 33) (b : Bytes) (s : State), powered s = true → b ≠ [] → portUp s port = true → arrivingOn s port = none →
    (∀ f ∈ s.dck.frames, f.id < s.dck.nextId) →
    Does (.cellTake port b) s fun t => ∃ f, t.dck.frames = s.dck.frames ++ [f] ∧ f.id = s.dck.nextId ∧ f.port = port.val
      ∧ f.bytes = b ∧ (f.stage = .arriving true ∨ f.stage = .arriving false) ∧ t.dck.nextId = s.dck.nextId + 1)
  ∧ (∀ (port : Fin 32) (f : Frame) (ok : Bool) (fc fu : Nat) (s : State), powered s = true → arrivingOn s port = some f →
    (ok = false ∨ hasFec s port = true ∧ fu ≠ 0) →
    Does (.frameBind port ok fc fu) s fun t => t.dck.frames = s.dck.frames.filter (·.id != f.id)
      ∧ t.rdN (portReg port 10) 2 = min (s.rdN (portReg port 10) 2 + 1) (2 ^ 48 - 1) ∧ t.dck.seqs = s.dck.seqs
      ∧ (hasFec s port = true → t.rdN (portReg port 20) 2 = min (s.rdN (portReg port 20) 2 + fc) (2 ^ 48 - 1)
        ∧ t.rdN (portReg port 22) 2 = min (s.rdN (portReg port 22) 2 + fu) (2 ^ 48 - 1)))
  ∧ (∀ (port : Fin 32) (f : Frame) (fc c p tg : Nat) (r : Chan) (s : State), powered s = true → arrivingOn s port = some f →
    f.failed = false → beNat ((f.bytes.drop 12).take 2) ≠ 0x8808 → applianceDrops s port f.bytes = false → 64 ≤ f.bytes.length → f.bytes.length ≤ s.fld (portReg port 0) 13 0 →
    classify s port f.bytes = .bound c p tg → Tab.get none s.dck.chans c = some r → r.stipple = false → s.dataPlane = true →
    s.fld 0x0B0001 23 22 ≠ 2 → (plateState s p = 1 ∨ plateState s p = 2) → domErasing s r.dom = false →
    domainFits s r.dom f.cells = true →
    Does (.frameBind port true fc 0) s fun t => Tab.get 0 t.dck.seqs c = (Tab.get 0 s.dck.seqs c + 1) % 2 ^ 24
      ∧ ∃ x ∈ t.dck.frames, x.id = f.id ∧ x.chan = some c ∧ x.plate = p ∧ x.gen = plateGen s p ∧ x.bind = s.tick
        ∧ x.seq = Tab.get 0 s.dck.seqs c ∧ x.dom = r.dom ∧ x.record = some r ∧ x.stage = .waiting)
  ∧ (∀ (id : Nat) (f : Frame) (s : State), powered s = true →
    (s.dck.frames.find? fun f => f.id == id && (match f.stage with | .arriving _ | .sending => false | _ => true)
      && decide (f.bind + 2 ^ s.fld 0x018000 7 3 ≤ s.tick)) = some f →
    Does (.frameAgeOut id) s fun t => t.dck.frames = s.dck.frames.filter (·.id != id) ∧ t.bit 0x018003 0 = true)
  ∧ (∀ (port : Fin 32) (f : Frame) (d : Tab Nat) (s : State), powered s = true → portUp s port = true →
    s.transmits = true → (∀ x ∈ s.dck.frames, ¬(x.egress = port.val ∧ x.stage = .sending)) →
    Tab.get 0 s.dck.paused port ≤ s.tick → nextFrame s port = some (f, d) →
    Does (.frameTransmit port true) s (fun t => t.dck.frames = s.dck.frames.filter (·.id != f.id)
      ∧ ∃ l, t.dck.wire = s.dck.wire ++ (port.val, f.bytes) :: l)
    ∧ Does (.frameTransmit port false) s fun t => t.dck.wire = s.dck.wire
      ∧ t.dck.frames = s.dck.frames.map fun x => if x.id = f.id then { f with stage := .sending } else x)
  ∧ (∀ (g p : Fin 4) (s : State), powered s = true → Tab.get 0 s.dck.pauseSent (4 * g + p) ≠ 0 →
    Tab.get 0 s.dck.pauseSent (4 * g + p) - 1 + 2048 ≤ s.tick → s.bit (portReg (4 * g + p) 0) 21 = true → 16 * s.fld (pgReg g 3) 23 12 ≤ groupUse s g →
    portUp s (4 * g + p) = true →
    exec (.pauseRepeat g p) s = .next ({ s with dck := { s.dck with
      wire := s.dck.wire ++ [(4 * g.val + p.val, pauseFrame (4 * g + p) 0xFFFF)]
      pauseSent := Tab.set 0 s.dck.pauseSent (4 * g + p) (s.tick + 1) } }.raise 0x018003 2))
  ∧ (∀ (port : Fin 16) (s : State), powered s = true → Tab.get 0 s.dck.paused port ≤ s.tick →
    exec (.pauseQuantaExpiry port) s
      = .next { s with dck := { s.dck with paused := Tab.set 0 s.dck.paused port 0 } })

/-- Control queues (R84, R85, R87, R464): a pier reads the head frame's descriptor and its bytes three at a time, frees it, and
builds and sends frames of its own. -/
def Obligations.ControlQueues : Prop :=
  (∀ (m : Master) (q : Fin 8) (s : State), Reads m (cqReg q 0) s →
    exec (.cqRxdescRead m q) s = .next (answering (s.rd (cqReg q 0)) (if s.bit (cqReg q 0) 23 = true then
      { s with dck := { s.dck with rxFixed := Tab.set false s.dck.rxFixed q true } } else s)))
  ∧ (∀ (m : Master) (q : Fin 8) (p : Nat) (b : Bytes) (l : List (Nat × Bytes)) (s : State), Reads m (cqReg q 1) s →
    rxq s q = (p, b) :: l →
    Does (.cqRxdataRead m q) s fun t => t.answered = true
      ∧ wordBytes t.answer = (List.range 3).map (fun i => b.getD (Tab.get 0 s.dck.rxRead q + i) 0)
      ∧ Tab.get 0 t.dck.rxRead q = Tab.get 0 s.dck.rxRead q + 3 ∧ t.dck.rxq = s.dck.rxq ∧ t.io = s.io)
  ∧ (∀ (m : Master) (q : Fin 8) (w : Word) (p : Nat) (b : Bytes) (l : List (Nat × Bytes)) (s : State), Reaches m (cqReg q 2) s →
    rxq s q = (p, b) :: l →
    Does (.cqRxdone m q w) s fun t => rxq t q = l ∧ Tab.get 0 t.dck.rxRead q = 0 ∧ Tab.get false t.dck.rxFixed q = false
      ∧ groupUse t q = groupUse s q - cellsOf (b.length + 4))
  ∧ (∀ (m : Master) (q : Fin 8) (w : Word) (s : State), Reaches m (cqReg q 3) s →
    exec (.cqTxdata m q w) s = .next { s with dck := { s.dck with
      build := Tab.set [] s.dck.build q (Tab.get [] s.dck.build q ++ wordBytes w) } })
  ∧ (∀ (m : Master) (q : Fin 8) (w : Word) (s : State), Reaches m (cqReg q 4) s → q.val < 4 →
    portUp s (4 * q + Word.slice w 20 19) = true → s.transmits = true → Word.slice w 13 0 ≤ (Tab.get [] s.dck.build q).length →
    Word.slice w 13 0 + 4 ≤ s.fld (portReg (4 * q + Word.slice w 20 19) 0) 13 0 → Word.slice w 13 0 ≤ 252 →
    mayTake s q = true → domainFits s 256 1 = true →
    Does (.cqTxsend m q w) s fun t => Tab.get [] t.dck.build q = [] ∧ t.bit (cqReg q 5) 23 = false
      ∧ groupUse t q = groupUse s q + 1 ∧ ∃ f, t.dck.frames = s.dck.frames ++ [f] ∧ f.stage = .ready
        ∧ f.egress = 4 * q.val + Word.slice w 20 19 ∧ f.bytes = withFcs ((Tab.get [] s.dck.build q).take (Word.slice w 13 0)
          ++ List.replicate (60 - Word.slice w 13 0) 0))

/-! ### Spans and plates -/

/-- Spans and packet numbers (R102, R111, R114, R115, R117): a lockstep mismatch voids the span's batch, a FREE span covers the faulted
one, a swap leaves the swapped span FAULTED, a span returns from its test; a read of SPN_PNEV_STAT shows and fixes the head of the
event queue, a pop removes it; the number of a removed truss is free once no frame carries it. -/
def Obligations.SpansAndPacketNumbers : Prop :=
  ((∀ (n : Fin 28) (s : State), powered s = true →
     Does (.spanFault n) s fun t => t.spn.faults = s.spn.faults.filter (· != n.val) ++ [n.val]
       ∧ Tab.get 0 t.spn.faultAt n = s.now ∧ t.bit 0x021C01 0 = true
       ∧ t.ppt.fired = s.ppt.fired ++ [⟨50, pptActing s 50, false⟩]
       ∧ ∀ f ∈ t.dck.frames, ∀ k v, f.stage = .batch n k v → v = true)
   ∧ (∀ (n : Fin 28) (s : State), powered s = true → s.spn.faults.contains n.val = true → spnState s n ≠ 0 →
     Tab.get 0 s.spn.faultAt n < s.now →
     Does (.spanFaultCover n) s fun t => spnState t n = 4 ∧ t.spn.faults = s.spn.faults.filter (· != n.val)
       ∧ ∃ r ∈ t.stk.tests, r.col = n.val ∧ r.kind = 3)
   ∧ (∀ (n : Fin 28) (k at_ : Nat) (s : State), powered s = true →
     (s.spn.tested.find? fun x => x.1 == n.val && decide (x.2.2.2 < s.now)) = some (n.val, k, false, at_) →
     Does (.spanTestReturn n) s fun t => spnState t n = 4 ∧ t.bit 0x021C01 0 = true ∧ t.spn.tested = s.spn.tested.filter (·.1 != n.val))
   ∧ (∀ (n : Fin 28) (k at_ : Nat) (s : State), powered s = true → spnState s n = 4 →
     (s.spn.tested.find? fun x => x.1 == n.val && decide (x.2.2.2 < s.now)) = some (n.val, k, true, at_) →
     (∀ g < 4, (planSpans s.spn.layout g).contains n.val = false) →
     Does (.spanTestReturn n) s fun t => spnState t n = (if k = 3 then 0 else 4) ∧ t.spn.tested = s.spn.tested.filter (·.1 != n.val))
   ∧ (∀ (n b : Fin 28) (k at_ : Nat) (s : State), powered s = true →
     (s.spn.tested.find? fun x => x.1 == n.val && decide (x.2.2.2 < s.now)) = some (n.val, k, true, at_) → spnState s n = 3 →
     covererOf s n = some b.val → (∃ g < 4, (planSpans s.spn.layout g).contains b.val = true) →
     (∀ g < 4, (planSpans s.spn.layout g).contains n.val = false) →
     Does (.spanTestReturn n) s fun t => spnState t n = (if (Tab.get none s.spn.owner n).isSome = true then 2 else 1)
       ∧ spnState t b = 0 ∧ t.spn.tested = s.spn.tested.filter (·.1 != n.val))
   ∧ (∀ (w : Word) (s : State), powered s = true → s.bit 0x021C03 23 = false → Word.slice w 4 0 < 28 →
     spnState s (Word.slice w 4 0) = 1 → freeSpan s ≠ none →
     exec (.spnSwap .keep w) s = .next { (s.put 0x021C03 4 0 (Word.slice w 4 0)).put 0x021C03 23 23 1 with
       spn := { s.spn with swapAt := s.now } })
   ∧ (∀ s : State, powered s = true → s.bit 0x021C03 23 = true → s.spn.swapAt < s.now →
     s.fld 0x021C03 4 0 < 28 → spnState s (s.fld 0x021C03 4 0) = 1 →
     Does .spanSwapEffect s fun t => spnState t (s.fld 0x021C03 4 0) = 4 ∧ t.bit 0x021C03 23 = false ∧ t.bit 0x021C01 1 = true))
  ∧ ((∀ (m : Master) (s : State), Reads m 0x021C08 s →
     exec (.pnevStatRead m) s = .next (answering (pnevStat s) s))
   ∧ (∀ (m : Master) (w : Word) (s : State), Reaches m 0x021C0A s →
     exec (.pnevPop m w) s = .next { s with spn := { s.spn with events := s.spn.events.tail } })
   ∧ (∀ (i : Fin 32) (x : Truss) (s : State), powered s = true → Tab.get none s.spn.layout.trusses i = some x → x.removed = true →
     (∀ f ∈ s.dck.frames, i.val ∉ f.trusses) →
     Does (.trussNumberFree i) s fun t => Tab.get none t.spn.layout.trusses i = none ∧ t.io = s.io
       ∧ ∀ j, j ≠ i.val → Tab.get none t.spn.layout.trusses j = Tab.get none s.spn.layout.trusses j))

/-- The frames of a span's batch (R89, R92, R104, R105, R113): an emission puts a cover frame into the batch of a span with
credit; at the end of its stroke a transmit frame of the batch is in its protected form, ready for its port. -/
def Obligations.BatchesOfSpans : Prop :=
  (∀ (c : BitVec 18) (r : Chan) (p n : Nat) (x y : Frame) (s u v : State), powered s = true →
    Tab.get none s.dck.chans c.toNat = some r → r.stipple = true → r.rx = false → r.count = 1 →
    s.stk.done.contains (16 + c.toNat) = false → (s.now + 1) % 2 ^ r.plog = r.phase → s.transmits = true →
    s.spn.pausedUntil ≤ s.now → currentPlate r = some p → (∀ f ∈ s.dck.frames, f.chan ≠ some c.toNat) →
    resident s p = true → Word.slice ((plateContent u p (plateGen s p)).getD 0 0) 23 21 ≠ 2 →
    x = { Frame.blank with
      id := s.dck.nextId, port := 128, dom := r.dom, chan := some c.toNat, bind := s.tick, plate := p, gen := plateGen s p
      record := some r, egress := r.line, seen := true, levels := (chanLevels s.spn.layout c.toNat).1
      trusses := (chanLevels s.spn.layout c.toNat).2, stipple := true } →
    u = addRef p (plateGen s p) { s with
      stk := { s.stk with done := (16 + c.toNat) :: s.stk.done }
      dck := { s.dck with frames := s.dck.frames ++ [x], nextId := s.dck.nextId + 1 } } →
    givePn x u = some (some y, v) → spanFor v y (spanCost y) = some n →
    Does (.stippleEmission c) s fun t => t.stk.done = (16 + c.toNat) :: s.stk.done
      ∧ ∃ z ∈ t.dck.frames, z.id = s.dck.nextId ∧ z.port = 128 ∧ z.chan = some c.toNat ∧ z.pn = y.pn ∧ z.stage = .batch n s.now false)
  ∧ (∀ (n : Fin 28) (f : Frame) (k pn : Nat) (r : Chan) (s : State), powered s = true → s.dck.frames = [f] →
    f.stage = .batch n k false → k < s.now → f.record = some r → f.cut = false → r.rx = false → f.port < 16 → f.pn = some pn →
    16 ≤ f.egress → f.egress < 32 → portUp s f.egress = true →
    cellsOf (protect f r (plateContent s f.plate f.gen) pn).1.length ≤ f.cells + f.extra →
    Does (.batchRelease n) s fun t => ∃ x, t.dck.frames = [x] ∧ x.id = f.id ∧ x.stage = .ready
      ∧ x.bytes = (protect f r (plateContent s f.plate f.gen) pn).1)

/-- Fetches (R133, R135, R136): a queued fetch begins in its cell with a way, ends with its plate resident, and is late 8
strokes after its request; a resident plate that belongs there moves to the pinned region (R125). -/
def Obligations.PlateFetches : Prop :=
  (∀ (c : Fin 2) (m : Miss) (w : Nat) (s : State), powered s = true →
    (s.plc.queue.find? fun m => plateChannel s m.plate == c.val && m.started.isNone && fetchCell s c m) = some m →
    entersPinned s m.plate = false →
    ((List.range (cacheWays s)).find? fun w => !(waysUsed s (plateSet s m.plate)).contains w) = some w →
    Does (.plateFetch c) s fun t => t.io = s.io ∧ t.plc = { s.plc with
      queue := s.plc.queue.map fun x => if x.plate = m.plate then { x with started := some s.tick, way := w } else x })
  ∧ (∀ (p : BitVec 24) (d k : Nat) (m : Miss) (s : State), powered s = true → fetchReady s p.toNat = some m → s.plc.waiting = [] →
    (∀ x ∈ Tab.get [] s.plc.tree (plateChannel s p.toNat), x.2 = false) →
    Does (.plateFetchDone p (.verified d k)) s fun t => resident t p.toNat = true
      ∧ (∀ w < 64, w ≠ 59 → t.plateWord p.toNat w = (sdramWords s p.toNat).getD w 0)
      ∧ t.plc.queue = s.plc.queue.filter (·.plate != p.toNat)
      ∧ Tab.get none t.plc.cache p.toNat = some ⟨m.way == 16, if m.way = 16 then 0 else m.way, false⟩
      ∧ t.plateFld p.toNat 59 23 16 = s.plateFld p.toNat 59 23 16 / 2)
  ∧ (∀ (p : BitVec 24) (m : Miss) (s : State), powered s = true → (m ∈ s.plc.queue ∨ m ∈ s.plc.waiting) → m.plate = p.toNat →
    m.late = false → m.since + 8 < s.tick →
    Does (.missLate p) s fun t => t.bit 0x030002 3 = true
      ∧ (t.plc.queue = s.plc.queue.map fun x => if x.plate = p.toNat then { x with late := true } else x)
      ∧ t.plc.waiting = s.plc.waiting.map fun x => if x.plate = p.toNat then { x with late := true } else x)
  ∧ (∀ (p : BitVec 24) (l : Line) (s : State), powered s = true → Tab.get none s.plc.cache p.toNat = some l → l.pinned = false →
    entersPinned s p.toNat = true →
    exec (.pinRegionMove p) s = .next { s with plc := { s.plc with
      cache := Tab.set none s.plc.cache p.toNat (some ⟨true, 0, l.dirty⟩) } })

/-- Plate changes at their stroke and drains (R119, R120, R122, R139, R141, R364): a retire leaves the plate EMPTY, a recycle ends with
every word but its count 0, a snapshot reads the key fields as 0; DRAIN is accepted where the other channel's spare slots hold the
plates, the channel is DRAINED once it holds none, and DRAIN = 0 returns it. -/
def Obligations.PlateChangesAndDrains : Prop :=
  ((∀ (p : BitVec 24) (d k : Nat) (s : State), powered s = true → s.spn.pausedUntil ≤ s.now → k ≤ s.now →
     s.setup = [⟨0, p.toNat, .retire p.toNat d, .stroke k⟩] → resident s p.toNat = true →
     retireCheck { s with setup := [] } p.toNat d (some s.now) = stOK →
     Does (.plateChangeEffect p) s fun t => plateState t p.toNat = 0 ∧ (∀ w, 4 ≤ w → w ≤ 18 → t.plateWord p.toNat w = 0) ∧ plateGen t p.toNat = plateGen s p.toNat ∧ t.setup = [])
   ∧ (∀ (p : BitVec 24) (s : State), powered s = true → plateState s p.toNat = 3 →
     Tab.get 0 s.plc.recycles p.toNat + 2 ≤ s.tick → Tab.get [] s.plc.outgoing p.toNat = [] →
     Does (.recycleComplete p) s fun t => (∀ w < 64, t.plateWord p.toNat w =
         if w = 0 then BitVec.ofNat 24 ((s.plateFld p.toNat 0 7 0 + 1) % 256) else 0)
       ∧ t.bit 0x030002 1 = true ∧ ∀ q, q ≠ p.toNat → ∀ w < 64, t.plateWord q w = s.plateWord q w)
   ∧ (∀ (m : Master) (w : Word) (s : State), Reaches m 0x030031 s → s.bit 0x030031 22 = false →
     (s.rd 0x030030).toNat < plateCapacity s → resident s (s.rd 0x030030).toNat = true →
     exec (.plateSnapshot m w) s
       = .next ({ s with plc := { s.plc with snapshot := some (s.rd 0x030030).toNat } }.wr 0x030031 0x400000))
   ∧ (∀ (p : Nat) (s : State), powered s = true → s.plc.snapshot = some p → resident s p = true →
     Does .snapshotTaken s fun t => t.plc.snapshot = none ∧ t.rd 0x030031 = 0
       ∧ (∀ w < 64, t.rd (0x030040 + w) = if (4 ≤ w ∧ w ≤ 18) ∨ memoriesShown s = false then 0 else s.plateWord p w)
       ∧ ∀ a, a ≠ 0x030031 → inBlock 0x030040 64 a = false → t.rd a = s.rd a))
  ∧ ((∀ (m : Master) (c : Fin 2) (w : Word) (s : State), Reaches m (sdcReg c 0) s → s.bit (sdcReg c 0) 22 = true →
     s.bit (sdcReg c 0) 11 = false → Word.bit w 22 = false → (channelPlates s c).length ≤ spareSlots s (1 - c) →
     exec (.drain m c w) s
       = .next (((s.put (sdcReg c 0) 11 11 1).put (sdcReg c 1) 20 20 0).put (sdcReg c 1) 22 22 1))
   ∧ (∀ (m : Master) (c : Fin 2) (w : Word) (s : State), Reaches m (sdcReg c 0) s → s.bit (sdcReg c 0) 22 = true →
     s.bit (sdcReg c 0) 11 = true → Word.bit w 22 = false →
     exec (.drainReturn m c w) s
       = .next (((s.put (sdcReg c 0) 11 11 0).put (sdcReg c 1) 22 22 0).put (sdcReg c 1) 21 21 0))
   ∧ (∀ (c : Fin 2) (s : State), powered s = true → s.bit (sdcReg c 1) 22 = true → channelPlates s c = [] →
     exec (.drained c) s
       = .next (((s.put (sdcReg c 1) 22 22 0).put (sdcReg c 1) 21 21 1).raise (sdcReg c 2) 3)))

/-! ### Gravers -/

/-- Who may use a graver (R151, R152, R160, R166, R169, R331): a claim, a commit and a release move it between its states, a wipe zeroes
its banks, a drained one leaves service; GRAVER_JOB sets up a free graver for its caller and commits the job, or refuses it. -/
def Obligations.GraverAuthorityAndJobCommand : Prop :=
  ((∀ (n : Fin 16) (w : Word) (s : State), powered s = true → (grvState s n = 0 ∨ grvState s n = 4) → s.bit 0x041001 n = false →
     Word.slice w 8 0 ≤ 256 →
     Does (.claim .keep n w) s fun t => grvState t n = 1 ∧ grvDom t n = Word.slice w 8 0
       ∧ (t.grv n).wipeDue = ((s.grv n).wipeDue || grvDom s n != Word.slice w 8 0) ∧ (t.grv n).mem = (s.grv n).mem
       ∧ RegsKept s t [grvReg n 0, grvReg n 3, 0x041000])
   ∧ (∀ (n : Fin 16) (w : Word) (s : State), powered s = true → grvState s n = 1 → s.fld (grvReg n 6) 23 0 ≠ 0 →
     outOverlap s n = false →
     (resultSlots s n = 0 → Does (.commit .keep n w) s fun t => grvState t n = 2 ∧ grvDom t n = grvDom s n
       ∧ t.bit (grvReg n 0) 11 = false ∧ (t.grv n).reserved = [] ∧ (t.grv n).committedAt = s.tick
       ∧ RegsKept s t [grvReg n 0, grvReg n 3, 0x041000])
     ∧ (resultSlots s n ≠ 0 → slotQuotaOk s (grvDom s n) (resultSlots s n) = true →
       Does (.commit .keep n w) s fun t => grvState t n = 2 ∧ grvDom t n = grvDom s n ∧ t.bit (grvReg n 0) 11 = false
         ∧ (t.grv n).reserved = (reserveSlots (grvDom s n) (resultSlots s n) s).1)
     ∧ (resultSlots s n ≠ 0 → slotQuotaOk s (grvDom s n) (resultSlots s n) = false →
       Does (.commit .keep n w) s fun t => { t with io := s.io } = s ∧ t.bit (grvReg n 1) 5 = true ∧ t.bit 0x041002 n = true
         ∧ RegsKept s t [grvReg n 1, grvReg n 3, 0x041002]))
   ∧ (∀ (n : Fin 16) (w : Word) (s : State), powered s = true → (grvState s n = 1 ∨ grvState s n = 4) →
     Does (.release .keep n w) s fun t => grvState t n = 0 ∧ grvDom t n = 0x1FF ∧ (t.grv n).wipeDue = true
       ∧ RegsKept s t [grvReg n 0, grvReg n 3, 0x041000])
   ∧ (∀ (n : Fin 16) (s : State), powered s = true → (s.grv n).wipeDue = true →
     Does (.graverWipe n) s fun t => (t.grv n).mem = [] ∧ lmodOf t n = 0 ∧ t.fld (grvReg n 0) 19 12 = 0
       ∧ (t.grv n).wipeDue = false ∧ (t.grv n).list = (s.grv n).list ∧ t.bit (grvReg n 1) 0 = true)
   ∧ (∀ (w : Word) (s : State), powered s = true →
     Does (.graverDrain .keep w) s fun t => t.rd 0x041001 = BitVec.ofNat 24 (Word.slice w 15 0)
       ∧ ∀ n < 16, grvState t n =
         if Word.bit w n = true then (if grvState s n = 0 ∨ grvState s n = 1 ∨ grvState s n = 4 then 5 else grvState s n)
         else if grvState s n = 5 then 0 else grvState s n)
   ∧ (∀ (n : Fin 16) (s : State), powered s = true → grvState s n = 3 →
     Does (.graverCheckFail n) s fun t => (t.grv n).halt = some jFAULT ∧ grvState t n = 3
       ∧ t.ppt.fired = s.ppt.fired ++ [⟨51, pptActing s 51, false⟩])
   ∧ (∀ (n : Fin 16) (s : State), powered s = true → grvState s n ∈ [0, 1, 4, 5] → (s.grv n).staged = none →
     (∀ r ∈ s.stk.tests, ¬(r.col = 28 + n.val ∧ r.kind = 1)) →
     Does (.graverCheckFail n) s fun t => grvState t n = 6 ∧ t.bit (grvReg n 1) 1 = true
       ∧ t.ppt.fired = s.ppt.fired ++ [⟨51, pptActing s 51, false⟩]
       ∧ t.stk.tests = s.stk.tests ++ [⟨28 + n, 1, s.now⟩]))
  ∧ (∀ (fn : Fin 257) (g : Fin 520) (idx : Nat) (f : Flight) (a : GraverArgs) (s : State), Takes s 0x30 fn g idx f →
   (jobDuration a.kind.toNat a.size = none → a.kind.toNat ≠ 0xF0 →
     Does (.graverJob (.host fn g idx) a) s fun t => (Completes s t f stFORMAT 0 0 [] ∨ Completes s t f stRANGE 0 0 [])
       ∧ t.gravers = s.gravers)
   ∧ (jobDuration a.kind.toNat a.size ≠ none ∨ a.kind.toNat = 0xF0 →
     (∀ n < 16, (grvState s n ≠ 0 ∧ grvState s n ≠ 4) ∨ s.bit 0x041001 n = true) →
     Does (.graverJob (.host fn g idx) a) s fun t => t.io = s.io ∧ t.gravers = s.gravers ∧ t.hif.due = s.hif.due
       ∧ ∃ x, t.flight g idx = some x ∧ x.started = false)
   ∧ (∀ dur : Nat, dur = (jobDuration a.kind.toNat a.size).getD (1 + (Config.freeWord s.free).toNat % (2 ^ 24 - 1)) →
     jobDuration a.kind.toNat a.size ≠ none ∨ a.kind.toNat = 0xF0 → freeGravers s ≠ [] →
     Does (.graverJob (.host fn g idx) a) s fun t => ∃ n ∈ freeGravers s, (∀ m < 16, m ≠ n → t.grv m = s.grv m)
       ∧ (if wiping (claimOp n (fnDom fn) s) n = true then
           grvState t n = 1 ∧ grvDom t n = fnDom fn ∧ (t.grv n).staged = some (.host fn g idx, a, dur)
             ∧ t.flight g idx = some { f with started := true, graver := some n } ∧ t.hif.due = s.hif.due
         else if commitStatus (jobSetup n a (claimOp n (fnDom fn) s)) n (fnDom fn) dur = stOK then
           grvState t n = 2 ∧ grvDom t n = fnDom fn ∧ t.fld (grvReg n 6) 23 0 = dur
             ∧ t.flight g idx = some { f with started := true, graver := some n } ∧ t.hif.due = s.hif.due
         else grvState t n = 0
           ∧ Completes s t f (commitStatus (jobSetup n a (claimOp n (fnDom fn) s)) n (fnDom fn) dur) 0 0 [])))

/-- Graver jobs (R52, R53, R153, R155, R158, R159): a committed job starts in a GUARANTEED cell, completes at its end with its
public range kept and ACC zeroed, or is aborted; a sealed bank reads 0. -/
def Obligations.GraverJobs : Prop :=
  (∀ (n : Fin 16) (s : State), powered s = true → jobMayStart s n = true →
    Does (.jobStart n) s fun t => grvState t n = 3 ∧ (t.grv n).entry = 0 ∧ (t.grv n).ended = false
      ∧ (t.grv n).endAt = s.tick + s.fld (grvReg n 6) 23 0 ∧ t.rdN (grvReg n 0x16) 2 = s.stk.time.num.toNat ∧ lmodOf t n = 0
      ∧ (t.grv n).mem = (s.grv n).mem)
  ∧ (∀ (n : Fin 16) (s : State), powered s = true → grvState s n = 3 → (s.grv n).endAt ≤ s.tick → (s.grv n).halt = none → (s.grv n).draws = 0 →
    (s.grv n).ended = true → (s.grv n).cycles ≤ 1000 * s.fld (grvReg n 6) 23 0 →
    s.fld (grvReg n 4) 7 0 ∉ [0x01, 0x03, 0x41] → s.bit 0x041001 n = false →
    s.fld (grvReg n 7) 19 10 + s.fld (grvReg n 7) 9 0 ≤ 1024 →
    Does (.jobComplete n) s fun t => grvState t n = 4 ∧ t.bit (grvReg n 1) 4 = true
      ∧ t.rd (grvReg n 0x14) = BitVec.ofNat 24 (if (s.grv n).abort = true then 2 ^ 20 else 0)
      ∧ (∀ i < s.fld (grvReg n 7) 9 0, (t.grv n).word (s.fld (grvReg n 7) 22 20) (s.fld (grvReg n 7) 19 10 + i)
          = (s.grv n).word (s.fld (grvReg n 7) 22 20) (s.fld (grvReg n 7) 19 10 + i))
      ∧ (s.fld (grvReg n 7) 22 20 ≠ 4 → ∀ w < 1024, (t.grv n).word 4 w = 0))
  ∧ (∀ (m : Master) (n : Fin 16) (w : Word) (s : State), Reaches m (grvReg n 2) s → (grvState s n = 2 ∨ grvState s n = 3) →
    exec (.jobAbort m n w) s = .next (s.updGrv n fun g => { g with abort := true }))
  ∧ (∀ (n : Fin 16) (s : State), powered s = true → (s.grv n).abort = true → (grvState s n = 2 ∨ grvState s n = 3) →
    (s.grv n).halt ≠ some jFAULT → s.bit 0x041001 n = false →
    Does (.jobAbortTake n) s fun t => grvState t n = 4 ∧ t.rd (grvReg n 0x14) = BitVec.ofNat 24 (jABORTED * 2 ^ 21)
      ∧ (t.grv n).abort = false ∧ ∀ w < 1024, (t.grv n).word 4 w = 0)
  ∧ (∀ (m : Master) (n : Fin 16) (w : Word) (s : State), Reaches m (grvReg n 0x11) s → jobLocked s n = false →
    exec (.listWrite m n w) s = .next (((s.updGrv n fun g => { g with list := Tab.set 0 g.list (s.fld (grvReg n 0x10) 11 0) w }).put
      (grvReg n 0) 11 11 1).wr (grvReg n 0x10) (BitVec.ofNat 24 ((s.fld (grvReg n 0x10) 11 0 + 1) % 4096))))
  ∧ (∀ (m : Master) (n : Fin 16) (v : Word) (s : State), Reaches m (grvReg n 0x13) s → bankWordOpen s n = true →
    Does (.bankAccess m n (some v)) s fun t =>
      (t.grv n).word (s.fld (grvReg n 0x12) 14 12) (s.fld (grvReg n 0x12) 9 0) = v
      ∧ t.fld (grvReg n 0x12) 9 0 = (s.fld (grvReg n 0x12) 9 0 + 1) % 1024 ∧ RegsKept s t [grvReg n 0x12])
  ∧ (∀ (m : Master) (n : Fin 16) (s : State), Reads m (grvReg n 0x13) s →
    Does (.bankAccess m n none) s fun t => t.answered = true ∧ (t.grv n).mem = (s.grv n).mem
      ∧ t.answer = if bankWordOpen s n = true ∧ memoriesShown s = true then (s.grv n).word (s.fld (grvReg n 0x12) 14 12) (s.fld (grvReg n 0x12) 9 0) else 0)

/-- List commands on ACC and the banks (R144, R145, R147, R149, R156): operands inside their banks are computed as integers, in
long mode over 772 words and in lane mode modulo q; the entry after them follows. -/
def Obligations.GraverArithmetic : Prop :=
  (∀ (c : Instr) (n : Fin 16) (w xb xo yb yo : Nat) (s : State), powered s = true →
    ((c = .mac n ∧ AtEntry s n 1 ∧ w = 0) ∨ (c = .macw n ∧ AtEntry s n 2 ∧ auxValue (s.grv n) = some w)) →
    operand (s.grv n) (entryWord (s.grv n) 1) = (xb, xo) → operand (s.grv n) (entryWord (s.grv n) 2) = (yb, yo) →
    rangeOk xb xo (entryLen (s.grv n)) = true → rangeOk 4 w (entryLen (s.grv n)) = true →
    (lmodOf s n = 0 → rangeOk yb yo 1 = true →
      Does c s fun t => (t.grv n).entry = (s.grv n).entry + 1
        ∧ (∀ b k, b < 4 → k < 1024 → (t.grv n).word b k = (s.grv n).word b k)
        ∧ ((t.grv n).acc : Int) = ((s.grv n).acc + (if Word.bit (entryWord (s.grv n) 0) 18 = true then -1 else 1)
            * (wordsNat ((s.grv n).range xb xo (entryLen (s.grv n)))
              * (if Word.bit (entryWord (s.grv n) 0) 16 = true then ((s.grv n).word 4 0).toNat * ((s.grv n).word yb yo).toNat % 2 ^ 24
                else ((s.grv n).word yb yo).toNat) * 2 ^ (24 * w) : Nat)) % 2 ^ (24 * 772))
    ∧ (lmodOf s n ≠ 0 → rangeOk yb yo (if Word.bit (entryWord (s.grv n) 0) 17 = true then entryLen (s.grv n) else 1) = true →
      Word.bit (entryWord (s.grv n) 0) 18 = false →
      Does c s fun t => (t.grv n).entry = (s.grv n).entry + 1 ∧ ∀ k < entryLen (s.grv n), ((t.grv n).word 4 (w + k)).toNat =
        (((s.grv n).word 4 (w + k)).toNat % lmodOf s n + ((s.grv n).word xb (xo + k)).toNat
          * ((s.grv n).word yb (if Word.bit (entryWord (s.grv n) 0) 17 = true then yo + k else yo)).toNat
          % lmodOf s n * inv24 (lmodOf s n) % lmodOf s n) % lmodOf s n))
  ∧ (∀ (n : Fin 16) (s : State), powered s = true → AtEntry s n 3 →
    Does (.ash n) s fun t => (t.grv n).entry = (s.grv n).entry + 1 ∧ t.io = s.io ∧ ((t.grv n).acc : Int) =
      (if Word.bit (entryWord (s.grv n) 0) 18 = true then ((s.grv n).acc : Int) * 2 ^ (24 * entryLen (s.grv n))
        else ((s.grv n).acc - (if (s.grv n).accNeg = true then 2 ^ (24 * 772) else 0) : Int) / 2 ^ (24 * entryLen (s.grv n)))
      % 2 ^ (24 * 772))
  ∧ (∀ (n : Fin 16) (s : State), powered s = true → AtEntry s n 4 →
    Does (.aclr n) s fun t => (t.grv n).acc = 0 ∧ (t.grv n).entry = (s.grv n).entry + 1 ∧ t.io = s.io)
  ∧ (∀ (n : Fin 16) (xb xo yb yo : Nat) (s : State), powered s = true → AtEntry s n 7 →
    operand (s.grv n) (entryWord (s.grv n) 1) = (xb, xo) → operand (s.grv n) (entryWord (s.grv n) 2) = (yb, yo) →
    rangeOk xb xo (entryLen (s.grv n)) = true → rangeOk yb yo (entryLen (s.grv n)) = true →
    Does (.graverCmp n) s fun t => (t.grv n).entry = (s.grv n).entry + 1 ∧ (t.grv n).mem = (s.grv n).mem
      ∧ t.bit (grvReg n 0) 18 = (!(bankSealed s n xb || bankSealed s n yb)
          && wordsNat ((s.grv n).range xb xo (entryLen (s.grv n))) == wordsNat ((s.grv n).range yb yo (entryLen (s.grv n))))
      ∧ t.bit (grvReg n 0) 17 = (!(bankSealed s n xb || bankSealed s n yb)
          && decide (wordsNat ((s.grv n).range xb xo (entryLen (s.grv n))) < wordsNat ((s.grv n).range yb yo (entryLen (s.grv n))))))

/-- List commands that move words and steer the list (R145, R148, R149, R154, R156): copies and exchanges, loads of key
components with their seal, the lane modulus, loops, END. -/
def Obligations.GraverMovesAndLoops : Prop :=
  (∀ (n : Fin 16) (xb xo yb yo : Nat) (s : State), powered s = true → AtEntry s n 5 →
    operand (s.grv n) (entryWord (s.grv n) 1) = (xb, xo) → operand (s.grv n) (entryWord (s.grv n) 2) = (yb, yo) →
    rangeOk xb xo (entryLen (s.grv n)) = true → rangeOk yb yo (entryLen (s.grv n)) = true →
    (Word.slice (entryWord (s.grv n) 0) 15 14 = 0 → Does (.graverMov n) s fun t => (t.grv n).entry = (s.grv n).entry + 1
      ∧ ∀ i < entryLen (s.grv n), (t.grv n).word yb (yo + i) = (s.grv n).word xb (xo + i))
    ∧ (Word.slice (entryWord (s.grv n) 0) 15 14 = 2 → xb ≠ yb → Does (.graverMov n) s fun t =>
      (t.grv n).entry = (s.grv n).entry + 1 ∧ ∀ i < entryLen (s.grv n),
        (t.grv n).word yb (yo + i) = (if (s.grv n).accNeg = true then (s.grv n).word xb (xo + i) else (s.grv n).word yb (yo + i))
        ∧ (t.grv n).word xb (xo + i) = (if (s.grv n).accNeg = true then (s.grv n).word yb (yo + i) else (s.grv n).word xb (xo + i))))
  ∧ (∀ (n : Fin 16) (yb yo : Nat) (ws : List Word) (s : State), powered s = true → AtEntry s n 6 →
    operand (s.grv n) (entryWord (s.grv n) 2) = (yb, yo) → rangeOk yb yo (entryLen (s.grv n)) = true →
    (s.bit (grvReg n 4) 23 = false ∨ (s.grv n).curveOk = true) → ldkWords s n (s.grv n) = some ws →
    Does (.ldk n false) s (fun t => (t.grv n).entry = (s.grv n).entry + 1 ∧ bankSealed t n yb = true
      ∧ ∀ i < ws.length, (t.grv n).word yb (yo + i) = ws.getD i 0)
    ∧ exec (.ldk n true) s = .next (s.updGrv n fun g => { g with stalled := some s.tick }))
  ∧ (∀ (n : Fin 16) (yb yo since : Nat) (ws : List Word) (s : State), powered s = true → (s.grv n).stalled = some since →
    grvState s n = 3 → (s.grv n).halt = none → operand (s.grv n) (entryWord (s.grv n) 2) = (yb, yo) →
    ldkWords s n (s.grv n) = some ws → yb ≤ 4 →
    Does (.ldkDelivery n) s fun t => (t.grv n).entry = (s.grv n).entry + 1 ∧ bankSealed t n yb = true
      ∧ (t.grv n).stalled = none ∧ ∀ i < ws.length, (t.grv n).word yb (yo + i) = ws.getD i 0)
  ∧ (∀ (n : Fin 16) (xb xo : Nat) (s : State), powered s = true → AtEntry s n 8 →
    operand (s.grv n) (entryWord (s.grv n) 1) = (xb, xo) →
    (xb = 7 → Does (.lmod n) s fun t => lmodOf t n = 0 ∧ (t.grv n).entry = (s.grv n).entry + 1)
    ∧ (rangeOk xb xo 1 = true → ((s.grv n).word xb xo).toNat % 2 = 1 → 3 ≤ ((s.grv n).word xb xo).toNat →
      ((s.grv n).word xb xo).toNat < 2 ^ 23 →
      Does (.lmod n) s fun t => lmodOf t n = ((s.grv n).word xb xo).toNat ∧ (t.grv n).entry = (s.grv n).entry + 1))
  ∧ (∀ (n : Fin 16) (s : State), powered s = true → AtEntry s n 0x10 → (s.grv n).loops.length < 3 →
    Does (.loop n) s fun t => (t.grv n).entry = (s.grv n).entry + 1 ∧ Tab.get 0 (t.grv n).index (s.grv n).loops.length = 0
      ∧ (t.grv n).loops = (entryLen (s.grv n), (s.grv n).entry + 1) :: (s.grv n).loops)
  ∧ (∀ (n : Fin 16) (k back : Nat) (l : List (Nat × Nat)) (s : State), powered s = true → AtEntry s n 0x11 →
    (s.grv n).loops = (k, back) :: l →
    Does (.next n) s fun t => Tab.get 0 (t.grv n).index l.length = Tab.get 0 (s.grv n).index l.length + 1
      ∧ (if Tab.get 0 (s.grv n).index l.length + 1 < k then (t.grv n).entry = back ∧ (t.grv n).loops = (k, back) :: l
        else (t.grv n).entry = (s.grv n).entry + 1 ∧ (t.grv n).loops = l))
  ∧ (∀ (n : Fin 16) (s : State), powered s = true → AtEntry s n 0 →
    exec (.endList n) s = .next (s.updGrv n fun g => { g with ended := true }))

/-! ### Key store -/

/-- Key store events and quorums (R185, R191, R194, R199, R246): a destroyed object's slots are free and empty, an erased tenant is
ABSENT with its epoch advanced and its roots gone; a request draws a challenge and holds the action pending, a valid approval counts,
any other is refused with QUORUM, and a quorum not met in time is cancelled. -/
def Obligations.KeyStoreAndQuorums : Prop :=
  ((∀ (i : BitVec 16) (s : State), powered s = true → (s.slot i.toNat).state = .destroying → (s.slot i.toNat).head = true →
     jobRefers s i.toNat = false →
     Does (.keySlotsFree i) s fun t => (∀ j ∈ objectSlots s i.toNat, (t.slot j).state = .free ∧ (t.slot j).words = Slot.empty.words
         ∧ (t.slot j).head = false)
       ∧ ∀ j, j ∉ objectSlots s i.toNat → t.slot j = s.slot j)
   ∧ (∀ (k : Fin 256) (s : State), powered s = true → tenantState s k = 3 → tenantHolds s k = false →
     Does (.tenantEraseComplete k) s fun t => tenantState t k = 0 ∧ epochOf t k = (epochOf s k + 1) % 2 ^ 16
       ∧ Tab.get [] t.key.roots k = [] ∧ Tab.get [] t.key.metering k = [] ∧ t.rd (0x051001 + 16 * k) = 0
       ∧ t.bit 0x050002 2 = true)
   ∧ (∀ (k : Fin 6) (a : QuorumAction) (s : State), powered s = true → Tab.get none s.key.quorum k = some a →
     a.since + 2 ^ s.fld 0x050000 4 0 ≤ s.tick →
     Does (.quorumTimeout k) s fun t => Tab.get none t.key.quorum k = none ∧ t.rd (0x050308 + k) = 0 ∧ t.bit 0x050002 3 = true
       ∧ t.rdN 0x05001E 2 = min (s.rdN 0x05001E 2 + 1) (2 ^ 48 - 1)))
  ∧ ((∀ (n : Fin 67) (d : Fin 257) (k : Fin 6) (digest : Bytes) (s : State), Calls s 104 n d → expanderReady s 0 = true →
     quorumMet s k (.pier n d) = false → Tab.get none s.key.quorum k = none →
     (s.rd (coreReg n 0x4B)).toNat + 11 ≤ shadowBase n → 11 ≤ (s.rd (coreReg n 0x4C)).toNat →
     Does (.quorumRequest (.pier n d) k digest) s fun t => Answers t n stOK 0 0
       ∧ ∃ a, Tab.get none t.key.quorum k = some a ∧ a.caller = .pier n d ∧ a.digest = digest ∧ a.act = .caller ∧ a.approved = []
         ∧ a.since = s.tick ∧ a.challenge.length = 32)
   ∧ (∀ (n : Fin 67) (d : Fin 257) (k : Fin 6) (u : Fin 32) (sig : Bytes) (s : State), Calls s 105 n d →
     Tab.get none s.key.quorum k ≠ none →
     Does (.quorumApprove (.pier n d) k u sig) s fun t => (t.core n).answered = true ∧ t.key = { s.key with
       ops := s.key.ops ++ [⟨.pier n d, none, s.tick, opDue s (.pier n d) 110, stOK, 0, [], [], .approve k u sig⟩] })
   ∧ (∀ (o : KeyOp) (n : Fin 67) (d : Fin 257) (k : Fin 6) (u : Fin 32) (sig : Bytes) (a : QuorumAction) (s t : State),
     o.act = .approve k u sig → o.due ≤ s.tick → o.caller = .pier n d → o.withdrawn = none →
     Tab.get none s.key.quorum k = some a → s.bit (0x050200 + u) 23 = true → u.val ∉ a.approved → t = keyOpStep o s →
     if Config.ecdsaVerify (Tab.get [] s.key.custodians u) (a.challenge ++ a.digest ++ deviceId s) sig = false then
       Answers t n stQUORUM 0 0 ∧ t.key.quorum = s.key.quorum ∧ t.key.due = s.key.due
         ∧ t.rdN 0x05001E 2 = min (s.rdN 0x05001E 2 + 1) (2 ^ 48 - 1)
     else if a.approved.length + 1 < quorumSize s k then
       Answers t n stOK 0 0 ∧ Tab.get none t.key.quorum k = some { a with approved := a.approved ++ [u.val] }
         ∧ t.key.due = s.key.due ∧ t.fld (0x050308 + k) 22 0 = a.approved.length + 1
     else
       Answers t n stOK 0 0 ∧ Tab.get none t.key.quorum k = none ∧ t.key.due = s.key.due ++ [(k.val, a.caller, a.act)]
         ∧ t.rd (0x050308 + k) = 0 ∧ t.bit 0x050002 4 = true))

/-- The device-to-device agreement (R34, R195, R196, R346): three messages whose certificates, order of device IDs and signatures are
checked, over the viaduct or in frames of the site's line port, a key for the site at its end, and 2^22 strokes of rest after a failure. -/
def Obligations.Agreements : Prop :=
  (∀ (i : Fin 5) (s : State), powered s = true → agreementMay s i = true → agreementFree s i = true →
    (i.val < 4 ∨ s.fld 0x0B0001 21 19 ≠ 5 ∨ Tab.get [] s.key.agreed 4 = []) →
    Does (.agreementStart i) s fun t => ∃ m a, agreementAt t i = some a ∧ a.step = 1 ∧ a.transcript = m
      ∧ m.take s.key.ownerCert.length = s.key.ownerCert ∧ t.key.agreed = s.key.agreed
      ∧ (i.val = 4 → t.vdt.sent = s.vdt.sent ++ [.agreement 4 1 m] ∧ t.fld 0x0B0001 21 19 = 1)
      ∧ (i.val < 4 → t.vdt.sent = s.vdt.sent ∧ ∃ port, agreementPort s i = some port
        ∧ t.dck.wire = s.dck.wire ++ (eapolFrames (Config.portAddress port) m).map fun b => (port, b)))
  ∧ (∀ (i : Fin 5) (m : AgreeMsg) (s : State), powered s = true → agreementMay s i = true → agreementFree s i = true →
    Does (.agreementMessage1 i m) s fun t =>
      if certChains s m.cert = true ∧ beNat (certDevice m.cert) < beNat (deviceId s) then
        (∃ a, agreementAt t i = some a ∧ a.step = 2) ∧ ∃ x,
          (i.val = 4 → t.vdt.sent = s.vdt.sent ++ [.agreement 4 2 x] ∧ t.fld 0x0B0001 21 19 = 1)
          ∧ (i.val < 4 → ∃ port, agreementPort s i = some port
            ∧ t.dck.wire = s.dck.wire ++ (eapolFrames (Config.portAddress port) x).map fun b => (port, b))
      else t.vdt.sent = s.vdt.sent ∧ t.dck.wire = s.dck.wire ∧ ∃ a, agreementAt t i = some a ∧ a.step = 0 ∧ a.failedAt = s.tick)
  ∧ (∀ (i : Fin 4) (m : AgreeMsg) (a : Agreement) (s : State), powered s = true → agreementAt s i = some a → a.step = 1 →
    Does (.agreementMessage2 (i.castSucc) m) s fun t =>
      if certChains s m.cert = true ∧ beNat (deviceId s) < beNat (certDevice m.cert)
          ∧ signedBy m.cert (a.transcript ++ m.cert ++ m.x25519 ++ m.kem) m = true then
        agreementAt t i = none ∧ ∃ k, Tab.get [] t.key.agreed i = workingKey i k
      else t.dck.wire = s.dck.wire ∧ t.key.agreed = s.key.agreed ∧ ∃ b, agreementAt t i = some b ∧ b.step = 0)
  ∧ (∀ (i : Fin 4) (m : AgreeMsg) (a : Agreement) (s : State), powered s = true → agreementAt s i = some a → a.step = 2 →
    Does (.agreementMessage3 (i.castSucc) m) s fun t =>
      if signedBy a.kemPriv a.transcript m = true then
        agreementAt t i = none ∧ Tab.get [] t.key.agreed i = workingKey i (Config.hmacSha384 (Config.sha384 a.transcript) a.z)
      else t.key.agreed = s.key.agreed ∧ ∃ b, agreementAt t i = some b ∧ b.step = 0)
  ∧ (∀ (i : Fin 5) (a : Agreement) (s : State), powered s = true → agreementAt s i = some a → a.step = 0 →
    a.failedAt + 2 ^ 22 ≤ s.tick →
    exec (.agreementRetry i) s = .next (setAgreement i none s))

/-! ### Host interface -/

/-- Rings (R319–R321, R323, R337): doorbells, fetched descriptors, commits, completions and messages of a ring that is
enabled. -/
def Obligations.RingsOfTheHost : Prop :=
  (∀ (m : Master) (g : Fin 520) (w : Word) (s : State), Reaches m (ringBase g + 5) s →
    exec (.doorbell m g w) s = .next (if Word.slice w 11 0 < ringSize s g then s.wr (ringBase g + 5) (BitVec.ofNat 24 (Word.slice w 11 0))
      else hifEvent 0 (s.count 0x0A0018)))
  ∧ (∀ (g : Fin 520) (b : Bytes) (dmaOk : Bool) (s : State), powered s = true → ringOn s g = true →
    s.bit (ringBase g + 1) 23 = false → s.fld (ringBase g + 6) 11 0 ≠ s.fld (ringBase g + 5) 11 0 →
    Does (.descriptorFetch g b dmaOk) s fun t => t.rd (ringBase g + 6) = BitVec.ofNat 24 ((s.fld (ringBase g + 6) 11 0 + 1) % ringSize s g)
      ∧ t.hif.fetched = s.hif.fetched ++ [⟨g, s.fld (ringBase g + 6) 11 0, b, s.tick, dmaOk⟩]
      ∧ t.bit 0x0A0001 1 = (!dmaOk || s.bit 0x0A0001 1) ∧ RegsKept s t [ringBase g + 6, 0x0A0001, 0x0A0020, 0x0A0021])
  ∧ (∀ (g : Fin 520) (d : Descriptor) (s : State), powered s = true → s.hif.fetched = [d] → d.g = g → d.arrived < s.tick →
    ringRoom s g = true → s.bit (ringBase g + 1) 23 = false → s.fld (0x0A0400 + g) 6 0 ≠ 0 → d.dmaOk = true →
    haltedFor s (leAt d.bytes 0 2) = false → opcodes.contains (leAt d.bytes 0 2) = true → descriptorOk d.bytes = true →
    Does .commandCommit s fun t => t.hif.fetched = [] ∧ t.hif.due = s.hif.due ∧ t.hif.flights = s.hif.flights
      ++ [⟨ringFn g, g, d.idx, leAt d.bytes 0 2, BitVec.ofNat 32 (leAt d.bytes 4 4), leAt d.bytes 2 1 % 2 == 1,
        s.fld (0x0A0100 + ringFn g) 15 0, s.stk.time, s.tick, leAt d.bytes 40 4, false, none, descHandles (leAt d.bytes 0 2) d.bytes⟩])
  ∧ (∀ (g : Fin 520) (fn at_ : Nat) (c : Completion) (s : State), powered s = true →
    (s.hif.due.find? fun (_, h, t, _) => h == g.val && decide (t ≤ s.tick)) = some (fn, g.val, at_, c) → ringOn s g = true →
    suppressed s fn c = false →
    Does (.completionWrite g true) s fun t => t.hif.due = s.hif.due.erase (fn, g.val, at_, c)
      ∧ Tab.get none t.hif.written (4096 * g + s.fld (ringBase g + 0xB) 11 0) = some { c with phase := s.bit (ringBase g + 1) 22 }
      ∧ t.rd (ringBase g + 0xB) = BitVec.ofNat 24 ((s.fld (ringBase g + 0xB) 11 0 + 1) % ringSize s g)
      ∧ g.val ∈ t.hif.unsignalled)
  ∧ (∀ (g : Fin 520) (masked : Bool) (s : State), powered s = true → s.hif.unsignalled.contains g.val = true →
    (Tab.get 0 s.hif.lastMessage g = 0 ∨ Tab.get 0 s.hif.lastMessage g - 1 + s.fld (ringBase g) 11 0 ≤ s.tick) →
    s.hif.flr.contains (ringFn g) = false → (ringFn g, s.fld (ringBase g) 21 16) ∉ s.hif.pba →
    Does (.msixMessage g masked) s fun t => t.hif.unsignalled = s.hif.unsignalled.filter (· != g.val)
      ∧ t.hif.messages = s.hif.messages ++ (if masked = true then [] else [(ringFn g, s.fld (ringBase g) 21 16)])
      ∧ t.hif.pba = s.hif.pba ++ (if masked = true then [(ringFn g, s.fld (ringBase g) 21 16)] else [])
      ∧ t.io = s.io ∧ t.hif.due = s.hif.due)
  ∧ (∀ (g : Fin 520) (s : State), powered s = true → s.hif.flr.contains (ringFn g) = false →
    (ringFn g, s.fld (ringBase g) 21 16) ∈ s.hif.pba →
    exec (.msixMessage g false) s = .next { s with hif := { s.hif with
      messages := s.hif.messages ++ [(ringFn g, s.fld (ringBase g) 21 16)]
      pba := s.hif.pba.erase (ringFn g, s.fld (ringBase g) 21 16) } })
  ∧ (∀ (m : Master) (g : Fin 520) (w : Word) (s : State), Reaches m (ringBase g) s → ringOn s g = false →
    Does (.ringEnable m g w) s fun t => ringOn t g = true ∧ t.rd (ringBase g + 5) = 0 ∧ t.rd (ringBase g + 6) = 0
      ∧ t.rd (ringBase g + 0xA) = 0 ∧ t.rd (ringBase g + 0xB) = 0 ∧ t.bit (ringBase g + 1) 22 = true)
  ∧ (∀ (m : Master) (g : Fin 520) (w : Word) (s : State), Reaches m (ringBase g) s → ringOn s g = true →
    Does (.ringDisable m g w) s fun t => ringOn t g = false ∧ t.bit (ringBase g + 1) 23 = false
      ∧ t.hif.fetched = s.hif.fetched.filter (·.g != g.val) ∧ t.hif.flights = s.hif.flights
      ∧ RegsKept s t [ringBase g, ringBase g + 1])

/-! ### Host commands -/

/-- Command control and function-level resets (R318, R327, R328, R330, R334, R335): NOP, CMD_ABORT, CMD_LOST and the commands that the
frame turns away; an FLR bars its functions at once and at its boundary advances the epoch and disables the rings; a lost link is an
FLR of every function. -/
def Obligations.HostCommandsAndResets : Prop :=
  (∀ (fn : Fin 257) (g : Fin 520) (idx : Nat) (f : Flight) (s : State),
   (Takes s 0x00 fn g idx f →
     Does (.nop (.host fn g idx)) s fun t => Completes s t f stOK 0 0 [] ∧ { t with hif := s.hif } = s)
   ∧ (powered s = true → s.flight g idx = some f → f.opcode = 0x00 → f.fn = fn → fenced s f = false →
     commandRuns s (.host fn g idx) = false → haltedFor s 0x00 = true →
     Does (.nop (.host fn g idx)) s fun t => Completes s t f stHALTED 0 0 [] ∧ { t with hif := s.hif } = s)
   ∧ (∀ (tn : Fin 256), powered s = true → s.flight g idx = some f → f.opcode = 0x72 → f.fn = fn → fenced s f = false →
     commandRuns s (.host fn g idx) = false → haltedFor s 0x72 = false → fn ≠ 0 →
     Does (.tenantSuspend (.host fn g idx) tn) s fun t => Completes s t f stRIGHTS 0 0 [] ∧ { t with hif := s.hif } = s)
   ∧ (∀ tag : BitVec 32, Takes s 0x01 fn g idx f → (∀ x, taggedFlight s fn g idx tag = some x → x.graver = none) →
     exec (.cmdAbort (.host fn g idx) tag) s = .next { markStarted f s with
       hif := { (markStarted f s).hif with aborts := s.hif.aborts ++ [(.host fn g idx, tag)] } })
   ∧ (∀ (tag : BitVec 32) (x : Flight) (n : Fin 16), Takes s 0x01 fn g idx f → taggedFlight s fn g idx tag = some x →
     x.graver = some n.val → grvState s n = 2 ∨ grvState s n = 3 →
     Does (.cmdAbort (.host fn g idx) tag) s fun t => t.flight g idx = some { f with started := true } ∧ t.hif.due = s.hif.due
       ∧ t.grv n = { s.grv n with abort := true, abortBy := (s.grv n).abortBy ++ [.host fn g idx] })
   ∧ (∀ (tag : BitVec 32), s.flight g idx = some f → taggedFlight s fn g idx tag = none →
     abortDecide (.host fn g idx) tag s
       = completeHost f (if taggedDone s fn g tag = true then stALREADY else stRANGE) 0 0 [] s.tick s)
   ∧ (∀ (tag : BitVec 32) (x : Flight), s.flight g idx = some f → taggedFlight s fn g idx tag = some x → x.graver = none →
     quorumOf s x = none →
     abortDecide (.host fn g idx) tag s = if x.started = true then completeHost f stBUSY 0 0 [] s.tick s
       else completeHost f stOK 0 0 [] s.tick (completeHost x stABORTED 0 0 [] s.tick s))
   ∧ (Takes s 0x02 fn g idx f →
     Does (.cmdLost (.host fn g idx)) s fun t =>
       Completes s t f stOK (min (f.outCap / 32) (Tab.get [] s.hif.lost fn).length)
         ((Tab.get [] s.hif.lost fn).length - f.outCap / 32) (((Tab.get [] s.hif.lost fn).take (f.outCap / 32)).flatMap entryBytes)
       ∧ Tab.get [] t.hif.lost fn = (Tab.get [] s.hif.lost fn).drop (f.outCap / 32)))
  ∧ ((∀ (f : Fin 257) (s : State), powered s = true →
     Does (.flr f) s fun t => (∀ x ∈ flrScope f, x ∈ t.hif.flr) ∧ t.rd 0x0A0003 = BitVec.ofNat 24 f.val ∧ t.bit 0x0A0001 2 = true
       ∧ RegsKept s t [0x0A0003, 0x0A0001] ∧ t.hif.flights = s.hif.flights)
   ∧ (∀ (f : Fin 257) (s : State), powered s = true → s.hif.flr.contains f.val = true →
     Does (.flrTake f) s fun t => t.rd (0x0A0100 + f) = BitVec.ofNat 24 ((s.fld (0x0A0100 + f) 15 0 + 1) % 2 ^ 16)
       ∧ f.val ∉ t.hif.flr ∧ ∀ g ∈ fnRings f, ringOn t g = false ∧ ∀ d ∈ t.hif.fetched, d.g ≠ g)
   ∧ (∀ s : State, powered s = true → Does .pcieHotReset s fun t => (∀ f < 257, f ∈ t.hif.flr) ∧ t.rd 0x0A0000 = 0
       ∧ t.bit 0x0A0001 4 = true)
   ∧ (∀ s : State, powered s = true → Does .pcieLinkDown s fun t => (∀ f < 257, f ∈ t.hif.flr) ∧ t.rd 0x0A0000 = 0
       ∧ t.bit 0x0A0001 3 = true)
   ∧ (∀ s : State, powered s = true → Does .pciPerstN s fun t => (∀ f < 257, f ∈ t.hif.flr) ∧ t.rd 0x0A0000 = 0
       ∧ t.bit 0x0A0001 3 = true)
   ∧ (∀ (v w : Nat) (s : State), powered s = true → Tab.get 0 s.pwr.pllTries 2 < 3 →
     ¬(s.lcs = 5 ∧ s.bit 0x100000 22 = true) →
     Does (.pcieLinkUp v w) s fun t => t.bit 0x0A0000 23 = true ∧ t.fld 0x0A0000 22 20 = v % 8 ∧ t.fld 0x0A0000 19 16 = w % 16
       ∧ t.fld 0x0A0000 15 0 ≤ 256 ∧ RegsKept s t [0x0A0000])
   ∧ (∀ s : State, powered s = true → Does .vfEnableClear s fun t => (∀ f, 1 ≤ f → f ≤ 256 → f ∈ t.hif.flr)
       ∧ t.fld 0x0A0000 8 0 = 0 ∧ (s.hif.flr.contains 0 = false → t.hif.flr.contains 0 = false)))

/-- Channel and class commands (R16, R331, R332, R341): each ends with the status that its rights, its EFFECTIVE field and the span
allocator give; accepted, it ends with OK and its change waits for its stroke or slot. On a STANDBY each is BUSY. -/
def Obligations.ChannelCommands : Prop :=
  ∀ (fn : Fin 257) (g : Fin 520) (idx : Nat) (f : Flight) (s : State),
  (∀ (e : Effective) (a : ChannelArgs) (n : Nat), Takes s 0x10 fn g idx f → n = chooseChannel s s.free →
    (openStatus s (fnDom fn) a e n = stOK → Does (.channelOpen (.host fn g idx) e a) s fun t => Completes s t f stOK n 0 []
      ∧ t.setup = s.setup ++ [⟨1, n, .openChan n (chanOf (fnDom fn) a), (effectiveStroke e (fnDom fn) s).1⟩])
    ∧ (openStatus s (fnDom fn) a e n ≠ stOK → Does (.channelOpen (.host fn g idx) e a) s fun t =>
      Completes s t f (openStatus s (fnDom fn) a e n) 0 0 [] ∧ t.setup = s.setup))
  ∧ (∀ (e : Effective) (n : BitVec 24) (c : Change) (i : Instr), chanRights s (.host fn g idx) n.toNat = stOK →
    effectiveStatus s e c = stOK →
    (Takes s 0x11 fn g idx f ∧ c = .closeChan n.toNat ∧ i = .channelClose (.host fn g idx) e n
      ∨ (∃ rate, Takes s 0x12 fn g idx f ∧ c = .rateChan n.toNat rate ∧ i = .channelRate (.host fn g idx) e n rate)
      ∨ ∃ (b : Byte) (p : Option Nat), Takes s 0x13 fn g idx f ∧ pinTarget b.toNat = some p ∧ c = .pinChan n.toNat p
        ∧ i = .trussPin (.host fn g idx) e n b) →
    (planFits s ⟨1, n.toNat, c, (effectiveStroke e (fnDom fn) s).1⟩ = true → Does i s fun t => Completes s t f stOK 0 0 []
      ∧ t.setup = s.setup ++ [⟨1, n.toNat, c, (effectiveStroke e (fnDom fn) s).1⟩])
    ∧ (planFits s ⟨1, n.toNat, c, (effectiveStroke e (fnDom fn) s).1⟩ = false → Does i s fun t =>
      Completes s t f stNO_SPAN 0 0 [] ∧ t.setup = s.setup))
  ∧ (∀ (e : Effective) (n : BitVec 24), powered s = true → s.flight g idx = some f → f.opcode = 0x11 → f.fn = fn → fenced s f = false →
    commandRuns s (.host fn g idx) = false → haltedFor s 0x11 = false → (fn ≠ 0 → tenantState s (fn - 1) = 1) →
    s.fld 0x0B0001 23 22 = 2 →
    Does (.channelClose (.host fn g idx) e n) s fun t => Completes s t f stBUSY 0 0 [] ∧ t.setup = s.setup)
  ∧ (∀ (e : Effective) (n : BitVec 24) (r : Chan), Takes s 0x11 fn g idx f → fn ≠ 0 →
    Tab.get none s.dck.chans n.toNat = some r → r.dom ≠ fnDom fn →
    Does (.channelClose (.host fn g idx) e n) s fun t => Completes s t f stRIGHTS 0 0 [] ∧ t.setup = s.setup)
  ∧ (∀ (e : Effective) (side : Fin 2) (k : Fin 16) (mtch act : Word) (da : BitVec 48) (l : List (Nat × Word)), Takes s 0x81 fn g idx f →
    l = (if k = 0 then [(ccReg side k 0 + 3, BitVec.ofNat 24 (s.fld (ccReg side k 0 + 3) 23 16 * 2 ^ 16 + Word.slice act 1 0))]
      else [(ccReg side k 0, mtch &&& 0xE0FFFF), (ccReg side k 0 + 1, BitVec.ofNat 24 (da.toNat / 2 ^ 24)),
        (ccReg side k 0 + 2, BitVec.ofNat 24 da.toNat), (ccReg side k 0 + 3, act &&& 0xFF0003)]) →
    (Word.slice act 1 0 ≠ 3 → effectiveStatus s e (.regs l) = stOK →
      Does (.clearClassSet (.host fn g idx) e side k mtch act da) s fun t => Completes s t f stOK 0 0 []
        ∧ t.setup = s.setup ++ [⟨2, 16 * side.val + k.val, .regs l, (effectiveStroke e 256 s).1⟩])
    ∧ (Word.slice act 1 0 = 3 → Does (.clearClassSet (.host fn g idx) e side k mtch act da) s fun t =>
      Completes s t f stFORMAT 0 0 [] ∧ t.setup = s.setup))

/-- Plate commands (R119–R125, R331, R333): an installation takes the SAK of its handle into the new plate; retiring, recycling,
pinning and unpinning end with the status of their own checks; a read shows the plate with its key fields 0. -/
def Obligations.PlateCommands : Prop :=
  ∀ (fn : Fin 257) (g : Fin 520) (idx : Nat) (f : Flight) (s : State),
  (∀ (e : Effective) (a : InstallArgs) (r : Chan) (i : Nat), Takes s 0x20 fn g idx f →
    Tab.get none s.dck.chans (Word.slice a.chan 17 0) = some r → a.plate.toNat < plateCapacity s →
    chanRights s (.host fn g idx) (Word.slice a.chan 17 0) = stOK → sakCheck s (fnDom fn) a.sak.toNat = (stOK, i) →
    installCheck s a.plate.toNat (fnDom fn) a.suite.toNat r.suite (some (effOf s e (fnDom fn))) = stOK →
    plateQuotaOk s (fnDom fn) a.plate.toNat (installsComing s (fnDom fn) a.plate.toNat) = true → r.stipple = false →
    effectiveStatus s e (.install a.plate.toNat (fnDom fn)
      (plateImage s (Word.slice a.chan 17 0) r a (objectWords s i) (s.slot i).ty) a.txCurrent) = stOK →
    Does (.plateInstall (.host fn g idx) e a) s fun t =>
      SetsUp s t f stOK (plateGen s a.plate.toNat + 1) 0 a.plate.toNat (.install a.plate.toNat (fnDom fn)
        (plateImage s (Word.slice a.chan 17 0) r a (objectWords s i) (s.slot i).ty) a.txCurrent) e (fnDom fn))
  ∧ (∀ (e : Effective) (p : BitVec 24), Takes s 0x21 fn g idx f → p.toNat < plateCapacity s →
    Does (.plateRetire (.host fn g idx) e p) s fun t =>
      SetsUp s t f (if retireCheck s p.toNat (fnDom fn) (some (effOf s e (fnDom fn))) ≠ stOK
        then retireCheck s p.toNat (fnDom fn) (some (effOf s e (fnDom fn))) else effectiveStatus s e (.retire p.toNat (fnDom fn)))
        0 0 p.toNat (.retire p.toNat (fnDom fn)) e (fnDom fn))
  ∧ (∀ (e : Effective) (p : BitVec 24), Takes s 0x22 fn g idx f → p.toNat < plateCapacity s →
    Does (.plateRecycle (.host fn g idx) e p) s fun t =>
      SetsUp s t f (if recycleCheck s p.toNat (fnDom fn) (some (effOf s e (fnDom fn))) ≠ stOK
        then recycleCheck s p.toNat (fnDom fn) (some (effOf s e (fnDom fn))) else effectiveStatus s e (.recycle p.toNat (fnDom fn)))
        0 0 p.toNat (.recycle p.toNat (fnDom fn)) e (fnDom fn))
  ∧ (∀ (e : Effective) (p : BitVec 24), Takes s 0x23 fn g idx f → p.toNat < plateCapacity s →
    Does (.platePin (.host fn g idx) e p) s fun t =>
      SetsUp s t f (if pinCheck s p.toNat true (some (effOf s e (fnDom fn))) ≠ stOK
        then pinCheck s p.toNat true (some (effOf s e (fnDom fn))) else effectiveStatus s e (.pin p.toNat true))
        0 0 p.toNat (.pin p.toNat true) e (fnDom fn))
  ∧ (∀ (e : Effective) (p : BitVec 24), Takes s 0x24 fn g idx f → p.toNat < plateCapacity s →
    Does (.plateUnpin (.host fn g idx) e p) s fun t =>
      SetsUp s t f (if pinCheck s p.toNat false (some (effOf s e (fnDom fn))) ≠ stOK
        then pinCheck s p.toNat false (some (effOf s e (fnDom fn))) else effectiveStatus s e (.pin p.toNat false)) 0 0 p.toNat (.pin p.toNat false) e (fnDom fn))
  ∧ (∀ p : BitVec 24, Takes s 0x25 fn g idx f → p.toNat < plateCapacity s → plateDomainOk s p.toNat (fnDom fn) = true →
    192 ≤ f.outCap →
    Does (.plateRead (.host fn g idx) p) s fun t => ∃ out, Completes s t f stOK 0 0 out ∧ out.length = 192
      ∧ (∀ i, 12 ≤ i → i < 57 → out.getD i 0 = 0)
      ∧ ∀ w, w < 64 → w < 4 ∨ 18 < w → leAt out (3 * w) 3 = if memoriesShown s = true then (s.plateWord p.toNat w).toNat else 0)

/-- Key commands (R15, R176–R187): each is checked as it starts and then takes its strokes; its object, its result and its counters come
at the boundary that ends its last stroke. Objects are created within the slot quota, used under their USAGE, restricted, made persistent
and destroyed; where a result depends on a cipher that the manual does not define, the statement follows each of its answers. -/
def Obligations.KeyCommands : Prop :=
  (∀ (fn : Fin 257) (g : Fin 520) (idx : Nat) (f : Flight) (s : State),
   (∀ (ty usage flags : Byte) (size : Nat) (o : NewObject), Takes s 0x40 fn g idx f → flags.toNat < 4 → generates ty.toNat size = true →
     o = ⟨ty.toNat, size, usage, flags.getLsbD 0, flags.getLsbD 1,
       if generateJobs ty.toNat size = [] then Config.keyGen ty.toNat size (Config.freshBlock s.free) else [], true⟩ →
     objectQuotaOk s (fnDom fn) o = true →
     Does (.keyGenerate (.host fn g idx) ty usage flags size) s fun t => { t with free := s.free } =
       if generateJobs ty.toNat size = [] then
         begun s f ⟨.host fn g idx, none, s.tick, lastStroke s f (Config.cipherStrokes 0x40 (objectLen ty.toNat size)), stOK, 0, [], [], .make o⟩
       else begun s f ⟨.host fn g idx, none, s.tick, lastStroke s f 1, stOK, 0, [], [], .generate o ⟨generateJobs ty.toNat size, 0, [], none, none⟩⟩)
   ∧ (∀ (parent : BitVec 24) (method ty usage flags : Byte) (label context key : Bytes) (ex : Bool), Takes s 0x41 fn g idx f →
     method.toNat ≤ 1 → flags.toNat < 4 → 1 ≤ label.length → label.length ≤ 64 → context.length ≤ 64 → derivable ty.toNat ≠ [] →
     parentKey s (.host fn g idx) parent.toNat = (stOK, key, ex) → (flags.getLsbD 0 = true → ex = true) →
     Does (.keyDerive (.host fn g idx) parent method ty usage flags label context) s fun t => ∃ o : NewObject,
       { t with free := s.free } = begun s f ⟨.host fn g idx, none, s.tick,
         lastStroke s f (Config.cipherStrokes 0x41 (label.length + context.length)), stOK, 0, [], [5], .make o⟩
       ∧ o.ty = ty.toNat ∧ o.size ∈ derivable ty.toNat ∧ o.exportable = flags.getLsbD 0 ∧ o.persist = flags.getLsbD 1
       ∧ (method = 0 → o.usage = usage ∧ o.words = materialWords ((components o.ty o.size).getD [])
         (kdf key (fnDom fn) ty.toNat usage.toNat label context (((components o.ty o.size).getD []).map Component.bytes).sum))
       ∧ (method = 1 → o.usage = (if usage.getLsbD 7 || usage.getLsbD 6 then 0xC0 else 0x01)
         ∧ o.words = materialWords ((components o.ty o.size).getD []) (Config.mkaKdf key label context (((components o.ty o.size).getD []).map Component.bytes).sum)))
   ∧ (∀ (wrap target : BitVec 24) (w i : Nat), Takes s 0x42 fn g idx f → keyUse s (.host fn g idx) wrap.toNat 7 = (stOK, w) →
     handleCheck s (fnDom fn) target.toNat = (stOK, i) → (s.slot i).exportable = true → (s.slot w).ty = 2 →
     exec (.keyWrap (.host fn g idx) wrap target 0) s = .next (begun s f ⟨.host fn g idx, none, s.tick,
       lastStroke s f (Config.cipherStrokes 0x42 (blobPlain s i).length), stOK, 0, Config.kwWrap (objectBytes s w) (blobPlain s i), [], .answer⟩))
   ∧ (∀ (wrap : BitVec 24) (mask flags : Byte) (salt blob : Bytes) (w : Nat), Takes s 0x43 fn g idx f → flags.toNat < 4 →
     keyUse s (.host fn g idx) wrap.toNat 6 = (stOK, w) → (s.slot w).ty = 2 →
     exec (.keyUnwrap (.host fn g idx) wrap 0 mask flags salt blob) s = .next
       (match (Config.kwUnwrap (objectBytes s w) blob).bind blobObject with
       | none => begun s f ⟨.host fn g idx, none, s.tick, lastStroke s f (Config.cipherStrokes 0x43 blob.length), stFORMAT, 0, [], [3], .answer⟩
       | some (ty, size, usage, ex, words) => begun s f ⟨.host fn g idx, none, s.tick, lastStroke s f (Config.cipherStrokes 0x43 blob.length),
           stOK, 0, [], [], .make ⟨ty, size, if ty = 0x16 then 0 else usage &&& mask, decide (ty ≠ 0x16) && ex && flags.getLsbD 0,
             flags.getLsbD 1, words, false⟩⟩))
   ∧ (∀ (handle : BitVec 24) (data : Bytes) (i : Nat), Takes s 0x44 fn g idx f → data.length ≤ 9216 →
     keyUse s (.host fn g idx) handle.toNat 0 = (stOK, i) → (s.slot i).ty = 4 →
     exec (.keyMac (.host fn g idx) handle 1 data) s = .next (begun s f ⟨.host fn g idx, none, s.tick,
       lastStroke s f (Config.cipherStrokes 0x44 data.length), stOK, 0, Config.hmacSha384 (objectBytes s i) data, [], .answer⟩))
   ∧ (∀ (handle : BitVec 24) (um fm : Byte) (i : Nat), Takes s 0x45 fn g idx f → handleCheck s (fnDom fn) handle.toNat = (stOK, i) →
     Does (.keyRestrict (.host fn g idx) handle um fm) s fun t => Completes s t f stOK 0 0 [] ∧ t.io = s.io
       ∧ (∀ j ∈ objectSlots s i, t.slot j
         = { s.slot j with usage := (s.slot j).usage &&& um, exportable := (s.slot j).exportable && fm.getLsbD 0 })
       ∧ ∀ j, j ∉ objectSlots s i → t.slot j = s.slot j)
   ∧ (∀ (handle : BitVec 24) (i : Nat), Takes s 0x46 fn g idx f → handleCheck s (fnDom fn) handle.toNat = (stOK, i) →
     (s.slot i).persist = false → persistQuotaOk s (fnDom fn) (s.slot i).slots = true →
     exec (.keyPersist (.host fn g idx) handle) s = .next (begun s f ⟨.host fn g idx, none, s.tick,
       lastStroke s f (56 * (((s.slot i).slots + 1) / 2 + 1)), stOK, 0, [], [], .persist i⟩))
   ∧ (∀ (handle : BitVec 24) (i : Nat), Takes s 0x47 fn g idx f → handleCheck s (fnDom fn) handle.toNat = (stOK, i) →
     Does (.keyDestroy (.host fn g idx) handle) s fun t => t = begun { s with key := { s.key with doomed := s.key.doomed ++ [i] } } f
         ⟨.host fn g idx, none, s.tick, lastStroke s f 1, stOK, 0, [], [], .destroy i⟩
       ∧ (∀ d, handleCheck t d handle.toNat = (stSTALE, i)))
   ∧ (∀ (handle : BitVec 24) (i : Nat), Takes s 0x48 fn g idx f → handleCheck s (fnDom fn) handle.toNat = (stOK, i) →
     Does (.keyInfo (.host fn g idx) handle) s fun t => { t with hif := s.hif } = s
       ∧ Completes s t f stOK ((s.slot i).ty * 2 ^ 16 + (s.slot i).usage.toNat * 2 ^ 8 + (if (s.slot i).exportable = true then 1 else 0)
           + (if (s.slot i).persist = true then 2 else 0)) (sizeOf (s.slot i).ty (s.slot i).size * 2 ^ 8 + (s.slot i).slots) [])
   ∧ (∀ (handle : BitVec 24) (i : Nat), Takes s 0x47 fn g idx f → handleCheck s (fnDom fn) handle.toNat = (stRIGHTS, i) →
     Does (.keyDestroy (.host fn g idx) handle) s fun t => Completes s t f stRIGHTS 0 0 [] ∧ t.key = s.key
       ∧ t.bit 0x050002 1 = true ∧ t.rdN 0x050010 2 = min (s.rdN 0x050010 2 + 1) (2 ^ 48 - 1)))
  ∧ ((∀ (o : KeyOp) (x : NewObject) (l : List Nat) (s : State), o.act = .make x → o.due ≤ s.tick → (x.fresh = true → expanderReady s 0 = true) →
     (callerDom o.caller < 256 → tenantState s (callerDom o.caller) ≠ 3) → objectQuotaOk s (callerDom o.caller) x = true → x.persist = false →
     l.Nodup → l.length = objectSlotCount x.ty x.size → (∀ j ∈ l, 1 ≤ j ∧ j ≤ 0xFBFF ∧ (s.slot j).state = .free) →
     ((keyOpStep o s).key.ops = s.key.ops.erase o
     ∧ (keyOpStep o s).fld 0x050001 15 0 = s.fld 0x050001 15 0 - objectSlotCount x.ty x.size
     ∧ ∃ i, 1 ≤ i ∧ i ≤ 0xFBFF ∧ (s.slot i).state = .free ∧ ((keyOpStep o s).slot i).head = true ∧ ((keyOpStep o s).slot i).state = .inUse
       ∧ ((keyOpStep o s).slot i).dom = callerDom o.caller ∧ ((keyOpStep o s).slot i).ty = x.ty ∧ ((keyOpStep o s).slot i).usage = x.usage
       ∧ ((keyOpStep o s).slot i).exportable = x.exportable ∧ ((keyOpStep o s).slot i).persist = false
       ∧ ((keyOpStep o s).slot i).gen = (s.slot i).gen ∧ ((keyOpStep o s).slot i).words = x.words.take 24))
   ∧ (∀ (o : KeyOp) (i : Nat) (s : State), o.act = .persist i → o.due ≤ s.tick → (s.slot i).state = .inUse → (s.slot i).persist = false →
     persistQuotaOk s (s.slot i).dom (s.slot i).slots = true →
     (keyOpStep o s).key.ops = s.key.ops.erase o
     ∧ (∀ j ∈ objectSlots s i, (keyOpStep o s).slot j = { s.slot j with persist := true })
     ∧ (∀ j, j ∉ objectSlots s i → (keyOpStep o s).slot j = s.slot j))
   ∧ (∀ (o : KeyOp) (i : Nat) (s : State), o.act = .destroy i → o.counts = [] →
     (keyOpStep o s).key.ops = s.key.ops.erase o
     ∧ (keyOpStep o s).slot i = { s.slot i with state := .destroying } ∧ (∀ j, j ≠ i → (keyOpStep o s).slot j = s.slot j)
     ∧ (keyOpStep o s).rdN 0x05001C 2 = min (s.rdN 0x05001C 2 + 1) (2 ^ 48 - 1)))

/-- Switch and ledger commands (R55–R59, R331, R400, R408). -/
def Obligations.SwitchAndLedgerCommands : Prop :=
  ∀ (fn : Fin 257) (g : Fin 520) (idx : Nat) (f : Flight) (s : State),
  (∀ (u : StrokeTime) (kind : Byte) (k : Nat), Takes s 0x50 fn g idx f → kind.toNat ≤ 1 →
    ((List.range 4).find? fun k => swState s k != 1 && swState s k != 2) = some k →
    Does (.switchArm (.host fn g idx) u kind) s fun t => timeAt t (swReg k 2) = u ∧ t.fld (swReg k 0) 9 8 = kind.toNat
      ∧ (∀ j < 6, t.rd (swReg k (8 + j)) = 0)
      ∧ if swState t k = 1 then Completes s t f stOK k 0 []
        else t.bit 0x000005 2 = true ∧ ∃ st, (st = stRANGE ∨ st = stPLAN ∨ st = stBUSY) ∧ Completes s t f st 0 0 [])
  ∧ (∀ (u : StrokeTime) (kind : Byte) (k d : Nat), Takes s 0x50 fn g idx f → kind.toNat ≤ 1 →
    ((List.range 4).find? fun k => swState s k != 1 && swState s k != 2) = some k →
    aheadBy s u = some d → 16 ≤ d → d ≤ 2 ^ 26 → s.stk.forward = none → (∀ j < 4, swState s j = 1 → timeAt s (swReg j 2) ≠ u) →
    (kind = 1 → u.num.toNat % 4096 = 0 ∧ s.bit 0x000004 2 = true) →
    Does (.switchArm (.host fn g idx) u kind) s fun t => Completes s t f stOK k 0 [] ∧ swState t k = 1 ∧ timeAt t (swReg k 2) = u
      ∧ t.fld (swReg k 0) 9 8 = kind.toNat ∧ (∀ j < 6, t.rd (swReg k (8 + j)) = 0 ∧ t.rd (swReg k (0x10 + j)) = 0))
  ∧ (∀ (u : StrokeTime) (kind : Byte), Takes s 0x50 fn g idx f → kind.toNat ≤ 1 → (∀ k < 4, swState s k = 1 ∨ swState s k = 2) →
    Does (.switchArm (.host fn g idx) u kind) s fun t => Completes s t f stBUSY 0 0 [] ∧ t.io = s.io)
  ∧ (∀ k : Byte, Takes s 0x51 fn g idx f → k.toNat < 4 → swState s k.toNat = 1 →
    Does (.switchCancel (.host fn g idx) k) s fun t => Completes s t f stOK 0 0 [] ∧ t.stk.cancels = s.stk.cancels ++ [k.toNat])
  ∧ (∀ k : Byte, Takes s 0x51 fn g idx f → k.toNat < 4 → swState s k.toNat = 2 →
    Does (.switchCancel (.host fn g idx) k) s fun t => Completes s t f stBUSY 0 0 [] ∧ t.stk = s.stk
      ∧ t.fld (swReg k.toNat 1) 7 4 = 8)
  ∧ (Takes s 0x60 fn g idx f → 64 ≤ f.outCap →
    Does (.readOpenPeriod (.host fn g idx)) s fun t => { t with hif := s.hif } = s
      ∧ Completes s t f stOK 0 0 ((quantities s (fnDom fn)).flatMap fun q => beBytes q 8))
  ∧ (∀ (seq : BitVec 32) (rs : List Bytes), Takes s 0x60 fn g idx f →
    rs = ((domainRecords s (fnDom fn)).filter fun r => decide (seq.toNat ≤ recField r 4 4)).take (f.outCap / 168) →
    (∀ r ∈ (domainRecords s (fnDom fn)).head?, recField r 4 4 ≤ seq.toNat) →
    (domainRecords s (fnDom fn) = [] → Tab.get 0 s.lgr.seqs (fnDom fn) ≤ seq.toNat) → (rs.flatMap id).length ≤ f.outCap →
    Does (.readRecords (.host fn g idx) seq) s fun t => { t with hif := s.hif } = s
      ∧ Completes s t f stOK rs.length (seq.toNat + rs.length) (rs.flatMap id))
  ∧ (∀ seq : BitVec 32, Takes s 0x60 fn g idx f → domainRecords s (fnDom fn) = [] → seq.toNat < Tab.get 0 s.lgr.seqs (fnDom fn) →
    Does (.readRecords (.host fn g idx) seq) s fun t => Completes s t f stRANGE 0 (Tab.get 0 s.lgr.seqs (fnDom fn)) [])
  ∧ (∀ w : BitVec 64, Takes s 0x60 fn g idx f →
    Does (.setClock (.host fn g idx) w) s fun t => if fn = 0 then Completes s t f stOK 0 0 [] ∧ t.lgr.setDue = some w.toNat
      else Completes s t f stRIGHTS 0 0 [] ∧ t.lgr = s.lgr)
  ∧ (∀ secs : BitVec 32, Takes s 0x60 fn g idx f →
    Does (.setPeriod (.host fn g idx) secs) s fun t => if fn ≠ 0 then Completes s t f stRIGHTS 0 0 [] ∧ t.io = s.io
      else if 300 ≤ secs.toNat ∧ secs.toNat ≤ 2678400 then Completes s t f stOK 0 0 [] ∧ t.fld 0x0D0000 21 0 = secs.toNat
      else Completes s t f stRANGE 0 0 [] ∧ t.io = s.io)

/-- Tenant commands (R191–R194): each of OWN's commands moves a tenant from the states that R191 names, by changes that wait for
their effective stroke; an erase waits for the quorum of class 5. -/
def Obligations.TenantCommands : Prop :=
  ∀ (g : Fin 520) (idx : Nat) (f : Flight) (s : State) (tn : Fin 256),
  (∀ q : Quotas, Takes s 0x70 0 g idx f → tenantState s tn = 0 →
    Does (.tenantCreate (.host 0 g idx) tn q) s fun t => if quotasOk s tn q = true then Completes s t f stOK 0 0 []
        ∧ t.setup = s.setup ++ [⟨4, tn, .regs (quotaRegs tn q), .stroke (s.now + leadOf s)⟩, ⟨3, tn, .tenant tn 1, .stroke (s.now + leadOf s)⟩]
        ∧ (∀ r, s.key.ownerRoot = some r → Tab.get [] t.key.roots tn = tenantRoot r tn (epochOf s tn)
          ∧ Tab.get [] t.key.metering tn = meteringKey r tn (epochOf s tn))
      else Completes s t f stQUOTA 0 0 [] ∧ t.setup = s.setup ∧ t.key = s.key)
  ∧ (∀ q : Quotas, Takes s 0x71 0 g idx f → tenantState s tn = 1 ∨ tenantState s tn = 2 →
    Does (.tenantQuota (.host 0 g idx) tn q) s fun t => if quotasOk s tn q = true then Completes s t f stOK 0 0 []
        ∧ t.setup = s.setup ++ [⟨4, tn, .regs (quotaRegs tn q), .stroke (s.now + leadOf s)⟩]
      else Completes s t f stQUOTA 0 0 [] ∧ t.setup = s.setup)
  ∧ (Takes s 0x72 0 g idx f →
    Does (.tenantSuspend (.host 0 g idx) tn) s fun t => if tenantState s tn = 1 then Completes s t f stOK 0 0 []
        ∧ t.setup = s.setup ++ [⟨3, tn, .tenant tn 2, .stroke (s.now + leadOf s)⟩]
      else Completes s t f stTENANT 0 0 [] ∧ t.setup = s.setup)
  ∧ (Takes s 0x73 0 g idx f →
    Does (.tenantResume (.host 0 g idx) tn) s fun t => if tenantState s tn = 2 then Completes s t f stOK 0 0 []
        ∧ t.setup = s.setup ++ [⟨3, tn, .tenant tn 1, .stroke (s.now + leadOf s)⟩]
      else Completes s t f stTENANT 0 0 [] ∧ t.setup = s.setup)
  ∧ (∀ e : Effective, Takes s 0x74 0 g idx f → tenantState s tn = 1 ∨ tenantState s tn = 2 →
    effectiveStatus s e (.tenant tn 3) = stOK → quorumSize s 5 = 0 →
    Does (.tenantErase (.host 0 g idx) e tn) s fun t => SetsUp s t f stOK 0 3 tn (.tenant tn 3) e 256)
  ∧ (∀ e : Effective, Takes s 0x74 0 g idx f → tenantState s tn = 1 ∨ tenantState s tn = 2 →
    effectiveStatus s e (.tenant tn 3) = stOK → quorumMet s 5 (.host 0 g idx) = false → Tab.get none s.key.quorum 5 = none →
    expanderReady s 0 = true →
    Does (.tenantErase (.host 0 g idx) e tn) s fun t => t.setup = s.setup ∧ t.hif.due = s.hif.due
      ∧ ∃ a, Tab.get none t.key.quorum 5 = some a ∧ a.caller = .host 0 g idx ∧ a.approved = [] ∧ a.since = s.tick
        ∧ a.act = .erase e tn)

/-- OWN's commands over the plan, the stored configuration, the custodians, the life cycle and debugging (R46, R197–R199, R275,
R281, R282, R331). -/
def Obligations.DeviceCommands : Prop :=
  ∀ (g : Fin 520) (idx : Nat) (f : Flight) (s : State),
  (∀ words : List Word, Takes s 0x80 0 g idx f → words.length = planWords →
    Does (.planLoad (.host 0 g idx) words) s fun t => (∀ j, Tab.get 0 t.shadowPlan j = planWord j (words.getD j 0)) ∧ t.activePlan = s.activePlan
      ∧ Completes s t f (match planFailure t.shadowPlan with | none => stOK | some _ => stPLAN) 0 0 [])
  ∧ (Takes s 0x82 0 g idx f → bankWorn s 0 = false →
    Does (.configStore (.host 0 g idx)) s fun t => Completes s t f stOK 0 0 [] ∧ t.nva.config = some (currentConfig s) ∧ t.io = s.io)
  ∧ (Takes s 0x83 0 g idx f → bankWorn s 0 = false →
    Does (.configErase (.host 0 g idx)) s fun t => Completes s t f stOK 0 0 [] ∧ t.nva.config = none)
  ∧ (∀ (u : Fin 32) (key : Bytes), Takes s 0x90 0 g idx f → key.length = 64 → quorumSize s 1 = 0 →
    Does (.custodianEnroll (.host 0 g idx) u key) s fun t => Completes s t f stOK 0 0 [] ∧ Tab.get [] t.key.custodians u = key
      ∧ t.bit (0x050200 + u) 23 = true ∧ t.fld (0x050200 + u) 15 0 = 0xFF00 + u)
  ∧ (∀ u : Fin 32, Takes s 0x91 0 g idx f → s.bit (0x050200 + u) 23 = true → (∀ k < 6, quorumSize s k < (enrolled s).length) → quorumSize s 1 = 0 →
    Does (.custodianRemove (.host 0 g idx) u) s fun t => Completes s t f stOK 0 0 [] ∧ Tab.get [] t.key.custodians u = []
      ∧ t.bit (0x050200 + u) 23 = false)
  ∧ (∀ (u : Fin 32) (k : Fin 6), Takes s 0x91 0 g idx f → s.bit (0x050200 + u) 23 = true → (enrolled s).length ≤ quorumSize s k →
    Does (.custodianRemove (.host 0 g idx) u) s fun t => Completes s t f stQUORUM 0 0 [] ∧ t.key = s.key ∧ t.io = s.io)
  ∧ (∀ (k : Byte) (m : Nat), Takes s 0x92 0 g idx f → k.toNat ≤ 5 → m ≤ (enrolled s).length → quorumSize s 1 = 0 →
    Does (.quorumSet (.host 0 g idx) k m) s fun t => Completes s t f stOK 0 0 [] ∧ quorumSize t k.toNat = m)
  ∧ (∀ p : Bytes, Takes s 0xA0 0 g idx f → s.lcs = 2 → s.lcy.transit = none → s.lcy.accepted = none → nextRecord s < 63 →
    quorumSize s 2 = 0 →
    Does (.lifecycle (.host 0 g idx) (codewordOf 3) p) s fun t => Completes s t f stOK 0 0 []
      ∧ (∃ cause, t.lcy.accepted = some (codewordOf 3, cause)) ∧ t.lcs = 2)
  ∧ (∀ (target : Word) (p : Bytes) (u : Nat), Takes s 0xA0 0 g idx f → stateOf target = some u → transitionAllowed s.lcs u = false →
    Does (.lifecycle (.host 0 g idx) target p) s fun t => Completes s t f stNOT_ALLOWED 0 0 [] ∧ { t with hif := s.hif } = s)
  ∧ (∀ cert : Bytes, Takes s 0xA1 0 g idx f → quorumSize s 4 = 0 →
    Does (.debugCert (.host 0 g idx) cert) s fun t => if certValid s cert = true then Completes s t f stOK 0 0 []
        ∧ t.lcy.certDue = some (certBody cert) ∧ t.rd 0x07800B = BitVec.ofNat 24 (certBody cert).serial
      else Completes s t f stNOT_ALLOWED 0 0 [] ∧ t.lcy = s.lcy ∧ t.bit 0x078001 2 = true)
  ∧ (Takes s 0xA1 0 g idx f →
    Does (.debugCertEnd (.host 0 g idx)) s fun t => Completes s t f stOK 0 0 []
      ∧ t.lcy = { s.lcy with certEnd := s.lcy.certEnd || certInForce s })

/-- Keystone calls of the piers (R152, R160, R169, R243, R246, R403): claiming, committing and releasing a graver, the key fields
of a plate, and the ledger's signature; each answer stands in the pier's result registers. -/
def Obligations.PierCalls : Prop :=
  ∀ (n : Fin 67) (d : Fin 257) (s : State),
  (∀ m : Fin 16, Calls s 80 n d → grvState s m = 0 ∨ grvState s m = 4 → s.bit 0x041001 m = false →
    Does (.graverClaim (.pier n d) m) s fun t => Answers t n stOK 0 0 ∧ grvState t m = 1 ∧ grvDom t m = d)
  ∧ (∀ m : Fin 16, Calls s 80 n d → grvState s m = 2 ∨ grvState s m = 3 →
    Does (.graverClaim (.pier n d) m) s fun t => Answers t n stBUSY 0 0 ∧ grvState t m = grvState s m ∧ t.gravers = s.gravers)
  ∧ (∀ (m : Fin 16) (dur : Nat), Calls s 81 n d → commitStatus s m d dur = stOK →
    Does (.graverCommit (.pier n d) m dur) s fun t => Answers t n stOK 0 0 ∧ grvState t m = 2 ∧ t.rd (grvReg m 6) = BitVec.ofNat 24 dur
      ∧ (t.grv m).caller = some (.pier n d))
  ∧ (∀ (m : Fin 16) (dur : Nat), Calls s 81 n d → commitStatus s m d dur ≠ stOK →
    Does (.graverCommit (.pier n d) m dur) s fun t => Answers t n (commitStatus s m d dur) 0 0 ∧ t.gravers = s.gravers
      ∧ grvState t m = grvState s m)
  ∧ (∀ m : Fin 16, Calls s 82 n d → grvDom s m = d → grvState s m = 1 ∨ grvState s m = 4 →
    Does (.graverRelease (.pier n d) m) s fun t => Answers t n stOK 0 0 ∧ grvState t m = 0 ∧ (t.grv m).wipeDue = true)
  ∧ (∀ m : Fin 16, Calls s 82 n d → grvDom s m ≠ d →
    Does (.graverRelease (.pier n d) m) s fun t => Answers t n stRIGHTS 0 0 ∧ t.gravers = s.gravers)
  ∧ (∀ (p sak : BitVec 24) (i : Nat) (l : List Word) (cur : Bool) (w : When), Calls s 88 n d → sakCheck s d sak.toNat = (stOK, i) →
    s.setup = [⟨0, p.toNat, .install p.toNat d l cur, w⟩] →
    Does (.plateKeyInstall (.pier n d) p sak) s fun t => Answers t n stOK 0 0
      ∧ t.setup = [⟨0, p.toNat, .install p.toNat d (l.take 4 ++ (objectWords s i).take 15 ++ l.drop 19) cur, w⟩])
  ∧ (∀ r : Bytes, Calls s 112 n d → 128 ≤ r.length → recField r 0 1 = 1 → recField r 1 1 ≤ 4 → recField r 2 2 = d →
    (recField r 1 1 = 0 → periodRecorded s d (recField r 8 8) = false) → recField r 4 4 = Tab.get 0 s.lgr.seqs d →
    Does (.ledgerSign (.pier n d) r) s fun t => Answers t n stOK 0 0
      ∧ Tab.get 0 t.lgr.seqs d = (Tab.get 0 s.lgr.seqs d + 1) % 2 ^ 32 ∧ t.nva.recordAt = (s.nva.recordAt + 1) % 39424)
  ∧ (∀ (h : BitVec 24) (i : Nat), Calls s 72 n d → handleCheck s d h.toNat = (stOK, i) →
    Does (.keyInfo (.pier n d) h) s fun t => Answers t n stOK ((s.slot i).ty * 2 ^ 16 + (s.slot i).usage.toNat * 2 ^ 8
      + (if (s.slot i).exportable = true then 1 else 0) + (if (s.slot i).persist = true then 2 else 0))
      (sizeOf (s.slot i).ty (s.slot i).size * 2 ^ 8 + (s.slot i).slots))

/-! ### The Konus-24 -/

/-- Moves, immediates, sums and differences (R215, R217–R221): MOV, MOVQ, LDI, LDH, MOVC, NOP and FENCE change no flag; sums and
differences are taken modulo 2^24 with N, Z, the carry and the signed overflow. -/
def Obligations.KonusMovesAndSums : Prop :=
  (∀ (n : Fin 67) (d r : Fin 32) (s : State) (c : CoreState), s.core n = c →
   (AtInstr s n 1 → Does (.mov n d r) s fun t => Computes s t n 1 1 (some d) (c.reg r) (flagsOf c.psr))
   ∧ (AtInstr s n 1 → ∀ i : BitVec 5, Does (.movq n d i) s fun t => Computes s t n 1 1 (some d) (BitVec.ofInt 24 i.toInt) (flagsOf c.psr))
   ∧ (AtInstr s n 2 → ∀ i : BitVec 16, Does (.ldi n d i) s fun t =>
       Computes s t n 2 1 (some d) (BitVec.ofInt 24 i.toInt) (flagsOf c.psr))
   ∧ (AtInstr s n 2 → ∀ i : BitVec 16, Does (.ldh n d i) s fun t =>
       Computes s t n 2 1 (some d) (BitVec.ofNat 24 (2 ^ 8 * i.toNat)) (flagsOf c.psr))
   ∧ (AtInstr s n 2 → ∀ cc : Fin 15, Does (.movc n d r cc) s fun t =>
       Computes s t n 2 1 (some d) (if condition cc (flagsOf c.psr) = true then c.reg r else c.reg d) (flagsOf c.psr))
   ∧ (AtInstr s n 1 → Does (.coreNop n) s fun t => Computes s t n 1 1 none 0 (flagsOf c.psr))
   ∧ (AtInstr s n 2 → Does (.fence n) s fun t => Computes s t n 2 1 none 0 (flagsOf c.psr)))
  ∧ (∀ (n : Fin 67) (d r : Fin 32) (s : State) (c : CoreState), s.core n = c →
   (AtInstr s n 1 → Does (.add n d r) s fun t => Computes s t n 1 1 (some d) (c.reg d + c.reg r) (sumFlags (c.reg d) (c.reg r) 0))
   ∧ (AtInstr s n 1 → Does (.sub n d r) s fun t =>
       Computes s t n 1 1 (some d) (c.reg d - c.reg r) (differenceFlags (c.reg d) (c.reg r) 0))
   ∧ (AtInstr s n 1 → Does (.cmp n d r) s fun t => Computes s t n 1 1 none 0 (differenceFlags (c.reg d) (c.reg r) 0))
   ∧ (AtInstr s n 1 → ∀ i : BitVec 5, Does (.addq n d i) s fun t =>
       Computes s t n 1 1 (some d) (c.reg d + BitVec.ofInt 24 i.toInt) (sumFlags (c.reg d) (BitVec.ofInt 24 i.toInt) 0))
   ∧ (AtInstr s n 1 → Does (.neg n d) s fun t => Computes s t n 1 1 (some d) (- c.reg d) (differenceFlags 0 (c.reg d) 0))
   ∧ (AtInstr s n 2 → ∀ i : BitVec 16, Does (.addi n d i) s fun t =>
       Computes s t n 2 1 (some d) (c.reg d + BitVec.ofInt 24 i.toInt) (sumFlags (c.reg d) (BitVec.ofInt 24 i.toInt) 0))
   ∧ (AtInstr s n 2 → ∀ i : BitVec 16, Does (.cmpi n d i) s fun t =>
       Computes s t n 2 1 none 0 (differenceFlags (c.reg d) (BitVec.ofInt 24 i.toInt) 0))
   ∧ (AtInstr s n 2 → Does (.adc n d r) s fun t => Computes s t n 2 1 (some d)
       (c.reg d + c.reg r + BitVec.ofNat 24 (flagsOf c.psr).c.toNat) (sumFlags (c.reg d) (c.reg r) (flagsOf c.psr).c.toNat))
   ∧ (AtInstr s n 2 → Does (.sbc n d r) s fun t => Computes s t n 2 1 (some d)
       (c.reg d - c.reg r - BitVec.ofNat 24 (1 - (flagsOf c.psr).c.toNat))
       (differenceFlags (c.reg d) (c.reg r) (1 - (flagsOf c.psr).c.toNat))))

/-- Logic, products, quotients and CLZ (R215, R217–R219, R221): N and Z follow the result; a division by 0 gives 0xFFFFFF or
leaves the dividend, and sets V. -/
def Obligations.KonusLogicAndProducts : Prop :=
  ∀ (n : Fin 67) (d r : Fin 32) (s : State) (c : CoreState) (k : Bool), s.core n = c → k = (flagsOf c.psr).c →
  (AtInstr s n 1 → Does (.and n d r) s fun t => Computes s t n 1 1 (some d) (c.reg d &&& c.reg r) (resultFlags (c.reg d &&& c.reg r) k))
  ∧ (AtInstr s n 1 → Does (.or n d r) s fun t => Computes s t n 1 1 (some d) (c.reg d ||| c.reg r) (resultFlags (c.reg d ||| c.reg r) k))
  ∧ (AtInstr s n 1 → Does (.xor n d r) s fun t => Computes s t n 1 1 (some d) (c.reg d ^^^ c.reg r) (resultFlags (c.reg d ^^^ c.reg r) k))
  ∧ (AtInstr s n 1 → Does (.not n d) s fun t => Computes s t n 1 1 (some d) (~~~ c.reg d) (resultFlags (~~~ c.reg d) k))
  ∧ (AtInstr s n 2 → Does (.tst n d r) s fun t => Computes s t n 2 1 none 0 (resultFlags (c.reg d &&& c.reg r) k))
  ∧ (AtInstr s n 2 → ∀ i : BitVec 16, Does (.andi n d i) s fun t =>
      Computes s t n 2 1 (some d) (c.reg d &&& BitVec.ofNat 24 i.toNat) (resultFlags (c.reg d &&& BitVec.ofNat 24 i.toNat) k))
  ∧ (AtInstr s n 2 → ∀ i : BitVec 16, Does (.ori n d i) s fun t =>
      Computes s t n 2 1 (some d) (c.reg d ||| BitVec.ofNat 24 i.toNat) (resultFlags (c.reg d ||| BitVec.ofNat 24 i.toNat) k))
  ∧ (AtInstr s n 2 → ∀ i : BitVec 16, Does (.xori n d i) s fun t =>
      Computes s t n 2 1 (some d) (c.reg d ^^^ BitVec.ofNat 24 i.toNat) (resultFlags (c.reg d ^^^ BitVec.ofNat 24 i.toNat) k))
  ∧ (AtInstr s n 2 → ∀ i : BitVec 16, Does (.tsti n d i) s fun t =>
      Computes s t n 2 1 none 0 (resultFlags (c.reg d &&& BitVec.ofNat 24 i.toNat) k))
  ∧ (AtInstr s n 2 → ∀ v : Word, v = BitVec.ofNat 24 ((c.reg d).toNat * (c.reg r).toNat) →
      Does (.mul n d r) s fun t => Computes s t n 2 2 (some d) v (resultFlags v k))
  ∧ (AtInstr s n 2 → ∀ v : Word, v = BitVec.ofNat 24 ((c.reg d).toNat * (c.reg r).toNat / 2 ^ 24) →
      Does (.mulhu n d r) s fun t => Computes s t n 2 2 (some d) v (resultFlags v k))
  ∧ (AtInstr s n 2 → ∀ v : Word, v = BitVec.ofInt 24 ((c.reg d).toInt * (c.reg r).toInt / 2 ^ 24) →
      Does (.mulhs n d r) s fun t => Computes s t n 2 2 (some d) v (resultFlags v k))
  ∧ (AtInstr s n 2 → ∀ v : Word, v = (if c.reg r = 0 then 0xFFFFFF else BitVec.ofNat 24 ((c.reg d).toNat / (c.reg r).toNat)) →
      Does (.divu n d r) s fun t => Computes s t n 2 26 (some d) v { resultFlags v k with v := decide (c.reg r = 0) })
  ∧ (AtInstr s n 2 → ∀ v : Word, v = BitVec.ofNat 24 ((c.reg d).toNat % (c.reg r).toNat) →
      Does (.remu n d r) s fun t => Computes s t n 2 26 (some d) v { resultFlags v k with v := decide (c.reg r = 0) })
  ∧ (AtInstr s n 2 → ∀ m : Nat, m ≤ 24 → (∀ i < m, (c.reg r).getLsbD (23 - i) = false) → (m < 24 → (c.reg r).getLsbD (23 - m) = true) →
      Does (.clz n d r) s fun t => Computes s t n 2 1 (some d) (BitVec.ofNat 24 m) { flagsOf c.psr with z := decide (m = 0) })

/-- Shifts (R215, R217, R221): the result, N and Z, and C the last bit shifted out; a shift by 0 leaves C (log 47, DEDUCED: V clears). -/
def Obligations.KonusShifts : Prop :=
  ∀ (n : Fin 67) (d r : Fin 32) (i : Fin 24) (s : State) (c : CoreState) (a v : Word), s.core n = c → a = c.reg d →
  (AtInstr s n 1 → v = BitVec.ofNat 24 (a.toNat * 2 ^ i.val) →
    Does (.shli n d i) s fun t => Computes s t n 1 1 (some d) v
      (resultFlags v (if i = 0 then (flagsOf c.psr).c else (a.toNat * 2 ^ i.val).testBit 24)))
  ∧ (AtInstr s n 1 → v = BitVec.ofNat 24 (a.toNat / 2 ^ i.val) →
    Does (.shri n d i) s fun t => Computes s t n 1 1 (some d) v
      (resultFlags v (if i = 0 then (flagsOf c.psr).c else a.toNat.testBit (i.val - 1))))
  ∧ (AtInstr s n 1 → v = BitVec.ofInt 24 (a.toInt / 2 ^ i.val) →
    Does (.asri n d i) s fun t => Computes s t n 1 1 (some d) v
      (resultFlags v (if i = 0 then (flagsOf c.psr).c else decide (a.toInt / 2 ^ (i.val - 1) % 2 = 1))))
  ∧ (∀ k : Nat, AtInstr s n 2 → k = (c.reg r).toNat % 32 → v = BitVec.ofNat 24 (a.toNat * 2 ^ k) →
    Does (.shlv n d r) s fun t => Computes s t n 2 1 (some d) v
      (resultFlags v (if k = 0 then (flagsOf c.psr).c else (a.toNat * 2 ^ k).testBit 24)))
  ∧ (∀ k : Nat, AtInstr s n 2 → k = (c.reg r).toNat % 32 → v = BitVec.ofNat 24 (a.toNat / 2 ^ k) →
    Does (.shrv n d r) s fun t => Computes s t n 2 1 (some d) v
      (resultFlags v (if k = 0 then (flagsOf c.psr).c else a.toNat.testBit (k - 1))))
  ∧ (∀ k : Nat, AtInstr s n 2 → k = (c.reg r).toNat % 32 → v = BitVec.ofInt 24 (a.toInt / 2 ^ k) →
    Does (.asrv n d r) s fun t => Computes s t n 2 1 (some d) v
      (resultFlags v (if k = 0 then (flagsOf c.psr).c else decide (a.toInt / 2 ^ (k - 1) % 2 = 1))))
  ∧ (AtInstr s n 2 → v = BitVec.ofNat 24 (a.toNat / 2 ^ i.val + a.toNat * 2 ^ (24 - i.val)) →
    Does (.rori n d i) s fun t => Computes s t n 2 1 (some d) v (resultFlags v v.msb))

/-- Changes of flow (R211, R212, R217, R218): branches, jumps, and calls and returns with their windows, records and shadow
entries. -/
def Obligations.KonusFlow : Prop :=
  ∀ (n : Fin 67) (r : Fin 32) (s : State) (c : CoreState), s.core n = c →
  (∀ (cc : Fin 15) (o : BitVec 18), AtInstr s n 2 → condition cc (flagsOf c.psr) = true →
    Does (.bcc n cc true o) s fun t => Jumps s t n (c.pc + BitVec.ofInt 24 o.toInt))
  ∧ (∀ (cc : Fin 15) (o : BitVec 6), AtInstr s n 1 → condition cc (flagsOf c.psr) = true →
    Does (.bcc n cc false (o.signExtend 18)) s fun t => Jumps s t n (c.pc + BitVec.ofInt 24 o.toInt))
  ∧ (∀ (cc : Fin 15) (long : Bool) (o : BitVec 18), AtInstr s n (if long = true then 2 else 1) → condition cc (flagsOf c.psr) = false →
    Does (.bcc n cc long o) s fun t => Computes s t n (if long = true then 2 else 1) 1 none 0 (flagsOf c.psr))
  ∧ (AtInstr s n 1 → Does (.jmp n r) s fun t => Jumps s t n (c.reg r))
  ∧ (∀ o : BitVec 21, AtInstr s n 2 → c.slim.toNat + 18 ≤ (c.reg 7).toNat → shadowBase n + 2 ≤ c.ssp.toNat →
    dataFault n c false ((c.reg 7).toNat - 1) = none → dataFault n c false ((c.reg 7).toNat - 2) = none →
    Does (.call n o) s fun t => Called s t n (c.pc + BitVec.ofInt 24 o.toInt) (c.pc + 2))
  ∧ (AtInstr s n 1 → c.slim.toNat + 18 ≤ (c.reg 7).toNat → shadowBase n + 2 ≤ c.ssp.toNat →
    dataFault n c false ((c.reg 7).toNat - 1) = none → dataFault n c false ((c.reg 7).toNat - 2) = none →
    Does (.callr n r) s fun t => Called s t n (c.reg r) (c.pc + 1))
  ∧ (AtInstr s n 1 → c.ssp.toNat ≠ shadowTop n → c.cwp < 15 → dataFault n c false (c.rp.toNat + 17) = none →
    dataFault n c false (c.rp.toNat + 16) = none → c.load c.ssp.toNat = c.load (c.rp.toNat + 17) → c.load (c.ssp.toNat + 1) = c.rp →
    Does (.ret n none) s fun t => (t.core n).pc = c.load (c.rp.toNat + 17) ∧ (t.core n).rp = c.load (c.rp.toNat + 16)
      ∧ (t.core n).ssp = c.ssp + 2 ∧ (t.core n).reg 7 = c.rp + 18 ∧ (t.core n).cwp = (c.cwp + 14) % 15
      ∧ (t.core n).data = c.data ∧ (t.core n).psr = c.psr ∧ (∀ k < 8, (t.core n).reg (24 + k) = c.reg (8 + k))
      ∧ (∀ k < 7, (t.core n).reg k = c.reg k) ∧ OthersKept s t n ∧ ∀ a, a ≠ coreReg n 0x13 → t.rd a = s.rd a)
  ∧ (AtInstr s n 1 → Room s n → c.ssp.toNat ≠ shadowTop n → dataFault n c false (c.rp.toNat + 17) = none →
    dataFault n c false (c.rp.toNat + 16) = none → c.load c.ssp.toNat ≠ c.load (c.rp.toNat + 17) →
    Does (.ret n none) s fun t => Enters s t n 7 0 c.rp.toNat c.pc ∧ (n = 0 → t.pwr.safeHoldDue.isSome = true))

/-- Loads, stores and register accesses (R29, R30, R214, R218, R220, R224): a store leaves through the store buffer and, once that
drains, changes its own word of the data space alone. -/
def Obligations.KonusMemory : Prop :=
  ∀ (n : Fin 67) (d b : Fin 32) (o : BitVec 10) (s : State) (c : CoreState) (a : Nat), s.core n = c →
  a = (c.reg b + BitVec.ofInt 24 o.toInt).toNat →
  (AtInstr s n 2 → dataFault n c false a = none →
    Does (.ld n d b o true) s fun t => Computes s t n 2 2 (some d) (c.load a) (flagsOf c.psr))
  ∧ (AtInstr s n 2 → dataFault n c true a = none →
    Does (.st n d b o) s fun t => (t.core n).stb = [StbEntry.data a (c.reg d)] ∧ (t.core n).data = c.data
      ∧ (∀ k : Fin 32, (t.core n).reg k = c.reg k) ∧ (t.core n).pc = c.pc + 2 ∧ (t.core n).psr = c.psr
      ∧ (∀ x, ((drainCore n t).core n).load x = if x = a then c.reg d else c.load x) ∧ OthersKept s t n ∧ OnlyCores s t)
  ∧ (∀ v : Nat, AtInstr s n 2 → Room s n → dataFault n c true a = some v →
    Does (.st n d b o) s fun t => Enters s t n v 0 a c.pc)
  ∧ (AtInstr s n 1 → c.slim.toNat + 1 ≤ (c.reg 7).toNat → dataFault n c true ((c.reg 7).toNat - 1) = none →
    Does (.push n d) s fun t => (t.core n).stb = [StbEntry.data ((c.reg 7).toNat - 1) (if d = 7 then c.reg 7 - 1 else c.reg d)]
      ∧ (t.core n).reg 7 = c.reg 7 - 1 ∧ (∀ k : Fin 32, k ≠ 7 → (t.core n).reg k = c.reg k) ∧ (t.core n).data = c.data
      ∧ (t.core n).pc = c.pc + 1 ∧ (t.core n).psr = c.psr ∧ OthersKept s t n ∧ OnlyCores s t)
  ∧ (AtInstr s n 1 → d ≠ 7 → dataFault n c false (c.reg 7).toNat = none →
    Does (.pop n d true) s fun t => (t.core n).reg d = c.load (c.reg 7).toNat ∧ (t.core n).reg 7 = c.reg 7 + 1
      ∧ (∀ k : Fin 32, k ≠ 7 → k ≠ d → (t.core n).reg k = c.reg k) ∧ (t.core n).data = c.data ∧ (t.core n).pc = c.pc + 1
      ∧ (t.core n).psr = c.psr ∧ OthersKept s t n ∧ OnlyCores s t)
  ∧ (AtInstr s n 2 → mayRead s (coreMaster s n) a = true →
    Does (.inp n d b o true) s fun t => (t.core n).pc = c.pc + 2
      ∧ (t.core n).reg d = (ioRead (coreMaster s n) a { fetchSeq n 2 1 (traceFetch n c.pc s) with free := s.free + 1 }).1)
  ∧ (AtInstr s n 2 → mayRead s (coreMaster s n) a = false → n = 0 →
    Does (.inp n d b o true) s fun t => (t.core n).reg d = 0 ∧ (∀ k : Fin 32, k ≠ d → (t.core n).reg k = c.reg k)
      ∧ (t.core n).pc = c.pc + 2 ∧ t.io = s.io)
  ∧ (AtInstr s n 2 → mayWrite s (coreMaster s n) a = true →
    Does (.out n d b o) s fun t => (t.core n).stb = [StbEntry.io a (c.reg d) (c.priv == 0)] ∧ (t.core n).data = c.data
      ∧ (∀ k : Fin 32, (t.core n).reg k = c.reg k) ∧ (t.core n).pc = c.pc + 2 ∧ (t.core n).psr = c.psr ∧ OthersKept s t n
      ∧ OnlyCores s t)
  ∧ (AtInstr s n 2 → Room s n → mayWrite s (coreMaster s n) a = false → n ≠ 0 →
    Does (.out n d b o) s fun t => Enters s t n 5 0 a (c.pc + 2))

/-- System instructions (R208, R209, R213, R231–R235, R239, R241): special registers, traps and their entry, the return from an
exception, waiting, flushing, breakpoints, interrupts, reserved encodings and a lockstep mismatch. -/
def Obligations.KonusSystem : Prop :=
  ∀ (n : Fin 67) (s : State) (c : CoreState), s.core n = c →
  (∀ d sr : Fin 32, AtInstr s n 2 → srFault c sr false = none → sr ≠ 14 → sr ≠ 15 →
    Does (.mfs n d sr) s fun t => Computes s t n 2 1 (some d) (srValue n c sr) (flagsOf c.psr))
  ∧ (∀ d sr : Fin 32, AtInstr s n 2 → Room s n → c.priv = 0 → 5 ≤ sr.val → sr.val ≤ 9 →
    Does (.mfs n d sr) s fun t => Enters s t n 1 0 0x3F10 c.pc)
  ∧ (∀ r sr : Fin 32, AtInstr s n 2 → srFault c sr true = none →
    Does (.mts n sr r) s fun t => t.core n = { srWrite n { c with pc := c.pc + 2 } sr (c.reg r) with used := c.used + 1 }
      ∧ OthersKept s t n ∧ OnlyCores s t)
  ∧ (∀ k : Fin 128, AtInstr s n 2 → Room s n → n ≠ 0 → k.val < 64 →
    Does (.trap n k) s fun t => Enters s t n 10 k 0 (c.pc + 2))
  ∧ (∀ k : Fin 128, AtInstr s n 2 → Room s n → n = 0 → Does (.trap n k) s fun t => Enters s t n 0 0 0x3F20 c.pc)
  ∧ (∀ k : Fin 128, AtInstr s n 2 → n ≠ 0 → c.priv ≠ 0 → k.val ∈ callNumbers → s.kept = [] →
    (∀ o ∈ s.key.ops, o.withdrawn = none) →
    Does (.trap n k) s fun t => coreState t n = 2 ∧ t.rd (coreReg n 0x40) = BitVec.ofNat 24 (2 ^ 23 + k.val)
      ∧ (∀ i < 8, t.rd (coreReg n (0x48 + i)) = c.reg (24 + i)) ∧ t.rdN (coreReg n 0x41) 2 = (s.now + 1) % 2 ^ 48
      ∧ (t.core n).answered = false ∧ (t.core n).release = none ∧ (t.core n).pc = c.pc + 2 ∧ OthersKept s t n)
  ∧ (AtInstr s n 2 → c.priv ≠ 0 → c.ssp.toNat ≠ shadowTop n → c.load (c.ssp.toNat + 1) = c.rp ||| 0x800000 →
    (∀ k, k = 16 ∨ k = 17 ∨ k = 18 → dataFault n c false (c.rp.toNat + k) = none) →
    c.load c.ssp.toNat = c.load (c.rp.toNat + 17) → Word.slice (c.load (c.rp.toNat + 18)) 19 18 ≤ c.priv →
    Word.slice (c.load (c.rp.toNat + 18)) 19 18 ≠ 2 →
    Does (.eret n none) s fun t => (t.core n).pc = c.load (c.rp.toNat + 17) ∧ (t.core n).rp = c.load (c.rp.toNat + 16)
      ∧ (t.core n).psr = (if n = 0 then Word.put (c.load (c.rp.toNat + 18) &&& 0xFE0000) 19 18 3 else c.load (c.rp.toNat + 18) &&& 0xFE0000)
      ∧ (t.core n).ssp = c.ssp + 2 ∧ (t.core n).reg 7 = c.rp + 20 ∧ (t.core n).cwp = (c.cwp + 14) % 15 ∧ (t.core n).data = c.data
      ∧ OthersKept s t n)
  ∧ (AtInstr s n 2 → Does (.wait n) s fun t =>
      t.core n = { c with pc := c.pc + 2, idle := enabledPending s n == 0, used := c.used + 1 } ∧ OthersKept s t n ∧ OnlyCores s t)
  ∧ (AtInstr s n 2 → c.priv ≠ 0 → 1 ≤ c.res → Does (.flush n) s fun t => (t.core n).res = 1 ∧ (t.core n).pc = c.pc + 2
      ∧ (t.core n).cwp = c.cwp ∧ (∀ k : Fin 32, (t.core n).reg k = c.reg k) ∧ (t.core n).used = c.used + (1 + 16 * (c.res - 1)))
  ∧ (AtInstr s n 2 → Room s n → Does (.bkpt n) s fun t => Enters s t n 9 0 0 (c.pc + 2))
  ∧ (AtInstr s n 2 → entryFits n c = false → Does (.bkpt n) s fun t => coreState t n = 3
      ∧ t.rd (coreReg n 3) = BitVec.ofNat 24 (8 * 2 ^ 8 + 9) ∧ (n = 0 → t.pwr.safeHoldDue.isSome = true))
  ∧ (executing s n = true → c.stb = [] → Word.bit c.psr 17 = true → enabledPending s n ≠ 0 → Room s n →
    Does (.interrupt n) s fun t => ∃ k < 24, (enabledPending s n).testBit k = true ∧ (∀ j < k, (enabledPending s n).testBit j = false)
      ∧ Enters s t n 11 k (ipend s n) c.pc)
  ∧ (∀ p q : BitVec 14, decodeParcels n p q = none → AtInstr s n (if twoParcels p = true then 2 else 1) → Room s n →
    Does (.illegalInstruction n p q none) s fun t => Enters s t n 0 0 p.toNat c.pc)
  ∧ (∀ p q : BitVec 14, AtInstr s n 1 → Room s n → n ≠ 0 →
    Does (.illegalInstruction n p q (some 0)) s fun t => Enters s t n 2 0x80 c.pc.toNat c.pc)
  ∧ (n ≠ 0 → Does (.coreLockstepMismatch n) s fun t => coreState t n = 3 ∧ t.bit (coreReg n 1) 20 = true)
  ∧ (n = 0 → Does (.coreLockstepMismatch n) s fun t => t.bit (coreReg n 1) 20 = true ∧ t.pwr.safeHoldDue.isSome = true)

/-- What a core reads from the parcels that R216 to R221 give an instruction is that instruction, with every operand at every
value that its fields hold. -/
def Obligations.ParcelsDecode : Prop :=
  (∀ (i : Instr) (n : Fin 67) (p q : BitVec 14), oneParcel i = some (n, p) → twoParcels p = false ∧ decodeParcels n p q = some i)
  ∧ (∀ (i : Instr) (n : Fin 67) (p q : BitVec 14), twoParcel i = some (n, p, q) → twoParcels p = true ∧ decodeParcels n p q = some i)

/-! ### Cores and register access -/

/-- Control of a pier's core (R228–R230): run, hold, reset, clearing and digesting the program SRAM, loading it. -/
def Obligations.CoreControl : Prop :=
  ∀ (n : Fin 67) (w : Word) (s : State), n ≠ 0 →
  (powered s = true → Word.slice w 23 20 = 8 → coreState s n = 0 → (s.core n).busy = none →
    Does (.run .keep n w) s fun t => coreState t n = 1 ∧ coreRun t n = true ∧ t.bit (coreReg n 0) 19 = false
      ∧ RegsKept s t [coreReg n 0, coreReg n 1] ∧ { t with io := s.io } = s)
  ∧ (powered s = true → Word.slice w 23 20 = 0 → coreState s n = 1 → (s.core n).stb = [] →
    Does (.run .keep n w) s fun t => coreState t n = 0 ∧ coreRun t n = false ∧ (t.core n).idle = false
      ∧ RegsKept s t [coreReg n 0, coreReg n 1] ∧ OthersKept s t n)
  ∧ (powered s = true →
    Does (.coreReset .keep n w) s fun t => coreState t n = 4 ∧ coreRun t n = false ∧ t.bit (coreReg n 1) 19 = true
      ∧ t.core n = { CoreState.init n with
          prog := (s.core n).prog
          spare := (s.core n).spare
          out := (s.core n).out
          restart := (s.core n).restart
          busy := some (.reset (s.tick + 33)) }
      ∧ t.bit (coreReg n 0x40) 23 = false ∧ OthersKept s t n)
  ∧ (∀ e : Nat, powered s = true → (s.core n).busy = some (.reset e) → e ≤ s.tick → (s.core n).restart = false →
    Does (.coreResetDone n) s fun t => coreState t n = 0 ∧ t.bit (coreReg n 1) 19 = false ∧ t.core n = { s.core n with busy := none }
      ∧ RegsKept s t [coreReg n 1] ∧ OthersKept s t n)
  ∧ (powered s = true → coreRun s n = false → Word.bit w 22 = false → coreState s n = 0 → (s.core n).busy = none →
    Does (.pclr .keep n w) s fun t => t.core n = { s.core n with busy := some (.pclr (s.tick + 66)) } ∧ t.bit (coreReg n 1) 19 = true
      ∧ coreState t n = 0 ∧ OthersKept s t n)
  ∧ (∀ e : Nat, powered s = true → (s.core n).busy = some (.pclr e) → e ≤ s.tick →
    Does (.pclrDone n) s fun t => t.core n = { s.core n with busy := none, prog := [] } ∧ t.bit (coreReg n 1) 19 = false
      ∧ RegsKept s t [coreReg n 1] ∧ OthersKept s t n)
  ∧ (powered s = true → coreRun s n = false → Word.slice w 22 21 = 0 → coreState s n = 0 → (s.core n).busy = none →
    Does (.dig .keep n w) s fun t => t.core n = { s.core n with busy := some (.dig (s.tick + 164)) } ∧ t.bit (coreReg n 1) 19 = true
      ∧ OthersKept s t n)
  ∧ (∀ e : Nat, powered s = true → (s.core n).busy = some (.dig e) → e ≤ s.tick → (s.core n).restart = false →
    Does (.digDone n) s fun t => t.rdN (coreReg n 0x20) 16 = beNat (Config.sha384 (progBytes (s.core n))) % 2 ^ 384
      ∧ t.core n = { s.core n with busy := none, restart := false } ∧ coreState t n = coreState s n ∧ OthersKept s t n)
  ∧ (powered s = true → coreRun s n = false → Word.slice w 23 20 = 0 → coreState s n = 0 →
    Does (.loadEn .keep n w) s fun t => t.bit (coreReg n 0) 19 = Word.bit w 19 ∧ coreState t n = 0
      ∧ RegsKept s t [coreReg n 0] ∧ OthersKept s t n)
  ∧ (powered s = true → coreState s n = 0 → s.bit (coreReg n 0) 19 = true →
    Does (.pldData .keep n w) s fun t =>
      (∀ a, Tab.get 0 (t.core n).prog a = if a = s.fld (coreReg n 8) 15 0 then w.setWidth 14 else Tab.get 0 (s.core n).prog a)
      ∧ t.rd (coreReg n 8) = BitVec.ofNat 24 ((s.fld (coreReg n 8) 15 0 + 1) % 65536) ∧ RegsKept s t [coreReg n 8] ∧ OthersKept s t n)
  ∧ (powered s = true → coreState s n ≠ 0 →
    Does (.pldData .keep n w) s fun t => t.bit (coreReg n 1) 18 = true ∧ RegsKept s t [coreReg n 1] ∧ { t with io := s.io } = s)
  ∧ (∀ p : Fin 67, powered s = true → coreState s n = 3 → (s.core n).out = false → freeSpare s = some p.val →
    Does (.pierSpareStart n true) s fun t => coreState t p = 1 ∧ coreRun t p = true ∧ (t.core p).spare = false ∧ coreState t n = 4
      ∧ (t.core n).out = true ∧ (∀ g < 520, t.fld (0x0A0400 + g) 6 0 ≠ n)
      ∧ t.fld (coreReg p 6) 8 0 = s.fld (coreReg n 6) 8 0)
  ∧ (powered s = true → coreState s n = 3 → (s.core n).out = false → freeSpare s = none →
    Does (.pierSpareStart n true) s fun t => coreState t n = 4 ∧ (t.core n).restart = true ∧ (t.core n).prog = (s.core n).prog
      ∧ OthersKept s t n)
  ∧ (powered s = true → coreState s n = 1 → freeSpare s = none →
    Does (.pierSpareStart n false) s fun t => coreState t n = 4 ∧ (t.core n).restart = true ∧ (t.core n).prog = (s.core n).prog
      ∧ OthersKept s t n)

/-- The keystone's side of a call (R241–R245, R249): the first GO fixes the release, the release hands the results over, and DDATA
reaches a waiting pier's data SRAM below its shadow region. -/
def Obligations.KeystoneCalls : Prop :=
  ∀ (n : Fin 67) (w : Word) (s : State), n ≠ 0 →
  (∀ d a : Nat, powered s = true → Word.slice w 17 0 = d → d ≠ 0 → s.bit (coreReg n 0x40) 23 = true → (s.core n).release = none →
    a = (s.rdN (coreReg n 0x41) 2 + d + (2 ^ 48 - s.now % 2 ^ 48)) % 2 ^ 48 →
    Does (.kdone .keep n w) s fun t => t.rd (coreReg n 0x58) = BitVec.ofNat 24 d ∧ RegsKept s t [coreReg n 0x58] ∧ OthersKept s t n
      ∧ t.core n = { s.core n with release := some (if a = 0 ∨ 2 ^ 47 ≤ a then (s.tick + 1, true) else (s.tick + a, false)) })
  ∧ (∀ e : Nat, powered s = true → (s.core n).release = some (e, false) → e ≤ s.tick → s.spn.pausedUntil ≤ s.now →
    s.bit (coreReg n 0x40) 23 = true →
    Does (.kcallRelease n) s fun t => coreState t n = 1 ∧ t.rd (coreReg n 0x40) = 0 ∧ (t.core n).release = none
      ∧ (∀ k < 8, (t.core n).reg (24 + k) = s.rd (coreReg n (0x50 + k))) ∧ (∀ k < 24, (t.core n).reg k = (s.core n).reg k)
      ∧ (t.core n).data = (s.core n).data ∧ (t.core n).pc = (s.core n).pc ∧ RegsKept s t [coreReg n 1, coreReg n 0x40]
      ∧ OthersKept s t n)
  ∧ (∀ e : Nat, powered s = true → (s.core n).release = some (e, true) → e ≤ s.tick → s.spn.pausedUntil ≤ s.now →
    s.bit (coreReg n 0x40) 23 = true →
    Does (.kcallRelease n) s fun t => coreState t n = 1 ∧ (t.core n).reg 24 = 0xFFFFFF
      ∧ (∀ k, 1 ≤ k → k < 8 → (t.core n).reg (24 + k) = 0) ∧ t.fld (coreReg n 0x43) 23 0 = min (s.fld (coreReg n 0x43) 23 0 + 1) (2 ^ 24 - 1))
  ∧ (∀ v : Word, powered s = true → coreState s n = 2 → s.fld (coreReg n 0x60) 14 0 < shadowBase n →
    Does (.ddata .keep n (some v)) s fun t =>
      (∀ a, (t.core n).load a = if a = s.fld (coreReg n 0x60) 14 0 then v else (s.core n).load a)
      ∧ t.rd (coreReg n 0x60) = BitVec.ofNat 24 ((s.fld (coreReg n 0x60) 14 0 + 1) % 2 ^ 15) ∧ RegsKept s t [coreReg n 0x60]
      ∧ OthersKept s t n)
  ∧ (powered s = true → coreState s n = 2 →
    Does (.ddata .keep n none) s fun t => t.answer = (s.core n).load (s.fld (coreReg n 0x60) 14 0) ∧ t.answered = true
      ∧ t.rd (coreReg n 0x60) = BitVec.ofNat 24 ((s.fld (coreReg n 0x60) 14 0 + 1) % 2 ^ 15) ∧ t.cores = s.cores)
  ∧ (powered s = true → coreState s n ≠ 2 →
    Does (.ddata .keep n none) s fun t => t.answer = 0 ∧ t.answered = true ∧ t.cores = s.cores)

/-- Register access (R2–R5, R7, R29, R30): the access code of a register acts on every master that the grants admit; the dword at byte
offset 4a of the physical function's BAR0 is I/O word a, and the dword of a virtual function's BAR0 the word in its tenant's window, with bits
[31:24] ignored in a write and 0 in a read; a partial or refused access of a host is counted and has no other effect; a pier's refused
access takes IO_RIGHTS. -/
def Obligations.RegisterAccess : Prop :=
  (∀ (m : Master) (w : BitVec 32) (s : State), Reaches m 0x0A0002 s →
    Does (.registerWrite (.io m 0x0A0002) w) s fun t => { t with io := s.io } = s
      ∧ (∀ a, a ≠ 0x0A0002 → t.rd a = s.rd a)
      ∧ t.rd 0x0A0002 = if m = .keep then (s.rd 0x0A0002 &&& ~~~0x00001F) ||| (w.setWidth 24 &&& 0x00001F) else s.rd 0x0A0002)
  ∧ (∀ (m : Master) (w : BitVec 32) (s : State), Reaches m 0x070000 s →
    Does (.registerWrite (.io m 0x070000) w) s fun t => { t with io := s.io } = s ∧ ∀ a, t.rd a = s.rd a)
  ∧ (∀ (a : Fin 0x1000000) (off : BitVec 26) (be : BitVec 4) (w : BitVec 32) (s : State), powered s = true → be.toNat % 8 = 7 →
    4 * a.val = off.toNat →
    exec (.registerWrite (.bar 0 off be) w) s = exec (.registerWrite (.io .pf (BitVec.ofNat 24 a)) (w &&& 0x00FFFFFF)) s)
  ∧ (∀ (v : Fin 256) (a : Fin 0x8000) (off : BitVec 26) (be : BitVec 4) (w : BitVec 32) (s : State), powered s = true → be.toNat % 8 = 7 →
    4 * a.val = off.toNat →
    exec (.registerWrite (.bar ⟨v.val + 1, by omega⟩ off be) w) s
      = exec (.registerWrite (.io (.vf v) (BitVec.ofNat 24 (0x800000 + 0x8000 * v.val + a))) (w &&& 0x00FFFFFF)) s)
  ∧ (∀ (fn : Fin 257) (off : BitVec 26) (w : BitVec 32) (be : BitVec 4) (s : State), powered s = true → be.toNat % 8 ≠ 7 →
    Does (.registerWrite (.bar fn off be) w) s fun t => RegsKept s t [0x0A001A, 0x0A001B] ∧ { t with io := s.io } = s
      ∧ t.rdN 0x0A001A 2 = min (s.rdN 0x0A001A 2 + 1) (2 ^ 48 - 1))
  ∧ (∀ (fn : Fin 257) (off : BitVec 26) (w : BitVec 32) (be : BitVec 4) (s : State), powered s = true → be.toNat % 8 = 7 →
    mayWrite s (barMaster fn) (barAddr fn off) = false →
    Does (.registerWrite (.bar fn off be) w) s fun t => RegsKept s t [0x0A001C, 0x0A001D] ∧ { t with io := s.io } = s
      ∧ t.rdN 0x0A001C 2 = min (s.rdN 0x0A001C 2 + 1) (2 ^ 48 - 1))
  ∧ (∀ (n : Fin 67) (user : Bool) (a : BitVec 24) (w : BitVec 32) (s : State), powered s = true →
    mayWrite s (.pier n user) a.toNat = false → executing s n = true → (s.core n).stb = [] → Room s n →
    Does (.registerWrite (.io (.pier n user) a) w) s fun t => Enters s t n 5 0 a.toNat (s.core n).pc)
  ∧ (∀ (off : BitVec 26) (s : State), Reads .pf 0x0A0000 s → off.toNat = 4 * 0x0A0000 →
    Does (.hostRegisterRead 0 off true) s fun t => t = { answering (s.rd 0x0A0000) s with dword := (s.rd 0x0A0000).setWidth 32 })
  ∧ (∀ (fn : Fin 257) (off : BitVec 26) (s : State), Reads (barMaster fn) (barAddr fn off) s →
    Does (.hostRegisterRead fn off true) s fun t => t.answer = (ioRead (barMaster fn) (barAddr fn off) s).1 ∧ t.answered = true
      ∧ t.dword.toNat = t.answer.toNat)
  ∧ (∀ (fn : Fin 257) (off : BitVec 26) (mark : Bool) (s : State), powered s = true → mayRead s (barMaster fn) (barAddr fn off) = false →
    Does (.hostRegisterRead fn off mark) s fun t => t.answer = 0 ∧ t.answered = true ∧ t.dword = 0 ∧ RegsKept s t [0x0A001C, 0x0A001D]
      ∧ t.rdN 0x0A001C 2 = min (s.rdN 0x0A001C 2 + 1) (2 ^ 48 - 1))
  ∧ (∀ (fn : Fin 257) (off : BitVec 26) (s : State), Reads (barMaster fn) (barAddr fn off) s →
    Does (.hostRegisterRead fn off false) s fun t => t.answered = false ∧ t.rdN 0x0A001E 2 = min (s.rdN 0x0A001E 2 + 1) (2 ^ 48 - 1))
  ∧ (∀ (s : State) (a n v : Nat), (∀ i < n, (s.wrN a n v).rd (a + i) = BitVec.ofNat 24 (v / 2 ^ (24 * i)))
    ∧ (s.wrN a n v).rdN a n = v % 2 ^ (24 * n)
    ∧ s.rdN a (n + 1) = (s.rd a).toNat + 2 ^ 24 * s.rdN (a + 1) n)

/-! ### Nonvolatile array -/

/-- Commands to the nonvolatile array (R252, R254, R256, R259, R260, R270): a command that R252 and R270 admit waits for its bank,
another leaves only its status; reads go through the window; a swap and a digest are asked for or refused. -/
def Obligations.ArrayCommands : Prop :=
  ∀ (b : Fin 2) (w : Word) (row : Nat) (s : State), powered s = true → row = s.fld (nvaReg b 1) 18 0 →
  (commandStatus s b 1 row = 0 → Does (.program .keep b w) s fun t =>
      t.bank b = { s.bank b with pend := some (.program row (rowOfWords ((List.range 7).map fun k => s.rd (nvaReg b (0x10 + k))))), asked := s.tick }
      ∧ t.bit (nvaReg b 0) 23 = true ∧ t.fld (nvaReg b 0) 22 20 = 1 ∧ t.nva.rows = s.nva.rows)
  ∧ (commandStatus s b 2 row = 0 → Does (.erase .keep b w) s fun t => t.bank b = { s.bank b with pend := some (.erase (row / 256)), asked := s.tick }
      ∧ t.bit (nvaReg b 0) 23 = true ∧ t.fld (nvaReg b 0) 22 20 = 2 ∧ t.nva.rows = s.nva.rows)
  ∧ (commandStatus s b 3 row = 0 → Does (.sealWrite .keep b w) s fun t =>
      t.bank b = { s.bank b with pend := some (.sealWrite row (s.fld (nvaReg b 2) 16 0) []), asked := s.tick }
      ∧ t.bit (nvaReg b 0) 23 = true ∧ t.fld (nvaReg b 0) 22 20 = 3 ∧ t.nva.rows = s.nva.rows)
  ∧ (commandStatus s b 4 row = 0 → Does (.sealRead .keep b w) s fun t =>
      t.bank b = { s.bank b with pend := some (.sealRead row (s.fld (nvaReg b 2) 16 0)), asked := s.tick }
      ∧ t.bit (nvaReg b 0) 23 = true ∧ t.fld (nvaReg b 0) 22 20 = 4 ∧ t.nva.rows = s.nva.rows)
  ∧ (commandStatus s b 1 row ≠ 0 → Does (.program .keep b w) s fun t => t.fld (nvaReg b 3) 19 16 = commandStatus s b 1 row
      ∧ { t with io := s.io } = s ∧ RegsKept s t [nvaReg b 0, nvaReg b 3])
  ∧ ((windowAdmits (Word.slice w 18 0) && memoriesShown s) = true → Does (.readWindow .keep b w) s fun t =>
      t.bank b = { s.bank b with read := some (Word.slice w 18 0) } ∧ t.rd (nvaReg b 4) = BitVec.ofNat 24 (Word.slice w 18 0)
      ∧ t.rd (nvaReg b 5) = BitVec.ofNat 24 (Word.slice w 18 0) ∧ t.rdN (nvaReg b 8) 7 = 0)
  ∧ ((windowAdmits (Word.slice w 18 0) && memoriesShown s) = false → Does (.readWindow .keep b w) s fun t => (t.bank b).read = none
      ∧ t.rd (nvaReg b 5) = BitVec.ofNat 24 (2 ^ 20 + Word.slice w 18 0) ∧ t.rdN (nvaReg b 8) 7 = 0)
  ∧ ((∀ x < 2, (s.bank x).job = none ∧ (s.bank x).pend = none) → s.nva.minVersion.toNat ≤ (imageVersion s (1 - runningBank s)).toNat →
    Does (.nvaSwap .keep w) s fun t => t.nva = { s.nva with swapDue := true } ∧ t.bit 0x060001 20 = false ∧ RegsKept s t [0x060001])
  ∧ ((imageVersion s (1 - runningBank s)).toNat < s.nva.minVersion.toNat →
    Does (.nvaSwap .keep w) s fun t => t.nva = s.nva ∧ t.bit 0x060001 20 = true ∧ RegsKept s t [0x060001])
  ∧ (∀ first n : Nat, s.bit 0x060008 23 = false → first = s.fld 0x060009 18 0 → n = s.fld 0x06000A 19 0 → n ≠ 0 →
    first + n ≤ 1920 * 256 → 656 * 256 ≤ first ∨ first + n ≤ 144 * 256 →
    Does (.digest .keep w) s fun t => t.nva = { s.nva with digest := some (if Word.bit w 22 = true then 1 else 0, first, n) }
      ∧ t.bit 0x060008 23 = true ∧ t.bit 0x060008 21 = false ∧ RegsKept s t [0x060008])
  ∧ (s.bit 0x060008 23 = false → s.fld 0x06000A 19 0 = 0 →
    Does (.digest .keep w) s fun t => t.nva = s.nva ∧ t.bit 0x060008 21 = true ∧ RegsKept s t [0x060008])

/-- What the banks of the nonvolatile array do (R253–R267): pending commands start in CONTROL cells of a free bank and end with
their row, sector or sealed block; reads, copies, slot erases, the bank swap, the digest, levelling and checkpoints. -/
def Obligations.ArrayWork : Prop :=
  ∀ (b : Fin 2) (s : State), powered s = true →
  (∀ (row : Nat) (d : BitVec 168), (s.bank b).pend = some (.program row d) → (s.bank b).job = none → (s.bank b).copies = [] →
    nvaCell s b = 1 → copying s b (row / 256) = false →
    Does (.nvaOpStart b) s fun t => t.bank b = { s.bank b with pend := none, job := some ⟨.program row d, s.tick, s.tick + 7⟩, ran := (s.bank b).asked }
      ∧ t.fld (nvaReg b 3) 23 21 = 1 ∧ t.nva.rows = s.nva.rows)
  ∧ (∀ row daddr : Nat, (s.bank b).pend = some (.sealWrite row daddr []) → (s.bank b).job = none → (s.bank b).copies = [] →
    nvaCell s b = 1 → copying s b (row / 256) = false → s.nva.booted = true →
    Does (.nvaOpStart b) s fun t => t.rdN 0x060006 2 = (s.rdN 0x060006 2 + 1) % 2 ^ 48 ∧ (t.bank b).pend = none
      ∧ (t.bank b).job = some ⟨.sealWrite row daddr (sealBlock s b row (keystoneWords s daddr 48)), s.tick, s.tick + 56⟩)
  ∧ (∀ (row since e pulses : Nat) (d : BitVec 168), (s.bank b).job = some ⟨.program row d, since, e⟩ → e ≤ s.tick →
    s.nvaRow b row = none →
    Does (.nvaOpDone b pulses true []) s fun t => (t.bank b).job = none ∧ Tab.get none t.nva.rows (rowKey s b row) = some d
      ∧ (∀ k, k ≠ rowKey s b row → Tab.get none t.nva.rows k = Tab.get none s.nva.rows k) ∧ t.fld (nvaReg b 3) 19 16 = 0
      ∧ t.bit 0x060002 0 = true ∧ t.rdN (nvaReg b 0x24) 2 = min (s.rdN (nvaReg b 0x24) 2 + 1) (2 ^ 48 - 1))
  ∧ (∀ (row since e pulses : Nat) (d d' : BitVec 168), (s.bank b).job = some ⟨.program row d, since, e⟩ → e ≤ s.tick →
    s.nvaRow b row = some d' →
    Does (.nvaOpDone b pulses true []) s fun t => (t.bank b).job = none ∧ t.nva.rows = s.nva.rows ∧ t.fld (nvaReg b 3) 19 16 = 7)
  ∧ (∀ l since e pulses : Nat, (s.bank b).job = some ⟨.erase l, since, e⟩ → e ≤ s.tick →
    Does (.nvaOpDone b pulses true []) s fun t => (t.bank b).job = none ∧ (∀ i < 256, t.nvaRow b (256 * l + i) = none)
      ∧ (∀ k, ¬ (rowKey s b (256 * l) ≤ k ∧ k < rowKey s b (256 * l) + 256) → Tab.get none t.nva.rows k = Tab.get none s.nva.rows k)
      ∧ t.bit 0x060002 0 = true ∧ t.rdN (nvaReg b 0x26) 2 = min (s.rdN (nvaReg b 0x26) 2 + 1) (2 ^ 48 - 1))
  ∧ (∀ row daddr since e pulses : Nat, (s.bank b).job = some ⟨.sealRead row daddr, since, e⟩ → e ≤ s.tick → s.ppt.sealKey = none →
    Does (.nvaOpDone b pulses true []) s fun t => (∀ i < 48, (t.core 0).load ((daddr + i) % 2 ^ 17) = 0) ∧ t.fld (nvaReg b 3) 19 16 = 6
      ∧ t.nva.rows = s.nva.rows ∧ t.rdN (nvaReg b 0x2A) 2 = min (s.rdN (nvaReg b 0x2A) 2 + 1) (2 ^ 48 - 1))
  ∧ (∀ row : Nat, (s.bank b).read = some row → (s.bank b).job = none → (s.bank b).remapDue = [] →
    Tab.get 0 (s.bank b).grade (physSector s b (row / 256)) ≠ 2 →
    Does (.readWindowDone b 0) s fun t => (t.bank b).read = none ∧ t.rd (nvaReg b 5) = BitVec.ofNat 24 (8 * 2 ^ 20 + row)
      ∧ t.rdN (nvaReg b 8) 7 = (rowData (s.nvaRow b row)).toNat ∧ t.nva.rows = s.nva.rows)
  ∧ (∀ row errors : Nat, (s.bank b).read = some row → (s.bank b).job = none → (s.bank b).remapDue = [] → 2 < errors →
    Does (.readWindowDone b errors) s fun t => (t.bank b).read = none ∧ t.rdN (nvaReg b 8) 7 = 0 ∧ t.bit 0x060002 1 = true
      ∧ Tab.get 0 (t.bank b).grade (physSector s b (row / 256)) = max 3 (Tab.get 0 (s.bank b).grade (physSector s b (row / 256))))
  ∧ (∀ l since e : Nat, (s.bank b).job = some ⟨.copy l [], since, e⟩ → e ≤ s.tick →
    Does (.remapCopyDone b []) s fun t => (t.bank b).job = none ∧ (t.bank b).taken = (s.bank b).taken + 1
      ∧ (t.bank b).remapDue = (s.bank b).remapDue ++ [(l, 1920 + (s.bank b).taken)]
      ∧ t.fld (nvaReg b 3) 7 0 = freeSpares s b - 1 ∧ t.bit 0x060002 3 = true)
  ∧ (backCell s b = true → slotErased s b (s.bank b).slot = false →
    Does (.reserveSlotErase b) s fun t => t.bank b = { s.bank b with
        job := some ⟨.slotErase (40 + (s.bank b).slot / 32), s.tick, s.tick + 63⟩, ran := (s.bank b).asked } ∧ t.fld (nvaReg b 3) 23 21 = 2)
  ∧ (s.nva.swapDue = true →
    Does .bankSwap s fun t => runningBank t = 1 - runningBank s ∧ (t.core 0).pc = 0 ∧ (t.core 0).data = (s.core 0).data
      ∧ t.nva = { s.nva with swapDue := false } ∧ t.spn.pausedUntil = max s.spn.pausedUntil (s.now + 4) ∧ t.bit 0x060002 6 = true
      ∧ RegsKept s t [0x060001, 0x060002])
  ∧ (∀ first n since e : Nat, (s.bank 0).job = some ⟨.digest first n, since, e⟩ → e ≤ s.tick → (s.bank 1).job = none →
    Does (.digestDone []) s fun t => (t.bank 0).job = none ∧ t.bit 0x060008 23 = false
      ∧ t.rdN 0x060010 16 = beNat (Config.sha384 ((List.range n).flatMap fun i => rowBytes (rowData (s.nvaRow 0 (first + i))))) % 2 ^ 384)
  ∧ (∀ l : Nat, taskTakes s 5 (nvaCell s b) true = true → (s.bank b).job = none → levelled s b l = true → (s.bank b).copies = [] →
    Does (.nvaWearLevelling b l) s fun t => t.nva.rows = s.nva.rows ∧ match leastErased s b with
      | none => (t.bank b).job = none
      | some m => if 2 ^ 20 < sectorErases s b l - sectorErases s b m ∧ copying s b l = false ∧ copying s b m = false
          then ∃ e, (t.bank b).job = some ⟨.move l m, s.tick, e⟩ else (t.bank b).job = none)
  ∧ (s.nva.seq % 2 = b → bankWorn s b = false → s.nva.nextAt ≤ s.now → taskTakes s 6 (nvaCell s b) true = true → (s.bank b).job = none → s.pwr.phase = .run → s.vdt.image = none →
    Does (.nvaCheckpointWrite b) s fun t => t.bank b = { s.bank b with
        job := some ⟨.checkpoint (journalSector s b) (checkpointRows s), s.tick, s.tick + (63 + 256 * 7)⟩, ran := (s.bank b).asked }
      ∧ t.fld (nvaReg b 3) 23 21 = 5)

/-! ### Life cycle and debug -/

/-- Life-cycle transitions (R271, R273, R275, R276): a write of LCS_NEXT is accepted or discarded with its ERR; transition mode
begins with the INTENT row, and each step ends with its mark, the last with the copies and a device reset. -/
def Obligations.LifeCycleTransitions : Prop :=
  ∀ s : State, powered s = true →
  (∀ (w : Word) (u : Nat), s.lcy.transit = none → s.lcy.accepted = none → stateOf w = some u → transitionAllowed s.lcs u = true →
    nextRecord s < 63 →
    Does (.lcsNext .keep w) s fun t => t.lcy.accepted = some (w, if s.lcs = 0 ∧ w = codewordOf 1 then 2 else 0)
      ∧ t.rd 0x070002 = w ∧ t.fld 0x070003 23 20 = 0 ∧ t.bit 0x070004 0 = true ∧ RegsKept s t [0x070002, 0x070003, 0x070004])
  ∧ (∀ (w : Word) (u : Nat), s.lcy.transit = none → s.lcy.accepted = none → stateOf w = some u → transitionAllowed s.lcs u = false →
    Does (.lcsNext .keep w) s fun t => t.lcy = s.lcy ∧ t.fld 0x070003 23 20 = 1 ∧ t.bit 0x070004 3 = true)
  ∧ (∀ w : Word, s.lcy.transit = none → s.lcy.accepted = none → stateOf w = none →
    Does (.lcsNext .keep w) s fun t => t.lcy = s.lcy ∧ t.fld 0x070003 23 20 = 4 ∧ t.bit 0x070004 3 = true)
  ∧ (∀ (m : Master) (w : Word), m ≠ .keep → Reaches m 0x070002 s → Does (.lcsNext m w) s fun t => t = s)
  ∧ (∀ (w : Word) (cause : Nat), s.lcy.accepted = some (w, cause) →
    Does .transitionMode s fun t => t.lcy.accepted = none ∧ t.lcy.transit = some
      { target := w, source := s.rd 0x070001, cause := cause, record := nextRecord s, step := .intent, endAt := s.tick + 7,
        todo := stepsOf ((stateOf w).getD 5), abandon := false })
  ∧ (∀ (x : Transit) (rest : List Nat), s.lcy.transit = some x → x.step = .intent → x.endAt ≤ s.tick → x.todo = 1 :: rest →
    Does .transitionStepDone s fun t => t.lcy.transit = some { x with step := .mark 1, todo := rest, endAt := s.tick + 7 }
      ∧ t.ppt.sealKey = none
      ∧ ∀ b < 2, t.nvaRow b (logRow x.record 0) = some (intentRow s x.target x.source x.cause x.record))
  ∧ (∀ x : Transit, s.lcy.transit = some x → x.step = .mark 6 → x.endAt ≤ s.tick → x.todo = [] → x.abandon = false →
    Does .transitionStepDone s fun t => t.lcy.transit = some { x with step := .copies, endAt := s.tick + 21 }
      ∧ t.fld 0x070003 19 16 = 6 ∧ ∀ b < 2, t.nvaRow b (logRow x.record 6) = some (markRow x.record 6))
  ∧ (∀ x : Transit, s.lcy.transit = some x → x.step = .copies → x.endAt ≤ s.tick → x.target ≠ codewordOf 1 →
    Does .transitionStepDone s fun t => t.lcy.transit = some { x with step := .over } ∧ t.pwr.resetDue.isSome = true ∧ t.io = s.io
      ∧ ∀ p ∈ copyPlaces x.record, s.nvaRow p.1 p.2 = none → t.nvaRow p.1 p.2 = some (copyRow x.target x.record))
  ∧ (∀ (x : Transit) (k : Nat), s.lcy.transit = some x → x.step = .provision k → k + 2 ^ 24 ≤ s.tick →
    Does .provisionTimeout s fun t => t.ppt.sealKey = none
      ∧ t.lcy.transit = some { x with step := .mark 1, endAt := s.tick + 7, todo := [3, 4, 5], abandon := true })

/-- Debug (R272, R278–R283): the operations that the level, the rights and the named core admit, and the two ways in which one is
refused; the debug port's registers; the end of a certificate. -/
def Obligations.DebugOperations : Prop :=
  ∀ (n : Fin 67) (s : State), powered s = true →
  (debugLevel s = 2 → n.val ∉ s.lcy.halted → (s.core n).stb = [] →
    Does (.dbgHalt n) s fun t => t.lcy.halted = s.lcy.halted ++ [n.val] ∧ t.bit 0x078000 21 = true ∧ t.fld 0x078010 23 21 = 1)
  ∧ (∀ p : Fin 67, debugLevel s = 1 → s.bit 0x078003 0 = true → n ≠ 0 → pierListed s n = true → n.val ∉ s.lcy.halted →
    coreRun s n = true → (s.core n).stb = [] → freeSpare s = some p.val → p ≠ n →
    Does (.dbgHalt n) s fun t => t.lcy.halted = s.lcy.halted ++ [n.val] ∧ coreState t p = 1)
  ∧ (debugLevel s = 1 → s.bit 0x078003 0 = false →
    Does (.dbgHalt n) s fun t => t.bit 0x078010 17 = true ∧ t.bit 0x078001 0 = true ∧ { t with io := s.io } = s)
  ∧ (debugLevel s = 2 → n ≠ 0 → n.val ∈ s.lcy.halted → coreState s n = 1 → coreRun s n = true → s.pwr.phase = .run →
    s.pwr.safeHold = none → (s.core n).idle = false → (s.core n).stb = [] →
    mayFetch n (s.core n) (s.core n).pc.toNat = true → Tab.get 0 (s.core n).prog (s.core n).pc.toNat = parcel 13 5 0 →
    Does (.dbgStep n) s fun t => (t.core n).pc = (s.core n).pc + 1 ∧ n.val ∈ t.lcy.halted ∧ (t.core n).data = (s.core n).data)
  ∧ (debugLevel s = 2 → n.val ∈ s.lcy.halted →
    Does (.dbgResume n) s fun t => t.lcy.halted = s.lcy.halted.filter (· != n.val)
      ∧ t.bit 0x078000 21 = (s.lcy.halted.filter (· != n.val) != []) ∧ t.cores = s.cores)
  ∧ (debugLevel s = 2 → n.val ∈ s.lcy.halted →
    Does (.dbgRead n 0 true) s fun t => t.answer = debugRegister s n (s.rd 0x078011).toNat ∧ t.answered = true
      ∧ t.rd 0x078012 = t.answer ∧ t.cores = s.cores)
  ∧ (debugLevel s = 2 → n.val ∈ s.lcy.halted → (s.rd 0x078011).toNat < shadowTop n →
    Does (.dbgRead n 1 true) s fun t => t.answer = (s.core n).load (s.rd 0x078011).toNat ∧ t.rd 0x078012 = t.answer ∧ t.cores = s.cores)
  ∧ (debugLevel s = 1 → s.bit 0x078003 1 = false →
    Does (.dbgRead n 0 true) s fun t => t.bit 0x078010 17 = true ∧ t.bit 0x078001 0 = true ∧ t.answer = s.answer)
  ∧ (∀ w : Word, debugLevel s = 2 → n.val ∈ s.lcy.halted → (s.rd 0x078011).toNat < 32 →
    Does (.dbgWrite n 0 w) s fun t => (t.core n).reg (s.rd 0x078011).toNat = w ∧ (t.core n).data = (s.core n).data ∧ OthersKept s t n)
  ∧ (∀ w : Word, debugLevel s = 2 → n.val ∈ s.lcy.halted → (s.rd 0x078011).toNat < shadowTop n →
    Does (.dbgWrite n 1 w) s fun t =>
      (∀ a, (t.core n).load a = if a = (s.rd 0x078011).toNat then w else (s.core n).load a) ∧ OthersKept s t n)
  ∧ (∀ w : Word, debugLevel s = 1 →
    Does (.dbgWrite n 0 w) s fun t => t.bit 0x078010 17 = true ∧ t.bit 0x078001 0 = true ∧ t.cores = s.cores)
  ∧ (debugLevel s = 2 → Does (.traceOn n) s fun t => t.lcy.traced = s.lcy.traced.filter (· != n.val) ++ [n.val])
  ∧ (debugLevel s = 2 → Does .traceOff s fun t =>
      t.lcy.traced = s.lcy.traced.filter (· != s.fld 0x078010 6 0) ∧ t.lcy.trace = s.lcy.trace)
  ∧ (∀ w : Word, debugLevel s ≠ 0 →
    Does (.dbgData (some w)) s fun t => t.rd 0x078012 = w ∧ t.rd 0x078011 = s.rd 0x078011 + 1 ∧ RegsKept s t [0x078011, 0x078012])
  ∧ (debugLevel s ≠ 0 →
    Does (.dbgData none) s fun t => t.answer = s.rd 0x078012 ∧ t.rd 0x078011 = s.rd 0x078011 + 1 ∧ RegsKept s t [0x078011])
  ∧ (∀ w : Word, debugLevel s ≠ 0 → Does (.dbgacc 1 (some w)) s fun t => t.rd 0x078011 = w ∧ RegsKept s t [0x078011])
  ∧ (∀ w : Option Word, debugLevel s = 0 → Does (.dbgacc 0 w) s fun t => t = s)
  ∧ (Does .lcsr s fun t => t.answer = s.rd 0x070000 ∧ t.answered = true ∧ t.lcy.tapWord = s.rd 0x070000 ∧ t.io = s.io)
  ∧ (debugLevel s = 1 → (certExpiryTime s).toNat ≤ s.now →
    Does .certExpiry s fun t => debugLevel t = 0 ∧ t.lcy.halted = [] ∧ t.lcy.traced = [] ∧ t.bit 0x078001 3 = true
      ∧ (∀ i < 8, t.rd (0x078003 + i) = 0) ∧ ∀ k ∈ s.lcy.halted, (t.core k).spare = true)

/-! ### Parapet and entropy -/

/-- Parapet sources (R38, R284, R286–R297, R301): each fires where it is armed and its condition was not present; the loss of the
fabric PLL's lock and a mismatch of the stroke generators lose the stroke; a condition that is over leaves PPT_ACTIVE. -/
def Obligations.ParapetSources : Prop :=
  ∀ s : State, powered s = true →
  (∀ (i : Fin 8) (k : Nat), s.bit (cswReg i) 23 = true → s.fld (cswReg i) 3 0 + 1 ≤ k → Quiet s i → Does (.caseSwitchFire i k) s fun t => Fires s t i)
  ∧ (∀ (i : Fin 8) (k : Nat), s.bit (cswReg i) 23 = false ∨ k ≤ s.fld (cswReg i) 3 0 → Does (.caseSwitchFire i k) s fun t => t = s)
  ∧ (∀ (i : Fin 16) (k : Nat), loopArmed s i = true → s.fld (grdReg i) 3 0 + 1 ≤ k → Quiet s (8 + i) →
    Does (.guardLoopFire i k) s fun t => Fires s t (8 + i))
  ∧ (∀ (i : Fin 16) (k : Nat), loopArmed s i = false ∨ k ≤ s.fld (grdReg i) 3 0 → Does (.guardLoopFire i k) s fun t => t = s)
  ∧ (∀ (v : Fin 7) (c : Fin 2) (mv ns : Nat), mv < s.fld (0x080020 + v) 11 0 ∨ s.fld (0x080020 + v) 23 12 < mv → 1000 ≤ ns →
    s.ppt.testing ≠ some (0x80 + 2 * v.val + c.val) → Quiet s (32 + v) →
    Does (.supplyWindowFire v c mv ns) s fun t => Fires s t (32 + v) ∧ t.bit 0x100000 (8 + v) = false)
  ∧ (∀ (v : Fin 7) (c : Fin 2) (mv ns : Nat), s.fld (0x080020 + v) 11 0 ≤ mv → mv ≤ s.fld (0x080020 + v) 23 12 →
    Does (.supplyWindowFire v c mv ns) s fun t => t.ppt = s.ppt ∧ t.bit 0x100000 (8 + v) = true ∧ RegsKept s t [0x100000])
  ∧ (∀ (v : Fin 7) (mv ns : Nat), nominalMv v < 10 * (max mv (nominalMv v) - min mv (nominalMv v)) → 2 ≤ ns → Quiet s 39 →
    Does (.supplyGlitchFire v mv ns) s fun t => Fires s t 39)
  ∧ (∀ (c : Fin 2) (hz n : Nat), 100 * hz < 99 * 156250000 ∨ 101 * 156250000 < 100 * hz → 64 ≤ n → s.ppt.testing ≠ some (0x8E + c.val) →
    Quiet s 40 → Does (.clockMonitorFire 0 c hz n) s fun t => Fires s t 40 ∧ t.stk = s.stk)
  ∧ (∀ (c : Fin 2) (hz n : Nat), 99 * 156250000 ≤ 100 * hz → 100 * hz ≤ 101 * 156250000 → Does (.clockMonitorFire 0 c hz n) s fun t => t = s)
  ∧ (∀ (c : Fin 2) (w n : Nat), w < 320 → s.ppt.testing ≠ some (0x8E + c.val) → Quiet s 41 →
    Does (.clockMonitorFire 1 c w n) s fun t => Fires s t 41 ∧ t.stk = s.stk)
  ∧ (∀ (c : Fin 2) (w n : Nat), s.ppt.testing ≠ some (0x8E + c.val) → Quiet s 42 →
    Does (.clockMonitorFire 2 c w n) s fun t => Fires s t 42 ∧ t.stk.lost = true)
  ∧ (∀ (c : Fin 2) (w n : Nat), 4 ≤ n → Quiet s 25 → Does (.clockMonitorFire 3 c w n) s fun t => Fires s t 25 ∧ t.stk = s.stk)
  ∧ (Quiet s 43 → Does .strokeGeneratorMismatch s fun t => Fires s t 43 ∧ t.stk.lost = true)
  ∧ (∀ q : Byte, s.now % 2 ^ 10 = 0 → s.fld 0x080028 15 8 < q.toNat → s.fld 0x080028 7 0 ≤ q.toNat → Quiet s 44 →
    Does (.temperatureSample q q q q) s fun t => Fires s t 44 ∧ (∀ k < 4, t.rd (0x080029 + k) = BitVec.ofNat 24 q.toNat) ∧ Quiet t 45)
  ∧ (∀ q : Byte, s.now % 2 ^ 10 = 0 → q.toNat ≤ s.fld 0x080028 15 8 → s.fld 0x080028 7 0 ≤ q.toNat →
    Does (.temperatureSample q q q q) s fun t => t.ppt = s.ppt ∧ (∀ k < 4, t.rd (0x080029 + k) = BitVec.ofNat 24 q.toNat)
      ∧ Quiet t 44 ∧ Quiet t 45)
  ∧ (∀ (i : Fin 24) (ns : Nat), s.bit 0x08002E i = true → 100 ≤ ns → s.ppt.testing ≠ some (0x92 + i.val / 8) → Quiet s 46 →
    Does (.lightFire i ns) s fun t => Fires s t 46)
  ∧ (∀ (i : Fin 24) (ns : Nat), s.bit 0x08002E i = false ∨ ns < 100 → Does (.lightFire i ns) s fun t => t = s)
  ∧ (Quiet s 24 → Does .vbatLow s fun t => Fires s t 24)
  ∧ (∀ (i : Fin 8) (k : Nat), s.bit (cswReg i) 23 = true → ¬ Quiet s i → Does (.caseSwitchFire i k) s fun t => t = s)
  ∧ (∀ k : Fin 64, Does (.sourceConditionCleared k) s fun t => Quiet t k ∧ t.ppt = s.ppt
      ∧ RegsKept s t [0x080004 + k.val / 24] ∧ (Quiet t 42 → Quiet t 43 → t.stk.lost = false))

/-- The parapet's response and its register commands (R285, R287, R290, R298, R299, R303, R304): the firings of a stroke are counted,
latched and recorded at its boundary and the highest class acts; LOCKDOWN ends by a release with no source present. -/
def Obligations.ParapetResponses : Prop :=
  ∀ s : State, powered s = true →
  (∀ src : Fin 64, s.ppt.fired = [⟨src, 1, false⟩] → s.ppt.trec = none →
    Does .parapetResponse s fun t => t.ppt.fired = [] ∧ t.ppt.trec = some ⟨src, 1, s.stk.time, 0, 0, 1⟩
      ∧ t.ppt.lockdown = s.ppt.lockdown ∧ t.ppt.erased = s.ppt.erased ∧ t.bit (0x080010 + src.val / 24) (src.val % 24) = true
      ∧ t.bit 0x080002 0 = true ∧ t.fld (0x080100 + src) 23 0 = min (s.fld (0x080100 + src) 23 0 + 1) (2 ^ 24 - 1))
  ∧ (∀ src : Fin 64, s.ppt.fired = [⟨src, 2, false⟩] → s.ppt.lockdown = none → s.ppt.erased = none →
    Does .parapetResponse s fun t => t.ppt.fired = [] ∧ t.ppt.lockdown = some src.val ∧ t.ppt.erased = none ∧ t.dataPlane = false)
  ∧ (∀ src : Fin 64, s.ppt.fired = [⟨src, 3, false⟩] → s.ppt.erased = none →
    Does .parapetResponse s fun t => t.ppt.fired = [] ∧ t.ppt.erased = some src.val ∧ t.ppt.eraseLeft = some 64)
  ∧ (∀ k : Nat, s.ppt.eraseLeft = some k → Does .eraseDone s fun t => t.ppt = { s.ppt with eraseLeft := none }
      ∧ t.bit 0x080041 23 = false ∧ RegsKept s t [0x080041])
  ∧ (s.ppt.release = true → s.ppt.erased = none → lockdownHeld s = false → s.pwr.safeHold = none →
    Does .lockdownRelease s fun t => t.ppt.lockdown = none ∧ t.ppt.release = false ∧ t.rd 0x080000 = 0 ∧ RegsKept s t [0x080000])
  ∧ (s.ppt.release = true → s.ppt.erased = none → lockdownHeld s = true →
    Does .lockdownRelease s fun t => t.ppt = { s.ppt with release := false } ∧ t.bit 0x080002 3 = true ∧ RegsKept s t [0x080002])
  ∧ (∀ c : Nat, s.pwr.safeHoldDue = some c → s.pwr.safeHold = none →
    Does .safeHold s fun t => t.pwr.safeHold = some c ∧ t.pwr.safeHoldDue = none ∧ t.pwr.heldCause = c ∧ t.dataPlane = false)
  ∧ (∀ w : Word, Word.bit w 23 = false → Word.bit w 21 = false →
    Does (.parapetRelease .keep w) s fun t => t = { s with ppt := { s.ppt with release := true } })
  ∧ (∀ w : Word, Word.slice w 23 22 = 0 →
    Does (.parapetErase .keep w) s fun t => Fires s t 63 ∧ t.ppt.sealKey = none ∧ t.bit 0x080041 23 = true)
  ∧ (∀ (m : Master) (w : Word), Reaches m 0x080042 s →
    Does (.trecClr m w) s fun t => t.ppt = { s.ppt with trec := none } ∧ t.bit 0x080041 22 = false ∧ t.bit 0x080041 20 = false
      ∧ (∀ j < 7, t.rd (0x080080 + j) = 0))
  ∧ (∀ (i : Fin 16) (w : Word) (v : Nat), v = w.toNat % 128 * 2 ^ 24 + (Tab.get 0 s.ppt.seedLo i).toNat → v ≠ 0 →
    Does (.guardSeed .keep i w) s fun t => Tab.get 0 t.ppt.lfsr i = BitVec.ofNat 31 v ∧ t.bit (grdReg i) 21 = true
      ∧ RegsKept s t [grdReg i])

/-- Entropy (R305–R316): a source's failures, its start and its test; the conditioner's blocks and the pool; instances seeded in
order, reseeded at their plan positions, blocked by the fourth miss; reads of words and status. -/
def Obligations.EntropyEvents : Prop :=
  ∀ s : State, powered s = true →
  (∀ (k : Fin 4) (apt : Bool) (bits : List Bool), srcState s k = 1 →
    (if apt = true then proportionFails bits else repetitionFails bits) = true → (∀ r ∈ s.stk.tests, ¬ (r.col = 114 ∧ r.kind = 0x20 + k)) →
    Does (.healthTestFail k apt bits) s fun t => srcState t k = 2 ∧ t.bit 0x090002 1 = true ∧ t.bit (srcReg k) 19 = apt ∧ t.bit (srcReg k) 20 = !apt
      ∧ t.rdN (0x090020 + 2 * apt.toNat) 2 = min (s.rdN (0x090020 + 2 * apt.toNat) 2 + 1) (2 ^ 48 - 1)
      ∧ t.stk.tests = s.stk.tests ++ [⟨114, 0x20 + k, s.now⟩])
  ∧ (∀ (k : Fin 4) (apt : Bool) (bits : List Bool), (if apt = true then proportionFails bits else repetitionFails bits) = false →
    Does (.healthTestFail k apt bits) s fun t => t = s)
  ∧ (∀ (k : Fin 4) (apt : Bool) (bits : List Bool), srcState s k = 0 → (if apt = true then proportionFails bits else repetitionFails bits) = true →
    Does (.healthTestFail k apt bits) s fun t => srcState t k = 0 ∧ passedBits t k = 0 ∧ t.stk = s.stk)
  ∧ (∀ raw : List Bool, 1536 ≤ s.ent.bits → s.ent.pool.length < 8 →
    Does (.conditionedBlock raw) s fun t => t.ent.reg = raw.foldl condShift s.ent.reg ∧ t.ent.bits = s.ent.bits - 1536
      ∧ t.ent.pool = s.ent.pool ++ [(raw.foldl condShift s.ent.reg).setWidth 384]
      ∧ t.rd 0x090004 = BitVec.ofNat 24 (s.ent.pool.length + 1)
      ∧ t.rdN 0x090024 2 = min (s.rdN 0x090024 2 + 1) (2 ^ 48 - 1))
  ∧ (∀ raw : List Bool, 1536 ≤ s.ent.bits → s.ent.pool.length = 8 →
    Does (.conditionedBlock raw) s fun t => t = { s with ent := { s.ent with bits := s.ent.bits - 1536 } })
  ∧ (∀ raw : List Bool, s.ent.bits < 1536 → Does (.conditionedBlock raw) s fun t => t = s)
  ∧ (∀ k : Fin 4, srcState s k = 0 → Tab.get 0 s.ent.since k + 128 ≤ s.tick →
    Does (.startupPass k) s fun t => srcState t k = 1 ∧ RegsKept s t [srcReg k, 0x090001])
  ∧ (∀ (k : Fin 4) (since : Nat), s.ent.testing = [(k.val, since)] → since + 128 ≤ s.tick → s.cell 114 = 2 → srcState s k = 3 →
    Does (.sourceTestEnd k) s fun t => srcState t k = 1 ∧ t.ent.testing = [] ∧ t.bit 0x090002 0 = true)
  ∧ (∀ (i : Fin 6) (e n : BitVec 384) (rest : List (BitVec 384)), seeded s i = false → katFailed s = false →
    (drbgOrder.takeWhile (· != i.val)).all (seeded s) = true → s.ent.pool = e :: n :: rest →
    Does (.instantiate i) s fun t => seeded t i = true ∧ t.ent.pool = rest ∧ (t.drbg i).buf.length = 16
      ∧ (i = 3 → t.bit 0x090001 23 = true) ∧ t.bit 0x090001 i = drbgBlocked s i)
  ∧ (∀ (i : Fin 6) (x : BitVec 384) (rest : List (BitVec 384)), s.now % 4096 = 512 + 128 * i → seeded s i = true →
    (s.drbg i).reseedAt ≠ some s.now → s.ent.pool = x :: rest →
    Does (.reseed i) s fun t => t.ent.pool = rest ∧ drbgBlocked t i = false ∧ t.fld (drbgReg i 1) 7 5 = 0 ∧ (t.drbg i).buf.length = 16
      ∧ t.rdN 0x090026 2 = min (s.rdN 0x090026 2 + 1) (2 ^ 48 - 1))
  ∧ (∀ i : Fin 6, s.now % 4096 = 512 + 128 * i → seeded s i = true → (s.drbg i).reseedAt ≠ some s.now → s.ent.pool = [] →
    Does (.reseed i) s fun t => t.fld (drbgReg i 1) 7 5 = min 4 (s.fld (drbgReg i 1) 7 5 + 1) ∧ t.bit 0x090002 3 = true
      ∧ (drbgBlocked t i = true ↔ drbgBlocked s i = true ∨ 3 ≤ s.fld (drbgReg i 1) 7 5))
  ∧ (∀ (i : Fin 6) (x : BitVec 384) (rest : List (BitVec 384)), drbgBlocked s i = true → s.ent.pool = x :: rest →
    Does (.blockedReseed i) s fun t => t.ent.pool = rest ∧ drbgBlocked t i = false ∧ (t.drbg i).buf.length = 16)
  ∧ (∀ (w : Word) (rest : List Word), (s.drbg 0).buf = w :: rest → seeded s 0 = true → drbgBlocked s 0 = false → katFailed s = false →
    Does (.entDataRead .keep 0) s fun t => t.answer = w ∧ t.answered = true ∧ (t.drbg 0).buf = rest)
  ∧ (seeded s 0 = false →
    Does (.entDataRead .keep 0) s fun t => t.answer = 0 ∧ t.answered = true ∧ t.bit (drbgReg 0 1) 21 = true
      ∧ t.rdN 0x09002A 2 = min (s.rdN 0x09002A 2 + 1) (2 ^ 48 - 1))
  ∧ (∀ i : Fin 6, katFailed s = false →
    Does (.entStatRead .keep i) s fun t => t.answer = s.rd (drbgReg i 1) ∧ t.bit (drbgReg i 1) 21 = false ∧ RegsKept s t [drbgReg i 1])

/-! ### Viaduct -/

/-- The viaduct's messages (R137, R342, R345–R347, R353, R356, R357, R358): what a device sends in a stroke, and what each message
does to the device that hears it in the role it is meant for; a heartbeat that fails its ICV only counts. -/
def Obligations.ViaductMessages : Prop :=
  ∀ s : State, powered s = true →
  (∀ m : Message, viaductRuns s = true → pairKeyed s = true → (∀ x r p h e, Message.heartbeat x r p h e ∉ s.vdt.sent) →
    m = .heartbeat s.stk.time (vdtRole s) (pairState s) (s.bit 0x0B0001 16) s.vdt.stamp →
    Does .heartbeatSend s fun t =>
      t = (if vdtRole s = 1 ∧ s.ppt.lockdown.isSome = true then sendViaduct .relinquish (sendViaduct m s) else sendViaduct m s)
      ∧ t.vdt.sent = s.vdt.sent ++ [m] ++ (if vdtRole s = 1 ∧ s.ppt.lockdown.isSome = true then [.relinquish] else [])
      ∧ t.vwire.frames.take (s.vwire.frames.length + 1) = s.vwire.frames ++ [viaductFrame s m])
  ∧ (∀ b : Beat, viaductHears s = true → b.icvOk = false → s.vdt.sweep = none →
    Does (.heartbeat b) s fun t => t.vdt = s.vdt ∧ t.rdN 0x0B0022 2 = min (s.rdN 0x0B0022 2 + 1) (2 ^ 48 - 1)
      ∧ RegsKept s t [0x0B0022, 0x0B0023])
  ∧ (∀ b : Beat, viaductHears s = true → b.icvOk = false → s.vdt.sweep.isSome = true →
    Does (.heartbeat b) s fun t => t.vdt = { s.vdt with sweep := some (s.tick + 1), samples := [] } ∧ t.bit 0x0B0002 5 = true)
  ∧ (∀ b : Beat, viaductHears s = true → b.icvOk = true →
    Does (.heartbeat b) s fun t => t.fld 0x0B0001 7 0 = 0 ∧ RegsKept s t [0x0B0001] ∧ vdtRole t = vdtRole s
      ∧ t.vdt = { s.vdt with
          beatNow := true
          lastPair := pairState s
          stamp := some (⟨b.time, b.cycle⟩, ⟨s.stk.time, b.arrival⟩)
          samples := s.vdt.samples ++ if s.vdt.sweep.isSome = true ∧ s.vdt.beatNow = false then (exchange s b).toList else [] }
      ∧ pairState t = if pairState s = 5 ∨ (pairState s = 1 ∧ vdtRole s = 1 ∧ s.vdt.rootsEqual = some false ∧ 2 ≤ b.pair.toNat) then 2
          else pairState s)
  ∧ (∀ (p : BitVec 24) (v : BitVec 64), vdtRole s = 2 → viaductHears s = true →
    Does (.res p v) s fun t => t = sendViaduct (.resAck p.toNat v.toNat) { s with vdt := { s.vdt with
      reservations := Tab.set 0 s.vdt.reservations p.toNat v.toNat } })
  ∧ (∀ (p : BitVec 24) (v : BitVec 64), Tab.get none s.plc.extending p.toNat = some v.toNat → viaductHears s = true →
    plateCurrent s p.toNat (plateGen s p.toNat) = true →
    Does (.resAck p v) s fun t => Tab.get none t.plc.extending p.toNat = none ∧ t.io = s.io
      ∧ ∀ i < 3, t.plateWord p.toNat (27 + i) = BitVec.ofNat 24 (v.toNat / 2 ^ (24 * i)))
  ∧ (∀ (k : StrokeTime) (l : List (Nat × BitVec 64)), vdtRole s = 2 → viaductHears s = true →
    Does (.mark k l) s fun t => t = sendViaduct (.markAck k.toNat) { s with vdt := { s.vdt with
      marks := l.foldl (fun t x => Tab.set 0 t x.1 x.2.toNat) s.vdt.marks } })
  ∧ (∀ (k : StrokeTime) (f : Frame), s.vdt.markWait = [k.toNat] → viaductHears s = true → s.dck.frames = [f] →
    f.stage = .held k.toNat → portUp s f.egress = true →
    Does (.markAck k) s fun t => t.vdt = { s.vdt with markWait := [] } ∧ t.dck = { s.dck with frames := [{ f with stage := .ready }] }
      ∧ t.io = s.io)
  ∧ (∀ (id : Nat) (c : Pending), vdtRole s = 2 → viaductHears s = true →
    Does (.setup id (.change c)) s fun t => t.setup = s.setup ++ [c] ∧ match c.eff with
      | .stroke _ => t.vdt.sent = s.vdt.sent ++ [.setupAck id] ∧ t.vdt.owed = s.vdt.owed
      | .slot k => t.vdt.sent = s.vdt.sent ∧ t.vdt.owed = s.vdt.owed ++ [(k, id)])
  ∧ (∀ (id : Nat) (c : Option StoredConfig), vdtRole s = 2 → viaductHears s = true →
    Does (.setup id (.config c)) s fun t => t = sendViaduct (.setupAck id) { s with nva := { s.nva with config := c } })
  ∧ (∀ id : Nat, vdtRole s = 2 → viaductHears s = true →
    Does (.setup id .last) s fun t => pairState t = 4 ∧ t.bit 0x0B0002 2 = true ∧ t.vdt.sent = s.vdt.sent ++ [.setupAck id]
      ∧ RegsKept s t [0x0B0001, 0x0B0002])
  ∧ (∀ (id a : Nat) (w : Word), vdtRole s = 2 → viaductHears s = true → setupRegister a = true → a ≠ 0x018000 → a ≠ 0x030000 →
    Does (.setup id (.registers [(a, w)])) s fun t => t.rd a = w ∧ RegsKept s t [a]
      ∧ t.vdt.sent = s.vdt.sent ++ [.setupAck id])
  ∧ (∀ (id : Nat) (o : ObjectImage), vdtRole s = 2 → viaductHears s = true →
    Does (.setup id (.object o)) s fun t => t.vdt = { s.vdt with sent := s.vdt.sent ++ [.setupAck id] }
      ∧ (Config.kwUnwrap (viaductKek s) o.wrapped = none → t.key = s.key ∧ t.io = s.io))
  ∧ (∀ id : Nat, vdtRole s = 1 → viaductHears s = true → ¬ (pairState s = 3 ∧ s.vdt.resync = some id) →
    Does (.setupAck id) s fun t => t = { s with vdt := { s.vdt with
      setups := s.vdt.setups.filter (·.1 != id), slotWait := s.vdt.slotWait.filter (·.2 != id) } })
  ∧ (∀ id : Nat, vdtRole s = 1 → viaductHears s = true → pairState s = 3 → s.vdt.resync = some id →
    Does (.setupAck id) s fun t => pairState t = 4 ∧ t.bit 0x0B0002 2 = true ∧ t.vdt.resync = none ∧ t.vdt.setups = [])
  ∧ (∀ rows : List Nat, vdtRole s = 2 → viaductHears s = true →
    Does (.ledger rows) s fun t => t = { s with vdt := { s.vdt with image := some (rows.map (BitVec.ofNat 168)) } })
  ∧ (vdtRole s = 2 → viaductHears s = true →
    Does .relinquish s fun t => t = { s with vdt := { s.vdt with relinquished := true } })
  ∧ (∀ (x : StrokeTime) (d : Nat), vdtRole s = 2 → pairState s = 4 → viaductHears s = true → aheadBy s x = some d →
    Does (.handover x) s fun t =>
      t = if 4 ≤ d then sendViaduct .handoverAck { s with vdt := { s.vdt with handoverTo := some x.toNat } } else s)
  ∧ (∀ d : Nat, s.fld 0x0B000B 2 0 = 1 → viaductHears s = true → aheadBy s (handoverTime s) = some d → 4 ≤ d →
    Does .handoverAck s fun t => t = { s with vdt := { s.vdt with handoverAcked := true } })
  ∧ (∀ b : Bool, s.vdt.holdAt ≠ some s.tick → Does (.holdInSample b) s fun t => t.bit 0x0B0001 17 = b ∧ RegsKept s t [0x0B0001]
      ∧ t.vdt = { s.vdt with holdLow := if b = true then 0 else s.vdt.holdLow + 1, holdAt := some s.tick })
  ∧ (∀ b : Bool, s.vdt.holdAt = some s.tick → Does (.holdInSample b) s fun t => t = s)

/-- The pair (R341, R342, R346, R348, R350–R353, R356, R358, R359, R361): the link, sweeps, silence, degradation, resynchronisation,
takeover and handover. -/
def Obligations.ViaductPair : Prop :=
  ∀ s : State, powered s = true →
  (s.bit 0x0B0000 22 = true → s.bit 0x0B0001 18 = false →
    Does .viaductLinkUp s fun t => t.bit 0x0B0001 18 = true ∧ t.bit 0x0B0002 1 = true ∧ t.vdt = s.vdt ∧ RegsKept s t [0x0B0001, 0x0B0002]
      ∧ pairState t = pairState s)
  ∧ (s.bit 0x0B0001 18 = true → pairState s = 0 ∨ pairState s = 5 →
    Does .viaductLinkDown s fun t => t.bit 0x0B0001 18 = false ∧ t.bit 0x0B0002 0 = true ∧ t.vdt = { s.vdt with sweep := none, samples := [] }
      ∧ pairState t = pairState s ∧ vdtRole t = vdtRole s)
  ∧ (s.bit 0x0B0001 18 = true → 1 ≤ pairState s → pairState s ≤ 4 → s.plc.extending = [] → s.dck.frames = [] →
    Does .viaductLinkDown s fun t => t.bit 0x0B0001 18 = false ∧ pairState t = 5 ∧ vdtRole t = vdtRole s
      ∧ t.bit 0x0B0002 0 = true ∧ t.bit 0x0B0002 3 = true ∧ t.vdt.setups = [] ∧ t.vdt.markWait = [] ∧ t.vdt.sweep = none)
  ∧ (8 ≤ s.fld 0x0B0001 7 0 → 2 ≤ pairState s → pairState s ≤ 4 → s.plc.extending = [] → s.dck.frames = [] →
    Does .pairSilence s fun t => pairState t = 5 ∧ t.bit 0x0B0002 3 = true ∧ t.vdt.setups = [] ∧ t.vdt.markWait = []
      ∧ t.vdt.resync = none ∧ RegsKept s t [0x0B0001, 0x0B0002])
  ∧ (s.fld 0x0B0001 7 0 < 8 → Does .pairSilence s fun t => t = s)
  ∧ (∀ k : Nat, k ∈ s.vdt.markWait → k + 8 ≤ s.now → 1 ≤ pairState s → pairState s ≤ 4 → s.plc.extending = [] → s.dck.frames = [] →
    Does .markAckTimeout s fun t => pairState t = 5 ∧ t.bit 0x0B0002 3 = true ∧ t.vdt.markWait = [])
  ∧ (∀ id e : Nat, (id, e) ∈ s.vdt.setups → e ≤ s.now → 1 ≤ pairState s → pairState s ≤ 4 → s.plc.extending = [] → s.dck.frames = [] →
    Does (.setupAckLate id) s fun t => pairState t = 5 ∧ t.bit 0x0B0002 3 = true ∧ t.vdt.setups = [])
  ∧ (s.vdt.sweep = none → viaductHears s = true → 2 ≤ pairState s → pairState s = 2 ∨ s.now % 2 ^ 14 = 0 →
    Does .sweepStart s fun t => t.vdt = { s.vdt with sweep := some s.tick, samples := [] } ∧ t.bit 0x0B0001 14 = true ∧ RegsKept s t [0x0B0001])
  ∧ (∀ b : Nat, s.vdt.sweep = some b → b + 64 ≤ s.tick → s.vdt.samples.length < 64 →
    Does .sweepDone s fun t => t.vdt = { s.vdt with sweep := some (s.tick + 1), samples := [] } ∧ t.bit 0x0B0002 5 = true
      ∧ t.rdN 0x0B0026 2 = min (s.rdN 0x0B0026 2 + 1) (2 ^ 48 - 1))
  ∧ (∀ (b : Nat) (x y : Int), s.vdt.sweep = some b → b + 64 ≤ s.tick → 64 ≤ s.vdt.samples.length →
    x = medianOf (s.vdt.samples.map (·.1)) / 2 → y = medianOf (s.vdt.samples.map (·.2)) → pairState s = 4 → x.natAbs ≤ 8 →
    Does .sweepDone s fun t => t.vdt = { s.vdt with sweep := none, samples := [] } ∧ t.bit 0x0B0001 15 = true ∧ t.bit 0x0B0001 14 = false
      ∧ t.rd 0x0B0010 = BitVec.ofInt 24 x ∧ t.rd 0x0B0011 = BitVec.ofInt 24 y
      ∧ t.rd 0x0B0012 = (if 0 < x then BitVec.ofInt 24 (64 * x) else s.rd 0x0B0012)
      ∧ t.rdN 0x0B0024 2 = min (s.rdN 0x0B0024 2 + 1) (2 ^ 48 - 1))
  ∧ (∀ (b : Nat) (x : Int), s.vdt.sweep = some b → b + 64 ≤ s.tick → 64 ≤ s.vdt.samples.length →
    x = medianOf (s.vdt.samples.map (·.1)) / 2 → pairState s = 4 → 125 < x.natAbs → s.plc.extending = [] → s.dck.frames = [] →
    Does .sweepDone s fun t => pairState t = 5 ∧ t.bit 0x0B0001 15 = false ∧ t.bit 0x0B0002 4 = true ∧ t.bit 0x0B0002 3 = true)
  ∧ (∀ (m : Master) (w : Word), Reaches m 0x0B0004 s → Word.slice w 22 21 = 0 → handoverCause s = 0 →
    Does (.vdtHandover m w) s fun t => t.rd 0x0B000B = 1 ∧ RegsKept s t [0x0B000B]
      ∧ t.vdt = { s.vdt with handoverAcked := false, sent := s.vdt.sent ++ [.handover (handoverTime s)] })
  ∧ (∀ (m : Master) (w : Word), Reaches m 0x0B0004 s → Word.slice w 22 21 = 0 → handoverCause s ≠ 0 →
    Does (.vdtHandover m w) s fun t => t.fld 0x0B000B 7 4 = handoverCause s ∧ RegsKept s t [0x0B000B] ∧ t.vdt = s.vdt)
  ∧ (∀ (m : Master) (w : Word), Reaches m 0x0B0004 s → Word.bit w 23 = false → Word.bit w 21 = false →
    Does (.unpair m w) s fun t => pairState t = 0 ∧ vdtRole t = 0 ∧ Tab.get [] t.key.agreed 4 = [] ∧ t.bit 0x0B0001 14 = false
      ∧ t.vdt.sweep = none ∧ t.vdt.setups = [] ∧ t.vdt.resync = none)
  ∧ (∀ (m : Master) (w : Word), Reaches m 0x0B0004 s → Word.slice w 23 22 = 0 → 2 ≤ pairState s → s.bit 0x0B0001 15 = true →
    s.bit 0x0B0001 18 = true → vdtRole s ≠ 2 →
    Does (.resync m w) s fun t => pairState t = 3 ∧ ∃ l : List Mirrored, l.getLast? = some .last
      ∧ t.vdt.sent = s.vdt.sent ++ l.zipIdx.map (fun x => Message.setup (s.vdt.nextSetup + x.2) x.1)
      ∧ t.vdt.resync = some (s.vdt.nextSetup + l.length - 1) ∧ t.vdt.nextSetup = s.vdt.nextSetup + l.length)
  ∧ (takeoverDue s = true →
    Does .takeover s fun t => vdtRole t = 1 ∧ pairState t = 0 ∧ t.bit 0x0B0002 6 = true ∧ t.vdt.reservations = [] ∧ t.vdt.marks = []
      ∧ t.vdt.relinquished = false)
  ∧ (takeoverDue s = false → Does .takeover s fun t => t = s)
  ∧ (vdtRole s = 1 → s.fld 0x0B000B 2 0 = 2 → handoverTime s = s.stk.time →
    Does .handoverStroke s fun t => vdtRole t = 2 ∧ t.bit 0x0B0001 16 = false ∧ t.bit 0x0B0002 7 = true)
  ∧ (vdtRole s = 2 → s.vdt.handoverTo = some s.now →
    Does .handoverStroke s fun t => vdtRole t = 1 ∧ t.bit 0x0B0002 7 = true ∧ t.vdt.handoverTo = none)

/-! ### Custodian interfaces -/

/-- The contactless reader (R370, R371, R373–R384): a command waits for its boundary with what the token will answer; an operation
ends with its RESULT and the entry's state; the field settles and fails; pings detect or move the baseline; quiet entries expire. -/
def Obligations.ContactlessReader : Prop :=
  ∀ s : State, powered s = true →
  (∀ (m : Master) (w : Word), Reaches m 0x0C0004 s →
    (∀ (l : List Token) (n : Nat),
      (∀ x ∈ l, x.uid.length = 7 ∨ (x.utvetos = false ∧ (x.uid.length = 4 ∨ x.uid.length = 10))) →
      Does (.clrSearch m w l n) s fun t => t = { s with
        clr := { s.clr with written := s.clr.written ++ [⟨1, Word.slice w 2 0, .tokens l n, s.tick⟩] } })
    ∧ (∀ (a : Answer) (r : BitVec 2), Does (.clrActivate m w a r) s fun t => t = { s with
        clr := { s.clr with written := s.clr.written ++ [⟨2, Word.slice w 2 0, .answer a r.toNat, s.tick⟩] } })
    ∧ (∀ a : Answer, Does (.clrExchange m w a) s fun t => t = { s with
        clr := { s.clr with written := s.clr.written ++ [⟨3, Word.slice w 2 0, .answer a 0, s.tick⟩] } })
    ∧ (∀ a : Answer, Does (.clrDeactivate m w a) s fun t => t = { s with
        clr := { s.clr with written := s.clr.written ++ [⟨4, Word.slice w 2 0, .answer a 0, s.tick⟩] } })
    ∧ Does (.clrQuiet m w) s (fun t => t = { s with
        clr := { s.clr with written := s.clr.written ++ [⟨5, Word.slice w 2 0, .open_, s.tick⟩] } })
    ∧ (∀ r : Option Byte, Does (.clrUnlock m w r) s fun t => t = { s with
        clr := { s.clr with written := s.clr.written ++ [⟨6, Word.slice w 2 0, .unlock r, s.tick⟩] } })
    ∧ (∀ b : Bool, Does (.clrAbort m w b) s fun t => t = { s with clr := { s.clr with abort := some b } })
    ∧ Does (.fieldOff m w) s (fun t => t = { s with
        clr := { s.clr with written := s.clr.written ++ [⟨8, Word.slice w 2 0, .open_, s.tick⟩] } }))
  ∧ (∀ (m : Master) (w : Word) (l : List Token) (n : Nat),
    (∃ x ∈ l, x.uid.length ≠ 7 ∧ (x.utvetos = true ∨ (x.uid.length ≠ 4 ∧ x.uid.length ≠ 10))) →
    exec (.clrSearch m w l n) s = .fault .malformed)
  ∧ (∀ (e b r : Nat) (rx : Bytes), s.clr.busy = some ⟨2, e, .answer (.ok rx) r, b⟩ → e < 8 → b < s.tick → s.clr.abort = none →
    clrState s = 5 →
    Does .clrOpDone s fun t => t.clr.busy = none ∧ tokState t e = 1 ∧ t.rd 0x0C0005 = 0 ∧ t.bit 0x0C0002 0 = true ∧ clrState t = 3
      ∧ t.fld (tokReg e 0) 7 6 = if tokIso4 s e = true then min r (s.fld 0x0C0000 15 14) else 0)
  ∧ (∀ (e b : Nat) (rx : Bytes), s.clr.busy = some ⟨3, e, .answer (.ok rx) 0, b⟩ → rx.length ≤ 256 → b < s.tick → s.clr.abort = none →
    clrState s = 5 →
    Does .clrOpDone s fun t => t.clr.busy = none ∧ t.clr.rx = rx ∧ t.rd 0x0C0008 = BitVec.ofNat 24 rx.length ∧ t.rd 0x0C0005 = 0
      ∧ t.bit 0x0C0002 0 = true ∧ clrState t = 3)
  ∧ (∀ (e b op : Nat), s.clr.busy = some ⟨op, e, .answer .timeout 0, b⟩ → 2 ≤ op → op ≤ 4 → e < 8 → s.clr.abort = none →
    s.clr.awaited + (repeats s ⟨op, e, .answer .timeout 0, b⟩ + 1 - s.clr.retries) * waitLimit s ⟨op, e, .answer .timeout 0, b⟩ ≤ s.tick →
    Does .clrOpDone s fun t => t.clr.busy = none ∧ tokState t e = 2 ∧ t.fld 0x0C0005 23 20 = 3 ∧ t.bit 0x0C0002 4 = true)
  ∧ (∀ (e b : Nat), s.clr.busy = some ⟨5, e, .open_, b⟩ → e < 8 → b < s.tick → s.clr.abort = none →
    Does .clrOpDone s fun t => t.clr.busy = none ∧ tokState t e = 3 ∧ t.rd 0x0C0005 = 0 ∧ Tab.get 0 t.clr.quiet e = s.tick)
  ∧ (∀ (e b : Nat), s.clr.busy = some ⟨6, e, .unlock (some 0), b⟩ → b < s.tick → s.clr.abort = none →
    Does .clrOpDone s fun t => t.clr.busy = none ∧ t.rd 0x0C0005 = 0 ∧ t.clr.wrong = s.clr.wrong)
  ∧ (∀ (e b : Nat) (v : Byte), s.clr.busy = some ⟨6, e, .unlock (some v), b⟩ → v = 1 ∨ v = 2 ∨ v = 0xFF → b < s.tick → s.clr.abort = none →
    Does .clrOpDone s fun t => t.clr.busy = none ∧ t.fld 0x0C0005 23 20 = 6
      ∧ t.rdN 0x0C020E 2 = min (s.rdN 0x0C020E 2 + 1) (2 ^ 48 - 1))
  ∧ (∀ (e b : Nat) (v : Byte), s.clr.busy = some ⟨6, e, .unlock (some v), b⟩ → v ≠ 0 → v ≠ 1 → v ≠ 2 → v ≠ 0xFF → b < s.tick →
    s.clr.abort = none → Does .clrOpDone s fun t => t.clr.busy = none ∧ t.fld 0x0C0005 23 20 = 2 ∧ t.clr.wrong = s.clr.wrong)
  ∧ (∀ (e b n : Nat), s.clr.busy = some ⟨1, e, .tokens [] n, b⟩ → n ≤ 16 → b < s.tick → s.clr.abort = none → s.clr.hold = false →
    Does .clrOpDone s fun t => t.clr.busy = none ∧ t.rd 0x0C0005 = 0 ∧ t.bit 0x0C0002 1 = true ∧ t.bit 0x0C0001 19 = false
      ∧ t.rdN 0x0C0200 2 = min (s.rdN 0x0C0200 2 + 1) (2 ^ 48 - 1) ∧ t.rdN 0x0C0202 2 = min (s.rdN 0x0C0202 2 + n) (2 ^ 48 - 1))
  ∧ (clrState s = 2 → s.clr.settled ≤ s.tick →
    Does .fieldSettled s fun t => clrState t = 3 ∧ t.clr = s.clr ∧ RegsKept s t [0x0C0001])
  ∧ (s.bit 0x0C0001 23 = true →
    Does .fieldFault s fun t => clrState t = 6 ∧ t.bit 0x0C0001 23 = false ∧ t.bit 0x0C0002 5 = true ∧ t.clr.busy = none
      ∧ t.clr.faultCleared = false)
  ∧ (∀ (x : ClrOp) (c : Bool), s.clr.busy = some x → x.op ≠ 1 → x.op ≠ 5 → c = true ∨ s.clr.awaited + waitLimit s x ≤ s.tick →
    s.clr.retries < repeats s x →
    Does (.clrBlockTimeout c) s fun t => t.clr = { s.clr with retries := s.clr.retries + 1, awaited := s.tick, wtx := 1 }
      ∧ t.rdN (if c = true then 0x0C0206 else 0x0C0204) 2 = min (s.rdN (if c = true then 0x0C0206 else 0x0C0204) 2 + 1) (2 ^ 48 - 1))
  ∧ (∀ (x : ClrOp) (c : Bool), s.clr.busy = some x → x.op ≠ 1 → x.op ≠ 5 → c = true ∨ s.clr.awaited + waitLimit s x ≤ s.tick →
    repeats s x ≤ s.clr.retries → x.entry < 8 →
    Does (.clrBlockTimeout c) s fun t => t.clr.busy = none ∧ t.fld 0x0C0005 23 20 = (if c = true then 2 else 3)
      ∧ (c = false → tokState t x.entry = 2))
  ∧ (∀ (x : ClrOp) (n : Byte), s.clr.busy = some x → blockOp s x = true → 1 ≤ n.toNat → n.toNat ≤ 59 →
    Does (.clrWtx n) s fun t => t.clr = { s.clr with wtx := n.toNat, awaited := s.tick, air := s.clr.air ++ [[0xF2, n]] }
      ∧ t.rdN 0x0C0208 2 = min (s.rdN 0x0C0208 2 + 1) (2 ^ 48 - 1) ∧ RegsKept s t [0x0C0208, 0x0C0209])
  ∧ (∀ (x : ClrOp) (n : Byte), s.clr.busy = some x → blockOp s x = true → n.toNat = 0 ∨ 59 < n.toNat →
    Does (.clrWtx n) s fun t => t.clr.busy = none ∧ t.fld 0x0C0005 23 20 = 2)
  ∧ (∀ a p : BitVec 12, clrState s = 1 → s.clr.pinged + 8 * s.fld 0x0C000C 15 0 ≤ s.tick →
    ((a.toNat : Int) - s.fld 0x0C000D 23 12).natAbs + ((p.toNat : Int) - s.fld 0x0C000D 11 0).natAbs ≤ s.fld 0x0C000C 23 16 →
    Does (.lpcdPing a p) s fun t => t.rd 0x0C000E = BitVec.ofNat 24 (a.toNat * 2 ^ 12 + p.toNat) ∧ RegsKept s t [0x0C000D, 0x0C000E]
      ∧ t.clr = { s.clr with pinged := s.tick }
      ∧ t.fld 0x0C000D 23 12 = (s.fld 0x0C000D 23 12 + ((a.toNat : Int) - s.fld 0x0C000D 23 12).tdiv 16).toNat
      ∧ t.fld 0x0C000D 11 0 = (s.fld 0x0C000D 11 0 + ((p.toNat : Int) - s.fld 0x0C000D 11 0).tdiv 16).toNat)
  ∧ (∀ a p : BitVec 12, clrState s = 1 → s.clr.pinged + 8 * s.fld 0x0C000C 15 0 ≤ s.tick →
    s.fld 0x0C000C 23 16 < ((a.toNat : Int) - s.fld 0x0C000D 23 12).natAbs + ((p.toNat : Int) - s.fld 0x0C000D 11 0).natAbs →
    Does (.lpcdPing a p) s fun t => t.rd 0x0C000E = BitVec.ofNat 24 (a.toNat * 2 ^ 12 + p.toNat) ∧ t.bit 0x0C0002 3 = true
      ∧ t.rd 0x0C000D = s.rd 0x0C000D ∧ t.rdN 0x0C020A 2 = min (s.rdN 0x0C020A 2 + 1) (2 ^ 48 - 1)
      ∧ (s.bit 0x0C0000 21 = true → t.clr.hold = true ∧ t.clr.written = s.clr.written ++ [⟨1, 0, .open_, s.tick⟩]))
  ∧ (∀ e : Fin 8, quietExpired s e = true →
    Does (.quietExpiry e) s fun t => tokValid t e = false ∧ ∀ i < 5, t.rd (tokReg e i) = 0)
  ∧ (∀ e : Fin 8, quietExpired s e = false → Does (.quietExpiry e) s fun t => t = s)

/-- The contact card (R385–R388, R396): commands wait for their boundary with what the card will answer; an activation, an exchange,
a deactivation and a resynchronisation end with their RESULT; retries, insertion, removal and overcurrent. -/
def Obligations.ContactCard : Prop :=
  ∀ s : State, powered s = true →
  (∀ (m : Master) (w : Word), Reaches m 0x0C1004 s →
    (∀ a : Option Bytes, Does (.iccActivate m w a) s fun t => t = { s with
      icc := { s.icc with written := s.icc.written ++ [⟨1, .atr a, s.tick⟩] } })
    ∧ (∀ a : Answer, Does (.iccExchange m w a) s fun t => t = { s with
      icc := { s.icc with written := s.icc.written ++ [⟨2, .answer a, s.tick⟩] } })
    ∧ Does (.iccDeactivate m w) s (fun t => t = { s with icc := { s.icc with written := s.icc.written ++ [⟨3, .open_, s.tick⟩] } })
    ∧ Does (.iccAbort m w) s (fun t => t = { s with icc := { s.icc with abort := true } })
    ∧ (∀ b : Bool, Does (.iccResynch m w b) s fun t => t = { s with
      icc := { s.icc with written := s.icc.written ++ [⟨5, .resynch b, s.tick⟩] } }))
  ∧ (∀ (b : Nat), s.icc.busy = some ⟨1, .atr none, b⟩ → b < s.tick → s.icc.retryAt = none → s.icc.abort = false →
    Does .iccOpDone s fun t => t.icc.busy = none ∧ t.fld 0x0C1005 23 20 = 1 ∧ t.bit 0x0C1002 0 = true ∧ t.bit 0x0C1001 22 = false
      ∧ iccState t = if s.bit 0x0C1001 23 = true then 1 else 0)
  ∧ (∀ (b : Nat) (rx : Bytes), s.icc.busy = some ⟨2, .answer (.ok rx), b⟩ → rx.length ≤ 258 → b < s.tick → s.icc.retryAt = none →
    s.icc.abort = false → iccState s = 4 →
    Does .iccOpDone s fun t => t.icc.busy = none ∧ t.icc.rx = rx ∧ t.rd 0x0C1005 = 0 ∧ t.rd 0x0C1008 = BitVec.ofNat 24 rx.length
      ∧ iccState t = 3 ∧ t.bit 0x0C1002 0 = true)
  ∧ (∀ (b : Nat), s.icc.busy = some ⟨2, .answer .protocol, b⟩ → b < s.tick → s.icc.retryAt = none → s.icc.abort = false →
    Does .iccOpDone s fun t => t.icc.busy = none ∧ t.fld 0x0C1005 23 20 = 2 ∧ t.bit 0x0C1001 22 = false)
  ∧ (∀ (b : Nat), s.icc.busy = some ⟨3, .open_, b⟩ → b < s.tick → s.icc.retryAt = none → s.icc.abort = false →
    Does .iccOpDone s fun t => t.icc.busy = none ∧ t.rd 0x0C1005 = 0 ∧ t.bit 0x0C1001 22 = false ∧ t.rd 0x0C1009 = 0)
  ∧ (∀ (b : Nat), s.icc.busy = some ⟨5, .resynch true, b⟩ → b < s.tick → s.icc.retryAt = none → s.icc.abort = false →
    Does .iccOpDone s fun t => t.icc.busy = none ∧ t.rd 0x0C1005 = 0 ∧ t.fld 0x0C1001 16 15 = 0
      ∧ t.rdN 0x0C1016 2 = min (s.rdN 0x0C1016 2 + 1) (2 ^ 48 - 1))
  ∧ (∀ x : IccOp, s.icc.busy = some x → s.icc.retries < 2 →
    Does .iccBlockTimeout s fun t => t.icc = { s.icc with retries := s.icc.retries + 1 }
      ∧ t.rdN 0x0C1014 2 = min (s.rdN 0x0C1014 2 + 1) (2 ^ 48 - 1) ∧ RegsKept s t [0x0C1014, 0x0C1015])
  ∧ (∀ x : IccOp, s.icc.busy = some x → s.icc.retries = 2 →
    Does .iccBlockTimeout s fun t => t.icc = { s.icc with retries := 3 } ∧ t.fld 0x0C1001 16 15 = 0
      ∧ t.rdN 0x0C1016 2 = min (s.rdN 0x0C1016 2 + 1) (2 ^ 48 - 1))
  ∧ (∀ x : IccOp, s.icc.busy = some x → 2 < s.icc.retries →
    Does .iccBlockTimeout s fun t => t.icc.busy = none ∧ t.fld 0x0C1005 23 20 = 2 ∧ t.bit 0x0C1001 22 = false)
  ∧ (∀ (x : IccOp) (n : Byte), s.icc.busy = some x → n ≠ 0 →
    Does (.iccWtx n) s fun t => t.icc = s.icc ∧ t.rdN 0x0C1018 2 = min (s.rdN 0x0C1018 2 + 1) (2 ^ 48 - 1)
      ∧ RegsKept s t [0x0C1018, 0x0C1019])
  ∧ (∀ b : Nat, s.icc.retryAt = some b → b ≤ s.tick →
    Does (.iccClassRetry none) s fun t => t.icc.busy = none ∧ t.icc.retryAt = none ∧ t.fld 0x0C1005 23 20 = 1 ∧ t.bit 0x0C1001 22 = false)
  ∧ (∀ (b : Nat) (a : Bytes), s.icc.retryAt = some b → b ≤ s.tick → (atrProtocols a).contains 1 = true → s.fld 0x0C1001 21 20 = 2 →
    atrClasses a / 2 % 2 = 1 →
    Does (.iccClassRetry (some a)) s fun t => t.icc.busy = none ∧ t.icc.rx = a ∧ t.rd 0x0C1005 = 0 ∧ iccState t = 3
      ∧ t.bit 0x0C1001 22 = true ∧ t.bit 0x0C1002 1 = true ∧ t.rd 0x0C1008 = BitVec.ofNat 24 a.length)
  ∧ (s.bit 0x0C1001 23 = true →
    Does .iccCardRemoved s fun t => t.bit 0x0C1001 23 = false ∧ t.bit 0x0C1001 22 = false ∧ iccState t = 0 ∧ t.bit 0x0C1002 3 = true
      ∧ t.icc.busy = none ∧ t.rdN 0x0C1012 2 = min (s.rdN 0x0C1012 2 + 1) (2 ^ 48 - 1)
      ∧ (s.icc.busy.isSome = true → t.fld 0x0C1005 23 20 = 3 ∧ t.icc.rx = []))
  ∧ (s.bit 0x0C1001 23 = false →
    Does .iccCardInserted s fun t => t.bit 0x0C1001 23 = true ∧ iccState t = 1 ∧ t.bit 0x0C1002 2 = true ∧ t.icc = s.icc
      ∧ RegsKept s t [0x0C1001, 0x0C1002])
  ∧ (∀ n : Nat, s.bit 0x0C1001 22 = true → (s.fld 0x0C1001 21 20 = 2 ∧ 60 < n) ∨ (s.fld 0x0C1001 21 20 = 1 ∧ 40 < n) →
    Does (.iccOvercurrent n) s fun t => iccState t = 6 ∧ t.bit 0x0C1001 22 = false ∧ t.bit 0x0C1002 4 = true ∧ t.icc.busy = none
      ∧ t.rdN 0x0C101A 2 = min (s.rdN 0x0C101A 2 + 1) (2 ^ 48 - 1))
  ∧ (∀ n : Nat, n ≤ 40 → Does (.iccOvercurrent n) s fun t => t = s)

/-- The removable card (R388–R392, R394, R395, R397): commands wait for their boundary; INIT gives mode and capacity, a transfer ends once
every block is done or the card reports an error; tuning, busy time-out, insertion and removal; a container read is offered to the class 3
quorum (log 153, DESIGN CHOICE: that a READ is for a container comes with the command). -/
def Obligations.RemovableCard : Prop :=
  ∀ s : State, powered s = true →
  (∀ (m : Master) (w : Word), Reaches m 0x0C2004 s →
    (∀ (c : Bool) (d : Fin 6) (b : BitVec 32) (u : Bool), Does (.rmcInit m w c d b u) s fun t => t = { s with
      rmc := { s.rmc with written := s.rmc.written ++ [⟨1, .init c d b.toNat u, s.tick, .raw, false⟩] } })
    ∧ (∀ (l : List Bytes) (c k r : Bool) (u : BoxUse), (∀ x ∈ l, x.length = 512) → Does (.rmcRead m w l c k r u) s fun t => t = { s with
      rmc := { s.rmc with written := s.rmc.written ++ [⟨2, .read l c k r, s.tick, u, false⟩] } })
    ∧ (∀ (r : Bool) (u : BoxUse), Does (.rmcWrite m w r u) s fun t => t = { s with
      rmc := { s.rmc with written := s.rmc.written ++ [⟨3, .write r, s.tick, u, false⟩] } })
    ∧ Does (.rmcAbort m w) s (fun t => t = { s with rmc := { s.rmc with abort := true } })
    ∧ Does (.rmcPowerOff m w) s (fun t => t = { s with rmc := { s.rmc with written := s.rmc.written ++ [⟨5, .open_, s.tick, .raw, false⟩] } }))
  ∧ (∀ (m : Master) (w : Word) (l : List Bytes) (c k r : Bool) (u : BoxUse), (∃ x ∈ l, x.length ≠ 512) →
    exec (.rmcRead m w l c k r u) s = .fault .malformed)
  ∧ (∀ (b blocks : Nat) (d : Fin 6) (u : Bool) (q : BoxUse), s.rmc.busy = some ⟨1, .init true d blocks u, b, q, false⟩ → blocks < 2 ^ 32 → b < s.tick →
    s.rmc.abort = false →
    Does .rmcOpDone s fun t => t.rmc.busy = none ∧ rmcState t = 3 ∧ t.rd 0x0C2005 = 0 ∧ t.rdN 0x0C200B 2 = blocks ∧ t.bit 0x0C2002 1 = true
      ∧ t.fld 0x0C2001 20 18 = (if min d.val (s.fld 0x0C2000 21 19) = 5 ∧ u = false then 4 else min d.val (s.fld 0x0C2000 21 19))
      ∧ t.bit 0x0C2001 21 = decide (2 ≤ min d.val (s.fld 0x0C2000 21 19)))
  ∧ (∀ (b blocks : Nat) (d : Fin 6) (u : Bool) (q : BoxUse), s.rmc.busy = some ⟨1, .init false d blocks u, b, q, false⟩ → b < s.tick → s.rmc.abort = false →
    Does .rmcOpDone s fun t => t.rmc.busy = none ∧ t.fld 0x0C2005 23 20 = 6 ∧ t.bit 0x0C2001 22 = false)
  ∧ (∀ (b op : Nat) (q : BoxUse), s.rmc.busy = some ⟨op, .open_, b, q, false⟩ → 2 ≤ op → op ≤ 3 → b < s.tick → s.rmc.abort = false → rmcState s = 4 →
    rmcBlocks s ≤ s.fld 0x0C200A 15 0 →
    Does .rmcOpDone s fun t => t.rmc.busy = none ∧ t.rd 0x0C2005 = 0 ∧ rmcState t = 3 ∧ t.bit 0x0C2002 0 = true)
  ∧ (∀ (b : Nat) (l : List Bytes) (k r : Bool) (q : BoxUse), s.rmc.busy = some ⟨2, .read l false k r, b, q, false⟩ → b < s.tick →
    s.rmc.abort = false → rmcState s = 4 → s.fld 0x0C2001 20 18 ≠ 5 →
    Does .rmcOpDone s fun t => t.rmc = { s.rmc with busy := none } ∧ t.fld 0x0C2005 23 20 = 2 ∧ rmcState t = 3
      ∧ t.rdN 0x0C2014 2 = min (s.rdN 0x0C2014 2 + 1) (2 ^ 48 - 1))
  ∧ (∀ (b : Nat) (l : List Bytes) (k r : Bool) (q : BoxUse), s.rmc.busy = some ⟨2, .read l false k r, b, q, false⟩ → b < s.tick →
    s.rmc.abort = false → s.fld 0x0C2001 20 18 = 5 → s.rmc.retune = false →
    Does .rmcOpDone s fun t => t.rmc = { s.rmc with retune := true } ∧ rmcState t = rmcState s
      ∧ t.rdN 0x0C2014 2 = min (s.rdN 0x0C2014 2 + 1) (2 ^ 48 - 1))
  ∧ (∀ (x : RmcOp) (u : Bool), s.rmc.busy = some x → x.op = 2 → s.fld 0x0C2001 20 18 = 5 → rmcState s = 4 → s.rmc.retune = true →
    Does (.rmcRetune u) s fun t => t.rmc = { s.rmc with
        busy := some { x with retried := true }, tunedAt := s.tick, retune := false, rx := [], seen := [] }
      ∧ t.fld 0x0C2001 20 18 = (if u = true then 5 else 4) ∧ t.rd 0x0C200A = 0)
  ∧ (∀ (b : Nat) (q : BoxUse), s.rmc.busy = some ⟨3, .write false, b, q, false⟩ → b < s.tick → s.rmc.abort = false →
    Does .rmcOpDone s fun t => t.rmc.busy = none ∧ t.fld 0x0C2005 23 20 = 8)
  ∧ (∀ b : Nat, s.rmc.busy = some ⟨2, .open_, b, .offer, false⟩ → b < s.tick → s.rmc.abort = false →
    rmcBlocks s ≤ s.fld 0x0C200A 15 0 → quorumSize s 3 = 0 →
    Does .rmcOpDone s fun t => t.rmc.busy = none ∧ t.key = { s.key with due := s.key.due ++ [(3, .pier 0 256, .backup s.rmc.seen)] })
  ∧ (∀ b : Nat, s.rmc.busy = some ⟨2, .open_, b, .restore, false⟩ → b < s.tick → s.rmc.abort = false →
    rmcBlocks s ≤ s.fld 0x0C200A 15 0 → quorumSize s 3 = 0 →
    Does .rmcOpDone s fun t => t.rmc.busy = none ∧ t.key = { s.key with due := s.key.due ++ [(3, .pier 0 256, .restore s.rmc.seen)] })
  ∧ (∀ u : Bool, s.fld 0x0C2001 20 18 = 5 → rmcState s = 3 → s.rmc.retune = true ∨ s.rmc.tunedAt + 2 ^ 22 ≤ s.tick →
    Does (.rmcRetune u) s fun t => t.rmc = { s.rmc with tunedAt := s.tick, retune := false } ∧ t.bit 0x0C2001 14 = u
      ∧ t.fld 0x0C2001 20 18 = (if u = true then 5 else 4) ∧ t.rdN 0x0C2016 2 = min (s.rdN 0x0C2016 2 + 1) (2 ^ 48 - 1))
  ∧ (∀ x : RmcOp, s.rmc.busy = some x →
    Does .rmcBusyTimeout s fun t => t.rmc = { s.rmc with busy := none } ∧ t.fld 0x0C2005 23 20 = 1
      ∧ t.rdN 0x0C2018 2 = min (s.rdN 0x0C2018 2 + 1) (2 ^ 48 - 1))
  ∧ (s.bit 0x0C2001 23 = true →
    Does .rmcCardRemoved s fun t => t.bit 0x0C2001 23 = false ∧ rmcState t = 0 ∧ t.bit 0x0C2002 3 = true ∧ t.rmc.busy = none
      ∧ t.rdN 0x0C201A 2 = min (s.rdN 0x0C201A 2 + 1) (2 ^ 48 - 1) ∧ (s.rmc.busy.isSome = true → t.fld 0x0C2005 23 20 = 3))
  ∧ (s.bit 0x0C2001 23 = false →
    Does .rmcCardInserted s fun t => t.bit 0x0C2001 23 = true ∧ rmcState t = 1 ∧ t.bit 0x0C2002 2 = true ∧ t.rmc = s.rmc
      ∧ RegsKept s t [0x0C2001, 0x0C2002])

/-! ### Setup, ledger, lamps, counters -/

/-- The usage ledger's clock and periods (R398–R401, R406, R407): a period closes at the first boundary at which W reaches its end,
into the snapshot bank, unless the snapshot is held; the clock is set at a boundary with its regression or advance; every channel adds
to Q7. -/
def Obligations.LedgerPeriods : Prop :=
  ∀ s : State, powered s = true →
  (∀ (m : Master) (w : Word), Reaches m 0x0D0010 s →
    Does (.snapRelease m w) s fun t => t.bit 0x0D0001 22 = false ∧ RegsKept s t [0x0D0001] ∧ { t with io := s.io } = s)
  ∧ (∀ (m : Master) (w : Word), Reaches m 0x0D000F s →
    Does (.lgrSetGo m w) s fun t => t = { s with lgr := { s.lgr with setDue := some (s.rdN 0x0D000C 3 % 2 ^ 64) } })
  ∧ (∀ (n : Nat) (r : Chan), s.stk.time.num.toNat % 2 ^ 16 = 0 → s.stk.done.contains 3 = false → s.dck.chans = [(n, some r)] → r.dom ≤ 256 →
    Does .channelTimeAdd s fun t => t.rdN (0x0D0100 + 0x20 * r.dom + 21) 3 = (s.rdN (0x0D0100 + 0x20 * r.dom + 21) 3 + 1) % 2 ^ 64
      ∧ Tab.get 0 t.lgr.totals 7 = (Tab.get 0 s.lgr.totals 7 + 1) % 2 ^ 64 ∧ t.stk.done = 3 :: s.stk.done
      ∧ (∀ a, a < 0x0D0100 + 0x20 * r.dom + 21 ∨ 0x0D0100 + 0x20 * r.dom + 24 ≤ a → t.rd a = s.rd a))
  ∧ (s.stk.time.num.toNat % 2 ^ 16 ≠ 0 → Does .channelTimeAdd s fun t => t = s)
  ∧ (s.lgr.setDue = none → wallValid s = true → periodEnd s ≤ wallNow s → snapHeld s = false → s.lgr.advanced = false →
    Does .periodClose s fun t => (∀ a, 0x0D0100 ≤ a → a < 0x0D2120 → t.rd (a + 0x4000) = s.rd a ∧ t.rd a = 0)
      ∧ snapHeld t = true ∧ t.bit 0x0D0002 0 = true ∧ openPeriod t = periodOf (s.fld 0x0D0000 21 0) (wallNow s)
      ∧ t.lgr = { s.lgr with period := s.fld 0x0D0000 21 0, openW := wallNow s, openS := s.now, late := false, advanced := false, opens := [] })
  ∧ (s.lgr.setDue = none → wallValid s = true → periodEnd s ≤ wallNow s → snapHeld s = true → s.lgr.late = false →
    Does .periodClose s fun t => t.lgr = { s.lgr with late := true } ∧ t.bit 0x0D0002 3 = true ∧ RegsKept s t [0x0D0002])
  ∧ (s.lgr.setDue = none → wallValid s = false ∨ wallNow s < periodEnd s → Does .periodClose s fun t => t = s)
  ∧ (∀ w : Nat, s.lgr.setDue = some w → w ≠ wallNow s →
    Does .periodClose s fun t => wallValid t = true ∧ t.lgr.anchorW = w ∧ t.lgr.anchorS = s.now ∧ t.lgr.setDue = none
      ∧ t.bit 0x0D0002 (if w < wallNow s then 1 else 2) = true)
  ∧ (∀ w : Nat, s.lgr.setDue = some w → w = wallNow s →
    Does .periodClose s fun t => wallValid t = true ∧ t.lgr = { s.lgr with anchorS := s.now, anchorW := w, setDue := none }
      ∧ RegsKept s t [0x0D0001])

/-- The lamps (R410–R416): a channel takes its settings at the start of a period; its pattern gates whole periods; a pulse of 8 µs or
more is measured, a shorter one stretched in every 256th period where STRETCH_EN is 1; a short is retried and the fourth latches. -/
def Obligations.LampChannels : Prop :=
  ∀ s : State, powered s = true → ∀ k : Fin 6,
  (∀ i : Byte, lampStarts s k = false → Does (.lampPeriodStart k i) s fun t => t = s)
  ∧ (∀ (i : Byte) (c : Bool), lampStarts s k = true → lampDrive s k (s.rd (lampReg k 0)) (s.rd (lampReg k 1)) = (c, none) →
    Does (.lampPeriodStart k i) s fun t => t.fld (lampReg k 2) 23 21 = 0 ∧ t.bit (lampReg k 2) 18 = c
      ∧ (t.lamp k).cfg = some (s.rd (lampReg k 0), s.rd (lampReg k 1)) ∧ (t.lamp k).lit = 0 ∧ RegsKept s t [lampReg k 2])
  ∧ (∀ (i : Byte) (c : Bool) (d p half : Nat), lampStarts s k = true →
    lampDrive s k (s.rd (lampReg k 0)) (s.rd (lampReg k 1)) = (c, some (d, p)) → s.bit (lampReg k 2) 20 = false →
    (s.lamp k).retryAt = none → half = d * 2 ^ s.fld (lampReg k 0) 20 18 →
    (p = 0 ∨ (p = 1 ∧ s.stk.time.num.toNat / 2 ^ 19 % 2 = 0) ∨ (p = 2 ∧ s.stk.time.num.toNat / 2 ^ 17 % 2 = 0)) →
    Does (.lampPeriodStart k i) s fun t => t.fld (lampReg k 2) 23 21 = 1 ∧ t.bit (lampReg k 2) 18 = c
      ∧ (t.lamp k).cfg = some (s.rd (lampReg k 0), s.rd (lampReg k 1))
      ∧ (20 ≤ half → (t.lamp k).lit = 2 * s.tick + half ∧ t.fld (lampReg k 2) 7 0 = i.toNat
        ∧ (t.lamp k).opens = (if i.toNat < 2 * (s.fld (lampReg k 0) 5 0 + 1) then (s.lamp k).opens + 1 else 0))
      ∧ (0 < half → half < 20 → s.bit (lampReg k 0) 21 = true → s.stk.time.num.toNat / lampPeriod (s.rd (lampReg k 0)) % 256 = 255 →
        (t.lamp k).lit = 2 * s.tick + 20 ∧ t.fld (lampReg k 2) 7 0 = i.toNat)
      ∧ (0 < half → half < 20 → s.bit (lampReg k 0) 21 = false ∨ s.stk.time.num.toNat / lampPeriod (s.rd (lampReg k 0)) % 256 ≠ 255 →
        (t.lamp k).lit = 2 * s.tick + half ∧ t.fld (lampReg k 2) 7 0 = s.fld (lampReg k 2) 7 0
          ∧ t.bit (lampReg k 2) 19 = s.bit (lampReg k 2) 19 ∧ (t.lamp k).opens = (s.lamp k).opens))
  ∧ (∀ (i : Byte) (c : Bool) (d p : Nat), lampStarts s k = true →
    lampDrive s k (s.rd (lampReg k 0)) (s.rd (lampReg k 1)) = (c, some (d, p)) → s.bit (lampReg k 2) 20 = false →
    (s.lamp k).retryAt = none →
    ((p = 1 ∧ s.stk.time.num.toNat / 2 ^ 19 % 2 = 1) ∨ (p = 2 ∧ s.stk.time.num.toNat / 2 ^ 17 % 2 = 1)) →
    Does (.lampPeriodStart k i) s fun t => t.fld (lampReg k 2) 23 21 = 1 ∧ (t.lamp k).lit = 0
      ∧ t.fld (lampReg k 2) 7 0 = s.fld (lampReg k 2) 7 0 ∧ t.bit (lampReg k 2) 19 = s.bit (lampReg k 2) 19
      ∧ (t.lamp k).opens = (s.lamp k).opens)
  ∧ (s.fld (lampReg k 2) 23 21 = 1 → 2 * s.tick < (s.lamp k).lit → (s.lamp k).undo = none → s.fld (lampReg k 2) 17 16 < 3 →
    Does (.lampShort k) s fun t => t.fld (lampReg k 2) 23 21 = 2 ∧ t.fld (lampReg k 2) 17 16 = s.fld (lampReg k 2) 17 16 + 1
      ∧ t.bit 0x0E0002 k = true ∧ (t.lamp k).retryAt = some (s.tick + 1024) ∧ (t.lamp k).lit = 0)
  ∧ (s.fld (lampReg k 2) 23 21 = 1 → 2 * s.tick < (s.lamp k).lit → (s.lamp k).undo = none → s.fld (lampReg k 2) 17 16 = 3 →
    Does (.lampShort k) s fun t => t.fld (lampReg k 2) 23 21 = 3 ∧ t.bit (lampReg k 2) 20 = true ∧ t.bit 0x0E0002 k = true
      ∧ (t.lamp k).retryAt = none)
  ∧ (∀ (st ev : Word) (o g : Nat), s.fld (lampReg k 2) 23 21 = 1 → 2 * s.tick < (s.lamp k).lit → (s.lamp k).undo = some (st, ev, o, g) →
    Word.slice st 17 16 < 3 →
    Does (.lampShort k) s fun t => (t.lamp k).opens = o ∧ (t.lamp k).goods = g ∧ t.fld (lampReg k 2) 7 0 = Word.slice st 7 0
      ∧ t.bit (lampReg k 2) 19 = Word.bit st 19 ∧ t.bit 0x0E0002 (6 + k) = Word.bit ev (6 + k) ∧ t.fld (lampReg k 2) 23 21 = 2)
  ∧ (s.fld (lampReg k 2) 23 21 ≠ 1 → Does (.lampShort k) s fun t => t = s)
  ∧ (∀ n : Nat, lampStarts s k = true → s.fld (lampReg k 2) 23 21 = 2 → (s.lamp k).retryAt = some n → n ≤ s.tick →
    Does (.lampRetry k) s fun t => t.fld (lampReg k 2) 23 21 = 1 ∧ t.lamp k = { s.lamp k with retryAt := none, since := s.tick }
      ∧ RegsKept s t [lampReg k 2])
  ∧ (∀ n : Nat, (s.lamp k).retryAt = some n → s.tick < n → Does (.lampRetry k) s fun t => t = s)
  ∧ (s.fld (lampReg k 2) 23 21 = 1 → (s.lamp k).since + 2 ^ 16 ≤ s.tick →
    Does (.lampRetriesReset k) s fun t => t.fld (lampReg k 2) 17 16 = 0 ∧ RegsKept s t [lampReg k 2] ∧ t.lamps = s.lamps)
  ∧ (∀ (m : Master) (w : Word), Reaches m (lampReg k 3) s →
    Does (.clrShort m k w) s fun t => t.bit (lampReg k 2) 20 = false ∧ t.fld (lampReg k 2) 17 16 = 0 ∧ RegsKept s t [lampReg k 2]
      ∧ t.fld (lampReg k 2) 23 21 = if s.fld (lampReg k 2) 23 21 = 3 then 0 else s.fld (lampReg k 2) 23 21)

/-- The performance counters (R420–R422, R427–R429): a wrap, a load, freezing and starting, clearing. -/
def Obligations.PerformanceCounters : Prop :=
  ∀ s : State, powered s = true →
  (∀ n : Fin 32, pmcFrozen s = false → pmcLoading s (2 * (n.val / 2)) = false → pmcLoading s (2 * (n.val / 2) + 1) = false →
    pmcChained s n = false → s.bit (pmcCounter n) 23 = true → 2 ^ 48 ≤ s.rdN (pmcCounter n + 5) 2 + Tab.get 0 s.pmc.add n →
    Does (.counterWrap n) s fun t => t.rdN (pmcCounter n + 5) 2 = (s.rdN (pmcCounter n + 5) 2 + Tab.get 0 s.pmc.add n) % 2 ^ 48
      ∧ t.bit (if n.val < 24 then 0x0F0004 else 0x0F0005) (n.val % 24) = true ∧ t.bit 0x0F0001 0 = true
      ∧ (s.bit 0x0F0000 22 = true → pmcFrozen t = true) ∧ Tab.get 0 t.pmc.add n = 0)
  ∧ (∀ n : Fin 32, pmcFrozen s = true → Does (.counterWrap n) s fun t => t = s)
  ∧ (∀ (m : Master) (n : Fin 32) (w : Word), Reaches m (pmcCounter n + 6) s → pmcMayWrite s m (pmcCounter n) = true →
    Does (.cntLoad m n w) s fun t => Tab.get (none, none) t.pmc.loads n = ((Tab.get (none, none) s.pmc.loads n).1, some w)
      ∧ { t with pmc := { t.pmc with loads := s.pmc.loads } } = s)
  ∧ (∀ (m : Master) (n : Fin 32) (w : Word), Reaches m (pmcCounter n + 6) s → pmcMayWrite s m (pmcCounter n) = false →
    Does (.cntLoad m n w) s fun t => t = s)
  ∧ (∀ (m : Master) (w : Word), m = .keep ∨ m = .pf → Word.bit w 20 = false →
    Does (.freeze m w) s fun t => t.fld 0x0F0000 23 21 = Word.slice w 23 21 ∧ RegsKept s t [0x0F0000] ∧ { t with io := s.io } = s)
  ∧ (∀ (c : Fin 67) (w : Word), c ≠ 0 → Does (.freeze (.pier c false) w) s fun t => t = s)
  ∧ (∀ (m : Master) (w : Word), m = .keep ∨ m = .pf →
    Does (.clrAll m w) s fun t => t.pmc = { s.pmc with clearAll := true } ∧ t.fld 0x0F0000 23 21 = Word.slice w 23 21
      ∧ RegsKept s t [0x0F0000])
  ∧ (∀ d : Option Nat, aheadBy s (timeAt s 0x0F0008) = d → d = none ∨ d = some 0 → s.bit 0x0F0000 21 = true →
    Does .pmcStart s fun t => pmcFrozen t = false ∧ t.bit 0x0F0000 21 = false ∧ t.bit 0x0F0001 2 = true
      ∧ RegsKept s t [0x0F0000, 0x0F0001] ∧ t.pmc = s.pmc)
  ∧ (s.bit 0x0F0000 21 = false → Does .pmcStart s fun t => t = s)
  ∧ (∀ (m : Master) (h : Fin 4) (w : Word), Reaches m (pmcHist h) s → pmcMayWrite s m (pmcHist h) = true →
    pmcMayOwn m (Word.slice w 22 16) = true →
    Does (.histClr m h w) s fun t => t.pmc = { s.pmc with clearHist := s.pmc.clearHist ++ [h.val] }
      ∧ t.bit (pmcHist h) 23 = Word.bit w 23 ∧ t.bit (pmcHist h) 15 = Word.bit w 15 ∧ RegsKept s t [pmcHist h])

/-! ### Power, reset and boot -/

/-- Power and reset (R302, R430, R431, R433–R439): a warning begins the duties, a hold follows unless a reset was asked for, and a
reset leaves stroke time 0, the cause in PWR_RCAUSE, the backup domain and the waiting commands; the watchdog and the SAFE-HOLD
timer. -/
def Obligations.PowerAndReset : Prop :=
  ∀ s : State,
  (∀ mv : Nat, mv < 2700 → Does (.vbatSwitch mv) s fun t => t.pwr = { s.pwr with phase := .off } ∧ t.bit 0x080041 21 = true
    ∧ t.ppt = s.ppt ∧ t.stk = s.stk ∧ t.bit 0x0B0001 16 = false ∧ t.bit 0x0C0001 23 = false ∧ t.bit 0x0C1001 22 = false)
  ∧ (∀ mv : Nat, 2900 < mv → Does (.vbatSwitch mv) s fun t => t.bit 0x080041 21 = false ∧ t.pwr = s.pwr ∧ t.ppt = s.ppt ∧ RegsKept s t [0x080041])
  ∧ (∀ mv : Nat, 2700 ≤ mv → mv ≤ 2900 → Does (.vbatSwitch mv) s fun t => t = s)
  ∧ Does .backupPowerOn s (fun t => t.ppt.trec = none ∧ t.ppt.sealKey = none ∧ t.bit 0x080041 20 = true ∧ t.pwr.heldCause = 0
    ∧ t.pwr.backupReset = true ∧ t.rdN 0x080044 2 = 0 ∧ t.stk = s.stk)
  ∧ (∀ us : Nat, us < 1000 → Does (.mainPowerOn us) s fun t => t = s)
  ∧ (∀ us : Nat, 1000 ≤ us → Does (.mainPowerOn us) s fun t => t.pwr.phase = .run ∧ t.stk.time = ⟨0, 0⟩ ∧ t.pending = s.pending ∧ t.key.slots = [] ∧ t.cores = []
    ∧ (∀ a, 0x080040 ≤ a → a < 0x080120 → t.rd a = s.rd a) ∧ t.ppt.trec = s.ppt.trec ∧ t.ppt.sealKey = s.ppt.sealKey
    ∧ t.rd 0x100001 = BitVec.ofNat 24 ((if s.pwr.backupReset = true then 7 else 0) * 2 ^ 20 + s.pwr.heldCause * 2 ^ 17
      + (if s.pwr.holdDone = true then 2 ^ 16 else 0)))
  ∧ (∀ k mv : Nat, s.pwr.phase = .hold → 430 ≤ k → 700 + 5 * s.fld 0x100007 3 0 < mv → Does (.powerReturn k mv) s fun t => t.pwr.phase = .run ∧ t.stk.time = ⟨0, 0⟩ ∧ t.pending = s.pending
    ∧ (∀ a, 0x080040 ≤ a → a < 0x080120 → t.rd a = s.rd a)
    ∧ t.rd 0x100001 = BitVec.ofNat 24 (6 * 2 ^ 20 + s.pwr.heldCause * 2 ^ 17 + (if s.pwr.holdDone = true then 2 ^ 16 else 0)))
  ∧ (∀ k mv : Nat, s.pwr.phase ≠ .hold ∨ k < 430 ∨ mv ≤ 700 + 5 * s.fld 0x100007 3 0 → Does (.powerReturn k mv) s fun t => t = s)
  ∧ (∀ c : Nat, s.pwr.resetDue = some c → s.pwr.phase = .warned → s.pwr.warnAt + 58 ≤ s.tick →
    Does .deviceReset s fun t => t.pwr.phase = .run ∧ t.stk.time = ⟨0, 0⟩ ∧ t.pending = s.pending ∧ t.pwr.resetDue = none
      ∧ t.key.slots = [] ∧ (∀ a, 0x080040 ≤ a → a < 0x080120 → t.rd a = s.rd a) ∧ t.ppt.sealKey = s.ppt.sealKey
      ∧ t.rd 0x100001 = BitVec.ofNat 24 (c * 2 ^ 20 + s.pwr.heldCause * 2 ^ 17 + 2 ^ 16))
  ∧ (s.pwr.resetDue = none → Does .deviceReset s fun t => t = s)
  ∧ (∀ n : Nat, n < 1000 → Does (.rstN n) s fun t => t = s)
  ∧ (∀ n : Nat, 1000 ≤ n → s.pwr.phase = .run → Does (.rstN n) s fun t => t.pwr.phase = .warned)
  ∧ (∀ n : Nat, 1000 ≤ n → s.pwr.phase = .reset → Does (.rstN n) s fun t => t.pwr.phase = .run ∧ t.stk.time = ⟨0, 0⟩)
  ∧ (∀ mv ns : Nat, s.pwr.phase = .run → s.bit 0x100005 22 = true → 100 ≤ ns →
    Does (.powerFailWarning true mv ns) s fun t => t.pwr.phase = .warned ∧ t.bit 0x100000 15 = true)
  ∧ (∀ mv ns : Nat, s.pwr.phase = .run → s.bit 0x100005 22 = false → 100 ≤ ns →
    Does (.powerFailWarning true mv ns) s fun t => t.bit 0x100000 15 = true ∧ t.pwr = s.pwr ∧ RegsKept s t [0x100000])
  ∧ (∀ mv ns : Nat, s.pwr.phase = .run → mv < 700 + 5 * s.fld 0x100007 3 0 → 200 ≤ ns →
    Does (.powerFailWarning false mv ns) s fun t => t.pwr.phase = .warned)
  ∧ (∀ (p : Bool) (mv ns : Nat), s.pwr.phase ≠ .run ∨ ns < 100 → Does (.powerFailWarning p mv ns) s fun t => t = s)
  ∧ (s.pwr.phase = .warned → s.pwr.resetDue = none → s.pwr.warnAt + 63 ≤ s.tick →
    Does .powerFailHold s fun t => t.pwr = { s.pwr with phase := .hold, holdDone := true } ∧ t.stk = s.stk ∧ t.ppt = s.ppt
      ∧ t.bit 0x0B0001 16 = false ∧ t.bit 0x0C0001 23 = false ∧ t.bit 0x0C1001 22 = false)
  ∧ (∀ p : Fin 38, s.pwr.phase = .run → s.fld 0x100000 21 18 = 0 → s.bit 0x100000 17 = false → Tab.get 0 s.pwr.pllTries p < 2 →
    Does (.pllLockTimeout p) s fun t => t = { s with
      pwr := { s.pwr with pllTries := Tab.set 0 s.pwr.pllTries p (Tab.get 0 s.pwr.pllTries p + 1) } })
  ∧ (s.pwr.phase = .run → s.fld 0x100000 21 18 = 0 → s.bit 0x100000 17 = false → Tab.get 0 s.pwr.pllTries 0 = 2 →
    Does (.pllLockTimeout 0) s fun t => t.pwr.phase = .reset ∧ t.bit 0x100000 22 = true ∧ t.bit 0x0B0001 16 = false)
  ∧ (∀ m : Master, Reaches m 0x100004 s → m = .keep → s.pwr.resetDue = none →
    Does (.pwrCtl m 0x5AA5C3) s fun t => t = { s with pwr := { s.pwr with resetDue := some 2 } })
  ∧ (∀ (m : Master) (w : Word), Reaches m 0x100004 s → w ≠ 0x5AA5C3 → Does (.pwrCtl m w) s fun t => t = s)
  ∧ (∀ m : Master, Reaches m 0x100006 s → m = .keep →
    Does (.pwrWdog m 0xA55A3C) s fun t => t = { s with pwr := { s.pwr with wdAge := 0 } })
  ∧ (∀ (m : Master) (w : Word), Reaches m 0x100006 s → w ≠ 0xA55A3C → Does (.pwrWdog m w) s fun t => t = s)
  ∧ (powered s = true → s.pwr.safeHold = none → 2 ^ s.fld 0x100005 15 11 / 2 ≤ s.pwr.wdAge →
    Does .wdogWarn s fun t => t.bit 0x100002 1 = true ∧ RegsKept s t [0x100002] ∧ t.pwr = s.pwr)
  ∧ (s.pwr.wdAge < 2 ^ s.fld 0x100005 15 11 / 2 → Does .wdogWarn s fun t => t = s)
  ∧ (s.pwr.phase = .run → s.pwr.safeHold = none → 2 ^ s.fld 0x100005 15 11 ≤ s.pwr.wdAge →
    Does .watchdogExpiry s fun t => t.pwr.phase = .warned)
  ∧ (s.pwr.wdAge < 2 ^ s.fld 0x100005 15 11 → Does .watchdogExpiry s fun t => t = s)
  ∧ (s.pwr.phase = .run → s.pwr.safeHold.isSome = true → s.fld 0x100005 4 0 ≠ 0 → 2 ^ s.fld 0x100005 4 0 ≤ s.pwr.holdAge →
    Does .safeHoldTimer s fun t => t.pwr.phase = .warned)
  ∧ (s.fld 0x100005 4 0 = 0 ∨ s.pwr.safeHold = none → Does .safeHoldTimer s fun t => t = s)
  ∧ (∀ (x : BitVec 8) (y : BitVec 16), Does (.backupTick x y) s fun t => t.rdN 0x080044 2 = (s.rdN 0x080044 2 + 1) % 2 ^ 48
      ∧ t.ppt.stamp = (if s.pwr.phase = .off then s.ppt.stamp else s.stk.time)
      ∧ t.ppt.stampTicks = (if s.pwr.phase = .off then s.ppt.stampTicks + 1 else 0) ∧ t.pwr = s.pwr ∧ t.stk = s.stk)

/-- Boot and appliance mode (R33, R35, R70, R258, R433, R441–R443): where boot stops and where it ends, the declaration that the data
plane is ready, and the mode in which an owned device without a configuration tries its line ports. -/
def Obligations.BootAndApplianceMode : Prop :=
  ∀ s : State,
  (∀ env : BootEnv, s.pwr.phase ≠ .run ∨ s.fld 0x100000 23 18 ≠ 0 → Does (.boot env) s fun t => t = s)
  ∧ (∀ env : BootEnv, s.pwr.phase = .run → s.fld 0x100000 23 18 = 0 → s.pwr.resetDue = none → env.fabricPll = false →
    Does (.boot env) s fun t => t.pwr.phase = .reset ∧ t.bit 0x100000 22 = true ∧ t.bit 0x0B0001 16 = false)
  ∧ (∀ (env : BootEnv) (u : State), s.pwr.phase = .run → s.fld 0x100000 23 18 = 0 → s.pwr.resetDue = none → env.fabricPll = true →
    unfinishedRecord (bootZero s) = none → u = levelShow (lifeCycleRead (bootZero s)) → u.lcs = 5 →
    Does (.boot env) s fun t => t.fld 0x100000 21 18 = 1 ∧ t.bit 0x100000 22 = true ∧ coreState t 0 = 0)
  ∧ (∀ (env : BootEnv) (u : State), s.pwr.phase = .run → s.fld 0x100000 23 18 = 0 → s.pwr.resetDue = none → env.fabricPll = true →
    unfinishedRecord (bootZero s) = none → u = levelShow (lifeCycleRead (bootZero s)) → u.lcs ≠ 5 → env.image0 = false → env.image1 = false →
    Does (.boot env) s fun t => t.fld 0x100000 21 18 = 3 ∧ t.bit 0x100000 22 = true ∧ coreState t 0 = 0)
  ∧ (∀ (env : BootEnv) (u : State) (b : Nat), s.pwr.phase = .run → s.fld 0x100000 23 18 = 0 → s.pwr.resetDue = none → env.fabricPll = true →
    unfinishedRecord (bootZero s) = none → u = levelShow (lifeCycleRead (bootZero s)) → u.lcs ≠ 5 → bootBank env (bootRecover u) = some b →
    env.pierImage = true →
    Does (.boot env) s fun t => t.fld 0x100000 21 18 = 10)
  ∧ (s.pwr.phase = .run → s.fld 0x100000 23 18 = 10 → s.pwr.resetDue = none → s.bit 0x090001 23 = true →
    Does .dataPlaneReady s fun t => t.bit 0x100000 23 = true ∧ t.rdN 0x100008 2 = s.stk.time.num.toNat
      ∧ t.rd 0x10000A = BitVec.ofNat 24 s.stk.time.era.toNat ∧ t.rd 0x10000B = BitVec.ofNat 24 s.pwr.bootAge ∧ t.bit 0x100002 0 = true
      ∧ t.stk = { s.stk with quiet := some 0 } ∧ RegsKept s t [0x100000, 0x100002, 0x100008, 0x100009, 0x10000A, 0x10000B])
  ∧ (s.fld 0x100000 23 18 ≠ 10 ∨ s.bit 0x090001 23 = false → Does .dataPlaneReady s fun t => t = s)
  ∧ (∀ n : Nat, s.stk.quiet = some n → 2500000 ≤ n → s.lcs = 2 → s.nva.config = none → s.dataPlane = true →
    Does .applianceModeEntry s fun t => t.stk.appliance = true ∧ t.stk.quiet = none ∧ t.bit 0x100000 16 = true
      ∧ (∀ p < 32, t.bit (portReg p 0) 23 = true)
      ∧ ∀ g < 4, t.fld (grpReg (4 + g) 0) 11 8 = 1 ∧ Tab.get (0, 0) t.stk.tries g = (0, s.tick))
  ∧ (∀ n : Nat, s.stk.quiet = some n → n < 2500000 → Does .applianceModeEntry s fun t => t = s)
  ∧ (powered s = true → s.stk.endAppliance = true →
    Does .applianceModeEnd s fun t => t.stk = { s.stk with quiet := none, appliance := false, endAppliance := false }
      ∧ t.bit 0x100000 16 = false ∧ RegsKept s t [0x100000])
  ∧ (s.stk.endAppliance = false → Does .applianceModeEnd s fun t => t = s)
  ∧ (∀ (g : Fin 4) (i b : Nat), powered s = true → s.stk.appliance = true → lineGroupUp s g = false →
    Tab.get (0, 0) s.stk.tries g = (i, b) → i < 5 → b + 2 ^ 22 ≤ s.tick →
    Does (.applianceModeTry g) s fun t => Tab.get (0, 0) t.stk.tries g = ((i + 1) % 5, s.tick)
      ∧ t.fld (grpReg (4 + g) 0) 11 8 = [1, 3, 4, 5, 6].getD ((i + 1) % 5) 1 ∧ RegsKept s t [grpReg (4 + g) 0])
  ∧ (∀ g : Fin 4, lineGroupUp s g = true → Does (.applianceModeTry g) s fun t => t = s)

/-- What every reset leaves in the gravers (R168): IDLE, no domain, banks, ACC, list memory and lane modulus zero, a zero list being
a single END, the counters and GRV_DRAIN 0. -/
def Obligations.ResetLeavesGraversEmpty : Prop :=
  ∀ t : State, (t = State.reset ∨ ∃ (c : Nat) (s : State), t = deviceReset c s) →
  (∀ n < 16, grvState t n = 0 ∧ grvDom t n = 0x1FF ∧ t.grv n = GraverState.init ∧ t.rd (grvReg n 0x18) = 0)
  ∧ (∀ g : GraverState, g.list = [] → ∀ i, entryOp { g with entry := i } = 0)
  ∧ t.rd 0x041001 = 0 ∧ (∀ a, 0x041010 ≤ a → a < 0x041024 → t.rd a = 0)
end

