-- ==== Sys2Proof/Laws/State.lean ====
section
/-! SUPPORT. What the register operations leave unchanged: every field of State but the register table `io`, and
each update of one field leaves every other field. -/

namespace Sys2Proof.Machine

@[simp] theorem State.wr_pending (s : State) (a : Nat) (w : Word) : (s.wr a w).pending = s.pending := by rfl
@[simp] theorem State.wr_stk (s : State) (a : Nat) (w : Word) : (s.wr a w).stk = s.stk := by rfl
@[simp] theorem State.wr_cores (s : State) (a : Nat) (w : Word) : (s.wr a w).cores = s.cores := by rfl
@[simp] theorem State.wr_kfetch (s : State) (a : Nat) (w : Word) : (s.wr a w).kfetch = s.kfetch := by rfl
@[simp] theorem State.wr_kept (s : State) (a : Nat) (w : Word) : (s.wr a w).kept = s.kept := by rfl
@[simp] theorem State.wr_pmc (s : State) (a : Nat) (w : Word) : (s.wr a w).pmc = s.pmc := by rfl
@[simp] theorem State.wr_ppt (s : State) (a : Nat) (w : Word) : (s.wr a w).ppt = s.ppt := by rfl
@[simp] theorem State.wr_pwr (s : State) (a : Nat) (w : Word) : (s.wr a w).pwr = s.pwr := by rfl
@[simp] theorem State.wr_key (s : State) (a : Nat) (w : Word) : (s.wr a w).key = s.key := by rfl
@[simp] theorem State.wr_hif (s : State) (a : Nat) (w : Word) : (s.wr a w).hif = s.hif := by rfl
@[simp] theorem State.wr_gravers (s : State) (a : Nat) (w : Word) : (s.wr a w).gravers = s.gravers := by rfl
@[simp] theorem State.wr_setup (s : State) (a : Nat) (w : Word) : (s.wr a w).setup = s.setup := by rfl
@[simp] theorem State.wr_plc (s : State) (a : Nat) (w : Word) : (s.wr a w).plc = s.plc := by rfl
@[simp] theorem State.wr_spn (s : State) (a : Nat) (w : Word) : (s.wr a w).spn = s.spn := by rfl
@[simp] theorem State.wr_dck (s : State) (a : Nat) (w : Word) : (s.wr a w).dck = s.dck := by rfl
@[simp] theorem State.wr_vdt (s : State) (a : Nat) (w : Word) : (s.wr a w).vdt = s.vdt := by rfl
@[simp] theorem State.wr_vwire (s : State) (a : Nat) (w : Word) : (s.wr a w).vwire = s.vwire := by rfl
@[simp] theorem State.wr_nva (s : State) (a : Nat) (w : Word) : (s.wr a w).nva = s.nva := by rfl
@[simp] theorem State.wr_lcy (s : State) (a : Nat) (w : Word) : (s.wr a w).lcy = s.lcy := by rfl
@[simp] theorem State.wr_ent (s : State) (a : Nat) (w : Word) : (s.wr a w).ent = s.ent := by rfl
@[simp] theorem State.wr_answer (s : State) (a : Nat) (w : Word) : (s.wr a w).answer = s.answer := by rfl
@[simp] theorem State.wr_answered (s : State) (a : Nat) (w : Word) : (s.wr a w).answered = s.answered := by rfl
@[simp] theorem State.wr_dword (s : State) (a : Nat) (w : Word) : (s.wr a w).dword = s.dword := by rfl
@[simp] theorem State.wr_clr (s : State) (a : Nat) (w : Word) : (s.wr a w).clr = s.clr := by rfl
@[simp] theorem State.wr_icc (s : State) (a : Nat) (w : Word) : (s.wr a w).icc = s.icc := by rfl
@[simp] theorem State.wr_rmc (s : State) (a : Nat) (w : Word) : (s.wr a w).rmc = s.rmc := by rfl
@[simp] theorem State.wr_lgr (s : State) (a : Nat) (w : Word) : (s.wr a w).lgr = s.lgr := by rfl
@[simp] theorem State.wr_lamps (s : State) (a : Nat) (w : Word) : (s.wr a w).lamps = s.lamps := by rfl
@[simp] theorem State.wr_latch (s : State) (a : Nat) (w : Word) : (s.wr a w).latch = s.latch := by rfl
@[simp] theorem State.wr_latchBase (s : State) (a : Nat) (w : Word) : (s.wr a w).latchBase = s.latchBase := by rfl
@[simp] theorem State.wr_latchOwn (s : State) (a : Nat) (w : Word) : (s.wr a w).latchOwn = s.latchOwn := by rfl
@[simp] theorem State.wr_free (s : State) (a : Nat) (w : Word) : (s.wr a w).free = s.free := by rfl

@[simp] theorem State.put_pending (s : State) (a hi lo v : Nat) : (s.put a hi lo v).pending = s.pending := by rfl
@[simp] theorem State.put_stk (s : State) (a hi lo v : Nat) : (s.put a hi lo v).stk = s.stk := by rfl
@[simp] theorem State.put_cores (s : State) (a hi lo v : Nat) : (s.put a hi lo v).cores = s.cores := by rfl
@[simp] theorem State.put_kfetch (s : State) (a hi lo v : Nat) : (s.put a hi lo v).kfetch = s.kfetch := by rfl
@[simp] theorem State.put_kept (s : State) (a hi lo v : Nat) : (s.put a hi lo v).kept = s.kept := by rfl
@[simp] theorem State.put_pmc (s : State) (a hi lo v : Nat) : (s.put a hi lo v).pmc = s.pmc := by rfl
@[simp] theorem State.put_ppt (s : State) (a hi lo v : Nat) : (s.put a hi lo v).ppt = s.ppt := by rfl
@[simp] theorem State.put_pwr (s : State) (a hi lo v : Nat) : (s.put a hi lo v).pwr = s.pwr := by rfl
@[simp] theorem State.put_key (s : State) (a hi lo v : Nat) : (s.put a hi lo v).key = s.key := by rfl
@[simp] theorem State.put_hif (s : State) (a hi lo v : Nat) : (s.put a hi lo v).hif = s.hif := by rfl
@[simp] theorem State.put_gravers (s : State) (a hi lo v : Nat) : (s.put a hi lo v).gravers = s.gravers := by rfl
@[simp] theorem State.put_setup (s : State) (a hi lo v : Nat) : (s.put a hi lo v).setup = s.setup := by rfl
@[simp] theorem State.put_plc (s : State) (a hi lo v : Nat) : (s.put a hi lo v).plc = s.plc := by rfl
@[simp] theorem State.put_spn (s : State) (a hi lo v : Nat) : (s.put a hi lo v).spn = s.spn := by rfl
@[simp] theorem State.put_dck (s : State) (a hi lo v : Nat) : (s.put a hi lo v).dck = s.dck := by rfl
@[simp] theorem State.put_vdt (s : State) (a hi lo v : Nat) : (s.put a hi lo v).vdt = s.vdt := by rfl
@[simp] theorem State.put_vwire (s : State) (a hi lo v : Nat) : (s.put a hi lo v).vwire = s.vwire := by rfl
@[simp] theorem State.put_nva (s : State) (a hi lo v : Nat) : (s.put a hi lo v).nva = s.nva := by rfl
@[simp] theorem State.put_lcy (s : State) (a hi lo v : Nat) : (s.put a hi lo v).lcy = s.lcy := by rfl
@[simp] theorem State.put_ent (s : State) (a hi lo v : Nat) : (s.put a hi lo v).ent = s.ent := by rfl
@[simp] theorem State.put_answer (s : State) (a hi lo v : Nat) : (s.put a hi lo v).answer = s.answer := by rfl
@[simp] theorem State.put_answered (s : State) (a hi lo v : Nat) : (s.put a hi lo v).answered = s.answered := by rfl
@[simp] theorem State.put_dword (s : State) (a hi lo v : Nat) : (s.put a hi lo v).dword = s.dword := by rfl
@[simp] theorem State.put_clr (s : State) (a hi lo v : Nat) : (s.put a hi lo v).clr = s.clr := by rfl
@[simp] theorem State.put_icc (s : State) (a hi lo v : Nat) : (s.put a hi lo v).icc = s.icc := by rfl
@[simp] theorem State.put_rmc (s : State) (a hi lo v : Nat) : (s.put a hi lo v).rmc = s.rmc := by rfl
@[simp] theorem State.put_lgr (s : State) (a hi lo v : Nat) : (s.put a hi lo v).lgr = s.lgr := by rfl
@[simp] theorem State.put_lamps (s : State) (a hi lo v : Nat) : (s.put a hi lo v).lamps = s.lamps := by rfl
@[simp] theorem State.put_latch (s : State) (a hi lo v : Nat) : (s.put a hi lo v).latch = s.latch := by rfl
@[simp] theorem State.put_latchBase (s : State) (a hi lo v : Nat) : (s.put a hi lo v).latchBase = s.latchBase := by rfl
@[simp] theorem State.put_latchOwn (s : State) (a hi lo v : Nat) : (s.put a hi lo v).latchOwn = s.latchOwn := by rfl
@[simp] theorem State.put_free (s : State) (a hi lo v : Nat) : (s.put a hi lo v).free = s.free := by rfl

@[simp] theorem State.raise_pending (s : State) (a i : Nat) : (s.raise a i).pending = s.pending := by rfl
@[simp] theorem State.raise_stk (s : State) (a i : Nat) : (s.raise a i).stk = s.stk := by rfl
@[simp] theorem State.raise_cores (s : State) (a i : Nat) : (s.raise a i).cores = s.cores := by rfl
@[simp] theorem State.raise_kfetch (s : State) (a i : Nat) : (s.raise a i).kfetch = s.kfetch := by rfl
@[simp] theorem State.raise_kept (s : State) (a i : Nat) : (s.raise a i).kept = s.kept := by rfl
@[simp] theorem State.raise_pmc (s : State) (a i : Nat) : (s.raise a i).pmc = s.pmc := by rfl
@[simp] theorem State.raise_ppt (s : State) (a i : Nat) : (s.raise a i).ppt = s.ppt := by rfl
@[simp] theorem State.raise_pwr (s : State) (a i : Nat) : (s.raise a i).pwr = s.pwr := by rfl
@[simp] theorem State.raise_key (s : State) (a i : Nat) : (s.raise a i).key = s.key := by rfl
@[simp] theorem State.raise_hif (s : State) (a i : Nat) : (s.raise a i).hif = s.hif := by rfl
@[simp] theorem State.raise_gravers (s : State) (a i : Nat) : (s.raise a i).gravers = s.gravers := by rfl
@[simp] theorem State.raise_setup (s : State) (a i : Nat) : (s.raise a i).setup = s.setup := by rfl
@[simp] theorem State.raise_plc (s : State) (a i : Nat) : (s.raise a i).plc = s.plc := by rfl
@[simp] theorem State.raise_spn (s : State) (a i : Nat) : (s.raise a i).spn = s.spn := by rfl
@[simp] theorem State.raise_dck (s : State) (a i : Nat) : (s.raise a i).dck = s.dck := by rfl
@[simp] theorem State.raise_vdt (s : State) (a i : Nat) : (s.raise a i).vdt = s.vdt := by rfl
@[simp] theorem State.raise_vwire (s : State) (a i : Nat) : (s.raise a i).vwire = s.vwire := by rfl
@[simp] theorem State.raise_nva (s : State) (a i : Nat) : (s.raise a i).nva = s.nva := by rfl
@[simp] theorem State.raise_lcy (s : State) (a i : Nat) : (s.raise a i).lcy = s.lcy := by rfl
@[simp] theorem State.raise_ent (s : State) (a i : Nat) : (s.raise a i).ent = s.ent := by rfl
@[simp] theorem State.raise_answer (s : State) (a i : Nat) : (s.raise a i).answer = s.answer := by rfl
@[simp] theorem State.raise_answered (s : State) (a i : Nat) : (s.raise a i).answered = s.answered := by rfl
@[simp] theorem State.raise_dword (s : State) (a i : Nat) : (s.raise a i).dword = s.dword := by rfl
@[simp] theorem State.raise_clr (s : State) (a i : Nat) : (s.raise a i).clr = s.clr := by rfl
@[simp] theorem State.raise_icc (s : State) (a i : Nat) : (s.raise a i).icc = s.icc := by rfl
@[simp] theorem State.raise_rmc (s : State) (a i : Nat) : (s.raise a i).rmc = s.rmc := by rfl
@[simp] theorem State.raise_lgr (s : State) (a i : Nat) : (s.raise a i).lgr = s.lgr := by rfl
@[simp] theorem State.raise_lamps (s : State) (a i : Nat) : (s.raise a i).lamps = s.lamps := by rfl
@[simp] theorem State.raise_latch (s : State) (a i : Nat) : (s.raise a i).latch = s.latch := by rfl
@[simp] theorem State.raise_latchBase (s : State) (a i : Nat) : (s.raise a i).latchBase = s.latchBase := by rfl
@[simp] theorem State.raise_latchOwn (s : State) (a i : Nat) : (s.raise a i).latchOwn = s.latchOwn := by rfl
@[simp] theorem State.raise_free (s : State) (a i : Nat) : (s.raise a i).free = s.free := by rfl

@[simp] theorem State.flag_pending (s : State) (a i : Nat) (b : Bool) : (s.flag a i b).pending = s.pending := by rfl
@[simp] theorem State.flag_stk (s : State) (a i : Nat) (b : Bool) : (s.flag a i b).stk = s.stk := by rfl
@[simp] theorem State.flag_cores (s : State) (a i : Nat) (b : Bool) : (s.flag a i b).cores = s.cores := by rfl
@[simp] theorem State.flag_kfetch (s : State) (a i : Nat) (b : Bool) : (s.flag a i b).kfetch = s.kfetch := by rfl
@[simp] theorem State.flag_kept (s : State) (a i : Nat) (b : Bool) : (s.flag a i b).kept = s.kept := by rfl
@[simp] theorem State.flag_pmc (s : State) (a i : Nat) (b : Bool) : (s.flag a i b).pmc = s.pmc := by rfl
@[simp] theorem State.flag_ppt (s : State) (a i : Nat) (b : Bool) : (s.flag a i b).ppt = s.ppt := by rfl
@[simp] theorem State.flag_pwr (s : State) (a i : Nat) (b : Bool) : (s.flag a i b).pwr = s.pwr := by rfl
@[simp] theorem State.flag_key (s : State) (a i : Nat) (b : Bool) : (s.flag a i b).key = s.key := by rfl
@[simp] theorem State.flag_hif (s : State) (a i : Nat) (b : Bool) : (s.flag a i b).hif = s.hif := by rfl
@[simp] theorem State.flag_gravers (s : State) (a i : Nat) (b : Bool) : (s.flag a i b).gravers = s.gravers := by rfl
@[simp] theorem State.flag_setup (s : State) (a i : Nat) (b : Bool) : (s.flag a i b).setup = s.setup := by rfl
@[simp] theorem State.flag_plc (s : State) (a i : Nat) (b : Bool) : (s.flag a i b).plc = s.plc := by rfl
@[simp] theorem State.flag_spn (s : State) (a i : Nat) (b : Bool) : (s.flag a i b).spn = s.spn := by rfl
@[simp] theorem State.flag_dck (s : State) (a i : Nat) (b : Bool) : (s.flag a i b).dck = s.dck := by rfl
@[simp] theorem State.flag_vdt (s : State) (a i : Nat) (b : Bool) : (s.flag a i b).vdt = s.vdt := by rfl
@[simp] theorem State.flag_vwire (s : State) (a i : Nat) (b : Bool) : (s.flag a i b).vwire = s.vwire := by rfl
@[simp] theorem State.flag_nva (s : State) (a i : Nat) (b : Bool) : (s.flag a i b).nva = s.nva := by rfl
@[simp] theorem State.flag_lcy (s : State) (a i : Nat) (b : Bool) : (s.flag a i b).lcy = s.lcy := by rfl
@[simp] theorem State.flag_ent (s : State) (a i : Nat) (b : Bool) : (s.flag a i b).ent = s.ent := by rfl
@[simp] theorem State.flag_answer (s : State) (a i : Nat) (b : Bool) : (s.flag a i b).answer = s.answer := by rfl
@[simp] theorem State.flag_answered (s : State) (a i : Nat) (b : Bool) : (s.flag a i b).answered = s.answered := by rfl
@[simp] theorem State.flag_dword (s : State) (a i : Nat) (b : Bool) : (s.flag a i b).dword = s.dword := by rfl
@[simp] theorem State.flag_clr (s : State) (a i : Nat) (b : Bool) : (s.flag a i b).clr = s.clr := by rfl
@[simp] theorem State.flag_icc (s : State) (a i : Nat) (b : Bool) : (s.flag a i b).icc = s.icc := by rfl
@[simp] theorem State.flag_rmc (s : State) (a i : Nat) (b : Bool) : (s.flag a i b).rmc = s.rmc := by rfl
@[simp] theorem State.flag_lgr (s : State) (a i : Nat) (b : Bool) : (s.flag a i b).lgr = s.lgr := by rfl
@[simp] theorem State.flag_lamps (s : State) (a i : Nat) (b : Bool) : (s.flag a i b).lamps = s.lamps := by rfl
@[simp] theorem State.flag_latch (s : State) (a i : Nat) (b : Bool) : (s.flag a i b).latch = s.latch := by rfl
@[simp] theorem State.flag_latchBase (s : State) (a i : Nat) (b : Bool) : (s.flag a i b).latchBase = s.latchBase := by rfl
@[simp] theorem State.flag_latchOwn (s : State) (a i : Nat) (b : Bool) : (s.flag a i b).latchOwn = s.latchOwn := by rfl
@[simp] theorem State.flag_free (s : State) (a i : Nat) (b : Bool) : (s.flag a i b).free = s.free := by rfl

@[simp] theorem State.bump_pending (s : State) (a hi lo : Nat) : (s.bump a hi lo).pending = s.pending := by rfl
@[simp] theorem State.bump_stk (s : State) (a hi lo : Nat) : (s.bump a hi lo).stk = s.stk := by rfl
@[simp] theorem State.bump_cores (s : State) (a hi lo : Nat) : (s.bump a hi lo).cores = s.cores := by rfl
@[simp] theorem State.bump_kfetch (s : State) (a hi lo : Nat) : (s.bump a hi lo).kfetch = s.kfetch := by rfl
@[simp] theorem State.bump_kept (s : State) (a hi lo : Nat) : (s.bump a hi lo).kept = s.kept := by rfl
@[simp] theorem State.bump_pmc (s : State) (a hi lo : Nat) : (s.bump a hi lo).pmc = s.pmc := by rfl
@[simp] theorem State.bump_ppt (s : State) (a hi lo : Nat) : (s.bump a hi lo).ppt = s.ppt := by rfl
@[simp] theorem State.bump_pwr (s : State) (a hi lo : Nat) : (s.bump a hi lo).pwr = s.pwr := by rfl
@[simp] theorem State.bump_key (s : State) (a hi lo : Nat) : (s.bump a hi lo).key = s.key := by rfl
@[simp] theorem State.bump_hif (s : State) (a hi lo : Nat) : (s.bump a hi lo).hif = s.hif := by rfl
@[simp] theorem State.bump_gravers (s : State) (a hi lo : Nat) : (s.bump a hi lo).gravers = s.gravers := by rfl
@[simp] theorem State.bump_setup (s : State) (a hi lo : Nat) : (s.bump a hi lo).setup = s.setup := by rfl
@[simp] theorem State.bump_plc (s : State) (a hi lo : Nat) : (s.bump a hi lo).plc = s.plc := by rfl
@[simp] theorem State.bump_spn (s : State) (a hi lo : Nat) : (s.bump a hi lo).spn = s.spn := by rfl
@[simp] theorem State.bump_dck (s : State) (a hi lo : Nat) : (s.bump a hi lo).dck = s.dck := by rfl
@[simp] theorem State.bump_vdt (s : State) (a hi lo : Nat) : (s.bump a hi lo).vdt = s.vdt := by rfl
@[simp] theorem State.bump_vwire (s : State) (a hi lo : Nat) : (s.bump a hi lo).vwire = s.vwire := by rfl
@[simp] theorem State.bump_nva (s : State) (a hi lo : Nat) : (s.bump a hi lo).nva = s.nva := by rfl
@[simp] theorem State.bump_lcy (s : State) (a hi lo : Nat) : (s.bump a hi lo).lcy = s.lcy := by rfl
@[simp] theorem State.bump_ent (s : State) (a hi lo : Nat) : (s.bump a hi lo).ent = s.ent := by rfl
@[simp] theorem State.bump_answer (s : State) (a hi lo : Nat) : (s.bump a hi lo).answer = s.answer := by rfl
@[simp] theorem State.bump_answered (s : State) (a hi lo : Nat) : (s.bump a hi lo).answered = s.answered := by rfl
@[simp] theorem State.bump_dword (s : State) (a hi lo : Nat) : (s.bump a hi lo).dword = s.dword := by rfl
@[simp] theorem State.bump_clr (s : State) (a hi lo : Nat) : (s.bump a hi lo).clr = s.clr := by rfl
@[simp] theorem State.bump_icc (s : State) (a hi lo : Nat) : (s.bump a hi lo).icc = s.icc := by rfl
@[simp] theorem State.bump_rmc (s : State) (a hi lo : Nat) : (s.bump a hi lo).rmc = s.rmc := by rfl
@[simp] theorem State.bump_lgr (s : State) (a hi lo : Nat) : (s.bump a hi lo).lgr = s.lgr := by rfl
@[simp] theorem State.bump_lamps (s : State) (a hi lo : Nat) : (s.bump a hi lo).lamps = s.lamps := by rfl
@[simp] theorem State.bump_latch (s : State) (a hi lo : Nat) : (s.bump a hi lo).latch = s.latch := by rfl
@[simp] theorem State.bump_latchBase (s : State) (a hi lo : Nat) : (s.bump a hi lo).latchBase = s.latchBase := by rfl
@[simp] theorem State.bump_latchOwn (s : State) (a hi lo : Nat) : (s.bump a hi lo).latchOwn = s.latchOwn := by rfl
@[simp] theorem State.bump_free (s : State) (a hi lo : Nat) : (s.bump a hi lo).free = s.free := by rfl

@[simp] theorem State.wrN_pending (s : State) (a n v : Nat) : (s.wrN a n v).pending = s.pending := by
  induction n generalizing s a v with
  | zero => rfl
  | succ n ih => exact ih _ _ _
@[simp] theorem State.zero_pending (s : State) (a n : Nat) : (s.zero a n).pending = s.pending := by
  induction n generalizing s a with
  | zero => rfl
  | succ n ih => exact ih _ _
@[simp] theorem State.count_pending (s : State) (a k : Nat) : (s.count a k).pending = s.pending := State.wrN_pending s a 2 _
@[simp] theorem State.wrN_stk (s : State) (a n v : Nat) : (s.wrN a n v).stk = s.stk := by
  induction n generalizing s a v with
  | zero => rfl
  | succ n ih => exact ih _ _ _
@[simp] theorem State.zero_stk (s : State) (a n : Nat) : (s.zero a n).stk = s.stk := by
  induction n generalizing s a with
  | zero => rfl
  | succ n ih => exact ih _ _
@[simp] theorem State.count_stk (s : State) (a k : Nat) : (s.count a k).stk = s.stk := State.wrN_stk s a 2 _
@[simp] theorem State.wrN_cores (s : State) (a n v : Nat) : (s.wrN a n v).cores = s.cores := by
  induction n generalizing s a v with
  | zero => rfl
  | succ n ih => exact ih _ _ _
@[simp] theorem State.zero_cores (s : State) (a n : Nat) : (s.zero a n).cores = s.cores := by
  induction n generalizing s a with
  | zero => rfl
  | succ n ih => exact ih _ _
@[simp] theorem State.count_cores (s : State) (a k : Nat) : (s.count a k).cores = s.cores := State.wrN_cores s a 2 _
@[simp] theorem State.wrN_kfetch (s : State) (a n v : Nat) : (s.wrN a n v).kfetch = s.kfetch := by
  induction n generalizing s a v with
  | zero => rfl
  | succ n ih => exact ih _ _ _
@[simp] theorem State.zero_kfetch (s : State) (a n : Nat) : (s.zero a n).kfetch = s.kfetch := by
  induction n generalizing s a with
  | zero => rfl
  | succ n ih => exact ih _ _
@[simp] theorem State.count_kfetch (s : State) (a k : Nat) : (s.count a k).kfetch = s.kfetch := State.wrN_kfetch s a 2 _
@[simp] theorem State.wrN_kept (s : State) (a n v : Nat) : (s.wrN a n v).kept = s.kept := by
  induction n generalizing s a v with
  | zero => rfl
  | succ n ih => exact ih _ _ _
@[simp] theorem State.zero_kept (s : State) (a n : Nat) : (s.zero a n).kept = s.kept := by
  induction n generalizing s a with
  | zero => rfl
  | succ n ih => exact ih _ _
@[simp] theorem State.count_kept (s : State) (a k : Nat) : (s.count a k).kept = s.kept := State.wrN_kept s a 2 _
@[simp] theorem State.wrN_pmc (s : State) (a n v : Nat) : (s.wrN a n v).pmc = s.pmc := by
  induction n generalizing s a v with
  | zero => rfl
  | succ n ih => exact ih _ _ _
@[simp] theorem State.zero_pmc (s : State) (a n : Nat) : (s.zero a n).pmc = s.pmc := by
  induction n generalizing s a with
  | zero => rfl
  | succ n ih => exact ih _ _
@[simp] theorem State.count_pmc (s : State) (a k : Nat) : (s.count a k).pmc = s.pmc := State.wrN_pmc s a 2 _
@[simp] theorem State.wrN_ppt (s : State) (a n v : Nat) : (s.wrN a n v).ppt = s.ppt := by
  induction n generalizing s a v with
  | zero => rfl
  | succ n ih => exact ih _ _ _
@[simp] theorem State.zero_ppt (s : State) (a n : Nat) : (s.zero a n).ppt = s.ppt := by
  induction n generalizing s a with
  | zero => rfl
  | succ n ih => exact ih _ _
@[simp] theorem State.count_ppt (s : State) (a k : Nat) : (s.count a k).ppt = s.ppt := State.wrN_ppt s a 2 _
@[simp] theorem State.wrN_pwr (s : State) (a n v : Nat) : (s.wrN a n v).pwr = s.pwr := by
  induction n generalizing s a v with
  | zero => rfl
  | succ n ih => exact ih _ _ _
@[simp] theorem State.zero_pwr (s : State) (a n : Nat) : (s.zero a n).pwr = s.pwr := by
  induction n generalizing s a with
  | zero => rfl
  | succ n ih => exact ih _ _
@[simp] theorem State.count_pwr (s : State) (a k : Nat) : (s.count a k).pwr = s.pwr := State.wrN_pwr s a 2 _
@[simp] theorem State.wrN_key (s : State) (a n v : Nat) : (s.wrN a n v).key = s.key := by
  induction n generalizing s a v with
  | zero => rfl
  | succ n ih => exact ih _ _ _
@[simp] theorem State.zero_key (s : State) (a n : Nat) : (s.zero a n).key = s.key := by
  induction n generalizing s a with
  | zero => rfl
  | succ n ih => exact ih _ _
@[simp] theorem State.count_key (s : State) (a k : Nat) : (s.count a k).key = s.key := State.wrN_key s a 2 _
@[simp] theorem State.wrN_hif (s : State) (a n v : Nat) : (s.wrN a n v).hif = s.hif := by
  induction n generalizing s a v with
  | zero => rfl
  | succ n ih => exact ih _ _ _
@[simp] theorem State.zero_hif (s : State) (a n : Nat) : (s.zero a n).hif = s.hif := by
  induction n generalizing s a with
  | zero => rfl
  | succ n ih => exact ih _ _
@[simp] theorem State.count_hif (s : State) (a k : Nat) : (s.count a k).hif = s.hif := State.wrN_hif s a 2 _
@[simp] theorem State.wrN_gravers (s : State) (a n v : Nat) : (s.wrN a n v).gravers = s.gravers := by
  induction n generalizing s a v with
  | zero => rfl
  | succ n ih => exact ih _ _ _
@[simp] theorem State.zero_gravers (s : State) (a n : Nat) : (s.zero a n).gravers = s.gravers := by
  induction n generalizing s a with
  | zero => rfl
  | succ n ih => exact ih _ _
@[simp] theorem State.count_gravers (s : State) (a k : Nat) : (s.count a k).gravers = s.gravers := State.wrN_gravers s a 2 _
@[simp] theorem State.wrN_setup (s : State) (a n v : Nat) : (s.wrN a n v).setup = s.setup := by
  induction n generalizing s a v with
  | zero => rfl
  | succ n ih => exact ih _ _ _
@[simp] theorem State.zero_setup (s : State) (a n : Nat) : (s.zero a n).setup = s.setup := by
  induction n generalizing s a with
  | zero => rfl
  | succ n ih => exact ih _ _
@[simp] theorem State.count_setup (s : State) (a k : Nat) : (s.count a k).setup = s.setup := State.wrN_setup s a 2 _
@[simp] theorem State.wrN_plc (s : State) (a n v : Nat) : (s.wrN a n v).plc = s.plc := by
  induction n generalizing s a v with
  | zero => rfl
  | succ n ih => exact ih _ _ _
@[simp] theorem State.zero_plc (s : State) (a n : Nat) : (s.zero a n).plc = s.plc := by
  induction n generalizing s a with
  | zero => rfl
  | succ n ih => exact ih _ _
@[simp] theorem State.count_plc (s : State) (a k : Nat) : (s.count a k).plc = s.plc := State.wrN_plc s a 2 _
@[simp] theorem State.wrN_spn (s : State) (a n v : Nat) : (s.wrN a n v).spn = s.spn := by
  induction n generalizing s a v with
  | zero => rfl
  | succ n ih => exact ih _ _ _
@[simp] theorem State.zero_spn (s : State) (a n : Nat) : (s.zero a n).spn = s.spn := by
  induction n generalizing s a with
  | zero => rfl
  | succ n ih => exact ih _ _
@[simp] theorem State.count_spn (s : State) (a k : Nat) : (s.count a k).spn = s.spn := State.wrN_spn s a 2 _
@[simp] theorem State.wrN_dck (s : State) (a n v : Nat) : (s.wrN a n v).dck = s.dck := by
  induction n generalizing s a v with
  | zero => rfl
  | succ n ih => exact ih _ _ _
@[simp] theorem State.zero_dck (s : State) (a n : Nat) : (s.zero a n).dck = s.dck := by
  induction n generalizing s a with
  | zero => rfl
  | succ n ih => exact ih _ _
@[simp] theorem State.count_dck (s : State) (a k : Nat) : (s.count a k).dck = s.dck := State.wrN_dck s a 2 _
@[simp] theorem State.wrN_vdt (s : State) (a n v : Nat) : (s.wrN a n v).vdt = s.vdt := by
  induction n generalizing s a v with
  | zero => rfl
  | succ n ih => exact ih _ _ _
@[simp] theorem State.zero_vdt (s : State) (a n : Nat) : (s.zero a n).vdt = s.vdt := by
  induction n generalizing s a with
  | zero => rfl
  | succ n ih => exact ih _ _
@[simp] theorem State.count_vdt (s : State) (a k : Nat) : (s.count a k).vdt = s.vdt := State.wrN_vdt s a 2 _
@[simp] theorem State.wrN_vwire (s : State) (a n v : Nat) : (s.wrN a n v).vwire = s.vwire := by
  induction n generalizing s a v with
  | zero => rfl
  | succ n ih => exact ih _ _ _
@[simp] theorem State.zero_vwire (s : State) (a n : Nat) : (s.zero a n).vwire = s.vwire := by
  induction n generalizing s a with
  | zero => rfl
  | succ n ih => exact ih _ _
@[simp] theorem State.count_vwire (s : State) (a k : Nat) : (s.count a k).vwire = s.vwire := State.wrN_vwire s a 2 _
@[simp] theorem State.wrN_nva (s : State) (a n v : Nat) : (s.wrN a n v).nva = s.nva := by
  induction n generalizing s a v with
  | zero => rfl
  | succ n ih => exact ih _ _ _
@[simp] theorem State.zero_nva (s : State) (a n : Nat) : (s.zero a n).nva = s.nva := by
  induction n generalizing s a with
  | zero => rfl
  | succ n ih => exact ih _ _
@[simp] theorem State.count_nva (s : State) (a k : Nat) : (s.count a k).nva = s.nva := State.wrN_nva s a 2 _
@[simp] theorem State.wrN_lcy (s : State) (a n v : Nat) : (s.wrN a n v).lcy = s.lcy := by
  induction n generalizing s a v with
  | zero => rfl
  | succ n ih => exact ih _ _ _
@[simp] theorem State.zero_lcy (s : State) (a n : Nat) : (s.zero a n).lcy = s.lcy := by
  induction n generalizing s a with
  | zero => rfl
  | succ n ih => exact ih _ _
@[simp] theorem State.count_lcy (s : State) (a k : Nat) : (s.count a k).lcy = s.lcy := State.wrN_lcy s a 2 _
@[simp] theorem State.wrN_ent (s : State) (a n v : Nat) : (s.wrN a n v).ent = s.ent := by
  induction n generalizing s a v with
  | zero => rfl
  | succ n ih => exact ih _ _ _
@[simp] theorem State.zero_ent (s : State) (a n : Nat) : (s.zero a n).ent = s.ent := by
  induction n generalizing s a with
  | zero => rfl
  | succ n ih => exact ih _ _
@[simp] theorem State.count_ent (s : State) (a k : Nat) : (s.count a k).ent = s.ent := State.wrN_ent s a 2 _
@[simp] theorem State.wrN_answer (s : State) (a n v : Nat) : (s.wrN a n v).answer = s.answer := by
  induction n generalizing s a v with
  | zero => rfl
  | succ n ih => exact ih _ _ _
@[simp] theorem State.zero_answer (s : State) (a n : Nat) : (s.zero a n).answer = s.answer := by
  induction n generalizing s a with
  | zero => rfl
  | succ n ih => exact ih _ _
@[simp] theorem State.count_answer (s : State) (a k : Nat) : (s.count a k).answer = s.answer := State.wrN_answer s a 2 _
@[simp] theorem State.wrN_answered (s : State) (a n v : Nat) : (s.wrN a n v).answered = s.answered := by
  induction n generalizing s a v with
  | zero => rfl
  | succ n ih => exact ih _ _ _
@[simp] theorem State.zero_answered (s : State) (a n : Nat) : (s.zero a n).answered = s.answered := by
  induction n generalizing s a with
  | zero => rfl
  | succ n ih => exact ih _ _
@[simp] theorem State.count_answered (s : State) (a k : Nat) : (s.count a k).answered = s.answered := State.wrN_answered s a 2 _
@[simp] theorem State.wrN_dword (s : State) (a n v : Nat) : (s.wrN a n v).dword = s.dword := by
  induction n generalizing s a v with
  | zero => rfl
  | succ n ih => exact ih _ _ _
@[simp] theorem State.zero_dword (s : State) (a n : Nat) : (s.zero a n).dword = s.dword := by
  induction n generalizing s a with
  | zero => rfl
  | succ n ih => exact ih _ _
@[simp] theorem State.count_dword (s : State) (a k : Nat) : (s.count a k).dword = s.dword := State.wrN_dword s a 2 _
@[simp] theorem State.wrN_clr (s : State) (a n v : Nat) : (s.wrN a n v).clr = s.clr := by
  induction n generalizing s a v with
  | zero => rfl
  | succ n ih => exact ih _ _ _
@[simp] theorem State.zero_clr (s : State) (a n : Nat) : (s.zero a n).clr = s.clr := by
  induction n generalizing s a with
  | zero => rfl
  | succ n ih => exact ih _ _
@[simp] theorem State.count_clr (s : State) (a k : Nat) : (s.count a k).clr = s.clr := State.wrN_clr s a 2 _
@[simp] theorem State.wrN_icc (s : State) (a n v : Nat) : (s.wrN a n v).icc = s.icc := by
  induction n generalizing s a v with
  | zero => rfl
  | succ n ih => exact ih _ _ _
@[simp] theorem State.zero_icc (s : State) (a n : Nat) : (s.zero a n).icc = s.icc := by
  induction n generalizing s a with
  | zero => rfl
  | succ n ih => exact ih _ _
@[simp] theorem State.count_icc (s : State) (a k : Nat) : (s.count a k).icc = s.icc := State.wrN_icc s a 2 _
@[simp] theorem State.wrN_rmc (s : State) (a n v : Nat) : (s.wrN a n v).rmc = s.rmc := by
  induction n generalizing s a v with
  | zero => rfl
  | succ n ih => exact ih _ _ _
@[simp] theorem State.zero_rmc (s : State) (a n : Nat) : (s.zero a n).rmc = s.rmc := by
  induction n generalizing s a with
  | zero => rfl
  | succ n ih => exact ih _ _
@[simp] theorem State.count_rmc (s : State) (a k : Nat) : (s.count a k).rmc = s.rmc := State.wrN_rmc s a 2 _
@[simp] theorem State.wrN_lgr (s : State) (a n v : Nat) : (s.wrN a n v).lgr = s.lgr := by
  induction n generalizing s a v with
  | zero => rfl
  | succ n ih => exact ih _ _ _
@[simp] theorem State.zero_lgr (s : State) (a n : Nat) : (s.zero a n).lgr = s.lgr := by
  induction n generalizing s a with
  | zero => rfl
  | succ n ih => exact ih _ _
@[simp] theorem State.count_lgr (s : State) (a k : Nat) : (s.count a k).lgr = s.lgr := State.wrN_lgr s a 2 _
@[simp] theorem State.wrN_lamps (s : State) (a n v : Nat) : (s.wrN a n v).lamps = s.lamps := by
  induction n generalizing s a v with
  | zero => rfl
  | succ n ih => exact ih _ _ _
@[simp] theorem State.zero_lamps (s : State) (a n : Nat) : (s.zero a n).lamps = s.lamps := by
  induction n generalizing s a with
  | zero => rfl
  | succ n ih => exact ih _ _
@[simp] theorem State.count_lamps (s : State) (a k : Nat) : (s.count a k).lamps = s.lamps := State.wrN_lamps s a 2 _
@[simp] theorem State.wrN_latch (s : State) (a n v : Nat) : (s.wrN a n v).latch = s.latch := by
  induction n generalizing s a v with
  | zero => rfl
  | succ n ih => exact ih _ _ _
@[simp] theorem State.zero_latch (s : State) (a n : Nat) : (s.zero a n).latch = s.latch := by
  induction n generalizing s a with
  | zero => rfl
  | succ n ih => exact ih _ _
@[simp] theorem State.count_latch (s : State) (a k : Nat) : (s.count a k).latch = s.latch := State.wrN_latch s a 2 _
@[simp] theorem State.wrN_latchBase (s : State) (a n v : Nat) : (s.wrN a n v).latchBase = s.latchBase := by
  induction n generalizing s a v with
  | zero => rfl
  | succ n ih => exact ih _ _ _
@[simp] theorem State.zero_latchBase (s : State) (a n : Nat) : (s.zero a n).latchBase = s.latchBase := by
  induction n generalizing s a with
  | zero => rfl
  | succ n ih => exact ih _ _
@[simp] theorem State.count_latchBase (s : State) (a k : Nat) : (s.count a k).latchBase = s.latchBase := State.wrN_latchBase s a 2 _
@[simp] theorem State.wrN_latchOwn (s : State) (a n v : Nat) : (s.wrN a n v).latchOwn = s.latchOwn := by
  induction n generalizing s a v with
  | zero => rfl
  | succ n ih => exact ih _ _ _
@[simp] theorem State.zero_latchOwn (s : State) (a n : Nat) : (s.zero a n).latchOwn = s.latchOwn := by
  induction n generalizing s a with
  | zero => rfl
  | succ n ih => exact ih _ _
@[simp] theorem State.count_latchOwn (s : State) (a k : Nat) : (s.count a k).latchOwn = s.latchOwn := State.wrN_latchOwn s a 2 _
@[simp] theorem State.wrN_free (s : State) (a n v : Nat) : (s.wrN a n v).free = s.free := by
  induction n generalizing s a v with
  | zero => rfl
  | succ n ih => exact ih _ _ _
@[simp] theorem State.zero_free (s : State) (a n : Nat) : (s.zero a n).free = s.free := by
  induction n generalizing s a with
  | zero => rfl
  | succ n ih => exact ih _ _
@[simp] theorem State.count_free (s : State) (a k : Nat) : (s.count a k).free = s.free := State.wrN_free s a 2 _

@[simp] theorem State.pmcEvent_pending (s : State) (e : PmcEvent) : (s.pmcEvent e).pending = s.pending := by rfl
@[simp] theorem State.pmcLatency_pending (s : State) (k c : Nat) (d p : Option Nat) : (s.pmcLatency k c d p).pending = s.pending := by rfl
@[simp] theorem State.useFree_pending (s : State) : s.useFree.2.pending = s.pending := by rfl
@[simp] theorem State.pmcEvent_io (s : State) (e : PmcEvent) : (s.pmcEvent e).io = s.io := by rfl
@[simp] theorem State.pmcLatency_io (s : State) (k c : Nat) (d p : Option Nat) : (s.pmcLatency k c d p).io = s.io := by rfl
@[simp] theorem State.useFree_io (s : State) : s.useFree.2.io = s.io := by rfl
@[simp] theorem State.pmcEvent_stk (s : State) (e : PmcEvent) : (s.pmcEvent e).stk = s.stk := by rfl
@[simp] theorem State.pmcLatency_stk (s : State) (k c : Nat) (d p : Option Nat) : (s.pmcLatency k c d p).stk = s.stk := by rfl
@[simp] theorem State.useFree_stk (s : State) : s.useFree.2.stk = s.stk := by rfl
@[simp] theorem State.pmcEvent_cores (s : State) (e : PmcEvent) : (s.pmcEvent e).cores = s.cores := by rfl
@[simp] theorem State.pmcLatency_cores (s : State) (k c : Nat) (d p : Option Nat) : (s.pmcLatency k c d p).cores = s.cores := by rfl
@[simp] theorem State.useFree_cores (s : State) : s.useFree.2.cores = s.cores := by rfl
@[simp] theorem State.pmcEvent_kfetch (s : State) (e : PmcEvent) : (s.pmcEvent e).kfetch = s.kfetch := by rfl
@[simp] theorem State.pmcLatency_kfetch (s : State) (k c : Nat) (d p : Option Nat) : (s.pmcLatency k c d p).kfetch = s.kfetch := by rfl
@[simp] theorem State.useFree_kfetch (s : State) : s.useFree.2.kfetch = s.kfetch := by rfl
@[simp] theorem State.pmcEvent_kept (s : State) (e : PmcEvent) : (s.pmcEvent e).kept = s.kept := by rfl
@[simp] theorem State.pmcLatency_kept (s : State) (k c : Nat) (d p : Option Nat) : (s.pmcLatency k c d p).kept = s.kept := by rfl
@[simp] theorem State.useFree_kept (s : State) : s.useFree.2.kept = s.kept := by rfl
@[simp] theorem State.useFree_pmc (s : State) : s.useFree.2.pmc = s.pmc := by rfl
@[simp] theorem State.pmcEvent_ppt (s : State) (e : PmcEvent) : (s.pmcEvent e).ppt = s.ppt := by rfl
@[simp] theorem State.pmcLatency_ppt (s : State) (k c : Nat) (d p : Option Nat) : (s.pmcLatency k c d p).ppt = s.ppt := by rfl
@[simp] theorem State.useFree_ppt (s : State) : s.useFree.2.ppt = s.ppt := by rfl
@[simp] theorem State.pmcEvent_pwr (s : State) (e : PmcEvent) : (s.pmcEvent e).pwr = s.pwr := by rfl
@[simp] theorem State.pmcLatency_pwr (s : State) (k c : Nat) (d p : Option Nat) : (s.pmcLatency k c d p).pwr = s.pwr := by rfl
@[simp] theorem State.useFree_pwr (s : State) : s.useFree.2.pwr = s.pwr := by rfl
@[simp] theorem State.pmcEvent_key (s : State) (e : PmcEvent) : (s.pmcEvent e).key = s.key := by rfl
@[simp] theorem State.pmcLatency_key (s : State) (k c : Nat) (d p : Option Nat) : (s.pmcLatency k c d p).key = s.key := by rfl
@[simp] theorem State.useFree_key (s : State) : s.useFree.2.key = s.key := by rfl
@[simp] theorem State.pmcEvent_hif (s : State) (e : PmcEvent) : (s.pmcEvent e).hif = s.hif := by rfl
@[simp] theorem State.pmcLatency_hif (s : State) (k c : Nat) (d p : Option Nat) : (s.pmcLatency k c d p).hif = s.hif := by rfl
@[simp] theorem State.useFree_hif (s : State) : s.useFree.2.hif = s.hif := by rfl
@[simp] theorem State.pmcEvent_gravers (s : State) (e : PmcEvent) : (s.pmcEvent e).gravers = s.gravers := by rfl
@[simp] theorem State.pmcLatency_gravers (s : State) (k c : Nat) (d p : Option Nat) : (s.pmcLatency k c d p).gravers = s.gravers := by rfl
@[simp] theorem State.useFree_gravers (s : State) : s.useFree.2.gravers = s.gravers := by rfl
@[simp] theorem State.pmcEvent_setup (s : State) (e : PmcEvent) : (s.pmcEvent e).setup = s.setup := by rfl
@[simp] theorem State.pmcLatency_setup (s : State) (k c : Nat) (d p : Option Nat) : (s.pmcLatency k c d p).setup = s.setup := by rfl
@[simp] theorem State.useFree_setup (s : State) : s.useFree.2.setup = s.setup := by rfl
@[simp] theorem State.pmcEvent_plc (s : State) (e : PmcEvent) : (s.pmcEvent e).plc = s.plc := by rfl
@[simp] theorem State.pmcLatency_plc (s : State) (k c : Nat) (d p : Option Nat) : (s.pmcLatency k c d p).plc = s.plc := by rfl
@[simp] theorem State.useFree_plc (s : State) : s.useFree.2.plc = s.plc := by rfl
@[simp] theorem State.pmcEvent_spn (s : State) (e : PmcEvent) : (s.pmcEvent e).spn = s.spn := by rfl
@[simp] theorem State.pmcLatency_spn (s : State) (k c : Nat) (d p : Option Nat) : (s.pmcLatency k c d p).spn = s.spn := by rfl
@[simp] theorem State.useFree_spn (s : State) : s.useFree.2.spn = s.spn := by rfl
@[simp] theorem State.pmcEvent_dck (s : State) (e : PmcEvent) : (s.pmcEvent e).dck = s.dck := by rfl
@[simp] theorem State.pmcLatency_dck (s : State) (k c : Nat) (d p : Option Nat) : (s.pmcLatency k c d p).dck = s.dck := by rfl
@[simp] theorem State.useFree_dck (s : State) : s.useFree.2.dck = s.dck := by rfl
@[simp] theorem State.pmcEvent_vdt (s : State) (e : PmcEvent) : (s.pmcEvent e).vdt = s.vdt := by rfl
@[simp] theorem State.pmcLatency_vdt (s : State) (k c : Nat) (d p : Option Nat) : (s.pmcLatency k c d p).vdt = s.vdt := by rfl
@[simp] theorem State.useFree_vdt (s : State) : s.useFree.2.vdt = s.vdt := by rfl
@[simp] theorem State.pmcEvent_vwire (s : State) (e : PmcEvent) : (s.pmcEvent e).vwire = s.vwire := by rfl
@[simp] theorem State.pmcLatency_vwire (s : State) (k c : Nat) (d p : Option Nat) : (s.pmcLatency k c d p).vwire = s.vwire := by rfl
@[simp] theorem State.useFree_vwire (s : State) : s.useFree.2.vwire = s.vwire := by rfl
@[simp] theorem State.pmcEvent_nva (s : State) (e : PmcEvent) : (s.pmcEvent e).nva = s.nva := by rfl
@[simp] theorem State.pmcLatency_nva (s : State) (k c : Nat) (d p : Option Nat) : (s.pmcLatency k c d p).nva = s.nva := by rfl
@[simp] theorem State.useFree_nva (s : State) : s.useFree.2.nva = s.nva := by rfl
@[simp] theorem State.pmcEvent_lcy (s : State) (e : PmcEvent) : (s.pmcEvent e).lcy = s.lcy := by rfl
@[simp] theorem State.pmcLatency_lcy (s : State) (k c : Nat) (d p : Option Nat) : (s.pmcLatency k c d p).lcy = s.lcy := by rfl
@[simp] theorem State.useFree_lcy (s : State) : s.useFree.2.lcy = s.lcy := by rfl
@[simp] theorem State.pmcEvent_ent (s : State) (e : PmcEvent) : (s.pmcEvent e).ent = s.ent := by rfl
@[simp] theorem State.pmcLatency_ent (s : State) (k c : Nat) (d p : Option Nat) : (s.pmcLatency k c d p).ent = s.ent := by rfl
@[simp] theorem State.useFree_ent (s : State) : s.useFree.2.ent = s.ent := by rfl
@[simp] theorem State.pmcEvent_answer (s : State) (e : PmcEvent) : (s.pmcEvent e).answer = s.answer := by rfl
@[simp] theorem State.pmcLatency_answer (s : State) (k c : Nat) (d p : Option Nat) : (s.pmcLatency k c d p).answer = s.answer := by rfl
@[simp] theorem State.useFree_answer (s : State) : s.useFree.2.answer = s.answer := by rfl
@[simp] theorem State.pmcEvent_answered (s : State) (e : PmcEvent) : (s.pmcEvent e).answered = s.answered := by rfl
@[simp] theorem State.pmcLatency_answered (s : State) (k c : Nat) (d p : Option Nat) : (s.pmcLatency k c d p).answered = s.answered := by rfl
@[simp] theorem State.useFree_answered (s : State) : s.useFree.2.answered = s.answered := by rfl
@[simp] theorem State.pmcEvent_dword (s : State) (e : PmcEvent) : (s.pmcEvent e).dword = s.dword := by rfl
@[simp] theorem State.pmcLatency_dword (s : State) (k c : Nat) (d p : Option Nat) : (s.pmcLatency k c d p).dword = s.dword := by rfl
@[simp] theorem State.useFree_dword (s : State) : s.useFree.2.dword = s.dword := by rfl
@[simp] theorem State.pmcEvent_clr (s : State) (e : PmcEvent) : (s.pmcEvent e).clr = s.clr := by rfl
@[simp] theorem State.pmcLatency_clr (s : State) (k c : Nat) (d p : Option Nat) : (s.pmcLatency k c d p).clr = s.clr := by rfl
@[simp] theorem State.useFree_clr (s : State) : s.useFree.2.clr = s.clr := by rfl
@[simp] theorem State.pmcEvent_icc (s : State) (e : PmcEvent) : (s.pmcEvent e).icc = s.icc := by rfl
@[simp] theorem State.pmcLatency_icc (s : State) (k c : Nat) (d p : Option Nat) : (s.pmcLatency k c d p).icc = s.icc := by rfl
@[simp] theorem State.useFree_icc (s : State) : s.useFree.2.icc = s.icc := by rfl
@[simp] theorem State.pmcEvent_rmc (s : State) (e : PmcEvent) : (s.pmcEvent e).rmc = s.rmc := by rfl
@[simp] theorem State.pmcLatency_rmc (s : State) (k c : Nat) (d p : Option Nat) : (s.pmcLatency k c d p).rmc = s.rmc := by rfl
@[simp] theorem State.useFree_rmc (s : State) : s.useFree.2.rmc = s.rmc := by rfl
@[simp] theorem State.pmcEvent_lgr (s : State) (e : PmcEvent) : (s.pmcEvent e).lgr = s.lgr := by rfl
@[simp] theorem State.pmcLatency_lgr (s : State) (k c : Nat) (d p : Option Nat) : (s.pmcLatency k c d p).lgr = s.lgr := by rfl
@[simp] theorem State.useFree_lgr (s : State) : s.useFree.2.lgr = s.lgr := by rfl
@[simp] theorem State.pmcEvent_lamps (s : State) (e : PmcEvent) : (s.pmcEvent e).lamps = s.lamps := by rfl
@[simp] theorem State.pmcLatency_lamps (s : State) (k c : Nat) (d p : Option Nat) : (s.pmcLatency k c d p).lamps = s.lamps := by rfl
@[simp] theorem State.useFree_lamps (s : State) : s.useFree.2.lamps = s.lamps := by rfl
@[simp] theorem State.pmcEvent_latch (s : State) (e : PmcEvent) : (s.pmcEvent e).latch = s.latch := by rfl
@[simp] theorem State.pmcLatency_latch (s : State) (k c : Nat) (d p : Option Nat) : (s.pmcLatency k c d p).latch = s.latch := by rfl
@[simp] theorem State.useFree_latch (s : State) : s.useFree.2.latch = s.latch := by rfl
@[simp] theorem State.pmcEvent_latchBase (s : State) (e : PmcEvent) : (s.pmcEvent e).latchBase = s.latchBase := by rfl
@[simp] theorem State.pmcLatency_latchBase (s : State) (k c : Nat) (d p : Option Nat) : (s.pmcLatency k c d p).latchBase = s.latchBase := by rfl
@[simp] theorem State.useFree_latchBase (s : State) : s.useFree.2.latchBase = s.latchBase := by rfl
@[simp] theorem State.pmcEvent_latchOwn (s : State) (e : PmcEvent) : (s.pmcEvent e).latchOwn = s.latchOwn := by rfl
@[simp] theorem State.pmcLatency_latchOwn (s : State) (k c : Nat) (d p : Option Nat) : (s.pmcLatency k c d p).latchOwn = s.latchOwn := by rfl
@[simp] theorem State.useFree_latchOwn (s : State) : s.useFree.2.latchOwn = s.latchOwn := by rfl
@[simp] theorem State.pmcEvent_free (s : State) (e : PmcEvent) : (s.pmcEvent e).free = s.free := by rfl
@[simp] theorem State.pmcLatency_free (s : State) (k c : Nat) (d p : Option Nat) : (s.pmcLatency k c d p).free = s.free := by rfl
@[simp] theorem State.useFree_number (s : State) : s.useFree.1 = s.free := rfl
@[simp] theorem State.useFree_free (s : State) : s.useFree.2.free = s.free + 1 := by rfl

end Sys2Proof.Machine
end

