-- ==== Sys2Proof/Laws/Steady.lean ====
section
/-! SUPPORT. `Steady` is a preorder that every shared operation keeps. -/

namespace Sys2Proof.Machine

theorem Steady.refl (s : State) : Steady s s := ⟨rfl, rfl, rfl, fun _ => rfl, fun _ => rfl, id⟩

theorem Steady.trans {r s t : State} (h : Steady r s) (g : Steady s t) : Steady r t where
  queue := g.queue.trans h.queue
  time := g.time.trans h.time
  phase := g.phase.trans h.phase
  erased e := (g.erased (by rw [h.erased e]; exact e)).trans (h.erased e)
  hold e := (g.hold (by rw [h.hold e]; exact e)).trans (h.hold e)
  inv i := g.inv (h.inv i)

/-- An update that touches none of the fields of `Steady`. -/
theorem Steady.keep {r s t : State} (hq : t.pending = s.pending) (ht : t.stk.time = s.stk.time) (hp : t.pwr.phase = s.pwr.phase)
    (he : t.ppt.erased = s.ppt.erased) (hh : t.pwr.safeHold = s.pwr.safeHold) (hd : t.pwr.safeHoldDue = s.pwr.safeHoldDue) (hc : t.pwr.heldCause = s.pwr.heldCause)
    (h : Steady r s) : Steady r t :=
  h.trans ⟨hq, ht, hp, fun _ => he, fun _ => hh, fun i => ⟨by rw [hh]; exact i.held, by rw [hd]; exact i.due, by rw [hc]; exact i.latched⟩⟩

/-- The same, found by the form of a record update. -/
theorem Steady.mk' {r s : State} {b c d k0 e f g h i j k l m n o p q t u v w x y z a1 b1 c1 d1 e1 f1 g1 h1} (ht : c.time = s.stk.time) (hp : h.phase = s.pwr.phase)
    (he : g.erased = s.ppt.erased) (hh : h.safeHold = s.pwr.safeHold) (hd : h.safeHoldDue = s.pwr.safeHoldDue) (hc : h.heldCause = s.pwr.heldCause)
    (hs : Steady r s) : Steady r (State.mk s.pending b c d k0 e f g h i j k l m n o p q t u v w x y z a1 b1 c1 d1 e1 f1 g1 h1) :=
  Steady.keep (s := s) rfl ht hp he hh hd hc hs

/-- A cause of SAFE-HOLD falls due (R247). -/
theorem Steady.due' {r s : State} {b c d k0 e f g h i j k l m n o p q t u v w x y z a1 b1 c1 d1 e1 f1 g1 h1} {cz : Nat} (hk : legalCause cz) (ht : c.time = s.stk.time) (hp : h.phase = s.pwr.phase)
    (he : g.erased = s.ppt.erased) (hh : h.safeHold = s.pwr.safeHold) (hd : h.safeHoldDue = (s.pwr.safeHoldDue <|> some cz))
    (hc : h.heldCause = s.pwr.heldCause) (hs : Steady r s) : Steady r (State.mk s.pending b c d k0 e f g h i j k l m n o p q t u v w x y z a1 b1 c1 d1 e1 f1 g1 h1) := by
  refine hs.trans ⟨rfl, ht, hp, fun _ => he, fun _ => hh, fun i => ⟨?_, ?_, ?_⟩⟩
  · dsimp only
    rw [hh]
    exact i.held
  · dsimp only
    rw [hd]
    cases hq : s.pwr.safeHoldDue with
    | none =>
      intro x hx
      cases hx
      exact hk
    | some v =>
      intro x hx
      cases hx
      exact i.due v hq
  · dsimp only
    rw [hc]
    exact i.latched

theorem Steady.ite {r a b : State} {c : Prop} [Decidable c] (ha : Steady r a) (hb : Steady r b) : Steady r (if c then a else b) := by
  split
  · exact ha
  · exact hb

theorem Steady.each {α : Type} {r s : State} {l : List α} {f : α → State → State} (hs : Steady r s)
    (hf : ∀ a t, Steady r t → Steady r (f a t)) : Steady r (s.each l f) := by
  unfold State.each
  induction l generalizing s with
  | nil => exact hs
  | cons a l ih => exact ih (hf a s hs)

theorem Steady.onlyIf {r s : State} {b : Bool} {f : State → State} (hs : Steady r s) (hf : ∀ t, Steady r t → Steady r (f t)) :
    Steady r (s.onlyIf b f) := by
  unfold State.onlyIf
  split
  · exact hf s hs
  · exact hs

theorem Steady.snd {α : Type} {r t : State} {p : α × State} {a : α} (e : p = (a, t)) (h : Steady r p.2) : Steady r t := by
  rw [e] at h
  exact h

theorem Steady.snd2 {α β : Type} {r t : State} {p : α × β × State} {a : α} {b : β} (e : p = (a, b, t)) (h : Steady r p.2.2) :
    Steady r t := by
  rw [e] at h
  exact h

theorem Steady.fst {α : Type} {r t : State} {p : State × α} {a : α} (e : p = (t, a)) (h : Steady r p.1) : Steady r t := by
  rw [e] at h
  exact h

theorem Steady.foldl {α : Type} {r s : State} {l : List α} {f : State → α → State} (hs : Steady r s)
    (hf : ∀ t a, Steady r t → Steady r (f t a)) : Steady r (l.foldl f s) := by
  induction l generalizing s with
  | nil => exact hs
  | cons a l ih => exact ih (hf s a hs)

theorem Steady.foldlSnd {α β : Type} {r : State} {p : β × State} {l : List α} {f : β × State → α → β × State} (hs : Steady r p.2)
    (hf : ∀ q a, Steady r q.2 → Steady r (f q a).2) : Steady r (l.foldl f p).2 := by
  induction l generalizing p with
  | nil => exact hs
  | cons a l ih => exact ih (hf p a hs)

theorem Steady.iteSome {α : Type} {r s t : State} {c : Prop} [Decidable c] {a x : α} {o : Option (α × State)}
    (e : (if c then some (a, s) else o) = some (x, t)) (h : Steady r s) (g : o = some (x, t) → Steady r t) : Steady r t := by
  split at e
  · cases e
    exact h
  · exact g e

theorem Steady.id' {r s : State} (h : Steady r s) : Steady r (id s) := h

theorem Steady.iteOpt {α : Type} {r t : State} {c : Prop} [Decidable c] {x : α} {o p : Option (α × State)}
    (e : (if c then o else p) = some (x, t)) (h : o = some (x, t) → Steady r t) (g : p = some (x, t) → Steady r t) :
    Steady r t := by
  split at e
  · exact h e
  · exact g e

theorem Steady.someEq {α : Type} {r t : State} {x : α} {p : α × State} (e : some p = some (x, t)) (h : Steady r p.2) :
    Steady r t := by
  cases e
  exact h

theorem steady_State_wr {r : State} (s : State) (a : Nat) (w : Word) (h : Steady r s) : Steady r (s.wr a w) :=
  Steady.mk' rfl rfl rfl rfl rfl rfl h

theorem steady_State_wrN {r : State} (s : State) (a n v : Nat) (h : Steady r s) : Steady r (s.wrN a n v) := by
  induction n generalizing s a v with
  | zero => exact h
  | succ n ih => exact ih _ _ _ (steady_State_wr s a _ h)

theorem steady_State_zero {r : State} (s : State) (a n : Nat) (h : Steady r s) : Steady r (s.zero a n) := by
  induction n generalizing s a with
  | zero => exact h
  | succ n ih => exact ih _ _ (steady_State_wr s a _ h)

/-- ERASED is entered where it is not in force (R299). -/
theorem Steady.newErased {r s u t : State} (hs : Steady r s) (hn : s.ppt.erased.isSome = false) (hu : Steady s u)
    (hq : t.pending = u.pending) (ht : t.stk.time = u.stk.time) (hp : t.pwr = u.pwr) : Steady r t where
  queue := hq.trans (hu.queue.trans hs.queue)
  time := ht.trans (hu.time.trans hs.time)
  phase := by rw [hp]; exact (hs.trans hu).phase
  erased e := by
    have h := hs.erased e
    rw [h, e] at hn
    cases hn
  hold e := by rw [hp]; exact (hs.trans hu).hold e
  inv i := by
    have j := (hs.trans hu).inv i
    exact ⟨by rw [hp]; exact j.held, by rw [hp]; exact j.due, by rw [hp]; exact j.latched⟩

/-- SAFE-HOLD is entered by the cause that waits, where it is not in force (R247). -/
theorem Steady.newHold {r s t : State} {c : Nat} (hs : Steady r s) (hd : s.pwr.safeHoldDue = some c) (hn : s.pwr.safeHold = none)
    (hq : t.pending = s.pending) (ht : t.stk.time = s.stk.time) (hf : t.pwr.phase = s.pwr.phase) (hp : t.ppt = s.ppt) (hh : t.pwr.safeHold = some c)
    (he : t.pwr.safeHoldDue = none) (hc : t.pwr.heldCause = c) : Steady r t where
  queue := hq.trans hs.queue
  time := ht.trans hs.time
  phase := hf.trans hs.phase
  erased e := by rw [hp]; exact hs.erased e
  hold e := by
    have h := hs.hold e
    rw [hn] at h
    rw [← h] at e
    cases e
  inv i := by
    have j := (hs.inv i).due c hd
    refine ⟨?_, ?_, ?_⟩
    · rw [hh]
      intro x hx
      cases hx
      exact j
    · rw [he]
      intro x hx
      cases hx
    · rw [hc]
      exact j.2

/-- A cause that waits while SAFE-HOLD is in force is dropped. -/
theorem Steady.dropDue {r s t : State} (hs : Steady r s) (hq : t.pending = s.pending) (ht : t.stk.time = s.stk.time)
    (hf : t.pwr.phase = s.pwr.phase) (hp : t.ppt = s.ppt) (hh : t.pwr.safeHold = s.pwr.safeHold) (he : t.pwr.safeHoldDue = none)
    (hc : t.pwr.heldCause = s.pwr.heldCause) : Steady r t where
  queue := hq.trans hs.queue
  time := ht.trans hs.time
  phase := hf.trans hs.phase
  erased e := by rw [hp]; exact hs.erased e
  hold e := by rw [hh]; exact hs.hold e
  inv i := by
    have j := hs.inv i
    refine ⟨by rw [hh]; exact j.held, ?_, by rw [hc]; exact j.latched⟩
    rw [he]
    intro x hx
    cases hx

/-- The latched cause is cleared with the backup domain (R437). -/
theorem Steady.clearLatched {r s t : State} (hs : Steady r s) (hq : t.pending = s.pending) (ht : t.stk.time = s.stk.time)
    (hf : t.pwr.phase = s.pwr.phase) (hp : t.ppt.erased = s.ppt.erased) (hh : t.pwr.safeHold = s.pwr.safeHold) (he : t.pwr.safeHoldDue = s.pwr.safeHoldDue)
    (hc : t.pwr.heldCause = 0) : Steady r t where
  queue := hq.trans hs.queue
  time := ht.trans hs.time
  phase := hf.trans hs.phase
  erased e := by rw [hp]; exact hs.erased e
  hold e := by rw [hh]; exact hs.hold e
  inv i := by
    have j := hs.inv i
    exact ⟨by rw [hh]; exact j.held, by rw [he]; exact j.due, by rw [hc]; exact Nat.zero_le 4⟩

/-- `Steady` of the state that an instruction comes to. -/
def SteadyDone (r : State) : Done → Prop
  | .next s _ _ => Steady r s
  | .fault s _ _ => Steady r s
  | .after s _ _ _ _ => Steady r s

theorem SteadyDone.next {r s : State} {k : Nat} {f : Bool} (h : Steady r s) : SteadyDone r (.next s k f) := h
theorem SteadyDone.fault {r s : State} {v e : Nat} (h : Steady r s) : SteadyDone r (.fault s v e) := h
theorem SteadyDone.after {r s : State} {k v l e : Nat} (h : Steady r s) : SteadyDone r (.after s k v l e) := h

theorem SteadyDone.outNext {r s : State} {d : Done} {k : Nat} {f : Bool} (e : d = .next s k f) (h : SteadyDone r d) : Steady r s := by
  subst e
  exact h

theorem SteadyDone.outFault {r s : State} {d : Done} {v x : Nat} (e : d = .fault s v x) (h : SteadyDone r d) : Steady r s := by
  subst e
  exact h

theorem SteadyDone.outAfter {r s : State} {d : Done} {k v l x : Nat} (e : d = .after s k v l x) (h : SteadyDone r d) :
    Steady r s := by
  subst e
  exact h

theorem SteadyDone.ite {r : State} {a b : Done} {c : Prop} [Decidable c] (ha : SteadyDone r a) (hb : SteadyDone r b) :
    SteadyDone r (if c then a else b) := by
  split
  · exact ha
  · exact hb

end Sys2Proof.Machine
end

