-- ==== Sys2Proof/Laws/SteadyOps.lean ====
section
/-! SUPPORT. What the operations of Machine/Ops.lean keep (`Steady`). -/

namespace Sys2Proof.Machine

theorem steady_State_put {ρ : State} (s : State) (a : Nat) (hi : Nat) (lo : Nat) (v : Nat) (hρ : Steady ρ s) : Steady ρ (State.put s a hi lo v) := by
  unfold State.put
  repeat' first | with_reducible assumption | refine fun _ => ?_ | with_reducible apply steady_State_wr | dsimp only | split

theorem steady_State_raise {ρ : State} (s : State) (a : Nat) (i : Nat) (hρ : Steady ρ s) : Steady ρ (State.raise s a i) := by
  unfold State.raise
  repeat' first | with_reducible assumption | refine fun _ => ?_ | with_reducible apply steady_State_put | dsimp only | split

theorem steady_State_flag {ρ : State} (s : State) (a : Nat) (i : Nat) (b : Bool) (hρ : Steady ρ s) : Steady ρ (State.flag s a i b) := by
  unfold State.flag
  repeat' first | with_reducible assumption | refine fun _ => ?_ | with_reducible apply steady_State_put | with_reducible apply Steady.ite | dsimp only | split

theorem steady_State_count {ρ : State} (s : State) (a : Nat) (k : Nat) (hρ : Steady ρ s) : Steady ρ (State.count s a k) := by
  unfold State.count
  repeat' first | with_reducible assumption | refine fun _ => ?_ | with_reducible apply steady_State_wrN | dsimp only | split

theorem steady_State_bump {ρ : State} (s : State) (a : Nat) (hi : Nat) (lo : Nat) (hρ : Steady ρ s) : Steady ρ (State.bump s a hi lo) := by
  unfold State.bump
  repeat' first | with_reducible assumption | refine fun _ => ?_ | with_reducible apply steady_State_put | dsimp only | split

theorem steady_State_useFree {ρ : State} (s : State) (hρ : Steady ρ s) : Steady ρ (State.useFree s).2 := by
  unfold State.useFree
  repeat' first | with_reducible assumption | refine fun _ => ?_ | fail_if_no_progress (with_reducible refine Steady.mk' ?_ ?_ ?_ ?_ ?_ ?_ ?_; iterate 6 first | with_reducible rfl | (unfold setTransit; with_reducible rfl) | (split <;> with_reducible rfl) | (dsimp only; split <;> with_reducible rfl) | (focus (simp; done)) | fail) | dsimp only | split

theorem steady_plainWrite {ρ : State} (keep : Bool) (a : Nat) (w : Word) (s : State) (hρ : Steady ρ s) : Steady ρ (plainWrite keep a w s) := by
  unfold plainWrite
  repeat' first | with_reducible assumption | refine fun _ => ?_ | with_reducible apply steady_State_wr | fail_if_no_progress (with_reducible refine Steady.mk' ?_ ?_ ?_ ?_ ?_ ?_ ?_; iterate 6 first | with_reducible rfl | (unfold setTransit; with_reducible rfl) | (split <;> with_reducible rfl) | (dsimp only; split <;> with_reducible rfl) | (focus (simp; done)) | fail) | with_reducible refine Steady.snd (by with_reducible assumption) ?_ | with_reducible refine Steady.snd2 (by with_reducible assumption) ?_ | with_reducible refine Steady.fst (by with_reducible assumption) ?_ | dsimp only | split

theorem steady_State_pmcEvent {ρ : State} (s : State) (e : PmcEvent) (hρ : Steady ρ s) : Steady ρ (State.pmcEvent s e) := by
  unfold State.pmcEvent
  repeat' first | with_reducible assumption | refine fun _ => ?_ | with_reducible apply Steady.ite | fail_if_no_progress (with_reducible refine Steady.mk' ?_ ?_ ?_ ?_ ?_ ?_ ?_; iterate 6 first | with_reducible rfl | (unfold setTransit; with_reducible rfl) | (split <;> with_reducible rfl) | (dsimp only; split <;> with_reducible rfl) | (focus (simp; done)) | fail) | with_reducible apply Steady.foldl | with_reducible apply Steady.foldlSnd | dsimp only | split

theorem steady_State_pmcLatency {ρ : State} (s : State) (src : Nat) (cycles : Nat) (dom : Option Nat) (pg : Option Nat) (hρ : Steady ρ s) : Steady ρ (State.pmcLatency s src cycles dom pg) := by
  unfold State.pmcLatency
  repeat' first | with_reducible assumption | refine fun _ => ?_ | with_reducible apply Steady.ite | fail_if_no_progress (with_reducible refine Steady.mk' ?_ ?_ ?_ ?_ ?_ ?_ ?_; iterate 6 first | with_reducible rfl | (unfold setTransit; with_reducible rfl) | (split <;> with_reducible rfl) | (dsimp only; split <;> with_reducible rfl) | (focus (simp; done)) | fail) | dsimp only | split

end Sys2Proof.Machine
end

