-- ==== Sys2Proof/Laws/SteadyParapet.lean ====
section
/-! SUPPORT. What the operations of Machine/Parapet.lean keep (`Steady`). -/

namespace Sys2Proof.Machine

theorem steady_pptShow {ρ : State} (s : State) (hρ : Steady ρ s) : Steady ρ (pptShow s) := by
  unfold pptShow
  repeat' first | with_reducible assumption | refine fun _ => ?_ | with_reducible apply steady_State_wr | fail_if_no_progress (with_reducible refine Steady.mk' ?_ ?_ ?_ ?_ ?_ ?_ ?_; iterate 6 first | with_reducible rfl | (unfold setTransit; with_reducible rfl) | (split <;> with_reducible rfl) | (dsimp only; split <;> with_reducible rfl) | (focus (simp; done)) | fail) | with_reducible refine Steady.snd (by with_reducible assumption) ?_ | with_reducible refine Steady.snd2 (by with_reducible assumption) ?_ | with_reducible refine Steady.fst (by with_reducible assumption) ?_ | dsimp only | split

theorem steady_eraseStepOne {ρ : State} (s : State) (hρ : Steady ρ s) : Steady ρ (eraseStepOne s) := by
  unfold eraseStepOne
  repeat' first | with_reducible assumption | refine fun _ => ?_ | with_reducible apply steady_State_raise | fail_if_no_progress (with_reducible refine Steady.mk' ?_ ?_ ?_ ?_ ?_ ?_ ?_; iterate 6 first | with_reducible rfl | (unfold setTransit; with_reducible rfl) | (split <;> with_reducible rfl) | (dsimp only; split <;> with_reducible rfl) | (focus (simp; done)) | fail) | dsimp only | split

theorem steady_trecShow {ρ : State} (s : State) (hρ : Steady ρ s) : Steady ρ (trecShow s) := by
  unfold trecShow
  repeat' first | with_reducible assumption | refine fun _ => ?_ | with_reducible apply steady_State_wr | with_reducible apply steady_State_put | with_reducible apply steady_State_zero | fail_if_no_progress (with_reducible refine Steady.mk' ?_ ?_ ?_ ?_ ?_ ?_ ?_; iterate 6 first | with_reducible rfl | (unfold setTransit; with_reducible rfl) | (split <;> with_reducible rfl) | (dsimp only; split <;> with_reducible rfl) | (focus (simp; done)) | fail) | with_reducible apply Steady.each | with_reducible refine Steady.snd (by with_reducible assumption) ?_ | with_reducible refine Steady.snd2 (by with_reducible assumption) ?_ | with_reducible refine Steady.fst (by with_reducible assumption) ?_ | dsimp only | split

theorem steady_trecTake {ρ : State} (src : Nat) (cls : Nat) (s : State) (hρ : Steady ρ s) : Steady ρ (trecTake src cls s) := by
  unfold trecTake
  repeat' first | with_reducible assumption | refine fun _ => ?_ | with_reducible apply steady_State_count | with_reducible apply steady_trecShow | with_reducible apply Steady.ite | fail_if_no_progress (with_reducible refine Steady.mk' ?_ ?_ ?_ ?_ ?_ ?_ ?_; iterate 6 first | with_reducible rfl | (unfold setTransit; with_reducible rfl) | (split <;> with_reducible rfl) | (dsimp only; split <;> with_reducible rfl) | (focus (simp; done)) | fail) | with_reducible refine Steady.snd (by with_reducible assumption) ?_ | with_reducible refine Steady.snd2 (by with_reducible assumption) ?_ | with_reducible refine Steady.fst (by with_reducible assumption) ?_ | dsimp only | split

theorem steady_pptCountLatch {ρ : State} (src : Nat) (cls : Nat) (s : State) (hρ : Steady ρ s) : Steady ρ (pptCountLatch src cls s) := by
  unfold pptCountLatch
  repeat' first | with_reducible assumption | refine fun _ => ?_ | with_reducible apply steady_State_raise | with_reducible apply steady_State_bump | with_reducible apply Steady.ite | dsimp only | split

theorem steady_pptFire {ρ : State} (src : Nat) (s : State) (hρ : Steady ρ s) : Steady ρ (pptFire src s) := by
  unfold pptFire
  repeat' first | with_reducible assumption | refine fun _ => ?_ | with_reducible apply steady_State_raise | with_reducible apply steady_eraseStepOne | with_reducible apply steady_trecTake | with_reducible apply steady_pptCountLatch | fail_if_no_progress (with_reducible refine Steady.mk' ?_ ?_ ?_ ?_ ?_ ?_ ?_; iterate 6 first | with_reducible rfl | (unfold setTransit; with_reducible rfl) | (split <;> with_reducible rfl) | (dsimp only; split <;> with_reducible rfl) | (focus (simp; done)) | fail) | with_reducible apply Steady.onlyIf | dsimp only | split

theorem steady_pptClear {ρ : State} (src : Nat) (s : State) (hρ : Steady ρ s) : Steady ρ (pptClear src s) := by
  unfold pptClear
  repeat' first | with_reducible assumption | refine fun _ => ?_ | with_reducible apply steady_State_put | dsimp only | split

theorem steady_pptBegin {ρ : State} (src : Nat) (s : State) (hρ : Steady ρ s) : Steady ρ (pptBegin src s) := by
  unfold pptBegin
  repeat' first | with_reducible assumption | refine fun _ => ?_ | with_reducible apply steady_pptFire | with_reducible apply Steady.ite | dsimp only | split

theorem steady_markMismatch {ρ : State} (s : State) (hρ : Steady ρ s) : Steady ρ (markMismatch s) := by
  unfold markMismatch
  repeat' first | with_reducible assumption | refine fun _ => ?_ | with_reducible apply steady_pptFire | dsimp only | split

theorem steady_switchSample {ρ : State} (n : Nat) (level : Bool) (s : State) (hρ : Steady ρ s) : Steady ρ (switchSample n level s) := by
  unfold switchSample
  repeat' first | with_reducible assumption | refine fun _ => ?_ | with_reducible apply steady_pptClear | with_reducible apply steady_pptBegin | with_reducible apply Steady.ite | fail_if_no_progress (with_reducible refine Steady.mk' ?_ ?_ ?_ ?_ ?_ ?_ ?_; iterate 6 first | with_reducible rfl | (unfold setTransit; with_reducible rfl) | (split <;> with_reducible rfl) | (dsimp only; split <;> with_reducible rfl) | (focus (simp; done)) | fail) | dsimp only | split

theorem steady_loopSample {ρ : State} (n : Nat) (level : Bool) (s : State) (hρ : Steady ρ s) : Steady ρ (loopSample n level s) := by
  unfold loopSample
  repeat' first | with_reducible assumption | refine fun _ => ?_ | with_reducible apply steady_pptClear | with_reducible apply steady_pptBegin | with_reducible apply Steady.ite | fail_if_no_progress (with_reducible refine Steady.mk' ?_ ?_ ?_ ?_ ?_ ?_ ?_; iterate 6 first | with_reducible rfl | (unfold setTransit; with_reducible rfl) | (split <;> with_reducible rfl) | (dsimp only; split <;> with_reducible rfl) | (focus (simp; done)) | fail) | dsimp only | split

theorem steady_supplyWindow {ρ : State} (v : Nat) (c : Nat) (mv : Nat) (ns : Nat) (s : State) (hρ : Steady ρ s) : Steady ρ (supplyWindow v c mv ns s) := by
  unfold supplyWindow
  repeat' first | with_reducible assumption | refine fun _ => ?_ | with_reducible apply steady_State_flag | with_reducible apply steady_pptBegin | with_reducible apply Steady.ite | dsimp only | split

theorem steady_supplyGlitch {ρ : State} (v : Nat) (mv : Nat) (ns : Nat) (s : State) (hρ : Steady ρ s) : Steady ρ (supplyGlitch v mv ns s) := by
  unfold supplyGlitch
  repeat' first | with_reducible assumption | refine fun _ => ?_ | with_reducible apply steady_pptBegin | with_reducible apply Steady.ite | dsimp only | split

theorem steady_lightSensor {ρ : State} (i : Nat) (ns : Nat) (s : State) (hρ : Steady ρ s) : Steady ρ (lightSensor i ns s) := by
  unfold lightSensor
  repeat' first | with_reducible assumption | refine fun _ => ?_ | with_reducible apply steady_pptBegin | with_reducible apply Steady.ite | dsimp only | split

theorem steady_guardSeedLoad {ρ : State} (n : Nat) (hi : Word) (s : State) (hρ : Steady ρ s) : Steady ρ (guardSeedLoad n hi s) := by
  unfold guardSeedLoad
  repeat' first | with_reducible assumption | refine fun _ => ?_ | with_reducible apply steady_State_raise | with_reducible apply Steady.ite | fail_if_no_progress (with_reducible refine Steady.mk' ?_ ?_ ?_ ?_ ?_ ?_ ?_; iterate 6 first | with_reducible rfl | (unfold setTransit; with_reducible rfl) | (split <;> with_reducible rfl) | (dsimp only; split <;> with_reducible rfl) | (focus (simp; done)) | fail) | dsimp only | split

theorem steady_pptClassWrite {ρ : State} (c : Nat) (w : Word) (s : State) (hρ : Steady ρ s) : Steady ρ (pptClassWrite c w s) := by
  unfold pptClassWrite
  repeat' first | with_reducible assumption | refine fun _ => ?_ | with_reducible apply steady_State_put | with_reducible apply Steady.ite | with_reducible apply Steady.each | with_reducible refine Steady.snd (by with_reducible assumption) ?_ | with_reducible refine Steady.snd2 (by with_reducible assumption) ?_ | with_reducible refine Steady.fst (by with_reducible assumption) ?_ | dsimp only | split

theorem steady_lightEnWrite {ρ : State} (w : Word) (s : State) (hρ : Steady ρ s) : Steady ρ (lightEnWrite w s) := by
  unfold lightEnWrite
  repeat' first | with_reducible assumption | refine fun _ => ?_ | with_reducible apply steady_State_wr | with_reducible apply Steady.ite | dsimp only | split

theorem steady_pptCtlWrite {ρ : State} (w : Word) (s : State) (hρ : Steady ρ s) : Steady ρ (pptCtlWrite w s) := by
  unfold pptCtlWrite
  repeat' first | with_reducible assumption | refine fun _ => ?_ | with_reducible apply steady_State_put | with_reducible apply steady_pptFire | fail_if_no_progress (with_reducible refine Steady.mk' ?_ ?_ ?_ ?_ ?_ ?_ ?_; iterate 6 first | with_reducible rfl | (unfold setTransit; with_reducible rfl) | (split <;> with_reducible rfl) | (dsimp only; split <;> with_reducible rfl) | (focus (simp; done)) | fail) | with_reducible apply Steady.onlyIf | dsimp only | split

theorem steady_trecClear {ρ : State} (s : State) (hρ : Steady ρ s) : Steady ρ (trecClear s) := by
  unfold trecClear
  repeat' first | with_reducible assumption | refine fun _ => ?_ | with_reducible apply steady_State_put | with_reducible apply steady_trecShow | fail_if_no_progress (with_reducible refine Steady.mk' ?_ ?_ ?_ ?_ ?_ ?_ ?_; iterate 6 first | with_reducible rfl | (unfold setTransit; with_reducible rfl) | (split <;> with_reducible rfl) | (dsimp only; split <;> with_reducible rfl) | (focus (simp; done)) | fail) | dsimp only | split

theorem steady_pptEvtWrite {ρ : State} (w : Word) (s : State) (hρ : Steady ρ s) : Steady ρ (pptEvtWrite w s) := by
  unfold pptEvtWrite
  repeat' first | with_reducible assumption | refine fun _ => ?_ | with_reducible apply steady_State_wr | with_reducible apply steady_State_zero | with_reducible apply Steady.onlyIf | dsimp only | split

theorem steady_pptRelease {ρ : State} (s : State) (hρ : Steady ρ s) : Steady ρ (pptRelease s) := by
  unfold pptRelease
  repeat' first | with_reducible assumption | refine fun _ => ?_ | with_reducible apply steady_State_raise | with_reducible apply steady_pptShow | with_reducible apply Steady.ite | fail_if_no_progress (with_reducible refine Steady.mk' ?_ ?_ ?_ ?_ ?_ ?_ ?_; iterate 6 first | with_reducible rfl | (unfold setTransit; with_reducible rfl) | (split <;> with_reducible rfl) | (dsimp only; split <;> with_reducible rfl) | (focus (simp; done)) | fail) | dsimp only | split

end Sys2Proof.Machine
end

