-- ==== Sys2Proof/Laws/SteadySdram.lean ====
section
/-! SUPPORT. What the operations of Machine/Sdram.lean keep (`Steady`). -/

namespace Sys2Proof.Machine

theorem steady_State_setPlateWord {ρ : State} (s : State) (p : Nat) (w : Nat) (v : Word) (hρ : Steady ρ s) : Steady ρ (State.setPlateWord s p w v) := by
  unfold State.setPlateWord
  repeat' first | with_reducible assumption | refine fun _ => ?_ | fail_if_no_progress (with_reducible refine Steady.mk' ?_ ?_ ?_ ?_ ?_ ?_ ?_; iterate 6 first | with_reducible rfl | (unfold setTransit; with_reducible rfl) | (split <;> with_reducible rfl) | (dsimp only; split <;> with_reducible rfl) | (focus (simp; done)) | fail) | dsimp only | split

theorem steady_State_putPlate {ρ : State} (s : State) (p : Nat) (w : Nat) (hi : Nat) (lo : Nat) (v : Nat) (hρ : Steady ρ s) : Steady ρ (State.putPlate s p w hi lo v) := by
  unfold State.putPlate
  repeat' first | with_reducible assumption | refine fun _ => ?_ | with_reducible apply steady_State_put | with_reducible apply steady_State_setPlateWord | dsimp only | split

theorem steady_State_setPlate {ρ : State} (s : State) (p : Nat) (l : List Word) (hρ : Steady ρ s) : Steady ρ (State.setPlate s p l) := by
  unfold State.setPlate
  repeat' first | with_reducible assumption | refine fun _ => ?_ | with_reducible apply steady_State_setPlateWord | with_reducible apply Steady.each | with_reducible refine Steady.snd (by with_reducible assumption) ?_ | with_reducible refine Steady.snd2 (by with_reducible assumption) ?_ | with_reducible refine Steady.fst (by with_reducible assumption) ?_ | dsimp only | split

theorem steady_putPlate64 {ρ : State} (p : Nat) (w : Nat) (v : Nat) (s : State) (hρ : Steady ρ s) : Steady ρ (putPlate64 p w v s) := by
  unfold putPlate64
  repeat' first | with_reducible assumption | refine fun _ => ?_ | with_reducible apply steady_State_setPlateWord | with_reducible apply Steady.each | dsimp only | split

theorem steady_plateUse {ρ : State} (h : Option Nat) (up : Bool) (s : State) (hρ : Steady ρ s) : Steady ρ (plateUse h up s) := by
  unfold plateUse
  repeat' first | with_reducible assumption | refine fun _ => ?_ | with_reducible apply steady_State_wr | with_reducible apply Steady.ite | fail_if_no_progress (with_reducible refine Steady.mk' ?_ ?_ ?_ ?_ ?_ ?_ ?_; iterate 6 first | with_reducible rfl | (unfold setTransit; with_reducible rfl) | (split <;> with_reducible rfl) | (dsimp only; split <;> with_reducible rfl) | (focus (simp; done)) | fail) | with_reducible refine Steady.snd (by with_reducible assumption) ?_ | with_reducible refine Steady.snd2 (by with_reducible assumption) ?_ | with_reducible refine Steady.fst (by with_reducible assumption) ?_ | dsimp only | split

theorem steady_changePlate {ρ : State} (p : Nat) (f : State → State) (s : State) (hf : ∀ x0, Steady ρ x0 → Steady ρ (f x0)) (hρ : Steady ρ s) : Steady ρ (changePlate p f s) := by
  unfold changePlate
  repeat' first | with_reducible assumption | refine fun _ => ?_ | with_reducible apply hf | with_reducible apply steady_plateUse | dsimp only | split

theorem steady_plcCount {ρ : State} (k : Nat) (s : State) (hρ : Steady ρ s) : Steady ρ (plcCount k s) := by
  unfold plcCount
  repeat' first | with_reducible assumption | refine fun _ => ?_ | with_reducible apply steady_State_count | dsimp only | split

theorem steady_sdcCount {ρ : State} (c : Nat) (k : Nat) (s : State) (n : Nat) (hρ : Steady ρ s) : Steady ρ (sdcCount c k s n) := by
  unfold sdcCount
  repeat' first | with_reducible assumption | refine fun _ => ?_ | with_reducible apply steady_State_count | dsimp only | split

theorem steady_sdcLines {ρ : State} (c : Nat) (written : Bool) (n : Nat) (s : State) (hρ : Steady ρ s) : Steady ρ (sdcLines c written n s) := by
  unfold sdcLines
  repeat' first | with_reducible assumption | refine fun _ => ?_ | with_reducible apply steady_State_pmcEvent | with_reducible apply steady_sdcCount | with_reducible apply Steady.ite | dsimp only | split

theorem steady_nodeWrite {ρ : State} (c : Nat) (k : Nat) (i : Nat) (s : State) (hρ : Steady ρ s) : Steady ρ (nodeWrite c k i s) := by
  unfold nodeWrite
  repeat' first | with_reducible assumption | refine fun _ => ?_ | fail_if_no_progress (with_reducible refine Steady.mk' ?_ ?_ ?_ ?_ ?_ ?_ ?_; iterate 6 first | with_reducible rfl | (unfold setTransit; with_reducible rfl) | (split <;> with_reducible rfl) | (dsimp only; split <;> with_reducible rfl) | (focus (simp; done)) | fail) | dsimp only | split

theorem steady_treeTouch {ρ : State} (fuel c k i : Nat) (changed : Bool) (s : State) (hρ : Steady ρ s) :
    Steady ρ (treeTouch fuel c k i changed s) := by
  induction fuel generalizing c k i changed s with
  | zero => exact hρ
  | succ n ih =>
    have h (p : Plc) : Steady ρ { s with plc := p } := Steady.mk' rfl rfl rfl rfl rfl rfl hρ
    unfold treeTouch
    apply Steady.ite hρ
    dsimp only
    generalize (if 1024 - topLines s < _ then _ else none : Option (Nat × Bool)) = out
    match out with
    | some (m, true) => exact ih _ _ _ _ _ (steady_sdcLines _ _ _ _ (steady_nodeWrite _ _ _ _ (h _)))
    | some (m, false) => exact h _
    | none => exact h _

theorem steady_treeEnter {ρ : State} (c : Nat) (i : Nat) (path : List Nat) (s : State) (hρ : Steady ρ s) : Steady ρ (treeEnter c i path s) := by
  unfold treeEnter
  repeat' first | with_reducible assumption | refine fun _ => ?_ | with_reducible apply steady_treeTouch | with_reducible apply Steady.each | dsimp only | split

theorem steady_lineWrite {ρ : State} (c : Nat) (i : Nat) (l : Nat) (b : Bytes) (s : State) (hρ : Steady ρ s) : Steady ρ (lineWrite c i l b s) := by
  unfold lineWrite
  repeat' first | with_reducible assumption | refine fun _ => ?_ | fail_if_no_progress (with_reducible refine Steady.mk' ?_ ?_ ?_ ?_ ?_ ?_ ?_; iterate 6 first | with_reducible rfl | (unfold setTransit; with_reducible rfl) | (split <;> with_reducible rfl) | (dsimp only; split <;> with_reducible rfl) | (focus (simp; done)) | fail) | dsimp only | split

theorem steady_slotWrite {ρ : State} (p : Nat) (l : List Word) (s : State) (hρ : Steady ρ s) : Steady ρ (slotWrite p l s) := by
  unfold slotWrite
  repeat' first | with_reducible assumption | refine fun _ => ?_ | with_reducible apply steady_sdcLines | with_reducible apply steady_nodeWrite | with_reducible apply steady_treeEnter | with_reducible apply steady_lineWrite | with_reducible apply steady_treeTouch | with_reducible apply Steady.each | dsimp only | split

theorem steady_writeBack {ρ : State} (p : Nat) (s : State) (hρ : Steady ρ s) : Steady ρ (writeBack p s) := by
  unfold writeBack
  repeat' first | with_reducible assumption | refine fun _ => ?_ | with_reducible apply steady_slotWrite | dsimp only | split

theorem steady_slotRead {ρ : State} (p : Nat) (s : State) (hρ : Steady ρ s) : Steady ρ (slotRead p s) := by
  unfold slotRead
  repeat' first | with_reducible assumption | refine fun _ => ?_ | with_reducible apply steady_State_setPlate | dsimp only | split

theorem steady_zeroKeyWords {ρ : State} (p : Nat) (s : State) (hρ : Steady ρ s) : Steady ρ (zeroKeyWords p s) := by
  unfold zeroKeyWords
  repeat' first | with_reducible assumption | refine fun _ => ?_ | with_reducible apply steady_State_setPlateWord | with_reducible apply Steady.each | dsimp only | split

theorem steady_zeroSubtree {ρ : State} (c : Nat) (k : Nat) (i : Nat) (s : State) (hρ : Steady ρ s) : Steady ρ (zeroSubtree c k i s) := by
  unfold zeroSubtree
  repeat' first | with_reducible assumption | refine fun _ => ?_ | fail_if_no_progress (with_reducible refine Steady.mk' ?_ ?_ ?_ ?_ ?_ ?_ ?_; iterate 6 first | with_reducible rfl | (unfold setTransit; with_reducible rfl) | (split <;> with_reducible rfl) | (dsimp only; split <;> with_reducible rfl) | (focus (simp; done)) | fail) | with_reducible refine Steady.snd (by with_reducible assumption) ?_ | with_reducible refine Steady.snd2 (by with_reducible assumption) ?_ | with_reducible refine Steady.fst (by with_reducible assumption) ?_ | dsimp only | split

end Sys2Proof.Machine
end

