-- ==== Sys2Proof/Laws/SteadyStroke.lean ====
section
/-! SUPPORT. What the operations of Machine/Stroke.lean keep (`Steady`). -/

namespace Sys2Proof.Machine

theorem steady_strokeWrapEvents {ρ : State} (old : StrokeTime) (new : StrokeTime) (s : State) (hρ : Steady ρ s) : Steady ρ (strokeWrapEvents old new s) := by
  unfold strokeWrapEvents
  repeat' first | with_reducible assumption | refine fun _ => ?_ | with_reducible apply steady_State_raise | with_reducible apply steady_State_flag | with_reducible apply Steady.ite | fail_if_no_progress (with_reducible refine Steady.mk' ?_ ?_ ?_ ?_ ?_ ?_ ?_; iterate 6 first | with_reducible rfl | (unfold setTransit; with_reducible rfl) | (split <;> with_reducible rfl) | (dsimp only; split <;> with_reducible rfl) | (focus (simp; done)) | fail) | dsimp only | split

theorem steady_stkFwdGo {ρ : State} (s : State) (hρ : Steady ρ s) : Steady ρ (stkFwdGo s) := by
  unfold stkFwdGo
  repeat' first | with_reducible assumption | refine fun _ => ?_ | with_reducible apply steady_State_put | with_reducible apply Steady.ite | fail_if_no_progress (with_reducible refine Steady.mk' ?_ ?_ ?_ ?_ ?_ ?_ ?_; iterate 6 first | with_reducible rfl | (unfold setTransit; with_reducible rfl) | (split <;> with_reducible rfl) | (dsimp only; split <;> with_reducible rfl) | (focus (simp; done)) | fail) | with_reducible refine Steady.snd (by with_reducible assumption) ?_ | with_reducible refine Steady.snd2 (by with_reducible assumption) ?_ | with_reducible refine Steady.fst (by with_reducible assumption) ?_ | dsimp only | split

theorem steady_planData {ρ : State} (w : Word) (s : State) (hρ : Steady ρ s) : Steady ρ (planData w s) := by
  unfold planData
  repeat' first | with_reducible assumption | refine fun _ => ?_ | with_reducible apply steady_State_wr | with_reducible apply steady_State_put | with_reducible apply Steady.ite | fail_if_no_progress (with_reducible refine Steady.mk' ?_ ?_ ?_ ?_ ?_ ?_ ?_; iterate 6 first | with_reducible rfl | (unfold setTransit; with_reducible rfl) | (split <;> with_reducible rfl) | (dsimp only; split <;> with_reducible rfl) | (focus (simp; done)) | fail) | with_reducible refine Steady.snd (by with_reducible assumption) ?_ | with_reducible refine Steady.snd2 (by with_reducible assumption) ?_ | with_reducible refine Steady.fst (by with_reducible assumption) ?_ | dsimp only | split

theorem steady_planCheckGo {ρ : State} (s : State) (hρ : Steady ρ s) : Steady ρ (planCheckGo s) := by
  unfold planCheckGo
  repeat' first | with_reducible assumption | refine fun _ => ?_ | with_reducible apply steady_State_put | with_reducible apply Steady.ite | fail_if_no_progress (with_reducible refine Steady.mk' ?_ ?_ ?_ ?_ ?_ ?_ ?_; iterate 6 first | with_reducible rfl | (unfold setTransit; with_reducible rfl) | (split <;> with_reducible rfl) | (dsimp only; split <;> with_reducible rfl) | (focus (simp; done)) | fail) | dsimp only | split

theorem steady_planCheckEnd {ρ : State} (s : State) (hρ : Steady ρ s) : Steady ρ (planCheckEnd s) := by
  unfold planCheckEnd
  repeat' first | with_reducible assumption | refine fun _ => ?_ | with_reducible apply steady_State_wr | with_reducible apply steady_State_put | with_reducible apply steady_State_raise | with_reducible apply steady_State_useFree | with_reducible apply Steady.ite | fail_if_no_progress (with_reducible refine Steady.mk' ?_ ?_ ?_ ?_ ?_ ?_ ?_; iterate 6 first | with_reducible rfl | (unfold setTransit; with_reducible rfl) | (split <;> with_reducible rfl) | (dsimp only; split <;> with_reducible rfl) | (focus (simp; done)) | fail) | with_reducible apply Steady.onlyIf | with_reducible refine Steady.snd (by with_reducible assumption) ?_ | with_reducible refine Steady.snd2 (by with_reducible assumption) ?_ | with_reducible refine Steady.fst (by with_reducible assumption) ?_ | dsimp only | split

theorem steady_swArm {ρ : State} (k : Nat) (s : State) (hρ : Steady ρ s) : Steady ρ (swArm k s) := by
  unfold swArm
  repeat' first | with_reducible assumption | refine fun _ => ?_ | with_reducible apply steady_State_wr | with_reducible apply steady_State_put | with_reducible apply steady_State_raise | with_reducible apply steady_State_zero | fail_if_no_progress (with_reducible refine Steady.mk' ?_ ?_ ?_ ?_ ?_ ?_ ?_; iterate 6 first | with_reducible rfl | (unfold setTransit; with_reducible rfl) | (split <;> with_reducible rfl) | (dsimp only; split <;> with_reducible rfl) | (focus (simp; done)) | fail) | with_reducible refine Steady.snd (by with_reducible assumption) ?_ | with_reducible refine Steady.snd2 (by with_reducible assumption) ?_ | with_reducible refine Steady.fst (by with_reducible assumption) ?_ | dsimp only | split

theorem steady_swCancelWrite {ρ : State} (k : Nat) (s : State) (hρ : Steady ρ s) : Steady ρ (swCancelWrite k s) := by
  unfold swCancelWrite
  repeat' first | with_reducible assumption | refine fun _ => ?_ | with_reducible apply steady_State_put | fail_if_no_progress (with_reducible refine Steady.mk' ?_ ?_ ?_ ?_ ?_ ?_ ?_; iterate 6 first | with_reducible rfl | (unfold setTransit; with_reducible rfl) | (split <;> with_reducible rfl) | (dsimp only; split <;> with_reducible rfl) | (focus (simp; done)) | fail) | with_reducible refine Steady.snd (by with_reducible assumption) ?_ | with_reducible refine Steady.snd2 (by with_reducible assumption) ?_ | with_reducible refine Steady.fst (by with_reducible assumption) ?_ | dsimp only | split

theorem steady_swCtlWrite {ρ : State} (k : Nat) (w : Word) (s : State) (hρ : Steady ρ s) : Steady ρ (swCtlWrite k w s) := by
  unfold swCtlWrite
  repeat' first | with_reducible assumption | refine fun _ => ?_ | with_reducible apply steady_State_put | with_reducible apply steady_swArm | with_reducible apply steady_swCancelWrite | with_reducible apply Steady.ite | fail_if_no_progress (with_reducible refine Steady.mk' ?_ ?_ ?_ ?_ ?_ ?_ ?_; iterate 6 first | with_reducible rfl | (unfold setTransit; with_reducible rfl) | (split <;> with_reducible rfl) | (dsimp only; split <;> with_reducible rfl) | (focus (simp; done)) | fail) | with_reducible refine Steady.snd (by with_reducible assumption) ?_ | with_reducible refine Steady.snd2 (by with_reducible assumption) ?_ | with_reducible refine Steady.fst (by with_reducible assumption) ?_ | dsimp only | split

theorem steady_swTimeWrite {ρ : State} (k : Nat) (o : Nat) (w : Word) (s : State) (hρ : Steady ρ s) : Steady ρ (swTimeWrite k o w s) := by
  unfold swTimeWrite
  repeat' first | with_reducible assumption | refine fun _ => ?_ | with_reducible apply steady_State_wr | with_reducible apply Steady.ite | dsimp only | split

theorem steady_swPartWrite {ρ : State} (k : Nat) (j : Nat) (w : Word) (s : State) (hρ : Steady ρ s) : Steady ρ (swPartWrite k j w s) := by
  unfold swPartWrite
  repeat' first | with_reducible assumption | refine fun _ => ?_ | with_reducible apply steady_State_wr | with_reducible apply steady_State_raise | with_reducible apply Steady.ite | fail_if_no_progress (with_reducible refine Steady.mk' ?_ ?_ ?_ ?_ ?_ ?_ ?_; iterate 6 first | with_reducible rfl | (unfold setTransit; with_reducible rfl) | (split <;> with_reducible rfl) | (dsimp only; split <;> with_reducible rfl) | (focus (simp; done)) | fail) | with_reducible refine Steady.snd (by with_reducible assumption) ?_ | with_reducible refine Steady.snd2 (by with_reducible assumption) ?_ | with_reducible refine Steady.fst (by with_reducible assumption) ?_ | dsimp only | split

theorem steady_swAck {ρ : State} (k : Nat) (i : Nat) (s : State) (hρ : Steady ρ s) : Steady ρ (swAck k i s) := by
  unfold swAck
  repeat' first | with_reducible assumption | refine fun _ => ?_ | with_reducible apply steady_State_raise | with_reducible apply Steady.ite | dsimp only | split

theorem steady_swLoseAck {ρ : State} (i : Nat) (s : State) (hρ : Steady ρ s) : Steady ρ (swLoseAck i s) := by
  unfold swLoseAck
  repeat' first | with_reducible assumption | refine fun _ => ?_ | with_reducible apply steady_State_put | with_reducible apply Steady.ite | with_reducible apply Steady.each | dsimp only | split

theorem steady_swPack {ρ : State} (n : Nat) (w : Word) (s : State) (hρ : Steady ρ s) : Steady ρ (swPack n w s) := by
  unfold swPack
  repeat' first | with_reducible assumption | refine fun _ => ?_ | with_reducible apply steady_swAck | with_reducible apply Steady.ite | dsimp only | split

theorem steady_swCancel {ρ : State} (k : Nat) (cause : Nat) (s : State) (hρ : Steady ρ s) : Steady ρ (swCancel k cause s) := by
  unfold swCancel
  repeat' first | with_reducible assumption | refine fun _ => ?_ | with_reducible apply steady_State_wr | with_reducible apply steady_State_raise | dsimp only | split

theorem steady_swCommit {ρ : State} (k : Nat) (s : State) (hρ : Steady ρ s) : Steady ρ (swCommit k s) := by
  unfold swCommit
  repeat' first | with_reducible assumption | refine fun _ => ?_ | with_reducible apply steady_State_wr | with_reducible apply steady_State_raise | dsimp only | split

theorem steady_swMiss {ρ : State} (k : Nat) (s : State) (hρ : Steady ρ s) : Steady ρ (swMiss k s) := by
  unfold swMiss
  repeat' first | with_reducible assumption | refine fun _ => ?_ | with_reducible apply steady_swCancel | with_reducible apply steady_State_wrN | with_reducible apply Steady.ite | dsimp only | split

theorem steady_planSwitch {ρ : State} (s : State) (hρ : Steady ρ s) : Steady ρ (planSwitch s) := by
  unfold planSwitch
  repeat' first | with_reducible assumption | refine fun _ => ?_ | with_reducible apply steady_State_put | with_reducible apply steady_State_flag | dsimp only | split

theorem steady_testRequest {ρ : State} (c : Nat) (k : Nat) (s : State) (hρ : Steady ρ s) : Steady ρ (testRequest c k s) := by
  unfold testRequest
  repeat' first | with_reducible assumption | refine fun _ => ?_ | with_reducible apply steady_State_raise | with_reducible apply steady_State_bump | with_reducible apply Steady.ite | fail_if_no_progress (with_reducible refine Steady.mk' ?_ ?_ ?_ ?_ ?_ ?_ ?_; iterate 6 first | with_reducible rfl | (unfold setTransit; with_reducible rfl) | (split <;> with_reducible rfl) | (dsimp only; split <;> with_reducible rfl) | (focus (simp; done)) | fail) | with_reducible refine Steady.snd (by with_reducible assumption) ?_ | with_reducible refine Steady.snd2 (by with_reducible assumption) ?_ | with_reducible refine Steady.fst (by with_reducible assumption) ?_ | dsimp only | split

theorem steady_testDone {ρ : State} (c : Nat) (k : Nat) (s : State) (hρ : Steady ρ s) : Steady ρ (testDone c k s) := by
  unfold testDone
  repeat' first | with_reducible assumption | refine fun _ => ?_ | fail_if_no_progress (with_reducible refine Steady.mk' ?_ ?_ ?_ ?_ ?_ ?_ ?_; iterate 6 first | with_reducible rfl | (unfold setTransit; with_reducible rfl) | (split <;> with_reducible rfl) | (dsimp only; split <;> with_reducible rfl) | (focus (simp; done)) | fail) | dsimp only | split

theorem steady_taskPromote {ρ : State} (t : Nat) (s : State) (hρ : Steady ρ s) : Steady ρ (taskPromote t s) := by
  unfold taskPromote
  repeat' first | with_reducible assumption | refine fun _ => ?_ | with_reducible apply steady_State_raise | with_reducible apply steady_State_bump | with_reducible apply steady_State_pmcEvent | with_reducible apply Steady.ite | fail_if_no_progress (with_reducible refine Steady.mk' ?_ ?_ ?_ ?_ ?_ ?_ ?_; iterate 6 first | with_reducible rfl | (unfold setTransit; with_reducible rfl) | (split <;> with_reducible rfl) | (dsimp only; split <;> with_reducible rfl) | (focus (simp; done)) | fail) | dsimp only | split

theorem steady_taskRound {ρ : State} (t : Nat) (s : State) (hρ : Steady ρ s) : Steady ρ (taskRound t s) := by
  unfold taskRound
  repeat' first | with_reducible assumption | refine fun _ => ?_ | fail_if_no_progress (with_reducible refine Steady.mk' ?_ ?_ ?_ ?_ ?_ ?_ ?_; iterate 6 first | with_reducible rfl | (unfold setTransit; with_reducible rfl) | (split <;> with_reducible rfl) | (dsimp only; split <;> with_reducible rfl) | (focus (simp; done)) | fail) | dsimp only | split

theorem steady_taskCfgWrite {ρ : State} (t : Nat) (w : Word) (s : State) (hρ : Steady ρ s) : Steady ρ (taskCfgWrite t w s) := by
  unfold taskCfgWrite
  repeat' first | with_reducible assumption | refine fun _ => ?_ | with_reducible apply steady_State_wr | with_reducible apply steady_State_put | with_reducible apply Steady.ite | with_reducible apply Steady.onlyIf | dsimp only | split

theorem steady_stkEvtWrite {ρ : State} (w : Word) (s : State) (hρ : Steady ρ s) : Steady ρ (stkEvtWrite w s) := by
  unfold stkEvtWrite
  repeat' first | with_reducible assumption | refine fun _ => ?_ | with_reducible apply steady_State_wr | with_reducible apply steady_State_put | with_reducible apply Steady.onlyIf | dsimp only | split

theorem steady_planAddrWrite {ρ : State} (w : Word) (s : State) (hρ : Steady ρ s) : Steady ρ (planAddrWrite w s) := by
  unfold planAddrWrite
  repeat' first | with_reducible assumption | refine fun _ => ?_ | with_reducible apply steady_State_wr | with_reducible apply Steady.ite | dsimp only | split

end Sys2Proof.Machine
end

