-- ==== Sys2Proof/Laws/SteadyPlates.lean ====
section
/-! SUPPORT. What the operations of Machine/Plates.lean keep (`Steady`). -/

namespace Sys2Proof.Machine

theorem steady_freeOutgoing {ρ : State} (p : Nat) (s : State) (hρ : Steady ρ s) : Steady ρ (freeOutgoing p s) := by
  unfold freeOutgoing
  repeat' first | with_reducible assumption | refine fun _ => ?_ | fail_if_no_progress (with_reducible refine Steady.mk' ?_ ?_ ?_ ?_ ?_ ?_ ?_; iterate 6 first | with_reducible rfl | (unfold setTransit; with_reducible rfl) | (split <;> with_reducible rfl) | (dsimp only; split <;> with_reducible rfl) | (focus (simp; done)) | fail) | dsimp only | split

theorem steady_addRef {ρ : State} (p : Nat) (g : Nat) (s : State) (hρ : Steady ρ s) : Steady ρ (addRef p g s) := by
  unfold addRef
  repeat' first | with_reducible assumption | refine fun _ => ?_ | with_reducible apply Steady.ite | fail_if_no_progress (with_reducible refine Steady.mk' ?_ ?_ ?_ ?_ ?_ ?_ ?_; iterate 6 first | with_reducible rfl | (unfold setTransit; with_reducible rfl) | (split <;> with_reducible rfl) | (dsimp only; split <;> with_reducible rfl) | (focus (simp; done)) | fail) | dsimp only | split

theorem steady_dropRef {ρ : State} (p : Nat) (g : Nat) (s : State) (hρ : Steady ρ s) : Steady ρ (dropRef p g s) := by
  unfold dropRef
  repeat' first | with_reducible assumption | refine fun _ => ?_ | with_reducible apply steady_freeOutgoing | with_reducible apply Steady.ite | fail_if_no_progress (with_reducible refine Steady.mk' ?_ ?_ ?_ ?_ ?_ ?_ ?_; iterate 6 first | with_reducible rfl | (unfold setTransit; with_reducible rfl) | (split <;> with_reducible rfl) | (dsimp only; split <;> with_reducible rfl) | (focus (simp; done)) | fail) | dsimp only | split

theorem steady_writeContent {ρ : State} (p : Nat) (g : Nat) (w : Nat) (v : Word) (s : State) (hρ : Steady ρ s) : Steady ρ (writeContent p g w v s) := by
  unfold writeContent
  repeat' first | with_reducible assumption | refine fun _ => ?_ | with_reducible apply steady_State_setPlateWord | with_reducible apply Steady.ite | fail_if_no_progress (with_reducible refine Steady.mk' ?_ ?_ ?_ ?_ ?_ ?_ ?_; iterate 6 first | with_reducible rfl | (unfold setTransit; with_reducible rfl) | (split <;> with_reducible rfl) | (dsimp only; split <;> with_reducible rfl) | (focus (simp; done)) | fail) | dsimp only | split

theorem steady_writeContent64 {ρ : State} (p : Nat) (g : Nat) (w : Nat) (v : Nat) (s : State) (hρ : Steady ρ s) : Steady ρ (writeContent64 p g w v s) := by
  unfold writeContent64
  repeat' first | with_reducible assumption | refine fun _ => ?_ | with_reducible apply steady_writeContent | with_reducible apply Steady.each | dsimp only | split

theorem steady_dirtyPlate {ρ : State} (p : Nat) (s : State) (hρ : Steady ρ s) : Steady ρ (dirtyPlate p s) := by
  unfold dirtyPlate
  repeat' first | with_reducible assumption | refine fun _ => ?_ | with_reducible apply steady_writeBack | with_reducible apply Steady.ite | fail_if_no_progress (with_reducible refine Steady.mk' ?_ ?_ ?_ ?_ ?_ ?_ ?_; iterate 6 first | with_reducible rfl | (unfold setTransit; with_reducible rfl) | (split <;> with_reducible rfl) | (dsimp only; split <;> with_reducible rfl) | (focus (simp; done)) | fail) | with_reducible refine Steady.snd (by with_reducible assumption) ?_ | with_reducible refine Steady.snd2 (by with_reducible assumption) ?_ | with_reducible refine Steady.fst (by with_reducible assumption) ?_ | dsimp only | split

theorem steady_usePlate {ρ : State} (p : Nat) (s : State) (hρ : Steady ρ s) : Steady ρ (usePlate p s) := by
  unfold usePlate
  repeat' first | with_reducible assumption | refine fun _ => ?_ | with_reducible apply steady_State_putPlate | with_reducible apply Steady.ite | fail_if_no_progress (with_reducible refine Steady.mk' ?_ ?_ ?_ ?_ ?_ ?_ ?_; iterate 6 first | with_reducible rfl | (unfold setTransit; with_reducible rfl) | (split <;> with_reducible rfl) | (dsimp only; split <;> with_reducible rfl) | (focus (simp; done)) | fail) | dsimp only | split

theorem steady_uncache {ρ : State} (p : Nat) (s : State) (hρ : Steady ρ s) : Steady ρ (uncache p s) := by
  unfold uncache
  repeat' first | with_reducible assumption | refine fun _ => ?_ | with_reducible apply steady_zeroKeyWords | fail_if_no_progress (with_reducible refine Steady.mk' ?_ ?_ ?_ ?_ ?_ ?_ ?_; iterate 6 first | with_reducible rfl | (unfold setTransit; with_reducible rfl) | (split <;> with_reducible rfl) | (dsimp only; split <;> with_reducible rfl) | (focus (simp; done)) | fail) | dsimp only | split

theorem steady_claimWay {ρ : State} {p : Nat} {dom : Nat} {s : State} {x t} (e : claimWay p dom s = some (x, t)) (hρ : Steady ρ s) : Steady ρ t := by
  unfold claimWay at e
  repeat' first | contradiction | simp only [Option.some.injEq, Prod.mk.injEq, reduceCtorEq] at e | obtain ⟨_, rfl⟩ := e | split at e | dsimp only at e
  all_goals repeat' first | with_reducible assumption | refine fun _ => ?_ | with_reducible apply steady_plcCount | with_reducible apply steady_writeBack | with_reducible apply steady_uncache | with_reducible apply Steady.ite | fail_if_no_progress (with_reducible refine Steady.mk' ?_ ?_ ?_ ?_ ?_ ?_ ?_; iterate 6 first | with_reducible rfl | (unfold setTransit; with_reducible rfl) | (split <;> with_reducible rfl) | (dsimp only; split <;> with_reducible rfl) | (focus (simp; done)) | fail) | with_reducible refine Steady.snd (by with_reducible assumption) ?_ | with_reducible refine Steady.snd2 (by with_reducible assumption) ?_ | with_reducible refine Steady.fst (by with_reducible assumption) ?_ | dsimp only | split

theorem steady_queueFetch {ρ : State} (p : Nat) (dom : Nat) (why : Ask) (s : State) (hρ : Steady ρ s) : Steady ρ (queueFetch p dom why s) := by
  unfold queueFetch
  repeat' first | with_reducible assumption | refine fun _ => ?_ | with_reducible apply steady_State_pmcEvent | with_reducible apply steady_plcCount | fail_if_no_progress (with_reducible refine Steady.mk' ?_ ?_ ?_ ?_ ?_ ?_ ?_; iterate 6 first | with_reducible rfl | (unfold setTransit; with_reducible rfl) | (split <;> with_reducible rfl) | (dsimp only; split <;> with_reducible rfl) | (focus (simp; done)) | fail) | with_reducible apply Steady.onlyIf | with_reducible refine Steady.snd (by with_reducible assumption) ?_ | with_reducible refine Steady.snd2 (by with_reducible assumption) ?_ | with_reducible refine Steady.fst (by with_reducible assumption) ?_ | dsimp only | split

theorem steady_requestPlate {ρ : State} (p : Nat) (dom : Nat) (why : Ask) (s : State) (hρ : Steady ρ s) : Steady ρ (requestPlate p dom why s) := by
  unfold requestPlate
  repeat' first | with_reducible assumption | refine fun _ => ?_ | with_reducible apply steady_plcCount | with_reducible apply steady_queueFetch | with_reducible apply Steady.ite | fail_if_no_progress (with_reducible refine Steady.mk' ?_ ?_ ?_ ?_ ?_ ?_ ?_; iterate 6 first | with_reducible rfl | (unfold setTransit; with_reducible rfl) | (split <;> with_reducible rfl) | (dsimp only; split <;> with_reducible rfl) | (focus (simp; done)) | fail) | with_reducible refine Steady.snd (by with_reducible assumption) ?_ | with_reducible refine Steady.snd2 (by with_reducible assumption) ?_ | with_reducible refine Steady.fst (by with_reducible assumption) ?_ | dsimp only | split

theorem steady_lookAhead {ρ : State} (p : Nat) (dom : Nat) (s : State) (hρ : Steady ρ s) : Steady ρ (lookAhead p dom s) := by
  unfold lookAhead
  repeat' first | with_reducible assumption | refine fun _ => ?_ | with_reducible apply steady_requestPlate | with_reducible apply Steady.ite | dsimp only | split

theorem steady_admitWaiting {ρ : State} (s : State) (hρ : Steady ρ s) : Steady ρ (admitWaiting s) := by
  unfold admitWaiting
  repeat' first | with_reducible assumption | refine fun _ => ?_ | with_reducible apply steady_plcCount | fail_if_no_progress (with_reducible refine Steady.mk' ?_ ?_ ?_ ?_ ?_ ?_ ?_; iterate 6 first | with_reducible rfl | (unfold setTransit; with_reducible rfl) | (split <;> with_reducible rfl) | (dsimp only; split <;> with_reducible rfl) | (focus (simp; done)) | fail) | with_reducible refine Steady.snd (by with_reducible assumption) ?_ | with_reducible refine Steady.snd2 (by with_reducible assumption) ?_ | with_reducible refine Steady.fst (by with_reducible assumption) ?_ | dsimp only | split

theorem steady_beginFetch {ρ : State} (p : Nat) (way : Nat) (s : State) (hρ : Steady ρ s) : Steady ρ (beginFetch p way s) := by
  unfold beginFetch
  repeat' first | with_reducible assumption | refine fun _ => ?_ | with_reducible apply Steady.ite | fail_if_no_progress (with_reducible refine Steady.mk' ?_ ?_ ?_ ?_ ?_ ?_ ?_; iterate 6 first | with_reducible rfl | (unfold setTransit; with_reducible rfl) | (split <;> with_reducible rfl) | (dsimp only; split <;> with_reducible rfl) | (focus (simp; done)) | fail) | dsimp only | split

theorem steady_plateFetch {ρ : State} (c : Nat) (s : State) (hρ : Steady ρ s) : Steady ρ (plateFetch c s) := by
  unfold plateFetch
  repeat' first | with_reducible assumption | refine fun _ => ?_ | with_reducible apply steady_State_pmcEvent | with_reducible refine steady_claimWay (by with_reducible assumption) ?_ | with_reducible apply steady_beginFetch | with_reducible apply Steady.ite | fail_if_no_progress (with_reducible refine Steady.mk' ?_ ?_ ?_ ?_ ?_ ?_ ?_; iterate 6 first | with_reducible rfl | (unfold setTransit; with_reducible rfl) | (split <;> with_reducible rfl) | (dsimp only; split <;> with_reducible rfl) | (focus (simp; done)) | fail) | with_reducible refine Steady.snd (by with_reducible assumption) ?_ | with_reducible refine Steady.snd2 (by with_reducible assumption) ?_ | with_reducible refine Steady.fst (by with_reducible assumption) ?_ | dsimp only | split

theorem steady_damagePlate {ρ : State} (p : Nat) (s : State) (hρ : Steady ρ s) : Steady ρ (damagePlate p s) := by
  unfold damagePlate
  repeat' first | with_reducible assumption | refine fun _ => ?_ | with_reducible apply steady_State_raise | with_reducible apply steady_State_putPlate | with_reducible apply steady_changePlate | with_reducible apply steady_plcCount | with_reducible apply Steady.ite | dsimp only | split

theorem steady_beatFault {ρ : State} (c : Nat) (beat : Bool) (s : State) (hρ : Steady ρ s) : Steady ρ (beatFault c beat s) := by
  unfold beatFault
  repeat' first | with_reducible assumption | refine fun _ => ?_ | with_reducible apply steady_State_raise | with_reducible apply steady_sdcCount | with_reducible apply Steady.onlyIf | dsimp only | split

theorem steady_corrected {ρ : State} (c : Nat) (data : Nat) (check : Nat) (s : State) (hρ : Steady ρ s) : Steady ρ (corrected c data check s) := by
  unfold corrected
  repeat' first | with_reducible assumption | refine fun _ => ?_ | with_reducible apply steady_State_raise | with_reducible apply steady_sdcCount | with_reducible apply Steady.ite | dsimp only | split

theorem steady_lineFault {ρ : State} (p : Nat) (s : State) (hρ : Steady ρ s) : Steady ρ (lineFault p s) := by
  unfold lineFault
  repeat' first | with_reducible assumption | refine fun _ => ?_ | with_reducible apply steady_State_raise | with_reducible apply steady_pptFire | with_reducible apply steady_sdcCount | with_reducible apply steady_dirtyPlate | with_reducible apply steady_damagePlate | dsimp only | split

theorem steady_forgetPlate {ρ : State} (p : Nat) (s : State) (hρ : Steady ρ s) : Steady ρ (forgetPlate p s) := by
  unfold forgetPlate
  repeat' first | with_reducible assumption | refine fun _ => ?_ | with_reducible apply steady_State_raise | with_reducible apply steady_State_setPlate | with_reducible apply steady_changePlate | with_reducible apply steady_plcCount | with_reducible apply Steady.ite | dsimp only | split

theorem steady_treeFault {ρ : State} (c : Nat) (k : Nat) (i : Nat) (s : State) (hρ : Steady ρ s) : Steady ρ (treeFault c k i s) := by
  unfold treeFault
  repeat' first | with_reducible assumption | refine fun _ => ?_ | with_reducible apply steady_State_raise | with_reducible apply steady_pptFire | with_reducible apply steady_sdcCount | with_reducible apply steady_writeBack | with_reducible apply steady_zeroSubtree | with_reducible apply steady_forgetPlate | with_reducible apply Steady.ite | with_reducible apply Steady.each | dsimp only | split

theorem steady_enterCache {ρ : State} (p : Nat) (w : Nat) (s : State) (hρ : Steady ρ s) : Steady ρ (enterCache p w s) := by
  unfold enterCache
  repeat' first | with_reducible assumption | refine fun _ => ?_ | with_reducible apply steady_State_putPlate | with_reducible apply Steady.ite | fail_if_no_progress (with_reducible refine Steady.mk' ?_ ?_ ?_ ?_ ?_ ?_ ?_; iterate 6 first | with_reducible rfl | (unfold setTransit; with_reducible rfl) | (split <;> with_reducible rfl) | (dsimp only; split <;> with_reducible rfl) | (focus (simp; done)) | fail) | with_reducible refine Steady.snd (by with_reducible assumption) ?_ | with_reducible refine Steady.snd2 (by with_reducible assumption) ?_ | with_reducible refine Steady.fst (by with_reducible assumption) ?_ | dsimp only | split

theorem steady_slotFetch {ρ : State} (p : Nat) (r : FetchCheck) (s : State) (hρ : Steady ρ s) : Steady ρ (slotFetch p r s) := by
  unfold slotFetch
  repeat' first | with_reducible assumption | refine fun _ => ?_ | with_reducible apply steady_sdcCount | with_reducible apply steady_sdcLines | with_reducible apply steady_treeEnter | with_reducible apply steady_slotRead | with_reducible apply steady_beatFault | with_reducible apply steady_corrected | with_reducible apply steady_lineFault | with_reducible apply steady_treeFault | with_reducible apply Steady.ite | fail_if_no_progress (with_reducible refine Steady.mk' ?_ ?_ ?_ ?_ ?_ ?_ ?_; iterate 6 first | with_reducible rfl | (unfold setTransit; with_reducible rfl) | (split <;> with_reducible rfl) | (dsimp only; split <;> with_reducible rfl) | (focus (simp; done)) | fail) | with_reducible refine Steady.snd (by with_reducible assumption) ?_ | with_reducible refine Steady.snd2 (by with_reducible assumption) ?_ | with_reducible refine Steady.fst (by with_reducible assumption) ?_ | dsimp only | split

theorem steady_plateFetchDone {ρ : State} (p : Nat) (r : FetchCheck) (s : State) (hρ : Steady ρ s) : Steady ρ (plateFetchDone p r s) := by
  unfold plateFetchDone
  repeat' first | with_reducible assumption | refine fun _ => ?_ | with_reducible apply steady_State_pmcLatency | with_reducible apply steady_admitWaiting | with_reducible apply steady_enterCache | with_reducible apply steady_slotFetch | fail_if_no_progress (with_reducible refine Steady.mk' ?_ ?_ ?_ ?_ ?_ ?_ ?_; iterate 6 first | with_reducible rfl | (unfold setTransit; with_reducible rfl) | (split <;> with_reducible rfl) | (dsimp only; split <;> with_reducible rfl) | (focus (simp; done)) | fail) | with_reducible refine Steady.snd (by with_reducible assumption) ?_ | with_reducible refine Steady.snd2 (by with_reducible assumption) ?_ | with_reducible refine Steady.fst (by with_reducible assumption) ?_ | dsimp only | split

theorem steady_makeResident {ρ : State} (p : Nat) (dom : Nat) (s : State) (hρ : Steady ρ s) : Steady ρ (makeResident p dom s) := by
  unfold makeResident
  repeat' first | with_reducible assumption | refine fun _ => ?_ | with_reducible refine steady_claimWay (by with_reducible assumption) ?_ | with_reducible apply steady_enterCache | with_reducible apply steady_slotFetch | with_reducible apply Steady.ite | fail_if_no_progress (with_reducible refine Steady.mk' ?_ ?_ ?_ ?_ ?_ ?_ ?_; iterate 6 first | with_reducible rfl | (unfold setTransit; with_reducible rfl) | (split <;> with_reducible rfl) | (dsimp only; split <;> with_reducible rfl) | (focus (simp; done)) | fail) | with_reducible refine Steady.snd (by with_reducible assumption) ?_ | with_reducible refine Steady.snd2 (by with_reducible assumption) ?_ | with_reducible refine Steady.fst (by with_reducible assumption) ?_ | dsimp only | split

theorem steady_missLate {ρ : State} (p : Nat) (s : State) (hρ : Steady ρ s) : Steady ρ (missLate p s) := by
  unfold missLate
  repeat' first | with_reducible assumption | refine fun _ => ?_ | with_reducible apply steady_State_raise | with_reducible apply steady_plcCount | with_reducible apply Steady.ite | fail_if_no_progress (with_reducible refine Steady.mk' ?_ ?_ ?_ ?_ ?_ ?_ ?_; iterate 6 first | with_reducible rfl | (unfold setTransit; with_reducible rfl) | (split <;> with_reducible rfl) | (dsimp only; split <;> with_reducible rfl) | (focus (simp; done)) | fail) | with_reducible refine Steady.snd (by with_reducible assumption) ?_ | with_reducible refine Steady.snd2 (by with_reducible assumption) ?_ | with_reducible refine Steady.fst (by with_reducible assumption) ?_ | dsimp only | split

theorem steady_scoreHalving {ρ : State} (s : State) (hρ : Steady ρ s) : Steady ρ (scoreHalving s) := by
  unfold scoreHalving
  repeat' first | with_reducible assumption | refine fun _ => ?_ | with_reducible apply steady_State_putPlate | with_reducible apply Steady.ite | fail_if_no_progress (with_reducible refine Steady.mk' ?_ ?_ ?_ ?_ ?_ ?_ ?_; iterate 6 first | with_reducible rfl | (unfold setTransit; with_reducible rfl) | (split <;> with_reducible rfl) | (dsimp only; split <;> with_reducible rfl) | (focus (simp; done)) | fail) | with_reducible apply Steady.each | with_reducible refine Steady.snd (by with_reducible assumption) ?_ | with_reducible refine Steady.snd2 (by with_reducible assumption) ?_ | with_reducible refine Steady.fst (by with_reducible assumption) ?_ | dsimp only | split

theorem steady_leavePinned {ρ : State} (p : Nat) (s : State) (hρ : Steady ρ s) : Steady ρ (leavePinned p s) := by
  unfold leavePinned
  repeat' first | with_reducible assumption | refine fun _ => ?_ | with_reducible refine steady_claimWay (by with_reducible assumption) ?_ | with_reducible apply Steady.ite | fail_if_no_progress (with_reducible refine Steady.mk' ?_ ?_ ?_ ?_ ?_ ?_ ?_; iterate 6 first | with_reducible rfl | (unfold setTransit; with_reducible rfl) | (split <;> with_reducible rfl) | (dsimp only; split <;> with_reducible rfl) | (focus (simp; done)) | fail) | with_reducible refine Steady.snd (by with_reducible assumption) ?_ | with_reducible refine Steady.snd2 (by with_reducible assumption) ?_ | with_reducible refine Steady.fst (by with_reducible assumption) ?_ | dsimp only | split

theorem steady_enterPinned {ρ : State} (p : Nat) (s : State) (hρ : Steady ρ s) : Steady ρ (enterPinned p s) := by
  unfold enterPinned
  repeat' first | with_reducible assumption | refine fun _ => ?_ | with_reducible apply Steady.ite | fail_if_no_progress (with_reducible refine Steady.mk' ?_ ?_ ?_ ?_ ?_ ?_ ?_; iterate 6 first | with_reducible rfl | (unfold setTransit; with_reducible rfl) | (split <;> with_reducible rfl) | (dsimp only; split <;> with_reducible rfl) | (focus (simp; done)) | fail) | with_reducible refine Steady.snd (by with_reducible assumption) ?_ | with_reducible refine Steady.snd2 (by with_reducible assumption) ?_ | with_reducible refine Steady.fst (by with_reducible assumption) ?_ | dsimp only | split

theorem steady_makeOutgoing {ρ : State} (p : Nat) (s : State) (hρ : Steady ρ s) : Steady ρ (makeOutgoing p s) := by
  unfold makeOutgoing
  repeat' first | with_reducible assumption | refine fun _ => ?_ | with_reducible refine steady_claimWay (by with_reducible assumption) ?_ | with_reducible apply Steady.ite | fail_if_no_progress (with_reducible refine Steady.mk' ?_ ?_ ?_ ?_ ?_ ?_ ?_; iterate 6 first | with_reducible rfl | (unfold setTransit; with_reducible rfl) | (split <;> with_reducible rfl) | (dsimp only; split <;> with_reducible rfl) | (focus (simp; done)) | fail) | with_reducible refine Steady.snd (by with_reducible assumption) ?_ | with_reducible refine Steady.snd2 (by with_reducible assumption) ?_ | with_reducible refine Steady.fst (by with_reducible assumption) ?_ | dsimp only | split

theorem steady_installEffect {ρ : State} (p : Nat) (dom : Nat) (l : List Word) (s : State) (hρ : Steady ρ s) : Steady ρ (installEffect p dom l s) := by
  unfold installEffect
  repeat' first | with_reducible assumption | refine fun _ => ?_ | with_reducible apply steady_State_setPlateWord | with_reducible apply steady_State_putPlate | with_reducible apply steady_State_setPlate | with_reducible apply steady_changePlate | with_reducible apply steady_plcCount | with_reducible apply steady_dirtyPlate | with_reducible apply steady_makeOutgoing | with_reducible apply Steady.ite | fail_if_no_progress (with_reducible refine Steady.mk' ?_ ?_ ?_ ?_ ?_ ?_ ?_; iterate 6 first | with_reducible rfl | (unfold setTransit; with_reducible rfl) | (split <;> with_reducible rfl) | (dsimp only; split <;> with_reducible rfl) | (focus (simp; done)) | fail) | dsimp only | split

theorem steady_retireEffect {ρ : State} (p : Nat) (s : State) (hρ : Steady ρ s) : Steady ρ (retireEffect p s) := by
  unfold retireEffect
  repeat' first | with_reducible assumption | refine fun _ => ?_ | with_reducible apply steady_State_putPlate | with_reducible apply steady_changePlate | with_reducible apply steady_zeroKeyWords | with_reducible apply steady_dirtyPlate | with_reducible apply steady_makeOutgoing | dsimp only | split

theorem steady_recycleEffect {ρ : State} (p : Nat) (s : State) (hρ : Steady ρ s) : Steady ρ (recycleEffect p s) := by
  unfold recycleEffect
  repeat' first | with_reducible assumption | refine fun _ => ?_ | with_reducible apply steady_State_putPlate | with_reducible apply steady_changePlate | with_reducible apply steady_zeroKeyWords | with_reducible apply steady_dirtyPlate | with_reducible apply steady_makeOutgoing | fail_if_no_progress (with_reducible refine Steady.mk' ?_ ?_ ?_ ?_ ?_ ?_ ?_; iterate 6 first | with_reducible rfl | (unfold setTransit; with_reducible rfl) | (split <;> with_reducible rfl) | (dsimp only; split <;> with_reducible rfl) | (focus (simp; done)) | fail) | dsimp only | split

theorem steady_plateVoid {ρ : State} (s : State) (hρ : Steady ρ s) : Steady ρ (plateVoid s) := by
  unfold plateVoid
  repeat' first | with_reducible assumption | refine fun _ => ?_ | with_reducible apply steady_State_raise | with_reducible apply steady_plcCount | dsimp only | split

theorem steady_recycleComplete {ρ : State} (p : Nat) (s : State) (hρ : Steady ρ s) : Steady ρ (recycleComplete p s) := by
  unfold recycleComplete
  repeat' first | with_reducible assumption | refine fun _ => ?_ | with_reducible apply steady_State_raise | with_reducible apply steady_State_setPlate | with_reducible apply steady_changePlate | with_reducible apply steady_plcCount | with_reducible apply steady_dirtyPlate | with_reducible apply Steady.ite | fail_if_no_progress (with_reducible refine Steady.mk' ?_ ?_ ?_ ?_ ?_ ?_ ?_; iterate 6 first | with_reducible rfl | (unfold setTransit; with_reducible rfl) | (split <;> with_reducible rfl) | (dsimp only; split <;> with_reducible rfl) | (focus (simp; done)) | fail) | dsimp only | split

theorem steady_snapshotGo {ρ : State} (s : State) (hρ : Steady ρ s) : Steady ρ (snapshotGo s) := by
  unfold snapshotGo
  repeat' first | with_reducible assumption | refine fun _ => ?_ | with_reducible apply steady_State_wr | with_reducible apply steady_requestPlate | with_reducible apply Steady.ite | fail_if_no_progress (with_reducible refine Steady.mk' ?_ ?_ ?_ ?_ ?_ ?_ ?_; iterate 6 first | with_reducible rfl | (unfold setTransit; with_reducible rfl) | (split <;> with_reducible rfl) | (dsimp only; split <;> with_reducible rfl) | (focus (simp; done)) | fail) | dsimp only | split

theorem steady_snapshotTake {ρ : State} (s : State) (hρ : Steady ρ s) : Steady ρ (snapshotTake s) := by
  unfold snapshotTake
  repeat' first | with_reducible assumption | refine fun _ => ?_ | with_reducible apply steady_State_wr | with_reducible apply Steady.ite | fail_if_no_progress (with_reducible refine Steady.mk' ?_ ?_ ?_ ?_ ?_ ?_ ?_; iterate 6 first | with_reducible rfl | (unfold setTransit; with_reducible rfl) | (split <;> with_reducible rfl) | (dsimp only; split <;> with_reducible rfl) | (focus (simp; done)) | fail) | with_reducible apply Steady.each | with_reducible refine Steady.snd (by with_reducible assumption) ?_ | with_reducible refine Steady.snd2 (by with_reducible assumption) ?_ | with_reducible refine Steady.fst (by with_reducible assumption) ?_ | dsimp only | split

theorem steady_drainStart {ρ : State} (c : Nat) (s : State) (hρ : Steady ρ s) : Steady ρ (drainStart c s) := by
  unfold drainStart
  repeat' first | with_reducible assumption | refine fun _ => ?_ | with_reducible apply steady_State_put | dsimp only | split

theorem steady_moveSlot {ρ : State} (p : Nat) (i : Option Nat) (s : State) (hρ : Steady ρ s) : Steady ρ (moveSlot p i s) := by
  unfold moveSlot
  repeat' first | with_reducible assumption | refine fun _ => ?_ | with_reducible apply steady_sdcLines | with_reducible apply steady_slotWrite | fail_if_no_progress (with_reducible refine Steady.mk' ?_ ?_ ?_ ?_ ?_ ?_ ?_; iterate 6 first | with_reducible rfl | (unfold setTransit; with_reducible rfl) | (split <;> with_reducible rfl) | (dsimp only; split <;> with_reducible rfl) | (focus (simp; done)) | fail) | dsimp only | split

theorem steady_drainMove {ρ : State} (c : Nat) (s : State) (hρ : Steady ρ s) : Steady ρ (drainMove c s) := by
  unfold drainMove
  repeat' first | with_reducible assumption | refine fun _ => ?_ | with_reducible apply steady_moveSlot | with_reducible apply Steady.ite | fail_if_no_progress (with_reducible refine Steady.mk' ?_ ?_ ?_ ?_ ?_ ?_ ?_; iterate 6 first | with_reducible rfl | (unfold setTransit; with_reducible rfl) | (split <;> with_reducible rfl) | (dsimp only; split <;> with_reducible rfl) | (focus (simp; done)) | fail) | with_reducible refine Steady.snd (by with_reducible assumption) ?_ | with_reducible refine Steady.snd2 (by with_reducible assumption) ?_ | with_reducible refine Steady.fst (by with_reducible assumption) ?_ | dsimp only | split

theorem steady_drainDone {ρ : State} (c : Nat) (s : State) (hρ : Steady ρ s) : Steady ρ (drainDone c s) := by
  unfold drainDone
  repeat' first | with_reducible assumption | refine fun _ => ?_ | with_reducible apply steady_State_put | with_reducible apply steady_State_raise | with_reducible apply Steady.ite | dsimp only | split

theorem steady_drainReturn {ρ : State} (c : Nat) (s : State) (hρ : Steady ρ s) : Steady ρ (drainReturn c s) := by
  unfold drainReturn
  repeat' first | with_reducible assumption | refine fun _ => ?_ | with_reducible apply steady_State_put | dsimp only | split

theorem steady_returnMove {ρ : State} (c : Nat) (s : State) (hρ : Steady ρ s) : Steady ρ (returnMove c s) := by
  unfold returnMove
  repeat' first | with_reducible assumption | refine fun _ => ?_ | with_reducible apply steady_moveSlot | with_reducible apply Steady.ite | fail_if_no_progress (with_reducible refine Steady.mk' ?_ ?_ ?_ ?_ ?_ ?_ ?_; iterate 6 first | with_reducible rfl | (unfold setTransit; with_reducible rfl) | (split <;> with_reducible rfl) | (dsimp only; split <;> with_reducible rfl) | (focus (simp; done)) | fail) | with_reducible refine Steady.snd (by with_reducible assumption) ?_ | with_reducible refine Steady.snd2 (by with_reducible assumption) ?_ | with_reducible refine Steady.fst (by with_reducible assumption) ?_ | dsimp only | split

theorem steady_taskItem {ρ : State} (t : Nat) (s : State) (hρ : Steady ρ s) : Steady ρ (taskItem t s) := by
  unfold taskItem
  repeat' first | with_reducible assumption | refine fun _ => ?_ | with_reducible apply steady_State_useFree | with_reducible apply steady_taskRound | with_reducible apply Steady.ite | with_reducible refine Steady.snd (by with_reducible assumption) ?_ | with_reducible refine Steady.snd2 (by with_reducible assumption) ?_ | with_reducible refine Steady.fst (by with_reducible assumption) ?_ | dsimp only | split

theorem steady_scrubSlot {ρ : State} (c : Nat) (p : Nat) (r : LineCheck) (s : State) (hρ : Steady ρ s) : Steady ρ (scrubSlot c p r s) := by
  unfold scrubSlot
  repeat' first | with_reducible assumption | refine fun _ => ?_ | with_reducible apply steady_State_wr | with_reducible apply steady_taskRound | with_reducible apply steady_sdcLines | with_reducible apply steady_beatFault | with_reducible apply steady_corrected | with_reducible apply steady_lineFault | with_reducible apply steady_treeFault | with_reducible apply Steady.ite | fail_if_no_progress (with_reducible refine Steady.mk' ?_ ?_ ?_ ?_ ?_ ?_ ?_; iterate 6 first | with_reducible rfl | (unfold setTransit; with_reducible rfl) | (split <;> with_reducible rfl) | (dsimp only; split <;> with_reducible rfl) | (focus (simp; done)) | fail) | with_reducible refine Steady.snd (by with_reducible assumption) ?_ | with_reducible refine Steady.snd2 (by with_reducible assumption) ?_ | with_reducible refine Steady.fst (by with_reducible assumption) ?_ | dsimp only | split

theorem steady_writeBackTask {ρ : State} (p : Nat) (s : State) (hρ : Steady ρ s) : Steady ρ (writeBackTask p s) := by
  unfold writeBackTask
  repeat' first | with_reducible assumption | refine fun _ => ?_ | with_reducible apply steady_taskRound | with_reducible apply steady_plcCount | with_reducible apply steady_writeBack | with_reducible apply Steady.ite | fail_if_no_progress (with_reducible refine Steady.mk' ?_ ?_ ?_ ?_ ?_ ?_ ?_; iterate 6 first | with_reducible rfl | (unfold setTransit; with_reducible rfl) | (split <;> with_reducible rfl) | (dsimp only; split <;> with_reducible rfl) | (focus (simp; done)) | fail) | with_reducible refine Steady.snd (by with_reducible assumption) ?_ | with_reducible refine Steady.snd2 (by with_reducible assumption) ?_ | with_reducible refine Steady.fst (by with_reducible assumption) ?_ | dsimp only | split

theorem steady_treeRefresh {ρ : State} (c : Nat) (k : Nat) (i : Nat) (ok : Bool) (s : State) (hρ : Steady ρ s) : Steady ρ (treeRefresh c k i ok s) := by
  unfold treeRefresh
  repeat' first | with_reducible assumption | refine fun _ => ?_ | with_reducible apply steady_treeFault | with_reducible apply steady_taskItem | with_reducible apply Steady.ite | dsimp only | split

theorem steady_cacheScrub {ρ : State} (p : Nat) (bad : Bool) (s : State) (hρ : Steady ρ s) : Steady ρ (cacheScrub p bad s) := by
  unfold cacheScrub
  repeat' first | with_reducible assumption | refine fun _ => ?_ | with_reducible apply steady_uncache | with_reducible apply steady_requestPlate | with_reducible apply steady_damagePlate | with_reducible apply steady_taskItem | with_reducible apply Steady.ite | fail_if_no_progress (with_reducible refine Steady.mk' ?_ ?_ ?_ ?_ ?_ ?_ ?_; iterate 6 first | with_reducible rfl | (unfold setTransit; with_reducible rfl) | (split <;> with_reducible rfl) | (dsimp only; split <;> with_reducible rfl) | (focus (simp; done)) | fail) | with_reducible refine Steady.snd (by with_reducible assumption) ?_ | with_reducible refine Steady.snd2 (by with_reducible assumption) ?_ | with_reducible refine Steady.fst (by with_reducible assumption) ?_ | dsimp only | split

theorem steady_plcEvtWrite {ρ : State} (w : Word) (s : State) (hρ : Steady ρ s) : Steady ρ (plcEvtWrite w s) := by
  unfold plcEvtWrite
  repeat' first | with_reducible assumption | refine fun _ => ?_ | with_reducible apply steady_State_wr | with_reducible apply steady_State_zero | with_reducible apply Steady.onlyIf | dsimp only | split

theorem steady_sdcEvtWrite {ρ : State} (c : Nat) (w : Word) (s : State) (hρ : Steady ρ s) : Steady ρ (sdcEvtWrite c w s) := by
  unfold sdcEvtWrite
  repeat' first | with_reducible assumption | refine fun _ => ?_ | with_reducible apply steady_State_wr | with_reducible apply steady_State_zero | with_reducible apply Steady.onlyIf | dsimp only | split

theorem steady_plcCfgWrite {ρ : State} (keep : Bool) (w : Word) (s : State) (hρ : Steady ρ s) : Steady ρ (plcCfgWrite keep w s) := by
  unfold plcCfgWrite
  repeat' first | with_reducible assumption | refine fun _ => ?_ | with_reducible apply steady_State_put | with_reducible apply Steady.ite | with_reducible apply Steady.onlyIf | dsimp only | split

end Sys2Proof.Machine
end

