-- ==== Sys2Proof/Laws/SteadyDeck.lean ====
section
/-! SUPPORT. What the operations of Machine/Deck.lean keep (`Steady`). -/

namespace Sys2Proof.Machine

theorem steady_portCount {ρ : State} (port : Nat) (c : Nat) (s : State) (n : Nat) (hρ : Steady ρ s) : Steady ρ (portCount port c s n) := by
  unfold portCount
  repeat' first | with_reducible assumption | refine fun _ => ?_ | with_reducible apply steady_State_count | with_reducible apply Steady.ite | dsimp only | split

theorem steady_deckDrop {ρ : State} (g : Nat) (c : Nat) (s : State) (hρ : Steady ρ s) : Steady ρ (deckDrop g c s) := by
  unfold deckDrop
  repeat' first | with_reducible assumption | refine fun _ => ?_ | with_reducible apply steady_State_raise | with_reducible apply steady_State_count | with_reducible apply Steady.onlyIf | dsimp only | split

theorem steady_groupAdd {ρ : State} (g : Nat) (n : Nat) (s : State) (hρ : Steady ρ s) : Steady ρ (groupAdd g n s) := by
  unfold groupAdd
  repeat' first | with_reducible assumption | refine fun _ => ?_ | with_reducible apply steady_State_put | dsimp only | split

theorem steady_groupSub {ρ : State} (g : Nat) (n : Nat) (s : State) (hρ : Steady ρ s) : Steady ρ (groupSub g n s) := by
  unfold groupSub
  repeat' first | with_reducible assumption | refine fun _ => ?_ | with_reducible apply steady_State_put | dsimp only | split

theorem steady_domAdd {ρ : State} (t : Nat) (n : Nat) (s : State) (hρ : Steady ρ s) : Steady ρ (domAdd t n s) := by
  unfold domAdd
  repeat' first | with_reducible assumption | refine fun _ => ?_ | with_reducible apply steady_State_put | with_reducible apply Steady.ite | dsimp only | split

theorem steady_domSub {ρ : State} (t : Nat) (n : Nat) (s : State) (hρ : Steady ρ s) : Steady ρ (domSub t n s) := by
  unfold domSub
  repeat' first | with_reducible assumption | refine fun _ => ?_ | with_reducible apply steady_State_put | with_reducible apply Steady.ite | dsimp only | split

theorem steady_transmit {ρ : State} (port : Nat) (b : Bytes) (s : State) (hρ : Steady ρ s) : Steady ρ (transmit port b s) := by
  unfold transmit
  repeat' first | with_reducible assumption | refine fun _ => ?_ | fail_if_no_progress (with_reducible refine Steady.mk' ?_ ?_ ?_ ?_ ?_ ?_ ?_; iterate 6 first | with_reducible rfl | (unfold setTransit; with_reducible rfl) | (split <;> with_reducible rfl) | (dsimp only; split <;> with_reducible rfl) | (focus (simp; done)) | fail) | dsimp only | split

theorem steady_pauseOn {ρ : State} (port : Nat) (s : State) (hρ : Steady ρ s) : Steady ρ (pauseOn port s) := by
  unfold pauseOn
  repeat' first | with_reducible assumption | refine fun _ => ?_ | with_reducible apply steady_State_raise | with_reducible apply steady_transmit | fail_if_no_progress (with_reducible refine Steady.mk' ?_ ?_ ?_ ?_ ?_ ?_ ?_; iterate 6 first | with_reducible rfl | (unfold setTransit; with_reducible rfl) | (split <;> with_reducible rfl) | (dsimp only; split <;> with_reducible rfl) | (focus (simp; done)) | fail) | dsimp only | split

theorem steady_pauseCheck {ρ : State} (g : Nat) (s : State) (hρ : Steady ρ s) : Steady ρ (pauseCheck g s) := by
  unfold pauseCheck
  repeat' first | with_reducible assumption | refine fun _ => ?_ | with_reducible apply steady_transmit | with_reducible apply steady_pauseOn | with_reducible apply Steady.ite | fail_if_no_progress (with_reducible refine Steady.mk' ?_ ?_ ?_ ?_ ?_ ?_ ?_; iterate 6 first | with_reducible rfl | (unfold setTransit; with_reducible rfl) | (split <;> with_reducible rfl) | (dsimp only; split <;> with_reducible rfl) | (focus (simp; done)) | fail) | with_reducible apply Steady.each | dsimp only | split

theorem steady_pauseRepeat {ρ : State} (port : Nat) (s : State) (hρ : Steady ρ s) : Steady ρ (pauseRepeat port s) := by
  unfold pauseRepeat
  repeat' first | with_reducible assumption | refine fun _ => ?_ | with_reducible apply steady_pauseOn | with_reducible apply Steady.ite | dsimp only | split

theorem steady_setFrame {ρ : State} (f : Frame) (s : State) (hρ : Steady ρ s) : Steady ρ (setFrame f s) := by
  unfold setFrame
  repeat' first | with_reducible assumption | refine fun _ => ?_ | with_reducible apply Steady.ite | fail_if_no_progress (with_reducible refine Steady.mk' ?_ ?_ ?_ ?_ ?_ ?_ ?_; iterate 6 first | with_reducible rfl | (unfold setTransit; with_reducible rfl) | (split <;> with_reducible rfl) | (dsimp only; split <;> with_reducible rfl) | (focus (simp; done)) | fail) | dsimp only | split

theorem steady_freeFrame {ρ : State} (f : Frame) (s : State) (hρ : Steady ρ s) : Steady ρ (freeFrame f s) := by
  unfold freeFrame
  repeat' first | with_reducible assumption | refine fun _ => ?_ | with_reducible apply steady_dropRef | with_reducible apply steady_groupSub | with_reducible apply steady_domSub | with_reducible apply steady_pauseCheck | with_reducible apply Steady.ite | fail_if_no_progress (with_reducible refine Steady.mk' ?_ ?_ ?_ ?_ ?_ ?_ ?_; iterate 6 first | with_reducible rfl | (unfold setTransit; with_reducible rfl) | (split <;> with_reducible rfl) | (dsimp only; split <;> with_reducible rfl) | (focus (simp; done)) | fail) | dsimp only | split

theorem steady_ledgerAdd {ρ : State} (d : Nat) (q : Nat) (n : Nat) (s : State) (hρ : Steady ρ s) : Steady ρ (ledgerAdd d q n s) := by
  unfold ledgerAdd
  repeat' first | with_reducible assumption | refine fun _ => ?_ | with_reducible apply steady_State_wrN | with_reducible apply Steady.ite | fail_if_no_progress (with_reducible refine Steady.mk' ?_ ?_ ?_ ?_ ?_ ?_ ?_; iterate 6 first | with_reducible rfl | (unfold setTransit; with_reducible rfl) | (split <;> with_reducible rfl) | (dsimp only; split <;> with_reducible rfl) | (focus (simp; done)) | fail) | dsimp only | split

theorem steady_dropBound {ρ : State} (f : Frame) (cause : State → State) (s : State) (hcause : ∀ x0, Steady ρ x0 → Steady ρ (cause x0)) (hρ : Steady ρ s) : Steady ρ (dropBound f cause s) := by
  unfold dropBound
  repeat' first | with_reducible assumption | refine fun _ => ?_ | with_reducible apply hcause | with_reducible apply steady_State_pmcEvent | with_reducible apply steady_freeFrame | with_reducible apply steady_ledgerAdd | dsimp only | split

theorem steady_dropUnbound {ρ : State} (f : Frame) (cause : State → State) (s : State) (hcause : ∀ x0, Steady ρ x0 → Steady ρ (cause x0)) (hρ : Steady ρ s) : Steady ρ (dropUnbound f cause s) := by
  unfold dropUnbound
  repeat' first | with_reducible assumption | refine fun _ => ?_ | with_reducible apply hcause | with_reducible apply steady_freeFrame | dsimp only | split

theorem steady_dropAwaiting {ρ : State} (port : Nat) (s : State) (hρ : Steady ρ s) : Steady ρ (dropAwaiting port s) := by
  unfold dropAwaiting
  repeat' first | with_reducible assumption | refine fun _ => ?_ | with_reducible apply steady_deckDrop | with_reducible apply steady_dropBound | with_reducible apply Steady.ite | fail_if_no_progress (with_reducible refine Steady.mk' ?_ ?_ ?_ ?_ ?_ ?_ ?_; iterate 6 first | with_reducible rfl | (unfold setTransit; with_reducible rfl) | (split <;> with_reducible rfl) | (dsimp only; split <;> with_reducible rfl) | (focus (simp; done)) | fail) | with_reducible apply Steady.each | with_reducible refine Steady.snd (by with_reducible assumption) ?_ | with_reducible refine Steady.snd2 (by with_reducible assumption) ?_ | with_reducible refine Steady.fst (by with_reducible assumption) ?_ | dsimp only | split

theorem steady_makeReady {ρ : State} (f : Frame) (s : State) (hρ : Steady ρ s) : Steady ρ (makeReady f s) := by
  unfold makeReady
  repeat' first | with_reducible assumption | refine fun _ => ?_ | with_reducible apply steady_deckDrop | with_reducible apply steady_setFrame | with_reducible apply steady_dropBound | with_reducible apply Steady.ite | fail_if_no_progress (with_reducible refine Steady.mk' ?_ ?_ ?_ ?_ ?_ ?_ ?_; iterate 6 first | with_reducible rfl | (unfold setTransit; with_reducible rfl) | (split <;> with_reducible rfl) | (dsimp only; split <;> with_reducible rfl) | (focus (simp; done)) | fail) | dsimp only | split

theorem steady_ageOut {ρ : State} (id : Nat) (s : State) (hρ : Steady ρ s) : Steady ρ (ageOut id s) := by
  unfold ageOut
  repeat' first | with_reducible assumption | refine fun _ => ?_ | with_reducible apply steady_deckDrop | with_reducible apply steady_dropBound | fail_if_no_progress (with_reducible refine Steady.mk' ?_ ?_ ?_ ?_ ?_ ?_ ?_; iterate 6 first | with_reducible rfl | (unfold setTransit; with_reducible rfl) | (split <;> with_reducible rfl) | (dsimp only; split <;> with_reducible rfl) | (focus (simp; done)) | fail) | with_reducible refine Steady.snd (by with_reducible assumption) ?_ | with_reducible refine Steady.snd2 (by with_reducible assumption) ?_ | with_reducible refine Steady.fst (by with_reducible assumption) ?_ | with_reducible apply Steady.id' | dsimp only | split

theorem steady_frameSent {ρ : State} (port : Nat) (f : Frame) (s : State) (hρ : Steady ρ s) : Steady ρ (frameSent port f s) := by
  unfold frameSent
  repeat' first | with_reducible assumption | refine fun _ => ?_ | with_reducible apply steady_State_pmcLatency | with_reducible apply steady_portCount | with_reducible apply steady_transmit | with_reducible apply steady_freeFrame | with_reducible apply Steady.ite | dsimp only | split

theorem steady_frameTransmit {ρ : State} (port : Nat) (whole : Bool) (s : State) (hρ : Steady ρ s) : Steady ρ (frameTransmit port whole s) := by
  unfold frameTransmit
  repeat' first | with_reducible assumption | refine fun _ => ?_ | with_reducible apply steady_setFrame | with_reducible apply steady_frameSent | with_reducible apply Steady.ite | fail_if_no_progress (with_reducible refine Steady.mk' ?_ ?_ ?_ ?_ ?_ ?_ ?_; iterate 6 first | with_reducible rfl | (unfold setTransit; with_reducible rfl) | (split <;> with_reducible rfl) | (dsimp only; split <;> with_reducible rfl) | (focus (simp; done)) | fail) | with_reducible refine Steady.snd (by with_reducible assumption) ?_ | with_reducible refine Steady.snd2 (by with_reducible assumption) ?_ | with_reducible refine Steady.fst (by with_reducible assumption) ?_ | dsimp only | split

theorem steady_cqShow {ρ : State} (q : Nat) (s : State) (hρ : Steady ρ s) : Steady ρ (cqShow q s) := by
  unfold cqShow
  repeat' first | with_reducible assumption | refine fun _ => ?_ | with_reducible apply steady_State_wr | with_reducible apply steady_State_put | fail_if_no_progress (with_reducible refine Steady.mk' ?_ ?_ ?_ ?_ ?_ ?_ ?_; iterate 6 first | with_reducible rfl | (unfold setTransit; with_reducible rfl) | (split <;> with_reducible rfl) | (dsimp only; split <;> with_reducible rfl) | (focus (simp; done)) | fail) | with_reducible refine Steady.snd (by with_reducible assumption) ?_ | with_reducible refine Steady.snd2 (by with_reducible assumption) ?_ | with_reducible refine Steady.fst (by with_reducible assumption) ?_ | dsimp only | split

theorem steady_cqReceive {ρ : State} (q : Nat) (p : Nat) (f : Frame) (s : State) (hρ : Steady ρ s) : Steady ρ (cqReceive q p f s) := by
  unfold cqReceive
  repeat' first | with_reducible assumption | refine fun _ => ?_ | with_reducible apply steady_State_raise | with_reducible apply steady_State_count | with_reducible apply steady_freeFrame | with_reducible apply steady_cqShow | with_reducible apply Steady.ite | fail_if_no_progress (with_reducible refine Steady.mk' ?_ ?_ ?_ ?_ ?_ ?_ ?_; iterate 6 first | with_reducible rfl | (unfold setTransit; with_reducible rfl) | (split <;> with_reducible rfl) | (dsimp only; split <;> with_reducible rfl) | (focus (simp; done)) | fail) | with_reducible apply Steady.onlyIf | dsimp only | split

theorem steady_cqDescRead {ρ : State} (q : Nat) (s : State) (hρ : Steady ρ s) : Steady ρ (cqDescRead q s).2 := by
  unfold cqDescRead
  repeat' first | with_reducible assumption | refine fun _ => ?_ | with_reducible apply Steady.ite | fail_if_no_progress (with_reducible refine Steady.mk' ?_ ?_ ?_ ?_ ?_ ?_ ?_; iterate 6 first | with_reducible rfl | (unfold setTransit; with_reducible rfl) | (split <;> with_reducible rfl) | (dsimp only; split <;> with_reducible rfl) | (focus (simp; done)) | fail) | dsimp only | split

theorem steady_cqDataRead {ρ : State} (q : Nat) (s : State) (hρ : Steady ρ s) : Steady ρ (cqDataRead q s).2 := by
  unfold cqDataRead
  repeat' first | with_reducible assumption | refine fun _ => ?_ | fail_if_no_progress (with_reducible refine Steady.mk' ?_ ?_ ?_ ?_ ?_ ?_ ?_; iterate 6 first | with_reducible rfl | (unfold setTransit; with_reducible rfl) | (split <;> with_reducible rfl) | (dsimp only; split <;> with_reducible rfl) | (focus (simp; done)) | fail) | with_reducible refine Steady.snd (by with_reducible assumption) ?_ | with_reducible refine Steady.snd2 (by with_reducible assumption) ?_ | with_reducible refine Steady.fst (by with_reducible assumption) ?_ | dsimp only | split

theorem steady_cqDone {ρ : State} (q : Nat) (w : Word) (s : State) (hρ : Steady ρ s) : Steady ρ (cqDone q w s) := by
  unfold cqDone
  repeat' first | with_reducible assumption | refine fun _ => ?_ | with_reducible apply steady_groupSub | with_reducible apply steady_domSub | with_reducible apply steady_pauseCheck | with_reducible apply steady_cqShow | with_reducible apply Steady.ite | fail_if_no_progress (with_reducible refine Steady.mk' ?_ ?_ ?_ ?_ ?_ ?_ ?_; iterate 6 first | with_reducible rfl | (unfold setTransit; with_reducible rfl) | (split <;> with_reducible rfl) | (dsimp only; split <;> with_reducible rfl) | (focus (simp; done)) | fail) | with_reducible refine Steady.snd (by with_reducible assumption) ?_ | with_reducible refine Steady.snd2 (by with_reducible assumption) ?_ | with_reducible refine Steady.fst (by with_reducible assumption) ?_ | dsimp only | split

theorem steady_cqTxData {ρ : State} (q : Nat) (w : Word) (s : State) (hρ : Steady ρ s) : Steady ρ (cqTxData q w s) := by
  unfold cqTxData
  repeat' first | with_reducible assumption | refine fun _ => ?_ | fail_if_no_progress (with_reducible refine Steady.mk' ?_ ?_ ?_ ?_ ?_ ?_ ?_; iterate 6 first | with_reducible rfl | (unfold setTransit; with_reducible rfl) | (split <;> with_reducible rfl) | (dsimp only; split <;> with_reducible rfl) | (focus (simp; done)) | fail) | dsimp only | split

theorem steady_takeCells {ρ : State} (g n : Nat) (s : State) (hρ : Steady ρ s) : Steady ρ (takeCells g n s).2 := by
  induction n generalizing s with
  | zero => exact hρ
  | succ n ih =>
    unfold takeCells
    repeat' first | with_reducible assumption | apply ih | apply steady_groupAdd | with_reducible refine Steady.snd (by with_reducible assumption) ?_ | dsimp only | split

theorem steady_cqRefuse {ρ : State} (q : Nat) (s : State) (hρ : Steady ρ s) : Steady ρ (cqRefuse q s) := by
  unfold cqRefuse
  repeat' first | with_reducible assumption | refine fun _ => ?_ | with_reducible apply steady_State_put | dsimp only | split

theorem steady_cqTxSend {ρ : State} (q : Nat) (w : Word) (s : State) (hρ : Steady ρ s) : Steady ρ (cqTxSend q w s) := by
  unfold cqTxSend
  repeat' first | with_reducible assumption | refine fun _ => ?_ | with_reducible apply steady_State_put | with_reducible apply steady_deckDrop | with_reducible apply steady_domAdd | with_reducible apply steady_pauseCheck | with_reducible apply steady_cqRefuse | with_reducible apply steady_takeCells | with_reducible apply Steady.ite | fail_if_no_progress (with_reducible refine Steady.mk' ?_ ?_ ?_ ?_ ?_ ?_ ?_; iterate 6 first | with_reducible rfl | (unfold setTransit; with_reducible rfl) | (split <;> with_reducible rfl) | (dsimp only; split <;> with_reducible rfl) | (focus (simp; done)) | fail) | with_reducible refine Steady.snd (by with_reducible assumption) ?_ | with_reducible refine Steady.snd2 (by with_reducible assumption) ?_ | with_reducible refine Steady.fst (by with_reducible assumption) ?_ | with_reducible apply SteadyDone.next | with_reducible apply SteadyDone.fault | with_reducible apply SteadyDone.after | with_reducible apply SteadyDone.ite | with_reducible refine SteadyDone.outNext (by with_reducible assumption) ?_ | with_reducible refine SteadyDone.outFault (by with_reducible assumption) ?_ | with_reducible refine SteadyDone.outAfter (by with_reducible assumption) ?_ | with_reducible apply Steady.id' | dsimp only | split

theorem steady_zeroDeck {ρ : State} (s : State) (hρ : Steady ρ s) : Steady ρ (zeroDeck s) := by
  unfold zeroDeck
  repeat' first | with_reducible assumption | refine fun _ => ?_ | with_reducible apply steady_State_put | with_reducible apply steady_cqShow | fail_if_no_progress (with_reducible refine Steady.mk' ?_ ?_ ?_ ?_ ?_ ?_ ?_; iterate 6 first | with_reducible rfl | (unfold setTransit; with_reducible rfl) | (split <;> with_reducible rfl) | (dsimp only; split <;> with_reducible rfl) | (focus (simp; done)) | fail) | with_reducible apply Steady.each | dsimp only | split

theorem steady_ownDeckLimit {ρ : State} (s : State) (hρ : Steady ρ s) : Steady ρ (ownDeckLimit s) := by
  unfold ownDeckLimit
  repeat' first | with_reducible assumption | refine fun _ => ?_ | with_reducible apply steady_State_put | dsimp only | split

theorem steady_dckEvtWrite {ρ : State} (w : Word) (s : State) (hρ : Steady ρ s) : Steady ρ (dckEvtWrite w s) := by
  unfold dckEvtWrite
  repeat' first | with_reducible assumption | refine fun _ => ?_ | with_reducible apply steady_State_wr | with_reducible apply steady_State_zero | with_reducible apply Steady.onlyIf | dsimp only | split

theorem steady_prtEvtWrite {ρ : State} (g : Nat) (w : Word) (s : State) (hρ : Steady ρ s) : Steady ρ (prtEvtWrite g w s) := by
  unfold prtEvtWrite
  repeat' first | with_reducible assumption | refine fun _ => ?_ | with_reducible apply steady_State_wr | with_reducible apply steady_State_zero | with_reducible apply Steady.each | with_reducible apply Steady.onlyIf | dsimp only | split

theorem steady_pauseWrite {ρ : State} (g : Nat) (w : Word) (s : State) (hρ : Steady ρ s) : Steady ρ (pauseWrite g w s) := by
  unfold pauseWrite
  repeat' first | with_reducible assumption | refine fun _ => ?_ | with_reducible apply steady_State_wr | with_reducible apply steady_pauseCheck | with_reducible apply Steady.ite | dsimp only | split

theorem steady_deckScrub {ρ : State} (s : State) (hρ : Steady ρ s) : Steady ρ (deckScrub s) := by
  unfold deckScrub
  repeat' first | with_reducible assumption | refine fun _ => ?_ | with_reducible apply steady_taskItem | with_reducible apply Steady.ite | dsimp only | split

end Sys2Proof.Machine
end

