-- ==== Sys2Proof/Laws/SteadyHost.lean ====
section
/-! SUPPORT. What the operations of Machine/Host.lean keep (`Steady`). -/

namespace Sys2Proof.Machine

theorem steady_hifCount {ρ : State} (c : Nat) (s : State) (k : Nat) (hρ : Steady ρ s) : Steady ρ (hifCount c s k) := by
  unfold hifCount
  repeat' first | with_reducible assumption | refine fun _ => ?_ | with_reducible apply steady_State_count | dsimp only | split

theorem steady_ringShow {ρ : State} (g : Nat) (s : State) (hρ : Steady ρ s) : Steady ρ (ringShow g s) := by
  unfold ringShow
  repeat' first | with_reducible assumption | refine fun _ => ?_ | with_reducible apply steady_State_put | with_reducible refine Steady.snd (by with_reducible assumption) ?_ | with_reducible refine Steady.snd2 (by with_reducible assumption) ?_ | with_reducible refine Steady.fst (by with_reducible assumption) ?_ | dsimp only | split

theorem steady_completeHost {ρ : State} (f : Flight) (status : Nat) (r0 : Nat) (r1 : Nat) (out : Bytes) (dueAt : Nat) (s : State) (hρ : Steady ρ s) : Steady ρ (completeHost f status r0 r1 out dueAt s) := by
  unfold completeHost
  repeat' first | with_reducible assumption | refine fun _ => ?_ | with_reducible apply Steady.ite | fail_if_no_progress (with_reducible refine Steady.mk' ?_ ?_ ?_ ?_ ?_ ?_ ?_; iterate 6 first | with_reducible rfl | (unfold setTransit; with_reducible rfl) | (split <;> with_reducible rfl) | (dsimp only; split <;> with_reducible rfl) | (focus (simp; done)) | fail) | with_reducible refine Steady.snd (by with_reducible assumption) ?_ | with_reducible refine Steady.snd2 (by with_reducible assumption) ?_ | with_reducible refine Steady.fst (by with_reducible assumption) ?_ | dsimp only | split

theorem steady_State_setCore {ρ : State} (s : State) (n : Nat) (c : CoreState) (hρ : Steady ρ s) : Steady ρ (State.setCore s n c) := by
  unfold State.setCore
  repeat' first | with_reducible assumption | refine fun _ => ?_ | fail_if_no_progress (with_reducible refine Steady.mk' ?_ ?_ ?_ ?_ ?_ ?_ ?_; iterate 6 first | with_reducible rfl | (unfold setTransit; with_reducible rfl) | (split <;> with_reducible rfl) | (dsimp only; split <;> with_reducible rfl) | (focus (simp; done)) | fail) | dsimp only | split

theorem steady_answerCall {ρ : State} (n : Nat) (status : Nat) (r0 : Nat) (r1 : Nat) (out : Bytes) (s : State) (hρ : Steady ρ s) : Steady ρ (answerCall n status r0 r1 out s) := by
  unfold answerCall
  repeat' first | with_reducible assumption | refine fun _ => ?_ | with_reducible apply steady_State_wr | with_reducible apply steady_State_setCore | with_reducible apply steady_State_zero | with_reducible apply Steady.ite | fail_if_no_progress (with_reducible refine Steady.mk' ?_ ?_ ?_ ?_ ?_ ?_ ?_; iterate 6 first | with_reducible rfl | (unfold setTransit; with_reducible rfl) | (split <;> with_reducible rfl) | (dsimp only; split <;> with_reducible rfl) | (focus (simp; done)) | fail) | with_reducible apply Steady.foldl | with_reducible apply Steady.foldlSnd | dsimp only | split

theorem steady_finishDue {ρ : State} (due : Flight → Nat) (c : Caller) (status : Nat) (s : State) (r0 : Nat) (r1 : Nat) (out : Bytes) (hρ : Steady ρ s) : Steady ρ (finishDue due c status s r0 r1 out) := by
  unfold finishDue
  repeat' first | with_reducible assumption | refine fun _ => ?_ | with_reducible apply steady_completeHost | with_reducible apply steady_answerCall | with_reducible apply Steady.ite | fail_if_no_progress (with_reducible refine Steady.mk' ?_ ?_ ?_ ?_ ?_ ?_ ?_; iterate 6 first | with_reducible rfl | (unfold setTransit; with_reducible rfl) | (split <;> with_reducible rfl) | (dsimp only; split <;> with_reducible rfl) | (focus (simp; done)) | fail) | with_reducible refine Steady.snd (by with_reducible assumption) ?_ | with_reducible refine Steady.snd2 (by with_reducible assumption) ?_ | with_reducible refine Steady.fst (by with_reducible assumption) ?_ | with_reducible apply Steady.id' | dsimp only | split

theorem steady_finish {ρ : State} (c : Caller) (status : Nat) (s : State) (r0 : Nat) (r1 : Nat) (out : Bytes) (dur : Nat) (hρ : Steady ρ s) : Steady ρ (finish c status s r0 r1 out dur) := by
  unfold finish
  repeat' first | with_reducible assumption | refine fun _ => ?_ | with_reducible apply steady_finishDue | dsimp only | split

theorem steady_finishEnd {ρ : State} (c : Caller) (status : Nat) (s : State) (r0 : Nat) (r1 : Nat) (out : Bytes) (hρ : Steady ρ s) : Steady ρ (finishEnd c status s r0 r1 out) := by
  unfold finishEnd
  repeat' first | with_reducible assumption | refine fun _ => ?_ | with_reducible apply steady_finishDue | dsimp only | split

theorem steady_markStarted {ρ : State} (f : Flight) (s : State) (hρ : Steady ρ s) : Steady ρ (markStarted f s) := by
  unfold markStarted
  repeat' first | with_reducible assumption | refine fun _ => ?_ | with_reducible apply Steady.ite | fail_if_no_progress (with_reducible refine Steady.mk' ?_ ?_ ?_ ?_ ?_ ?_ ?_; iterate 6 first | with_reducible rfl | (unfold setTransit; with_reducible rfl) | (split <;> with_reducible rfl) | (dsimp only; split <;> with_reducible rfl) | (focus (simp; done)) | fail) | dsimp only | split

theorem steady_command {ρ : State} (op : Nat) (num : Nat) (c : Caller) (body : State → State) (s : State) (hbody : ∀ x0, Steady ρ x0 → Steady ρ (body x0)) (hρ : Steady ρ s) : Steady ρ (command op num c body s) := by
  unfold command
  repeat' first | with_reducible assumption | refine fun _ => ?_ | with_reducible apply hbody | with_reducible apply steady_State_count | with_reducible apply steady_finish | with_reducible apply steady_markStarted | with_reducible apply Steady.ite | fail_if_no_progress (with_reducible refine Steady.mk' ?_ ?_ ?_ ?_ ?_ ?_ ?_; iterate 6 first | with_reducible rfl | (unfold setTransit; with_reducible rfl) | (split <;> with_reducible rfl) | (dsimp only; split <;> with_reducible rfl) | (focus (simp; done)) | fail) | with_reducible refine Steady.snd (by with_reducible assumption) ?_ | with_reducible refine Steady.snd2 (by with_reducible assumption) ?_ | with_reducible refine Steady.fst (by with_reducible assumption) ?_ | with_reducible apply Steady.id' | dsimp only | split

theorem steady_sendVector {ρ : State} (fn : Nat) (vec : Nat) (s : State) (hρ : Steady ρ s) : Steady ρ (sendVector fn vec s) := by
  unfold sendVector
  repeat' first | with_reducible assumption | refine fun _ => ?_ | with_reducible apply Steady.ite | fail_if_no_progress (with_reducible refine Steady.mk' ?_ ?_ ?_ ?_ ?_ ?_ ?_; iterate 6 first | with_reducible rfl | (unfold setTransit; with_reducible rfl) | (split <;> with_reducible rfl) | (dsimp only; split <;> with_reducible rfl) | (focus (simp; done)) | fail) | dsimp only | split

theorem steady_eventVector {ρ : State} (fn : Nat) (s : State) (hρ : Steady ρ s) : Steady ρ (eventVector fn s) := by
  unfold eventVector
  repeat' first | with_reducible assumption | refine fun _ => ?_ | with_reducible apply steady_sendVector | dsimp only | split

theorem steady_hifEvent {ρ : State} (k : Nat) (s : State) (hρ : Steady ρ s) : Steady ρ (hifEvent k s) := by
  unfold hifEvent
  repeat' first | with_reducible assumption | refine fun _ => ?_ | with_reducible apply steady_State_raise | with_reducible apply steady_eventVector | with_reducible apply Steady.onlyIf | dsimp only | split

theorem steady_doorbellWrite {ρ : State} (g : Nat) (w : Word) (s : State) (hρ : Steady ρ s) : Steady ρ (doorbellWrite g w s) := by
  unfold doorbellWrite
  repeat' first | with_reducible assumption | refine fun _ => ?_ | with_reducible apply steady_State_wr | with_reducible apply steady_hifCount | with_reducible apply steady_hifEvent | with_reducible apply Steady.ite | dsimp only | split

theorem steady_dropFetched {ρ : State} (g : Nat) (s : State) (hρ : Steady ρ s) : Steady ρ (dropFetched g s) := by
  unfold dropFetched
  repeat' first | with_reducible assumption | refine fun _ => ?_ | with_reducible apply Steady.ite | fail_if_no_progress (with_reducible refine Steady.mk' ?_ ?_ ?_ ?_ ?_ ?_ ?_; iterate 6 first | with_reducible rfl | (unfold setTransit; with_reducible rfl) | (split <;> with_reducible rfl) | (dsimp only; split <;> with_reducible rfl) | (focus (simp; done)) | fail) | dsimp only | split

theorem steady_ringCtlWrite {ρ : State} (g : Nat) (w : Word) (s : State) (hρ : Steady ρ s) : Steady ρ (ringCtlWrite g w s) := by
  unfold ringCtlWrite
  repeat' first | with_reducible assumption | refine fun _ => ?_ | with_reducible apply steady_State_wr | with_reducible apply steady_State_put | with_reducible apply steady_ringShow | with_reducible apply steady_dropFetched | with_reducible apply Steady.ite | with_reducible apply Steady.onlyIf | dsimp only | split

theorem steady_ringBaseWrite {ρ : State} (g : Nat) (o : Nat) (w : Word) (s : State) (hρ : Steady ρ s) : Steady ρ (ringBaseWrite g o w s) := by
  unfold ringBaseWrite
  repeat' first | with_reducible assumption | refine fun _ => ?_ | with_reducible apply steady_State_wr | with_reducible apply Steady.ite | dsimp only | split

theorem steady_fetchDescriptor {ρ : State} (g : Nat) (b : Bytes) (dmaOk : Bool) (s : State) (hρ : Steady ρ s) : Steady ρ (fetchDescriptor g b dmaOk s) := by
  unfold fetchDescriptor
  repeat' first | with_reducible assumption | refine fun _ => ?_ | with_reducible apply steady_State_wr | with_reducible apply steady_hifCount | with_reducible apply steady_hifEvent | with_reducible apply Steady.ite | fail_if_no_progress (with_reducible refine Steady.mk' ?_ ?_ ?_ ?_ ?_ ?_ ?_; iterate 6 first | with_reducible rfl | (unfold setTransit; with_reducible rfl) | (split <;> with_reducible rfl) | (dsimp only; split <;> with_reducible rfl) | (focus (simp; done)) | fail) | with_reducible apply Steady.onlyIf | with_reducible refine Steady.snd (by with_reducible assumption) ?_ | with_reducible refine Steady.snd2 (by with_reducible assumption) ?_ | with_reducible refine Steady.fst (by with_reducible assumption) ?_ | dsimp only | split

theorem steady_commitOne {ρ : State} (d : Descriptor) (s : State) (hρ : Steady ρ s) : Steady ρ (commitOne d s) := by
  unfold commitOne
  repeat' first | with_reducible assumption | refine fun _ => ?_ | with_reducible apply steady_State_pmcEvent | with_reducible apply steady_hifCount | with_reducible apply steady_ringShow | with_reducible apply steady_completeHost | with_reducible apply Steady.ite | fail_if_no_progress (with_reducible refine Steady.mk' ?_ ?_ ?_ ?_ ?_ ?_ ?_; iterate 6 first | with_reducible rfl | (unfold setTransit; with_reducible rfl) | (split <;> with_reducible rfl) | (dsimp only; split <;> with_reducible rfl) | (focus (simp; done)) | fail) | with_reducible refine Steady.snd (by with_reducible assumption) ?_ | with_reducible refine Steady.snd2 (by with_reducible assumption) ?_ | with_reducible refine Steady.fst (by with_reducible assumption) ?_ | dsimp only | split

theorem steady_commitRing {ρ : State} (g : Nat) (s : State) (hρ : Steady ρ s) : Steady ρ (commitRing g s) := by
  unfold commitRing
  repeat' first | with_reducible assumption | refine fun _ => ?_ | with_reducible apply steady_commitOne | with_reducible apply Steady.ite | fail_if_no_progress (with_reducible refine Steady.mk' ?_ ?_ ?_ ?_ ?_ ?_ ?_; iterate 6 first | with_reducible rfl | (unfold setTransit; with_reducible rfl) | (split <;> with_reducible rfl) | (dsimp only; split <;> with_reducible rfl) | (focus (simp; done)) | fail) | with_reducible apply Steady.each | with_reducible refine Steady.snd (by with_reducible assumption) ?_ | with_reducible refine Steady.snd2 (by with_reducible assumption) ?_ | with_reducible refine Steady.fst (by with_reducible assumption) ?_ | dsimp only | split

theorem steady_commitAll {ρ : State} (s : State) (hρ : Steady ρ s) : Steady ρ (commitAll s) := by
  unfold commitAll
  repeat' first | with_reducible assumption | refine fun _ => ?_ | with_reducible apply steady_commitRing | with_reducible apply Steady.each | dsimp only | split

theorem steady_logLost {ρ : State} (fn : Nat) (c : Completion) (s : State) (hρ : Steady ρ s) : Steady ρ (logLost fn c s) := by
  unfold logLost
  repeat' first | with_reducible assumption | refine fun _ => ?_ | with_reducible apply steady_hifCount | with_reducible apply Steady.ite | fail_if_no_progress (with_reducible refine Steady.mk' ?_ ?_ ?_ ?_ ?_ ?_ ?_; iterate 6 first | with_reducible rfl | (unfold setTransit; with_reducible rfl) | (split <;> with_reducible rfl) | (dsimp only; split <;> with_reducible rfl) | (focus (simp; done)) | fail) | dsimp only | split

theorem steady_writeCompletion {ρ : State} (g : Nat) (ok : Bool) (s : State) (hρ : Steady ρ s) : Steady ρ (writeCompletion g ok s) := by
  unfold writeCompletion
  repeat' first | with_reducible assumption | refine fun _ => ?_ | with_reducible apply steady_State_wr | with_reducible apply steady_State_put | with_reducible apply steady_State_flag | with_reducible apply steady_State_pmcEvent | with_reducible apply steady_State_pmcLatency | with_reducible apply steady_hifCount | with_reducible apply steady_ringShow | with_reducible apply steady_eventVector | with_reducible apply steady_hifEvent | with_reducible apply steady_logLost | with_reducible apply Steady.ite | fail_if_no_progress (with_reducible refine Steady.mk' ?_ ?_ ?_ ?_ ?_ ?_ ?_; iterate 6 first | with_reducible rfl | (unfold setTransit; with_reducible rfl) | (split <;> with_reducible rfl) | (dsimp only; split <;> with_reducible rfl) | (focus (simp; done)) | fail) | with_reducible apply Steady.onlyIf | with_reducible refine Steady.snd (by with_reducible assumption) ?_ | with_reducible refine Steady.snd2 (by with_reducible assumption) ?_ | with_reducible refine Steady.fst (by with_reducible assumption) ?_ | dsimp only | split

theorem steady_sendMessage {ρ : State} (g : Nat) (masked : Bool) (s : State) (hρ : Steady ρ s) : Steady ρ (sendMessage g masked s) := by
  unfold sendMessage
  repeat' first | with_reducible assumption | refine fun _ => ?_ | with_reducible apply steady_sendVector | with_reducible apply Steady.ite | fail_if_no_progress (with_reducible refine Steady.mk' ?_ ?_ ?_ ?_ ?_ ?_ ?_; iterate 6 first | with_reducible rfl | (unfold setTransit; with_reducible rfl) | (split <;> with_reducible rfl) | (dsimp only; split <;> with_reducible rfl) | (focus (simp; done)) | fail) | with_reducible refine Steady.snd (by with_reducible assumption) ?_ | with_reducible refine Steady.snd2 (by with_reducible assumption) ?_ | with_reducible refine Steady.fst (by with_reducible assumption) ?_ | dsimp only | split

theorem steady_flrReceive {ρ : State} (fn : Nat) (s : State) (hρ : Steady ρ s) : Steady ρ (flrReceive fn s) := by
  unfold flrReceive
  repeat' first | with_reducible assumption | refine fun _ => ?_ | with_reducible apply steady_State_wr | with_reducible apply steady_hifEvent | with_reducible apply Steady.ite | fail_if_no_progress (with_reducible refine Steady.mk' ?_ ?_ ?_ ?_ ?_ ?_ ?_; iterate 6 first | with_reducible rfl | (unfold setTransit; with_reducible rfl) | (split <;> with_reducible rfl) | (dsimp only; split <;> with_reducible rfl) | (focus (simp; done)) | fail) | dsimp only | split

theorem steady_flrTakeOne {ρ : State} (fn : Nat) (s : State) (hρ : Steady ρ s) : Steady ρ (flrTakeOne fn s) := by
  unfold flrTakeOne
  repeat' first | with_reducible assumption | refine fun _ => ?_ | with_reducible apply steady_State_wr | with_reducible apply steady_State_put | with_reducible apply steady_hifCount | with_reducible apply steady_dropFetched | with_reducible apply Steady.ite | fail_if_no_progress (with_reducible refine Steady.mk' ?_ ?_ ?_ ?_ ?_ ?_ ?_; iterate 6 first | with_reducible rfl | (unfold setTransit; with_reducible rfl) | (split <;> with_reducible rfl) | (dsimp only; split <;> with_reducible rfl) | (focus (simp; done)) | fail) | with_reducible apply Steady.each | dsimp only | split

theorem steady_hifEvtWrite {ρ : State} (w : Word) (s : State) (hρ : Steady ρ s) : Steady ρ (hifEvtWrite w s) := by
  unfold hifEvtWrite
  repeat' first | with_reducible assumption | refine fun _ => ?_ | with_reducible apply steady_State_wr | with_reducible apply steady_State_zero | with_reducible apply Steady.onlyIf | dsimp only | split

end Sys2Proof.Machine
end

