-- ==== Sys2Proof/Laws/SteadyKey.lean ====
section
/-! SUPPORT. What the operations of Machine/Key.lean keep (`Steady`). -/

namespace Sys2Proof.Machine

theorem steady_State_setSlot {ρ : State} (s : State) (i : Nat) (v : Slot) (hρ : Steady ρ s) : Steady ρ (State.setSlot s i v) := by
  unfold State.setSlot
  repeat' first | with_reducible assumption | refine fun _ => ?_ | fail_if_no_progress (with_reducible refine Steady.mk' ?_ ?_ ?_ ?_ ?_ ?_ ?_; iterate 6 first | with_reducible rfl | (unfold setTransit; with_reducible rfl) | (split <;> with_reducible rfl) | (dsimp only; split <;> with_reducible rfl) | (focus (simp; done)) | fail) | dsimp only | split

theorem steady_keyCount {ρ : State} (c : Nat) (s : State) (hρ : Steady ρ s) : Steady ρ (keyCount c s) := by
  unfold keyCount
  repeat' first | with_reducible assumption | refine fun _ => ?_ | with_reducible apply steady_State_count | dsimp only | split

theorem steady_keyRefuse {ρ : State} (st : Nat) (s : State) (hρ : Steady ρ s) : Steady ρ (keyRefuse st s) := by
  unfold keyRefuse
  repeat' first | with_reducible assumption | refine fun _ => ?_ | with_reducible apply steady_State_raise | with_reducible apply steady_keyCount | with_reducible apply Steady.ite | dsimp only | split

theorem steady_slotsTaken {ρ : State} (dom : Nat) (n : Nat) (s : State) (hρ : Steady ρ s) : Steady ρ (slotsTaken dom n s) := by
  unfold slotsTaken
  repeat' first | with_reducible assumption | refine fun _ => ?_ | with_reducible apply steady_State_wr | with_reducible apply steady_State_put | with_reducible apply Steady.ite | dsimp only | split

theorem steady_slotsGiven {ρ : State} (dom : Nat) (n : Nat) (s : State) (hρ : Steady ρ s) : Steady ρ (slotsGiven dom n s) := by
  unfold slotsGiven
  repeat' first | with_reducible assumption | refine fun _ => ?_ | with_reducible apply steady_State_wr | with_reducible apply steady_State_put | with_reducible apply Steady.ite | dsimp only | split

theorem steady_reserveSlots {ρ : State} (dom : Nat) (n : Nat) (s : State) (hρ : Steady ρ s) : Steady ρ (reserveSlots dom n s).2 := by
  unfold reserveSlots
  repeat' first | with_reducible assumption | refine fun _ => ?_ | with_reducible apply steady_State_useFree | with_reducible apply steady_State_setSlot | with_reducible apply steady_slotsTaken | fail_if_no_progress (with_reducible refine Steady.mk' ?_ ?_ ?_ ?_ ?_ ?_ ?_; iterate 6 first | with_reducible rfl | (unfold setTransit; with_reducible rfl) | (split <;> with_reducible rfl) | (dsimp only; split <;> with_reducible rfl) | (focus (simp; done)) | fail) | with_reducible apply Steady.each | with_reducible refine Steady.snd (by with_reducible assumption) ?_ | with_reducible refine Steady.snd2 (by with_reducible assumption) ?_ | with_reducible refine Steady.fst (by with_reducible assumption) ?_ | dsimp only | split

theorem steady_unreserve {ρ : State} (dom : Nat) (l : List Nat) (s : State) (hρ : Steady ρ s) : Steady ρ (unreserve dom l s) := by
  unfold unreserve
  repeat' first | with_reducible assumption | refine fun _ => ?_ | with_reducible apply steady_State_setSlot | with_reducible apply steady_slotsGiven | fail_if_no_progress (with_reducible refine Steady.mk' ?_ ?_ ?_ ?_ ?_ ?_ ?_; iterate 6 first | with_reducible rfl | (unfold setTransit; with_reducible rfl) | (split <;> with_reducible rfl) | (dsimp only; split <;> with_reducible rfl) | (focus (simp; done)) | fail) | with_reducible apply Steady.each | dsimp only | split

theorem steady_fillSlots {ρ : State} (dom : Nat) (ty : Nat) (size : Nat) (usage : BitVec 8) (exportable : Bool) (persist : Bool) (words : List Word) (l : List Nat) (s : State) (hρ : Steady ρ s) : Steady ρ (fillSlots dom ty size usage exportable persist words l s).2 := by
  unfold fillSlots
  repeat' first | with_reducible assumption | refine fun _ => ?_ | with_reducible apply steady_State_setSlot | with_reducible apply Steady.ite | fail_if_no_progress (with_reducible refine Steady.mk' ?_ ?_ ?_ ?_ ?_ ?_ ?_; iterate 6 first | with_reducible rfl | (unfold setTransit; with_reducible rfl) | (split <;> with_reducible rfl) | (dsimp only; split <;> with_reducible rfl) | (focus (simp; done)) | fail) | with_reducible apply Steady.each | with_reducible refine Steady.snd (by with_reducible assumption) ?_ | with_reducible refine Steady.snd2 (by with_reducible assumption) ?_ | with_reducible refine Steady.fst (by with_reducible assumption) ?_ | dsimp only | split

theorem steady_createObject {ρ : State} (dom : Nat) (ty : Nat) (size : Nat) (usage : BitVec 8) (exportable : Bool) (words : List Word) (s : State) (hρ : Steady ρ s) : Steady ρ (createObject dom ty size usage exportable words s).2.2 := by
  unfold createObject
  repeat' first | with_reducible assumption | refine fun _ => ?_ | with_reducible apply steady_keyCount | with_reducible apply steady_reserveSlots | with_reducible apply steady_fillSlots | with_reducible apply Steady.ite | with_reducible refine Steady.snd (by with_reducible assumption) ?_ | with_reducible refine Steady.snd2 (by with_reducible assumption) ?_ | with_reducible refine Steady.fst (by with_reducible assumption) ?_ | dsimp only | split

theorem steady_keepBlocks {ρ : State} (keep : Nat → Bool → Bool) (s : State) (hρ : Steady ρ s) : Steady ρ (keepBlocks keep s) := by
  unfold keepBlocks
  repeat' first | with_reducible assumption | refine fun _ => ?_ | fail_if_no_progress (with_reducible refine Steady.mk' ?_ ?_ ?_ ?_ ?_ ?_ ?_; iterate 6 first | with_reducible rfl | (unfold setTransit; with_reducible rfl) | (split <;> with_reducible rfl) | (dsimp only; split <;> with_reducible rfl) | (focus (simp; done)) | fail) | with_reducible refine Steady.snd (by with_reducible assumption) ?_ | with_reducible refine Steady.snd2 (by with_reducible assumption) ?_ | with_reducible refine Steady.fst (by with_reducible assumption) ?_ | dsimp only | split

theorem steady_destroyObject {ρ : State} (i : Nat) (s : State) (hρ : Steady ρ s) : Steady ρ (destroyObject i s) := by
  unfold destroyObject
  repeat' first | with_reducible assumption | refine fun _ => ?_ | with_reducible apply steady_State_setSlot | with_reducible apply steady_keyCount | with_reducible apply steady_keepBlocks | fail_if_no_progress (with_reducible refine Steady.mk' ?_ ?_ ?_ ?_ ?_ ?_ ?_; iterate 6 first | with_reducible rfl | (unfold setTransit; with_reducible rfl) | (split <;> with_reducible rfl) | (dsimp only; split <;> with_reducible rfl) | (focus (simp; done)) | fail) | dsimp only | split

theorem steady_freeObject {ρ : State} (i : Nat) (s : State) (hρ : Steady ρ s) : Steady ρ (freeObject i s) := by
  unfold freeObject
  repeat' first | with_reducible assumption | refine fun _ => ?_ | with_reducible apply steady_State_wr | with_reducible apply steady_State_put | with_reducible apply steady_State_setSlot | with_reducible apply steady_slotsGiven | with_reducible apply steady_keepBlocks | with_reducible apply Steady.ite | fail_if_no_progress (with_reducible refine Steady.mk' ?_ ?_ ?_ ?_ ?_ ?_ ?_; iterate 6 first | with_reducible rfl | (unfold setTransit; with_reducible rfl) | (split <;> with_reducible rfl) | (dsimp only; split <;> with_reducible rfl) | (focus (simp; done)) | fail) | with_reducible apply Steady.each | with_reducible apply Steady.onlyIf | dsimp only | split

theorem steady_quorumShow {ρ : State} (k : Nat) (s : State) (hρ : Steady ρ s) : Steady ρ (quorumShow k s) := by
  unfold quorumShow
  repeat' first | with_reducible assumption | refine fun _ => ?_ | with_reducible apply steady_State_wr | with_reducible apply steady_State_flag | fail_if_no_progress (with_reducible refine Steady.mk' ?_ ?_ ?_ ?_ ?_ ?_ ?_; iterate 6 first | with_reducible rfl | (unfold setTransit; with_reducible rfl) | (split <;> with_reducible rfl) | (dsimp only; split <;> with_reducible rfl) | (focus (simp; done)) | fail) | with_reducible apply Steady.each | with_reducible refine Steady.snd (by with_reducible assumption) ?_ | with_reducible refine Steady.snd2 (by with_reducible assumption) ?_ | with_reducible refine Steady.fst (by with_reducible assumption) ?_ | dsimp only | split

theorem steady_quorumCancel {ρ : State} (k : Nat) (st : Nat) (s : State) (hρ : Steady ρ s) : Steady ρ (quorumCancel k st s) := by
  unfold quorumCancel
  repeat' first | with_reducible assumption | refine fun _ => ?_ | with_reducible apply steady_State_raise | with_reducible apply steady_finish | with_reducible apply steady_keyCount | with_reducible apply steady_quorumShow | fail_if_no_progress (with_reducible refine Steady.mk' ?_ ?_ ?_ ?_ ?_ ?_ ?_; iterate 6 first | with_reducible rfl | (unfold setTransit; with_reducible rfl) | (split <;> with_reducible rfl) | (dsimp only; split <;> with_reducible rfl) | (focus (simp; done)) | fail) | with_reducible refine Steady.snd (by with_reducible assumption) ?_ | with_reducible refine Steady.snd2 (by with_reducible assumption) ?_ | with_reducible refine Steady.fst (by with_reducible assumption) ?_ | dsimp only | split

theorem steady_quorumHold {ρ : State} (k : Nat) (c : Caller) (digest : Bytes) (act : QuorumAct) (s : State) (hρ : Steady ρ s) : Steady ρ (quorumHold k c digest act s) := by
  unfold quorumHold
  repeat' first | with_reducible assumption | refine fun _ => ?_ | with_reducible apply steady_State_useFree | with_reducible apply steady_finish | with_reducible apply steady_quorumShow | with_reducible apply steady_quorumCancel | with_reducible apply Steady.ite | fail_if_no_progress (with_reducible refine Steady.mk' ?_ ?_ ?_ ?_ ?_ ?_ ?_; iterate 6 first | with_reducible rfl | (unfold setTransit; with_reducible rfl) | (split <;> with_reducible rfl) | (dsimp only; split <;> with_reducible rfl) | (focus (simp; done)) | fail) | with_reducible refine Steady.snd (by with_reducible assumption) ?_ | with_reducible refine Steady.snd2 (by with_reducible assumption) ?_ | with_reducible refine Steady.fst (by with_reducible assumption) ?_ | dsimp only | split

theorem steady_withQuorum {ρ : State} (k : Nat) (c : Caller) (digest : Bytes) (act : QuorumAct) (body : State → State) (s : State) (hbody : ∀ x0, Steady ρ x0 → Steady ρ (body x0)) (hρ : Steady ρ s) : Steady ρ (withQuorum k c digest act body s) := by
  unfold withQuorum
  repeat' first | with_reducible assumption | refine fun _ => ?_ | with_reducible apply hbody | with_reducible apply steady_quorumHold | with_reducible apply Steady.ite | fail_if_no_progress (with_reducible refine Steady.mk' ?_ ?_ ?_ ?_ ?_ ?_ ?_; iterate 6 first | with_reducible rfl | (unfold setTransit; with_reducible rfl) | (split <;> with_reducible rfl) | (dsimp only; split <;> with_reducible rfl) | (focus (simp; done)) | fail) | with_reducible refine Steady.snd (by with_reducible assumption) ?_ | with_reducible refine Steady.snd2 (by with_reducible assumption) ?_ | with_reducible refine Steady.fst (by with_reducible assumption) ?_ | dsimp only | split

theorem steady_quorumApproval {ρ : State} (k : Nat) (u : Nat) (sig : Bytes) (s : State) (hρ : Steady ρ s) : Steady ρ (quorumApproval k u sig s).2 := by
  unfold quorumApproval
  repeat' first | with_reducible assumption | refine fun _ => ?_ | with_reducible apply steady_State_raise | with_reducible apply steady_keyCount | with_reducible apply steady_quorumShow | with_reducible apply Steady.ite | fail_if_no_progress (with_reducible refine Steady.mk' ?_ ?_ ?_ ?_ ?_ ?_ ?_; iterate 6 first | with_reducible rfl | (unfold setTransit; with_reducible rfl) | (split <;> with_reducible rfl) | (dsimp only; split <;> with_reducible rfl) | (focus (simp; done)) | fail) | with_reducible refine Steady.snd (by with_reducible assumption) ?_ | with_reducible refine Steady.snd2 (by with_reducible assumption) ?_ | with_reducible refine Steady.fst (by with_reducible assumption) ?_ | dsimp only | split

theorem steady_quorumExpire {ρ : State} (k : Nat) (s : State) (hρ : Steady ρ s) : Steady ρ (quorumExpire k s) := by
  unfold quorumExpire
  repeat' first | with_reducible assumption | refine fun _ => ?_ | with_reducible apply steady_quorumCancel | with_reducible apply Steady.ite | fail_if_no_progress (with_reducible refine Steady.mk' ?_ ?_ ?_ ?_ ?_ ?_ ?_; iterate 6 first | with_reducible rfl | (unfold setTransit; with_reducible rfl) | (split <;> with_reducible rfl) | (dsimp only; split <;> with_reducible rfl) | (focus (simp; done)) | fail) | with_reducible refine Steady.snd (by with_reducible assumption) ?_ | with_reducible refine Steady.snd2 (by with_reducible assumption) ?_ | with_reducible refine Steady.fst (by with_reducible assumption) ?_ | dsimp only | split

theorem steady_keyBegin {ρ : State} (c : Caller) (dur : Nat) (status : Nat) (act : KeyAct) (s : State) (out : Bytes) (counts : List Nat) (hρ : Steady ρ s) : Steady ρ (keyBegin c dur status act s out counts) := by
  unfold keyBegin
  repeat' first | with_reducible assumption | refine fun _ => ?_ | with_reducible apply steady_State_setCore | fail_if_no_progress (with_reducible refine Steady.mk' ?_ ?_ ?_ ?_ ?_ ?_ ?_; iterate 6 first | with_reducible rfl | (unfold setTransit; with_reducible rfl) | (split <;> with_reducible rfl) | (dsimp only; split <;> with_reducible rfl) | (focus (simp; done)) | fail) | with_reducible refine Steady.snd (by with_reducible assumption) ?_ | with_reducible refine Steady.snd2 (by with_reducible assumption) ?_ | with_reducible refine Steady.fst (by with_reducible assumption) ?_ | dsimp only | split

theorem steady_dropOp {ρ : State} (o : KeyOp) (s : State) (hρ : Steady ρ s) : Steady ρ (dropOp o s) := by
  unfold dropOp
  repeat' first | with_reducible assumption | refine fun _ => ?_ | fail_if_no_progress (with_reducible refine Steady.mk' ?_ ?_ ?_ ?_ ?_ ?_ ?_; iterate 6 first | with_reducible rfl | (unfold setTransit; with_reducible rfl) | (split <;> with_reducible rfl) | (dsimp only; split <;> with_reducible rfl) | (focus (simp; done)) | fail) | dsimp only | split

theorem steady_opAnswer {ρ : State} (o : KeyOp) (status : Nat) (r0 : Nat) (r1 : Nat) (out : Bytes) (s : State) (hρ : Steady ρ s) : Steady ρ (opAnswer o status r0 r1 out s) := by
  unfold opAnswer
  repeat' first | with_reducible assumption | refine fun _ => ?_ | with_reducible apply steady_finishEnd | with_reducible apply steady_keyCount | fail_if_no_progress (with_reducible refine Steady.mk' ?_ ?_ ?_ ?_ ?_ ?_ ?_; iterate 6 first | with_reducible rfl | (unfold setTransit; with_reducible rfl) | (split <;> with_reducible rfl) | (dsimp only; split <;> with_reducible rfl) | (focus (simp; done)) | fail) | with_reducible apply Steady.each | with_reducible refine Steady.snd (by with_reducible assumption) ?_ | with_reducible refine Steady.snd2 (by with_reducible assumption) ?_ | with_reducible refine Steady.fst (by with_reducible assumption) ?_ | dsimp only | split

theorem steady_keyOpsFault {ρ : State} (s : State) (hρ : Steady ρ s) : Steady ρ (keyOpsFault s) := by
  unfold keyOpsFault
  repeat' first | with_reducible assumption | refine fun _ => ?_ | with_reducible apply steady_opAnswer | fail_if_no_progress (with_reducible refine Steady.mk' ?_ ?_ ?_ ?_ ?_ ?_ ?_; iterate 6 first | with_reducible rfl | (unfold setTransit; with_reducible rfl) | (split <;> with_reducible rfl) | (dsimp only; split <;> with_reducible rfl) | (focus (simp; done)) | fail) | with_reducible apply Steady.each | dsimp only | split

theorem steady_addBlocks {ρ : State} (l : List SealedBlock) (s : State) (hρ : Steady ρ s) : Steady ρ (addBlocks l s) := by
  unfold addBlocks
  repeat' first | with_reducible assumption | refine fun _ => ?_ | fail_if_no_progress (with_reducible refine Steady.mk' ?_ ?_ ?_ ?_ ?_ ?_ ?_; iterate 6 first | with_reducible rfl | (unfold setTransit; with_reducible rfl) | (split <;> with_reducible rfl) | (dsimp only; split <;> with_reducible rfl) | (focus (simp; done)) | fail) | dsimp only | split

theorem steady_resealObject {ρ : State} (i : Nat) (s : State) (hρ : Steady ρ s) : Steady ρ (resealObject i s) := by
  unfold resealObject
  repeat' first | with_reducible assumption | refine fun _ => ?_ | with_reducible apply steady_keepBlocks | with_reducible apply steady_addBlocks | dsimp only | split

theorem steady_keyEvtWrite {ρ : State} (w : Word) (s : State) (hρ : Steady ρ s) : Steady ρ (keyEvtWrite w s) := by
  unfold keyEvtWrite
  repeat' first | with_reducible assumption | refine fun _ => ?_ | with_reducible apply steady_State_wr | with_reducible apply steady_State_zero | with_reducible apply Steady.onlyIf | dsimp only | split

end Sys2Proof.Machine
end

