-- ==== Sys2Proof/Laws/SteadyGraver.lean ====
section
/-! SUPPORT. What the operations of Machine/Graver.lean keep (`Steady`). -/

namespace Sys2Proof.Machine

theorem steady_State_setGrv {ρ : State} (s : State) (n : Nat) (g : GraverState) (hρ : Steady ρ s) : Steady ρ (State.setGrv s n g) := by
  unfold State.setGrv
  repeat' first | with_reducible assumption | refine fun _ => ?_ | fail_if_no_progress (with_reducible refine Steady.mk' ?_ ?_ ?_ ?_ ?_ ?_ ?_; iterate 6 first | with_reducible rfl | (unfold setTransit; with_reducible rfl) | (split <;> with_reducible rfl) | (dsimp only; split <;> with_reducible rfl) | (focus (simp; done)) | fail) | dsimp only | split

theorem steady_State_updGrv {ρ : State} (s : State) (n : Nat) (f : GraverState → GraverState) (hρ : Steady ρ s) : Steady ρ (State.updGrv s n f) := by
  unfold State.updGrv
  repeat' first | with_reducible assumption | refine fun _ => ?_ | with_reducible apply steady_State_setGrv | dsimp only | split

theorem steady_sealBank {ρ : State} (n : Nat) (b : Nat) (s : State) (hρ : Steady ρ s) : Steady ρ (sealBank n b s) := by
  unfold sealBank
  repeat' first | with_reducible assumption | refine fun _ => ?_ | with_reducible apply steady_State_raise | dsimp only | split

theorem steady_grvCount {ρ : State} (c : Nat) (s : State) (k : Nat) (hρ : Steady ρ s) : Steady ρ (grvCount c s k) := by
  unfold grvCount
  repeat' first | with_reducible assumption | refine fun _ => ?_ | with_reducible apply steady_State_count | dsimp only | split

theorem steady_grvEvent {ρ : State} (n : Nat) (i : Nat) (s : State) (hρ : Steady ρ s) : Steady ρ (grvEvent n i s) := by
  unfold grvEvent
  repeat' first | with_reducible assumption | refine fun _ => ?_ | with_reducible apply steady_State_raise | dsimp only | split

theorem steady_grvShow {ρ : State} (s : State) (hρ : Steady ρ s) : Steady ρ (grvShow s) := by
  unfold grvShow
  repeat' first | with_reducible assumption | refine fun _ => ?_ | with_reducible apply steady_State_wr | dsimp only | split

theorem steady_setGrvState {ρ : State} (n : Nat) (v : Nat) (s : State) (hρ : Steady ρ s) : Steady ρ (setGrvState n v s) := by
  unfold setGrvState
  repeat' first | with_reducible assumption | refine fun _ => ?_ | with_reducible apply steady_State_put | with_reducible apply steady_grvShow | dsimp only | split

theorem steady_hold {ρ : State} (n : Nat) (st : Nat) (s : State) (hρ : Steady ρ s) : Steady ρ (hold n st s) := by
  unfold hold
  repeat' first | with_reducible assumption | refine fun _ => ?_ | with_reducible apply steady_State_updGrv | fail_if_no_progress (with_reducible refine Steady.mk' ?_ ?_ ?_ ?_ ?_ ?_ ?_; iterate 6 first | with_reducible rfl | (unfold setTransit; with_reducible rfl) | (split <;> with_reducible rfl) | (dsimp only; split <;> with_reducible rfl) | (focus (simp; done)) | fail) | dsimp only | split

theorem steady_advance {ρ : State} (n : Nat) (c : Nat) (s : State) (hρ : Steady ρ s) : Steady ρ (advance n c s) := by
  unfold advance
  repeat' first | with_reducible assumption | refine fun _ => ?_ | with_reducible apply steady_State_updGrv | fail_if_no_progress (with_reducible refine Steady.mk' ?_ ?_ ?_ ?_ ?_ ?_ ?_; iterate 6 first | with_reducible rfl | (unfold setTransit; with_reducible rfl) | (split <;> with_reducible rfl) | (dsimp only; split <;> with_reducible rfl) | (focus (simp; done)) | fail) | dsimp only | split

theorem steady_listCommand {ρ : State} (n : Nat) (op : Nat) (body : GraverState → State → State) (s : State) (hbody : ∀ x0 x1, Steady ρ x1 → Steady ρ (body x0 x1)) (hρ : Steady ρ s) : Steady ρ (listCommand n op body s) := by
  unfold listCommand
  repeat' first | with_reducible assumption | refine fun _ => ?_ | with_reducible apply hbody | with_reducible apply steady_hold | with_reducible apply Steady.ite | dsimp only | split

theorem steady_macOp {ρ : State} (n : Nat) (w : Option Nat) (g : GraverState) (s : State) (hρ : Steady ρ s) : Steady ρ (macOp n w g s) := by
  unfold macOp
  repeat' first | with_reducible assumption | refine fun _ => ?_ | with_reducible apply steady_State_setGrv | with_reducible apply steady_sealBank | with_reducible apply steady_hold | with_reducible apply steady_advance | with_reducible apply Steady.ite | fail_if_no_progress (with_reducible refine Steady.mk' ?_ ?_ ?_ ?_ ?_ ?_ ?_; iterate 6 first | with_reducible rfl | (unfold setTransit; with_reducible rfl) | (split <;> with_reducible rfl) | (dsimp only; split <;> with_reducible rfl) | (focus (simp; done)) | fail) | with_reducible apply Steady.onlyIf | with_reducible refine Steady.snd (by with_reducible assumption) ?_ | with_reducible refine Steady.snd2 (by with_reducible assumption) ?_ | with_reducible refine Steady.fst (by with_reducible assumption) ?_ | dsimp only | split

theorem steady_ashOp {ρ : State} (n : Nat) (g : GraverState) (s : State) (hρ : Steady ρ s) : Steady ρ (ashOp n g s) := by
  unfold ashOp
  repeat' first | with_reducible assumption | refine fun _ => ?_ | with_reducible apply steady_State_setGrv | with_reducible apply steady_advance | with_reducible apply Steady.ite | dsimp only | split

theorem steady_aclrOp {ρ : State} (n : Nat) (g : GraverState) (s : State) (hρ : Steady ρ s) : Steady ρ (aclrOp n g s) := by
  unfold aclrOp
  repeat' first | with_reducible assumption | refine fun _ => ?_ | with_reducible apply steady_State_setGrv | with_reducible apply steady_advance | dsimp only | split

theorem steady_movOp {ρ : State} (n : Nat) (g : GraverState) (s : State) (hρ : Steady ρ s) : Steady ρ (movOp n g s) := by
  unfold movOp
  repeat' first | with_reducible assumption | refine fun _ => ?_ | with_reducible apply steady_State_setGrv | with_reducible apply steady_sealBank | with_reducible apply steady_hold | with_reducible apply steady_advance | with_reducible apply Steady.ite | fail_if_no_progress (with_reducible refine Steady.mk' ?_ ?_ ?_ ?_ ?_ ?_ ?_; iterate 6 first | with_reducible rfl | (unfold setTransit; with_reducible rfl) | (split <;> with_reducible rfl) | (dsimp only; split <;> with_reducible rfl) | (focus (simp; done)) | fail) | with_reducible apply Steady.onlyIf | with_reducible refine Steady.snd (by with_reducible assumption) ?_ | with_reducible refine Steady.snd2 (by with_reducible assumption) ?_ | with_reducible refine Steady.fst (by with_reducible assumption) ?_ | dsimp only | split

theorem steady_ldkDeliver {ρ : State} (n : Nat) (g : GraverState) (s : State) (hρ : Steady ρ s) : Steady ρ (ldkDeliver n g s) := by
  unfold ldkDeliver
  repeat' first | with_reducible assumption | refine fun _ => ?_ | with_reducible apply steady_State_setGrv | with_reducible apply steady_sealBank | with_reducible apply steady_hold | with_reducible apply steady_advance | fail_if_no_progress (with_reducible refine Steady.mk' ?_ ?_ ?_ ?_ ?_ ?_ ?_; iterate 6 first | with_reducible rfl | (unfold setTransit; with_reducible rfl) | (split <;> with_reducible rfl) | (dsimp only; split <;> with_reducible rfl) | (focus (simp; done)) | fail) | with_reducible refine Steady.snd (by with_reducible assumption) ?_ | with_reducible refine Steady.snd2 (by with_reducible assumption) ?_ | with_reducible refine Steady.fst (by with_reducible assumption) ?_ | dsimp only | split

theorem steady_ldkOp {ρ : State} (n : Nat) (stalled : Bool) (g : GraverState) (s : State) (hρ : Steady ρ s) : Steady ρ (ldkOp n stalled g s) := by
  unfold ldkOp
  repeat' first | with_reducible assumption | refine fun _ => ?_ | with_reducible apply steady_State_updGrv | with_reducible apply steady_hold | with_reducible apply steady_ldkDeliver | with_reducible apply Steady.ite | fail_if_no_progress (with_reducible refine Steady.mk' ?_ ?_ ?_ ?_ ?_ ?_ ?_; iterate 6 first | with_reducible rfl | (unfold setTransit; with_reducible rfl) | (split <;> with_reducible rfl) | (dsimp only; split <;> with_reducible rfl) | (focus (simp; done)) | fail) | with_reducible refine Steady.snd (by with_reducible assumption) ?_ | with_reducible refine Steady.snd2 (by with_reducible assumption) ?_ | with_reducible refine Steady.fst (by with_reducible assumption) ?_ | dsimp only | split

theorem steady_ldkDelivery {ρ : State} (n : Nat) (s : State) (hρ : Steady ρ s) : Steady ρ (ldkDelivery n s) := by
  unfold ldkDelivery
  repeat' first | with_reducible assumption | refine fun _ => ?_ | with_reducible apply steady_State_setGrv | with_reducible apply steady_grvCount | with_reducible apply steady_ldkDeliver | with_reducible apply Steady.ite | fail_if_no_progress (with_reducible refine Steady.mk' ?_ ?_ ?_ ?_ ?_ ?_ ?_; iterate 6 first | with_reducible rfl | (unfold setTransit; with_reducible rfl) | (split <;> with_reducible rfl) | (dsimp only; split <;> with_reducible rfl) | (focus (simp; done)) | fail) | with_reducible refine Steady.snd (by with_reducible assumption) ?_ | with_reducible refine Steady.snd2 (by with_reducible assumption) ?_ | with_reducible refine Steady.fst (by with_reducible assumption) ?_ | dsimp only | split

theorem steady_cmpOp {ρ : State} (n : Nat) (g : GraverState) (s : State) (hρ : Steady ρ s) : Steady ρ (cmpOp n g s) := by
  unfold cmpOp
  repeat' first | with_reducible assumption | refine fun _ => ?_ | with_reducible apply steady_State_flag | with_reducible apply steady_State_setGrv | with_reducible apply steady_hold | with_reducible apply steady_advance | with_reducible apply Steady.ite | fail_if_no_progress (with_reducible refine Steady.mk' ?_ ?_ ?_ ?_ ?_ ?_ ?_; iterate 6 first | with_reducible rfl | (unfold setTransit; with_reducible rfl) | (split <;> with_reducible rfl) | (dsimp only; split <;> with_reducible rfl) | (focus (simp; done)) | fail) | with_reducible refine Steady.snd (by with_reducible assumption) ?_ | with_reducible refine Steady.snd2 (by with_reducible assumption) ?_ | with_reducible refine Steady.fst (by with_reducible assumption) ?_ | dsimp only | split

theorem steady_lmodOp {ρ : State} (n : Nat) (g : GraverState) (s : State) (hρ : Steady ρ s) : Steady ρ (lmodOp n g s) := by
  unfold lmodOp
  repeat' first | with_reducible assumption | refine fun _ => ?_ | with_reducible apply steady_State_wr | with_reducible apply steady_State_put | with_reducible apply steady_hold | with_reducible apply steady_advance | with_reducible apply Steady.ite | with_reducible refine Steady.snd (by with_reducible assumption) ?_ | with_reducible refine Steady.snd2 (by with_reducible assumption) ?_ | with_reducible refine Steady.fst (by with_reducible assumption) ?_ | dsimp only | split

theorem steady_loopOp {ρ : State} (n : Nat) (g : GraverState) (s : State) (hρ : Steady ρ s) : Steady ρ (loopOp n g s) := by
  unfold loopOp
  repeat' first | with_reducible assumption | refine fun _ => ?_ | with_reducible apply steady_State_setGrv | with_reducible apply steady_hold | with_reducible apply steady_advance | with_reducible apply Steady.ite | fail_if_no_progress (with_reducible refine Steady.mk' ?_ ?_ ?_ ?_ ?_ ?_ ?_; iterate 6 first | with_reducible rfl | (unfold setTransit; with_reducible rfl) | (split <;> with_reducible rfl) | (dsimp only; split <;> with_reducible rfl) | (focus (simp; done)) | fail) | dsimp only | split

theorem steady_nextOp {ρ : State} (n : Nat) (g : GraverState) (s : State) (hρ : Steady ρ s) : Steady ρ (nextOp n g s) := by
  unfold nextOp
  repeat' first | with_reducible assumption | refine fun _ => ?_ | with_reducible apply steady_State_count | with_reducible apply steady_State_setGrv | with_reducible apply steady_hold | with_reducible apply steady_advance | with_reducible apply Steady.ite | fail_if_no_progress (with_reducible refine Steady.mk' ?_ ?_ ?_ ?_ ?_ ?_ ?_; iterate 6 first | with_reducible rfl | (unfold setTransit; with_reducible rfl) | (split <;> with_reducible rfl) | (dsimp only; split <;> with_reducible rfl) | (focus (simp; done)) | fail) | with_reducible refine Steady.snd (by with_reducible assumption) ?_ | with_reducible refine Steady.snd2 (by with_reducible assumption) ?_ | with_reducible refine Steady.fst (by with_reducible assumption) ?_ | dsimp only | split

theorem steady_endOp {ρ : State} (n : Nat) (g : GraverState) (s : State) (hρ : Steady ρ s) : Steady ρ (endOp n g s) := by
  unfold endOp
  repeat' first | with_reducible assumption | refine fun _ => ?_ | with_reducible apply steady_State_setGrv | fail_if_no_progress (with_reducible refine Steady.mk' ?_ ?_ ?_ ?_ ?_ ?_ ?_; iterate 6 first | with_reducible rfl | (unfold setTransit; with_reducible rfl) | (split <;> with_reducible rfl) | (dsimp only; split <;> with_reducible rfl) | (focus (simp; done)) | fail) | dsimp only | split

theorem steady_wipe {ρ : State} (n : Nat) (s : State) (hρ : Steady ρ s) : Steady ρ (wipe n s) := by
  unfold wipe
  repeat' first | with_reducible assumption | refine fun _ => ?_ | with_reducible apply steady_State_wr | with_reducible apply steady_State_put | with_reducible apply steady_State_updGrv | with_reducible apply steady_grvCount | with_reducible apply steady_grvEvent | fail_if_no_progress (with_reducible refine Steady.mk' ?_ ?_ ?_ ?_ ?_ ?_ ?_; iterate 6 first | with_reducible rfl | (unfold setTransit; with_reducible rfl) | (split <;> with_reducible rfl) | (dsimp only; split <;> with_reducible rfl) | (focus (simp; done)) | fail) | dsimp only | split

theorem steady_claimOp {ρ : State} (n : Nat) (dom : Nat) (s : State) (hρ : Steady ρ s) : Steady ρ (claimOp n dom s) := by
  unfold claimOp
  repeat' first | with_reducible assumption | refine fun _ => ?_ | with_reducible apply steady_State_put | with_reducible apply steady_State_updGrv | with_reducible apply steady_grvEvent | with_reducible apply steady_setGrvState | with_reducible apply Steady.ite | fail_if_no_progress (with_reducible refine Steady.mk' ?_ ?_ ?_ ?_ ?_ ?_ ?_; iterate 6 first | with_reducible rfl | (unfold setTransit; with_reducible rfl) | (split <;> with_reducible rfl) | (dsimp only; split <;> with_reducible rfl) | (focus (simp; done)) | fail) | with_reducible apply Steady.onlyIf | dsimp only | split

theorem steady_releaseOp {ρ : State} (n : Nat) (s : State) (hρ : Steady ρ s) : Steady ρ (releaseOp n s) := by
  unfold releaseOp
  repeat' first | with_reducible assumption | refine fun _ => ?_ | with_reducible apply steady_State_put | with_reducible apply steady_State_updGrv | with_reducible apply steady_setGrvState | with_reducible apply Steady.ite | fail_if_no_progress (with_reducible refine Steady.mk' ?_ ?_ ?_ ?_ ?_ ?_ ?_; iterate 6 first | with_reducible rfl | (unfold setTransit; with_reducible rfl) | (split <;> with_reducible rfl) | (dsimp only; split <;> with_reducible rfl) | (focus (simp; done)) | fail) | dsimp only | split

theorem steady_addCharge {ρ : State} (n : Nat) (c : GrvCharge) (s : State) (hρ : Steady ρ s) : Steady ρ (addCharge n c s) := by
  unfold addCharge
  repeat' first | with_reducible assumption | refine fun _ => ?_ | with_reducible apply steady_State_updGrv | fail_if_no_progress (with_reducible refine Steady.mk' ?_ ?_ ?_ ?_ ?_ ?_ ?_; iterate 6 first | with_reducible rfl | (unfold setTransit; with_reducible rfl) | (split <;> with_reducible rfl) | (dsimp only; split <;> with_reducible rfl) | (focus (simp; done)) | fail) | dsimp only | split

theorem steady_cutCharges {ρ : State} (n : Nat) (s : State) (hρ : Steady ρ s) : Steady ρ (cutCharges n s) := by
  unfold cutCharges
  repeat' first | with_reducible assumption | refine fun _ => ?_ | with_reducible apply steady_State_updGrv | fail_if_no_progress (with_reducible refine Steady.mk' ?_ ?_ ?_ ?_ ?_ ?_ ?_; iterate 6 first | with_reducible rfl | (unfold setTransit; with_reducible rfl) | (split <;> with_reducible rfl) | (dsimp only; split <;> with_reducible rfl) | (focus (simp; done)) | fail) | dsimp only | split

theorem steady_shareCharge {ρ : State} (n : Nat) (dom : Nat) (strokes : Nat) (s : State) (hρ : Steady ρ s) : Steady ρ (shareCharge n dom strokes s) := by
  unfold shareCharge
  repeat' first | with_reducible assumption | refine fun _ => ?_ | with_reducible apply steady_addCharge | fail_if_no_progress (with_reducible refine Steady.mk' ?_ ?_ ?_ ?_ ?_ ?_ ?_; iterate 6 first | with_reducible rfl | (unfold setTransit; with_reducible rfl) | (split <;> with_reducible rfl) | (dsimp only; split <;> with_reducible rfl) | (focus (simp; done)) | fail) | with_reducible refine Steady.snd (by with_reducible assumption) ?_ | with_reducible refine Steady.snd2 (by with_reducible assumption) ?_ | with_reducible refine Steady.fst (by with_reducible assumption) ?_ | dsimp only | split

theorem steady_commitOp {ρ : State} (n : Nat) (c : Option Caller) (s : State) (hρ : Steady ρ s) : Steady ρ (commitOp n c s) := by
  unfold commitOp
  repeat' first | with_reducible assumption | refine fun _ => ?_ | with_reducible apply steady_State_put | with_reducible apply steady_reserveSlots | with_reducible apply steady_State_updGrv | with_reducible apply steady_grvEvent | with_reducible apply steady_setGrvState | with_reducible apply steady_shareCharge | with_reducible apply Steady.ite | fail_if_no_progress (with_reducible refine Steady.mk' ?_ ?_ ?_ ?_ ?_ ?_ ?_; iterate 6 first | with_reducible rfl | (unfold setTransit; with_reducible rfl) | (split <;> with_reducible rfl) | (dsimp only; split <;> with_reducible rfl) | (focus (simp; done)) | fail) | with_reducible refine Steady.snd (by with_reducible assumption) ?_ | with_reducible refine Steady.snd2 (by with_reducible assumption) ?_ | with_reducible refine Steady.fst (by with_reducible assumption) ?_ | dsimp only | split

theorem steady_authWrite {ρ : State} (n : Nat) (w : Word) (s : State) (hρ : Steady ρ s) : Steady ρ (authWrite n w s) := by
  unfold authWrite
  repeat' first | with_reducible assumption | refine fun _ => ?_ | with_reducible apply steady_State_put | with_reducible apply steady_claimOp | with_reducible apply steady_releaseOp | with_reducible apply steady_commitOp | fail_if_no_progress (with_reducible refine Steady.mk' ?_ ?_ ?_ ?_ ?_ ?_ ?_; iterate 6 first | with_reducible rfl | (unfold setTransit; with_reducible rfl) | (split <;> with_reducible rfl) | (dsimp only; split <;> with_reducible rfl) | (focus (simp; done)) | fail) | with_reducible apply Steady.onlyIf | with_reducible refine Steady.snd (by with_reducible assumption) ?_ | with_reducible refine Steady.snd2 (by with_reducible assumption) ?_ | with_reducible refine Steady.fst (by with_reducible assumption) ?_ | dsimp only | split

theorem steady_jobBegin {ρ : State} (n : Nat) (s : State) (hρ : Steady ρ s) : Steady ρ (jobBegin n s) := by
  unfold jobBegin
  repeat' first | with_reducible assumption | refine fun _ => ?_ | with_reducible apply steady_State_wr | with_reducible apply steady_State_put | with_reducible apply steady_State_pmcEvent | with_reducible apply steady_State_pmcLatency | with_reducible apply steady_State_updGrv | with_reducible apply steady_setGrvState | with_reducible apply steady_addCharge | with_reducible apply steady_State_wrN | fail_if_no_progress (with_reducible refine Steady.mk' ?_ ?_ ?_ ?_ ?_ ?_ ?_; iterate 6 first | with_reducible rfl | (unfold setTransit; with_reducible rfl) | (split <;> with_reducible rfl) | (dsimp only; split <;> with_reducible rfl) | (focus (simp; done)) | fail) | with_reducible apply Steady.onlyIf | with_reducible refine Steady.snd (by with_reducible assumption) ?_ | with_reducible refine Steady.snd2 (by with_reducible assumption) ?_ | with_reducible refine Steady.fst (by with_reducible assumption) ?_ | dsimp only | split

theorem steady_zeroSealed {ρ : State} (n : Nat) (keepOut : Bool) (s : State) (hρ : Steady ρ s) : Steady ρ (zeroSealed n keepOut s) := by
  unfold zeroSealed
  repeat' first | with_reducible assumption | refine fun _ => ?_ | with_reducible apply steady_State_put | with_reducible apply steady_State_updGrv | fail_if_no_progress (with_reducible refine Steady.mk' ?_ ?_ ?_ ?_ ?_ ?_ ?_; iterate 6 first | with_reducible rfl | (unfold setTransit; with_reducible rfl) | (split <;> with_reducible rfl) | (dsimp only; split <;> with_reducible rfl) | (focus (simp; done)) | fail) | with_reducible refine Steady.snd (by with_reducible assumption) ?_ | with_reducible refine Steady.snd2 (by with_reducible assumption) ?_ | with_reducible refine Steady.fst (by with_reducible assumption) ?_ | dsimp only | split

theorem steady_grvFault {ρ : State} (n : Nat) (s : State) (hρ : Steady ρ s) : Steady ρ (grvFault n s) := by
  unfold grvFault
  repeat' first | with_reducible assumption | refine fun _ => ?_ | with_reducible apply steady_testRequest | with_reducible apply steady_grvEvent | with_reducible apply steady_setGrvState | dsimp only | split

theorem steady_keyJobNote {ρ : State} (n : Nat) (st : Nat) (h : Nat) (s : State) (hρ : Steady ρ s) : Steady ρ (keyJobNote n st h s) := by
  unfold keyJobNote
  repeat' first | with_reducible assumption | refine fun _ => ?_ | with_reducible apply Steady.ite | fail_if_no_progress (with_reducible refine Steady.mk' ?_ ?_ ?_ ?_ ?_ ?_ ?_; iterate 6 first | with_reducible rfl | (unfold setTransit; with_reducible rfl) | (split <;> with_reducible rfl) | (dsimp only; split <;> with_reducible rfl) | (focus (simp; done)) | fail) | with_reducible refine Steady.snd (by with_reducible assumption) ?_ | with_reducible refine Steady.snd2 (by with_reducible assumption) ?_ | with_reducible refine Steady.fst (by with_reducible assumption) ?_ | dsimp only | split

theorem steady_keyJobAgain {ρ : State} (n : Nat) (s : State) (hρ : Steady ρ s) : Steady ρ (keyJobAgain n s) := by
  unfold keyJobAgain
  repeat' first | with_reducible assumption | refine fun _ => ?_ | with_reducible apply Steady.ite | fail_if_no_progress (with_reducible refine Steady.mk' ?_ ?_ ?_ ?_ ?_ ?_ ?_; iterate 6 first | with_reducible rfl | (unfold setTransit; with_reducible rfl) | (split <;> with_reducible rfl) | (dsimp only; split <;> with_reducible rfl) | (focus (simp; done)) | fail) | with_reducible refine Steady.snd (by with_reducible assumption) ?_ | with_reducible refine Steady.snd2 (by with_reducible assumption) ?_ | with_reducible refine Steady.fst (by with_reducible assumption) ?_ | dsimp only | split

theorem steady_jobAnswer {ρ : State} (n : Nat) (c : Caller) (st : Nat) (r0 : Nat) (r1 : Nat) (out : Bytes) (s : State) (hρ : Steady ρ s) : Steady ρ (jobAnswer n c st r0 r1 out s) := by
  unfold jobAnswer
  repeat' first | with_reducible assumption | refine fun _ => ?_ | with_reducible apply steady_finishEnd | with_reducible apply steady_keyJobNote | with_reducible apply Steady.ite | fail_if_no_progress (with_reducible refine Steady.mk' ?_ ?_ ?_ ?_ ?_ ?_ ?_; iterate 6 first | with_reducible rfl | (unfold setTransit; with_reducible rfl) | (split <;> with_reducible rfl) | (dsimp only; split <;> with_reducible rfl) | (focus (simp; done)) | fail) | with_reducible refine Steady.snd (by with_reducible assumption) ?_ | with_reducible refine Steady.snd2 (by with_reducible assumption) ?_ | with_reducible refine Steady.fst (by with_reducible assumption) ?_ | dsimp only | split

theorem steady_abortAnswers {ρ : State} (n : Nat) (st : Nat) (s : State) (hρ : Steady ρ s) : Steady ρ (abortAnswers n st s) := by
  unfold abortAnswers
  repeat' first | with_reducible assumption | refine fun _ => ?_ | with_reducible apply steady_finishEnd | with_reducible apply steady_State_updGrv | fail_if_no_progress (with_reducible refine Steady.mk' ?_ ?_ ?_ ?_ ?_ ?_ ?_; iterate 6 first | with_reducible rfl | (unfold setTransit; with_reducible rfl) | (split <;> with_reducible rfl) | (dsimp only; split <;> with_reducible rfl) | (focus (simp; done)) | fail) | with_reducible apply Steady.each | dsimp only | split

theorem steady_jobEnd {ρ : State} (n : Nat) (st : Nat) (late : Bool) (s : State) (hρ : Steady ρ s) : Steady ρ (jobEnd n st late s) := by
  unfold jobEnd
  repeat' first | with_reducible assumption | refine fun _ => ?_ | with_reducible apply steady_State_wr | with_reducible apply steady_State_put | with_reducible apply steady_State_pmcEvent | with_reducible apply steady_unreserve | with_reducible apply steady_fillSlots | with_reducible apply steady_State_updGrv | with_reducible apply steady_grvCount | with_reducible apply steady_grvEvent | with_reducible apply steady_setGrvState | with_reducible apply steady_wipe | with_reducible apply steady_cutCharges | with_reducible apply steady_zeroSealed | with_reducible apply steady_grvFault | with_reducible apply steady_jobAnswer | with_reducible apply steady_abortAnswers | with_reducible apply Steady.ite | fail_if_no_progress (with_reducible refine Steady.mk' ?_ ?_ ?_ ?_ ?_ ?_ ?_; iterate 6 first | with_reducible rfl | (unfold setTransit; with_reducible rfl) | (split <;> with_reducible rfl) | (dsimp only; split <;> with_reducible rfl) | (focus (simp; done)) | fail) | with_reducible refine Steady.snd (by with_reducible assumption) ?_ | with_reducible refine Steady.snd2 (by with_reducible assumption) ?_ | with_reducible refine Steady.fst (by with_reducible assumption) ?_ | dsimp only | split

theorem steady_stagedStop {ρ : State} (n : Nat) (st : Nat) (s : State) (hρ : Steady ρ s) : Steady ρ (stagedStop n st s) := by
  unfold stagedStop
  repeat' first | with_reducible assumption | refine fun _ => ?_ | with_reducible apply steady_State_updGrv | with_reducible apply steady_releaseOp | with_reducible apply steady_jobAnswer | with_reducible apply steady_abortAnswers | with_reducible apply Steady.ite | fail_if_no_progress (with_reducible refine Steady.mk' ?_ ?_ ?_ ?_ ?_ ?_ ?_; iterate 6 first | with_reducible rfl | (unfold setTransit; with_reducible rfl) | (split <;> with_reducible rfl) | (dsimp only; split <;> with_reducible rfl) | (focus (simp; done)) | fail) | with_reducible refine Steady.snd (by with_reducible assumption) ?_ | with_reducible refine Steady.snd2 (by with_reducible assumption) ?_ | with_reducible refine Steady.fst (by with_reducible assumption) ?_ | dsimp only | split

theorem steady_checkFail {ρ : State} (n : Nat) (s : State) (hρ : Steady ρ s) : Steady ρ (checkFail n s) := by
  unfold checkFail
  repeat' first | with_reducible assumption | refine fun _ => ?_ | with_reducible apply steady_swLoseAck | with_reducible apply steady_pptFire | with_reducible apply steady_hold | with_reducible apply steady_grvFault | with_reducible apply steady_stagedStop | with_reducible apply Steady.ite | dsimp only | split

theorem steady_jobFinish {ρ : State} (n : Nat) (s : State) (hρ : Steady ρ s) : Steady ρ (jobFinish n s) := by
  unfold jobFinish
  repeat' first | with_reducible assumption | refine fun _ => ?_ | with_reducible apply steady_State_useFree | with_reducible apply steady_jobEnd | with_reducible apply steady_checkFail | with_reducible apply Steady.ite | with_reducible apply Steady.onlyIf | with_reducible refine Steady.snd (by with_reducible assumption) ?_ | with_reducible refine Steady.snd2 (by with_reducible assumption) ?_ | with_reducible refine Steady.fst (by with_reducible assumption) ?_ | dsimp only | split

theorem steady_jobStop {ρ : State} (n : Nat) (st : Nat) (s : State) (hρ : Steady ρ s) : Steady ρ (jobStop n st s) := by
  unfold jobStop
  repeat' first | with_reducible assumption | refine fun _ => ?_ | with_reducible apply steady_jobEnd | with_reducible apply steady_stagedStop | with_reducible apply Steady.ite | dsimp only | split

theorem steady_jobAbortWrite {ρ : State} (n : Nat) (s : State) (hρ : Steady ρ s) : Steady ρ (jobAbortWrite n s) := by
  unfold jobAbortWrite
  repeat' first | with_reducible assumption | refine fun _ => ?_ | with_reducible apply steady_State_updGrv | with_reducible apply Steady.ite | fail_if_no_progress (with_reducible refine Steady.mk' ?_ ?_ ?_ ?_ ?_ ?_ ?_; iterate 6 first | with_reducible rfl | (unfold setTransit; with_reducible rfl) | (split <;> with_reducible rfl) | (dsimp only; split <;> with_reducible rfl) | (focus (simp; done)) | fail) | dsimp only | split

theorem steady_jobAbortNow {ρ : State} (n : Nat) (s : State) (hρ : Steady ρ s) : Steady ρ (jobAbortNow n s) := by
  unfold jobAbortNow
  repeat' first | with_reducible assumption | refine fun _ => ?_ | with_reducible apply steady_jobStop | with_reducible apply Steady.ite | dsimp only | split

theorem steady_listDataWrite {ρ : State} (n : Nat) (w : Word) (s : State) (hρ : Steady ρ s) : Steady ρ (listDataWrite n w s) := by
  unfold listDataWrite
  repeat' first | with_reducible assumption | refine fun _ => ?_ | with_reducible apply steady_State_wr | with_reducible apply steady_State_put | with_reducible apply steady_State_updGrv | with_reducible apply steady_grvCount | with_reducible apply steady_grvEvent | with_reducible apply Steady.ite | fail_if_no_progress (with_reducible refine Steady.mk' ?_ ?_ ?_ ?_ ?_ ?_ ?_; iterate 6 first | with_reducible rfl | (unfold setTransit; with_reducible rfl) | (split <;> with_reducible rfl) | (dsimp only; split <;> with_reducible rfl) | (focus (simp; done)) | fail) | dsimp only | split

theorem steady_listDataRead {ρ : State} (n : Nat) (step : Bool) (s : State) (hρ : Steady ρ s) : Steady ρ (listDataRead n step s).2 := by
  unfold listDataRead
  repeat' first | with_reducible assumption | refine fun _ => ?_ | with_reducible apply steady_State_wr | with_reducible apply Steady.onlyIf | dsimp only | split

theorem steady_bankStep {ρ : State} (n : Nat) (s : State) (hρ : Steady ρ s) : Steady ρ (bankStep n s) := by
  unfold bankStep
  repeat' first | with_reducible assumption | refine fun _ => ?_ | with_reducible apply steady_State_put | dsimp only | split

theorem steady_bankDataWrite {ρ : State} (n : Nat) (w : Word) (s : State) (hρ : Steady ρ s) : Steady ρ (bankDataWrite n w s) := by
  unfold bankDataWrite
  repeat' first | with_reducible assumption | refine fun _ => ?_ | with_reducible apply steady_State_updGrv | with_reducible apply steady_grvEvent | with_reducible apply steady_bankStep | with_reducible apply Steady.ite | dsimp only | split

theorem steady_bankDataRead {ρ : State} (n : Nat) (step : Bool) (s : State) (hρ : Steady ρ s) : Steady ρ (bankDataRead n step s).2 := by
  unfold bankDataRead
  repeat' first | with_reducible assumption | refine fun _ => ?_ | with_reducible apply steady_grvEvent | with_reducible apply steady_bankStep | with_reducible apply Steady.ite | with_reducible apply Steady.onlyIf | dsimp only | split

theorem steady_drainGraver {ρ : State} (n : Nat) (s : State) (hρ : Steady ρ s) : Steady ρ (drainGraver n s) := by
  unfold drainGraver
  repeat' first | with_reducible assumption | refine fun _ => ?_ | with_reducible apply steady_State_put | with_reducible apply steady_swLoseAck | with_reducible apply steady_setGrvState | with_reducible apply steady_wipe | with_reducible apply Steady.ite | dsimp only | split

theorem steady_drainWrite {ρ : State} (w : Word) (s : State) (hρ : Steady ρ s) : Steady ρ (drainWrite w s) := by
  unfold drainWrite
  repeat' first | with_reducible assumption | refine fun _ => ?_ | with_reducible apply steady_State_wr | with_reducible apply steady_drainGraver | with_reducible apply Steady.each | dsimp only | split

theorem steady_grvTestEnd {ρ : State} (n : Nat) (pass : Bool) (s : State) (hρ : Steady ρ s) : Steady ρ (grvTestEnd n pass s) := by
  unfold grvTestEnd
  repeat' first | with_reducible assumption | refine fun _ => ?_ | with_reducible apply steady_State_wr | with_reducible apply steady_State_put | with_reducible apply steady_swLoseAck | with_reducible apply steady_State_updGrv | with_reducible apply steady_grvEvent | with_reducible apply steady_setGrvState | with_reducible apply Steady.ite | fail_if_no_progress (with_reducible refine Steady.mk' ?_ ?_ ?_ ?_ ?_ ?_ ?_; iterate 6 first | with_reducible rfl | (unfold setTransit; with_reducible rfl) | (split <;> with_reducible rfl) | (dsimp only; split <;> with_reducible rfl) | (focus (simp; done)) | fail) | dsimp only | split

theorem steady_grvEvtWrite {ρ : State} (w : Word) (s : State) (hρ : Steady ρ s) : Steady ρ (grvEvtWrite w s) := by
  unfold grvEvtWrite
  repeat' first | with_reducible assumption | refine fun _ => ?_ | with_reducible apply steady_State_wr | with_reducible apply steady_State_zero | with_reducible apply Steady.onlyIf | dsimp only | split

end Sys2Proof.Machine
end

