-- ==== Sys2Proof/Laws/SteadyNva.lean ====
section
/-! SUPPORT. What the operations of Machine/Nva.lean keep (`Steady`). -/

namespace Sys2Proof.Machine

theorem steady_State_setBank {ρ : State} (s : State) (b : Nat) (v : NvaBank) (hρ : Steady ρ s) : Steady ρ (State.setBank s b v) := by
  unfold State.setBank
  repeat' first | with_reducible assumption | refine fun _ => ?_ | fail_if_no_progress (with_reducible refine Steady.mk' ?_ ?_ ?_ ?_ ?_ ?_ ?_; iterate 6 first | with_reducible rfl | (unfold setTransit; with_reducible rfl) | (split <;> with_reducible rfl) | (dsimp only; split <;> with_reducible rfl) | (focus (simp; done)) | fail) | dsimp only | split

theorem steady_State_setNvaRow {ρ : State} (s : State) (b : Nat) (row : Nat) (v : Option (BitVec 168)) (hρ : Steady ρ s) : Steady ρ (State.setNvaRow s b row v) := by
  unfold State.setNvaRow
  repeat' first | with_reducible assumption | refine fun _ => ?_ | fail_if_no_progress (with_reducible refine Steady.mk' ?_ ?_ ?_ ?_ ?_ ?_ ?_; iterate 6 first | with_reducible rfl | (unfold setTransit; with_reducible rfl) | (split <;> with_reducible rfl) | (dsimp only; split <;> with_reducible rfl) | (focus (simp; done)) | fail) | dsimp only | split

theorem steady_nvaCount {ρ : State} (b : Nat) (c : Nat) (s : State) (hρ : Steady ρ s) : Steady ρ (nvaCount b c s) := by
  unfold nvaCount
  repeat' first | with_reducible assumption | refine fun _ => ?_ | with_reducible apply steady_State_count | dsimp only | split

theorem steady_nvaErr {ρ : State} (b : Nat) (st : Nat) (s : State) (hρ : Steady ρ s) : Steady ρ (nvaErr b st s) := by
  unfold nvaErr
  repeat' first | with_reducible assumption | refine fun _ => ?_ | with_reducible apply steady_State_put | dsimp only | split

theorem steady_retire {ρ : State} (b : Nat) (l : Nat) (again : List (Nat × BitVec 168)) (s : State) (hρ : Steady ρ s) : Steady ρ (retire b l again s) := by
  unfold retire
  repeat' first | with_reducible assumption | refine fun _ => ?_ | with_reducible apply steady_State_raise | with_reducible apply steady_State_setBank | with_reducible apply Steady.ite | fail_if_no_progress (with_reducible refine Steady.mk' ?_ ?_ ?_ ?_ ?_ ?_ ?_; iterate 6 first | with_reducible rfl | (unfold setTransit; with_reducible rfl) | (split <;> with_reducible rfl) | (dsimp only; split <;> with_reducible rfl) | (focus (simp; done)) | fail) | dsimp only | split

theorem steady_setGrade {ρ : State} (b : Nat) (l : Nat) (g : Nat) (again : List (Nat × BitVec 168)) (s : State) (hρ : Steady ρ s) : Steady ρ (setGrade b l g again s) := by
  unfold setGrade
  repeat' first | with_reducible assumption | refine fun _ => ?_ | with_reducible apply steady_State_raise | with_reducible apply steady_State_setBank | with_reducible apply steady_retire | with_reducible apply Steady.ite | fail_if_no_progress (with_reducible refine Steady.mk' ?_ ?_ ?_ ?_ ?_ ?_ ?_; iterate 6 first | with_reducible rfl | (unfold setTransit; with_reducible rfl) | (split <;> with_reducible rfl) | (dsimp only; split <;> with_reducible rfl) | (focus (simp; done)) | fail) | with_reducible apply Steady.onlyIf | dsimp only | split

theorem steady_wearRow {ρ : State} (b : Nat) (p : Nat) (pulses : Nat) (s : State) (hρ : Steady ρ s) : Steady ρ (wearRow b p pulses s) := by
  unfold wearRow
  repeat' first | with_reducible assumption | refine fun _ => ?_ | with_reducible apply steady_State_setBank | with_reducible apply steady_nvaCount | with_reducible apply Steady.ite | fail_if_no_progress (with_reducible refine Steady.mk' ?_ ?_ ?_ ?_ ?_ ?_ ?_; iterate 6 first | with_reducible rfl | (unfold setTransit; with_reducible rfl) | (split <;> with_reducible rfl) | (dsimp only; split <;> with_reducible rfl) | (focus (simp; done)) | fail) | dsimp only | split

theorem steady_programRow {ρ : State} (b : Nat) (row : Nat) (data : BitVec 168) (pulses : Nat) (ok : Bool) (s : State) (hρ : Steady ρ s) : Steady ρ (programRow b row data pulses ok s) := by
  unfold programRow
  repeat' first | with_reducible assumption | refine fun _ => ?_ | with_reducible apply steady_State_useFree | with_reducible apply steady_State_setNvaRow | with_reducible apply steady_setGrade | with_reducible apply steady_wearRow | with_reducible apply Steady.ite | with_reducible refine Steady.snd (by with_reducible assumption) ?_ | with_reducible refine Steady.snd2 (by with_reducible assumption) ?_ | with_reducible refine Steady.fst (by with_reducible assumption) ?_ | dsimp only | split

theorem steady_programFree {ρ : State} (b : Nat) (row : Nat) (data : BitVec 168) (s : State) (hρ : Steady ρ s) : Steady ρ (programFree b row data s) := by
  unfold programFree
  repeat' first | with_reducible assumption | refine fun _ => ?_ | with_reducible apply steady_State_useFree | with_reducible apply steady_programRow | with_reducible refine Steady.snd (by with_reducible assumption) ?_ | with_reducible refine Steady.snd2 (by with_reducible assumption) ?_ | with_reducible refine Steady.fst (by with_reducible assumption) ?_ | dsimp only | split

theorem steady_wearRows {ρ : State} (b : Nat) (p : Nat) (n : Nat) (s : State) (hρ : Steady ρ s) : Steady ρ (wearRows b p n s) := by
  unfold wearRows
  repeat' first | with_reducible assumption | refine fun _ => ?_ | with_reducible apply steady_State_useFree | with_reducible apply steady_wearRow | with_reducible apply Steady.each | with_reducible refine Steady.snd (by with_reducible assumption) ?_ | with_reducible refine Steady.snd2 (by with_reducible assumption) ?_ | with_reducible refine Steady.fst (by with_reducible assumption) ?_ | dsimp only | split

theorem steady_readRow {ρ : State} (b : Nat) (row : Nat) (errors : Nat) (s : State) (hρ : Steady ρ s) : Steady ρ (readRow b row errors s) := by
  unfold readRow
  repeat' first | with_reducible assumption | refine fun _ => ?_ | with_reducible apply steady_State_raise | with_reducible apply steady_State_useFree | with_reducible apply steady_nvaCount | with_reducible apply steady_setGrade | with_reducible apply Steady.ite | with_reducible apply Steady.onlyIf | with_reducible refine Steady.snd (by with_reducible assumption) ?_ | with_reducible refine Steady.snd2 (by with_reducible assumption) ?_ | with_reducible refine Steady.fst (by with_reducible assumption) ?_ | dsimp only | split

theorem steady_readRows {ρ : State} (b : Nat) (first : Nat) (n : Nat) (errors : List (Nat × Nat)) (s : State) (hρ : Steady ρ s) : Steady ρ (readRows b first n errors s) := by
  unfold readRows
  repeat' first | with_reducible assumption | refine fun _ => ?_ | with_reducible apply steady_readRow | with_reducible apply Steady.each | with_reducible refine Steady.snd (by with_reducible assumption) ?_ | with_reducible refine Steady.snd2 (by with_reducible assumption) ?_ | with_reducible refine Steady.fst (by with_reducible assumption) ?_ | dsimp only | split

theorem steady_eraseRows {ρ : State} (b : Nat) (l : Nat) (s : State) (hρ : Steady ρ s) : Steady ρ (eraseRows b l s) := by
  unfold eraseRows
  repeat' first | with_reducible assumption | refine fun _ => ?_ | fail_if_no_progress (with_reducible refine Steady.mk' ?_ ?_ ?_ ?_ ?_ ?_ ?_; iterate 6 first | with_reducible rfl | (unfold setTransit; with_reducible rfl) | (split <;> with_reducible rfl) | (dsimp only; split <;> with_reducible rfl) | (focus (simp; done)) | fail) | dsimp only | split

theorem steady_eraseSector {ρ : State} (b : Nat) (l : Nat) (s : State) (hρ : Steady ρ s) : Steady ρ (eraseSector b l s) := by
  unfold eraseSector
  repeat' first | with_reducible assumption | refine fun _ => ?_ | with_reducible apply steady_State_setBank | with_reducible apply steady_nvaCount | with_reducible apply steady_eraseRows | fail_if_no_progress (with_reducible refine Steady.mk' ?_ ?_ ?_ ?_ ?_ ?_ ?_; iterate 6 first | with_reducible rfl | (unfold setTransit; with_reducible rfl) | (split <;> with_reducible rfl) | (dsimp only; split <;> with_reducible rfl) | (focus (simp; done)) | fail) | dsimp only | split

theorem steady_moveRows {ρ : State} (b : Nat) (l : Nat) (p : Nat) (errors : List (Nat × Nat)) (s : State) (hρ : Steady ρ s) : Steady ρ (moveRows b l p errors s) := by
  unfold moveRows
  repeat' first | with_reducible assumption | refine fun _ => ?_ | with_reducible apply steady_wearRows | with_reducible apply steady_readRows | fail_if_no_progress (with_reducible refine Steady.mk' ?_ ?_ ?_ ?_ ?_ ?_ ?_; iterate 6 first | with_reducible rfl | (unfold setTransit; with_reducible rfl) | (split <;> with_reducible rfl) | (dsimp only; split <;> with_reducible rfl) | (focus (simp; done)) | fail) | with_reducible apply Steady.foldl | with_reducible apply Steady.foldlSnd | dsimp only | split

theorem steady_resShow {ρ : State} (s : State) (hρ : Steady ρ s) : Steady ρ (resShow s) := by
  unfold resShow
  repeat' first | with_reducible assumption | refine fun _ => ?_ | with_reducible apply steady_State_flag | dsimp only | split

theorem steady_slotUsed {ρ : State} (b : Nat) (s : State) (hρ : Steady ρ s) : Steady ρ (slotUsed b s) := by
  unfold slotUsed
  repeat' first | with_reducible assumption | refine fun _ => ?_ | with_reducible apply steady_State_setBank | with_reducible apply steady_resShow | fail_if_no_progress (with_reducible refine Steady.mk' ?_ ?_ ?_ ?_ ?_ ?_ ?_; iterate 6 first | with_reducible rfl | (unfold setTransit; with_reducible rfl) | (split <;> with_reducible rfl) | (dsimp only; split <;> with_reducible rfl) | (focus (simp; done)) | fail) | dsimp only | split

theorem steady_bankShow {ρ : State} (b : Nat) (s : State) (hρ : Steady ρ s) : Steady ρ (bankShow b s) := by
  unfold bankShow
  repeat' first | with_reducible assumption | refine fun _ => ?_ | with_reducible apply steady_State_put | with_reducible apply steady_State_flag | fail_if_no_progress (with_reducible refine Steady.mk' ?_ ?_ ?_ ?_ ?_ ?_ ?_; iterate 6 first | with_reducible rfl | (unfold setTransit; with_reducible rfl) | (split <;> with_reducible rfl) | (dsimp only; split <;> with_reducible rfl) | (focus (simp; done)) | fail) | with_reducible refine Steady.snd (by with_reducible assumption) ?_ | with_reducible refine Steady.snd2 (by with_reducible assumption) ?_ | with_reducible refine Steady.fst (by with_reducible assumption) ?_ | dsimp only | split

theorem steady_startWork {ρ : State} (b : Nat) (w : NvaWork) (s : State) (hρ : Steady ρ s) : Steady ρ (startWork b w s) := by
  unfold startWork
  repeat' first | with_reducible assumption | refine fun _ => ?_ | with_reducible apply steady_State_setBank | with_reducible apply steady_bankShow | fail_if_no_progress (with_reducible refine Steady.mk' ?_ ?_ ?_ ?_ ?_ ?_ ?_; iterate 6 first | with_reducible rfl | (unfold setTransit; with_reducible rfl) | (split <;> with_reducible rfl) | (dsimp only; split <;> with_reducible rfl) | (focus (simp; done)) | fail) | with_reducible refine Steady.snd (by with_reducible assumption) ?_ | with_reducible refine Steady.snd2 (by with_reducible assumption) ?_ | with_reducible refine Steady.fst (by with_reducible assumption) ?_ | dsimp only | split

theorem steady_keystonePut {ρ : State} (a : Nat) (l : List Word) (s : State) (hρ : Steady ρ s) : Steady ρ (keystonePut a l s) := by
  unfold keystonePut
  repeat' first | with_reducible assumption | refine fun _ => ?_ | with_reducible apply steady_State_setCore | fail_if_no_progress (with_reducible refine Steady.mk' ?_ ?_ ?_ ?_ ?_ ?_ ?_; iterate 6 first | with_reducible rfl | (unfold setTransit; with_reducible rfl) | (split <;> with_reducible rfl) | (dsimp only; split <;> with_reducible rfl) | (focus (simp; done)) | fail) | with_reducible apply Steady.foldl | with_reducible apply Steady.foldlSnd | dsimp only | split

theorem steady_sealReadDone {ρ : State} (b : Nat) (row : Nat) (daddr : Nat) (errors : List (Nat × Nat)) (s : State) (hρ : Steady ρ s) : Steady ρ (sealReadDone b row daddr errors s) := by
  unfold sealReadDone
  repeat' first | with_reducible assumption | refine fun _ => ?_ | with_reducible apply steady_nvaCount | with_reducible apply steady_nvaErr | with_reducible apply steady_readRows | with_reducible apply steady_keystonePut | with_reducible apply Steady.ite | fail_if_no_progress (with_reducible refine Steady.mk' ?_ ?_ ?_ ?_ ?_ ?_ ?_; iterate 6 first | with_reducible rfl | (unfold setTransit; with_reducible rfl) | (split <;> with_reducible rfl) | (dsimp only; split <;> with_reducible rfl) | (focus (simp; done)) | fail) | with_reducible refine Steady.snd (by with_reducible assumption) ?_ | with_reducible refine Steady.snd2 (by with_reducible assumption) ?_ | with_reducible refine Steady.fst (by with_reducible assumption) ?_ | dsimp only | split

theorem steady_workDone {ρ : State} (b : Nat) (w : NvaWork) (pulses : Nat) (ok : Bool) (errors : List (Nat × Nat)) (s : State) (hρ : Steady ρ s) : Steady ρ (workDone b w pulses ok errors s) := by
  unfold workDone
  repeat' first | with_reducible assumption | refine fun _ => ?_ | with_reducible apply steady_State_put | with_reducible apply steady_State_raise | with_reducible apply steady_taskRound | with_reducible apply steady_State_setBank | with_reducible apply steady_State_setNvaRow | with_reducible apply steady_nvaCount | with_reducible apply steady_nvaErr | with_reducible apply steady_programRow | with_reducible apply steady_programFree | with_reducible apply steady_wearRows | with_reducible apply steady_readRows | with_reducible apply steady_eraseSector | with_reducible apply steady_moveRows | with_reducible apply steady_resShow | with_reducible apply steady_slotUsed | with_reducible apply steady_sealReadDone | with_reducible apply steady_State_wrN | with_reducible apply Steady.ite | fail_if_no_progress (with_reducible refine Steady.mk' ?_ ?_ ?_ ?_ ?_ ?_ ?_; iterate 6 first | with_reducible rfl | (unfold setTransit; with_reducible rfl) | (split <;> with_reducible rfl) | (dsimp only; split <;> with_reducible rfl) | (focus (simp; done)) | fail) | with_reducible apply Steady.each | with_reducible apply Steady.onlyIf | with_reducible refine Steady.snd (by with_reducible assumption) ?_ | with_reducible refine Steady.snd2 (by with_reducible assumption) ?_ | with_reducible refine Steady.fst (by with_reducible assumption) ?_ | with_reducible apply SteadyDone.next | with_reducible apply SteadyDone.fault | with_reducible apply SteadyDone.after | with_reducible apply SteadyDone.ite | with_reducible refine SteadyDone.outNext (by with_reducible assumption) ?_ | with_reducible refine SteadyDone.outFault (by with_reducible assumption) ?_ | with_reducible refine SteadyDone.outAfter (by with_reducible assumption) ?_ | dsimp only | split

theorem steady_workEnd {ρ : State} (b : Nat) (pulses : Nat) (ok : Bool) (errors : List (Nat × Nat)) (s : State) (hρ : Steady ρ s) : Steady ρ (workEnd b pulses ok errors s) := by
  unfold workEnd
  repeat' first | with_reducible assumption | refine fun _ => ?_ | with_reducible apply steady_State_raise | with_reducible apply steady_State_pmcEvent | with_reducible apply steady_State_pmcLatency | with_reducible apply steady_State_setBank | with_reducible apply steady_bankShow | with_reducible apply steady_workDone | with_reducible apply Steady.ite | fail_if_no_progress (with_reducible refine Steady.mk' ?_ ?_ ?_ ?_ ?_ ?_ ?_; iterate 6 first | with_reducible rfl | (unfold setTransit; with_reducible rfl) | (split <;> with_reducible rfl) | (dsimp only; split <;> with_reducible rfl) | (focus (simp; done)) | fail) | with_reducible apply Steady.onlyIf | with_reducible refine Steady.snd (by with_reducible assumption) ?_ | with_reducible refine Steady.snd2 (by with_reducible assumption) ?_ | with_reducible refine Steady.fst (by with_reducible assumption) ?_ | with_reducible apply SteadyDone.next | with_reducible apply SteadyDone.fault | with_reducible apply SteadyDone.after | with_reducible apply SteadyDone.ite | with_reducible refine SteadyDone.outNext (by with_reducible assumption) ?_ | with_reducible refine SteadyDone.outFault (by with_reducible assumption) ?_ | with_reducible refine SteadyDone.outAfter (by with_reducible assumption) ?_ | dsimp only | split

theorem steady_nvaCmdWrite {ρ : State} (b : Nat) (w : Word) (s : State) (hρ : Steady ρ s) : Steady ρ (nvaCmdWrite b w s) := by
  unfold nvaCmdWrite
  repeat' first | with_reducible assumption | refine fun _ => ?_ | with_reducible apply steady_State_put | with_reducible apply steady_State_setBank | with_reducible apply steady_nvaErr | with_reducible apply steady_bankShow | with_reducible apply Steady.ite | fail_if_no_progress (with_reducible refine Steady.mk' ?_ ?_ ?_ ?_ ?_ ?_ ?_; iterate 6 first | with_reducible rfl | (unfold setTransit; with_reducible rfl) | (split <;> with_reducible rfl) | (dsimp only; split <;> with_reducible rfl) | (focus (simp; done)) | fail) | with_reducible refine Steady.snd (by with_reducible assumption) ?_ | with_reducible refine Steady.snd2 (by with_reducible assumption) ?_ | with_reducible refine Steady.fst (by with_reducible assumption) ?_ | dsimp only | split

theorem steady_startHeaders {ρ : State} (cause : Nat) (s : State) (hρ : Steady ρ s) : Steady ρ (startHeaders cause s) := by
  unfold startHeaders
  repeat' first | with_reducible assumption | refine fun _ => ?_ | with_reducible apply steady_startWork | with_reducible apply Steady.each | dsimp only | split

theorem steady_opStart {ρ : State} (b : Nat) (s : State) (hρ : Steady ρ s) : Steady ρ (opStart b s) := by
  unfold opStart
  repeat' first | with_reducible assumption | refine fun _ => ?_ | with_reducible apply steady_State_setBank | with_reducible apply steady_startWork | with_reducible apply steady_State_wrN | with_reducible apply Steady.ite | fail_if_no_progress (with_reducible refine Steady.mk' ?_ ?_ ?_ ?_ ?_ ?_ ?_; iterate 6 first | with_reducible rfl | (unfold setTransit; with_reducible rfl) | (split <;> with_reducible rfl) | (dsimp only; split <;> with_reducible rfl) | (focus (simp; done)) | fail) | with_reducible refine Steady.snd (by with_reducible assumption) ?_ | with_reducible refine Steady.snd2 (by with_reducible assumption) ?_ | with_reducible refine Steady.fst (by with_reducible assumption) ?_ | dsimp only | split

theorem steady_copyStart {ρ : State} (b : Nat) (s : State) (hρ : Steady ρ s) : Steady ρ (copyStart b s) := by
  unfold copyStart
  repeat' first | with_reducible assumption | refine fun _ => ?_ | with_reducible apply steady_State_setBank | with_reducible apply steady_startWork | with_reducible apply Steady.ite | fail_if_no_progress (with_reducible refine Steady.mk' ?_ ?_ ?_ ?_ ?_ ?_ ?_; iterate 6 first | with_reducible rfl | (unfold setTransit; with_reducible rfl) | (split <;> with_reducible rfl) | (dsimp only; split <;> with_reducible rfl) | (focus (simp; done)) | fail) | with_reducible refine Steady.snd (by with_reducible assumption) ?_ | with_reducible refine Steady.snd2 (by with_reducible assumption) ?_ | with_reducible refine Steady.fst (by with_reducible assumption) ?_ | dsimp only | split

theorem steady_slotEraseStart {ρ : State} (b : Nat) (s : State) (hρ : Steady ρ s) : Steady ρ (slotEraseStart b s) := by
  unfold slotEraseStart
  repeat' first | with_reducible assumption | refine fun _ => ?_ | with_reducible apply steady_startWork | with_reducible apply Steady.ite | dsimp only | split

theorem steady_headerStart {ρ : State} (s : State) (hρ : Steady ρ s) : Steady ρ (headerStart s) := by
  unfold headerStart
  repeat' first | with_reducible assumption | refine fun _ => ?_ | with_reducible apply steady_startHeaders | with_reducible apply Steady.ite | fail_if_no_progress (with_reducible refine Steady.mk' ?_ ?_ ?_ ?_ ?_ ?_ ?_; iterate 6 first | with_reducible rfl | (unfold setTransit; with_reducible rfl) | (split <;> with_reducible rfl) | (dsimp only; split <;> with_reducible rfl) | (focus (simp; done)) | fail) | with_reducible refine Steady.snd (by with_reducible assumption) ?_ | with_reducible refine Steady.snd2 (by with_reducible assumption) ?_ | with_reducible refine Steady.fst (by with_reducible assumption) ?_ | dsimp only | split

theorem steady_remapEffect {ρ : State} (b : Nat) (s : State) (hρ : Steady ρ s) : Steady ρ (remapEffect b s) := by
  unfold remapEffect
  repeat' first | with_reducible assumption | refine fun _ => ?_ | with_reducible apply steady_State_setBank | with_reducible apply Steady.ite | fail_if_no_progress (with_reducible refine Steady.mk' ?_ ?_ ?_ ?_ ?_ ?_ ?_; iterate 6 first | with_reducible rfl | (unfold setTransit; with_reducible rfl) | (split <;> with_reducible rfl) | (dsimp only; split <;> with_reducible rfl) | (focus (simp; done)) | fail) | with_reducible apply Steady.foldl | with_reducible apply Steady.foldlSnd | dsimp only | split

theorem steady_remapCopyDone {ρ : State} (b : Nat) (errors : List (Nat × Nat)) (s : State) (hρ : Steady ρ s) : Steady ρ (remapCopyDone b errors s) := by
  unfold remapCopyDone
  repeat' first | with_reducible assumption | refine fun _ => ?_ | with_reducible apply steady_workEnd | fail_if_no_progress (with_reducible refine Steady.mk' ?_ ?_ ?_ ?_ ?_ ?_ ?_; iterate 6 first | with_reducible rfl | (unfold setTransit; with_reducible rfl) | (split <;> with_reducible rfl) | (dsimp only; split <;> with_reducible rfl) | (focus (simp; done)) | fail) | with_reducible refine Steady.snd (by with_reducible assumption) ?_ | with_reducible refine Steady.snd2 (by with_reducible assumption) ?_ | with_reducible refine Steady.fst (by with_reducible assumption) ?_ | dsimp only | split

theorem steady_wearLevel {ρ : State} (b : Nat) (l : Nat) (s : State) (hρ : Steady ρ s) : Steady ρ (wearLevel b l s) := by
  unfold wearLevel
  repeat' first | with_reducible assumption | refine fun _ => ?_ | with_reducible apply steady_taskItem | with_reducible apply steady_startWork | with_reducible apply Steady.ite | fail_if_no_progress (with_reducible refine Steady.mk' ?_ ?_ ?_ ?_ ?_ ?_ ?_; iterate 6 first | with_reducible rfl | (unfold setTransit; with_reducible rfl) | (split <;> with_reducible rfl) | (dsimp only; split <;> with_reducible rfl) | (focus (simp; done)) | fail) | with_reducible refine Steady.snd (by with_reducible assumption) ?_ | with_reducible refine Steady.snd2 (by with_reducible assumption) ?_ | with_reducible refine Steady.fst (by with_reducible assumption) ?_ | dsimp only | split

theorem steady_windowShow {ρ : State} (b : Nat) (row : Nat) (flags : Nat) (d : BitVec 168) (s : State) (hρ : Steady ρ s) : Steady ρ (windowShow b row flags d s) := by
  unfold windowShow
  repeat' first | with_reducible assumption | refine fun _ => ?_ | with_reducible apply steady_State_wr | with_reducible apply steady_State_wrN | dsimp only | split

theorem steady_radAddrWrite {ρ : State} (b : Nat) (w : Word) (s : State) (hρ : Steady ρ s) : Steady ρ (radAddrWrite b w s) := by
  unfold radAddrWrite
  repeat' first | with_reducible assumption | refine fun _ => ?_ | with_reducible apply steady_State_wr | with_reducible apply steady_State_setBank | with_reducible apply steady_windowShow | with_reducible apply Steady.ite | fail_if_no_progress (with_reducible refine Steady.mk' ?_ ?_ ?_ ?_ ?_ ?_ ?_; iterate 6 first | with_reducible rfl | (unfold setTransit; with_reducible rfl) | (split <;> with_reducible rfl) | (dsimp only; split <;> with_reducible rfl) | (focus (simp; done)) | fail) | dsimp only | split

theorem steady_windowDone {ρ : State} (b : Nat) (errors : Nat) (s : State) (hρ : Steady ρ s) : Steady ρ (windowDone b errors s) := by
  unfold windowDone
  repeat' first | with_reducible assumption | refine fun _ => ?_ | with_reducible apply steady_State_setBank | with_reducible apply steady_readRow | with_reducible apply steady_windowShow | with_reducible apply Steady.ite | fail_if_no_progress (with_reducible refine Steady.mk' ?_ ?_ ?_ ?_ ?_ ?_ ?_; iterate 6 first | with_reducible rfl | (unfold setTransit; with_reducible rfl) | (split <;> with_reducible rfl) | (dsimp only; split <;> with_reducible rfl) | (focus (simp; done)) | fail) | with_reducible refine Steady.snd (by with_reducible assumption) ?_ | with_reducible refine Steady.snd2 (by with_reducible assumption) ?_ | with_reducible refine Steady.fst (by with_reducible assumption) ?_ | dsimp only | split

theorem steady_swapWrite {ρ : State} (s : State) (hρ : Steady ρ s) : Steady ρ (swapWrite s) := by
  unfold swapWrite
  repeat' first | with_reducible assumption | refine fun _ => ?_ | with_reducible apply steady_State_put | with_reducible apply Steady.ite | fail_if_no_progress (with_reducible refine Steady.mk' ?_ ?_ ?_ ?_ ?_ ?_ ?_; iterate 6 first | with_reducible rfl | (unfold setTransit; with_reducible rfl) | (split <;> with_reducible rfl) | (dsimp only; split <;> with_reducible rfl) | (focus (simp; done)) | fail) | dsimp only | split

theorem steady_swapMoves {ρ : State} (s : State) (hρ : Steady ρ s) : Steady ρ (swapMoves s) := by
  unfold swapMoves
  repeat' first | with_reducible assumption | refine fun _ => ?_ | with_reducible apply steady_State_pmcEvent | with_reducible apply Steady.ite | fail_if_no_progress (with_reducible refine Steady.mk' ?_ ?_ ?_ ?_ ?_ ?_ ?_; iterate 6 first | with_reducible rfl | (unfold setTransit; with_reducible rfl) | (split <;> with_reducible rfl) | (dsimp only; split <;> with_reducible rfl) | (focus (simp; done)) | fail) | with_reducible apply Steady.each | with_reducible refine Steady.snd (by with_reducible assumption) ?_ | with_reducible refine Steady.snd2 (by with_reducible assumption) ?_ | with_reducible refine Steady.fst (by with_reducible assumption) ?_ | dsimp only | split

theorem steady_bankSwap {ρ : State} (s : State) (hρ : Steady ρ s) : Steady ρ (bankSwap s) := by
  unfold bankSwap
  repeat' first | with_reducible assumption | refine fun _ => ?_ | with_reducible apply steady_State_raise | with_reducible apply steady_State_flag | with_reducible apply steady_State_setCore | with_reducible apply steady_swapMoves | with_reducible apply Steady.ite | fail_if_no_progress (with_reducible refine Steady.mk' ?_ ?_ ?_ ?_ ?_ ?_ ?_; iterate 6 first | with_reducible rfl | (unfold setTransit; with_reducible rfl) | (split <;> with_reducible rfl) | (dsimp only; split <;> with_reducible rfl) | (focus (simp; done)) | fail) | with_reducible refine Steady.snd (by with_reducible assumption) ?_ | with_reducible refine Steady.snd2 (by with_reducible assumption) ?_ | with_reducible refine Steady.fst (by with_reducible assumption) ?_ | dsimp only | split

theorem steady_digCtlWrite {ρ : State} (w : Word) (s : State) (hρ : Steady ρ s) : Steady ρ (digCtlWrite w s) := by
  unfold digCtlWrite
  repeat' first | with_reducible assumption | refine fun _ => ?_ | with_reducible apply steady_State_put | with_reducible apply steady_State_flag | with_reducible apply steady_nvaErr | with_reducible apply Steady.ite | fail_if_no_progress (with_reducible refine Steady.mk' ?_ ?_ ?_ ?_ ?_ ?_ ?_; iterate 6 first | with_reducible rfl | (unfold setTransit; with_reducible rfl) | (split <;> with_reducible rfl) | (dsimp only; split <;> with_reducible rfl) | (focus (simp; done)) | fail) | dsimp only | split

theorem steady_digestStart {ρ : State} (s : State) (hρ : Steady ρ s) : Steady ρ (digestStart s) := by
  unfold digestStart
  repeat' first | with_reducible assumption | refine fun _ => ?_ | with_reducible apply steady_startWork | with_reducible apply Steady.ite | fail_if_no_progress (with_reducible refine Steady.mk' ?_ ?_ ?_ ?_ ?_ ?_ ?_; iterate 6 first | with_reducible rfl | (unfold setTransit; with_reducible rfl) | (split <;> with_reducible rfl) | (dsimp only; split <;> with_reducible rfl) | (focus (simp; done)) | fail) | with_reducible refine Steady.snd (by with_reducible assumption) ?_ | with_reducible refine Steady.snd2 (by with_reducible assumption) ?_ | with_reducible refine Steady.fst (by with_reducible assumption) ?_ | dsimp only | split

theorem steady_digestEnd {ρ : State} (errors : List (Nat × Nat)) (s : State) (hρ : Steady ρ s) : Steady ρ (digestEnd errors s) := by
  unfold digestEnd
  repeat' first | with_reducible assumption | refine fun _ => ?_ | with_reducible apply steady_workEnd | fail_if_no_progress (with_reducible refine Steady.mk' ?_ ?_ ?_ ?_ ?_ ?_ ?_; iterate 6 first | with_reducible rfl | (unfold setTransit; with_reducible rfl) | (split <;> with_reducible rfl) | (dsimp only; split <;> with_reducible rfl) | (focus (simp; done)) | fail) | with_reducible apply Steady.each | with_reducible refine Steady.snd (by with_reducible assumption) ?_ | with_reducible refine Steady.snd2 (by with_reducible assumption) ?_ | with_reducible refine Steady.fst (by with_reducible assumption) ?_ | dsimp only | split

theorem steady_nvaEnds {ρ : State} (s : State) (hρ : Steady ρ s) : Steady ρ (nvaEnds s) := by
  unfold nvaEnds
  repeat' first | with_reducible assumption | refine fun _ => ?_ | with_reducible apply steady_workEnd | with_reducible apply steady_remapEffect | with_reducible apply Steady.ite | fail_if_no_progress (with_reducible refine Steady.mk' ?_ ?_ ?_ ?_ ?_ ?_ ?_; iterate 6 first | with_reducible rfl | (unfold setTransit; with_reducible rfl) | (split <;> with_reducible rfl) | (dsimp only; split <;> with_reducible rfl) | (focus (simp; done)) | fail) | with_reducible apply Steady.each | with_reducible refine Steady.snd (by with_reducible assumption) ?_ | with_reducible refine Steady.snd2 (by with_reducible assumption) ?_ | with_reducible refine Steady.fst (by with_reducible assumption) ?_ | dsimp only | split

theorem steady_nvaBoundary {ρ : State} (s : State) (hρ : Steady ρ s) : Steady ρ (nvaBoundary s) := by
  unfold nvaBoundary
  repeat' first | with_reducible assumption | refine fun _ => ?_ | with_reducible apply steady_opStart | with_reducible apply steady_copyStart | with_reducible apply steady_slotEraseStart | with_reducible apply steady_headerStart | with_reducible apply steady_bankSwap | with_reducible apply steady_digestStart | with_reducible apply Steady.each | dsimp only | split

theorem steady_nvaCfgWrite {ρ : State} (w : Word) (s : State) (hρ : Steady ρ s) : Steady ρ (nvaCfgWrite w s) := by
  unfold nvaCfgWrite
  repeat' first | with_reducible assumption | refine fun _ => ?_ | with_reducible apply steady_State_put | fail_if_no_progress (with_reducible refine Steady.mk' ?_ ?_ ?_ ?_ ?_ ?_ ?_; iterate 6 first | with_reducible rfl | (unfold setTransit; with_reducible rfl) | (split <;> with_reducible rfl) | (dsimp only; split <;> with_reducible rfl) | (focus (simp; done)) | fail) | dsimp only | split

theorem steady_minVersionWrite {ρ : State} (w : Word) (s : State) (hρ : Steady ρ s) : Steady ρ (minVersionWrite w s) := by
  unfold minVersionWrite
  repeat' first | with_reducible assumption | refine fun _ => ?_ | with_reducible apply steady_State_wr | with_reducible apply Steady.ite | fail_if_no_progress (with_reducible refine Steady.mk' ?_ ?_ ?_ ?_ ?_ ?_ ?_; iterate 6 first | with_reducible rfl | (unfold setTransit; with_reducible rfl) | (split <;> with_reducible rfl) | (dsimp only; split <;> with_reducible rfl) | (focus (simp; done)) | fail) | dsimp only | split

theorem steady_nvaEvtWrite {ρ : State} (w : Word) (s : State) (hρ : Steady ρ s) : Steady ρ (nvaEvtWrite w s) := by
  unfold nvaEvtWrite
  repeat' first | with_reducible assumption | refine fun _ => ?_ | with_reducible apply steady_State_wr | with_reducible apply steady_State_zero | with_reducible apply Steady.each | with_reducible apply Steady.onlyIf | dsimp only | split

theorem steady_abandon {ρ : State} (b : Nat) (s : State) (hρ : Steady ρ s) : Steady ρ (abandon b s) := by
  unfold abandon
  repeat' first | with_reducible assumption | refine fun _ => ?_ | with_reducible apply steady_State_useFree | with_reducible apply steady_State_setBank | with_reducible apply steady_programFree | with_reducible apply steady_eraseRows | with_reducible apply steady_bankShow | with_reducible apply steady_workDone | with_reducible apply Steady.ite | fail_if_no_progress (with_reducible refine Steady.mk' ?_ ?_ ?_ ?_ ?_ ?_ ?_; iterate 6 first | with_reducible rfl | (unfold setTransit; with_reducible rfl) | (split <;> with_reducible rfl) | (dsimp only; split <;> with_reducible rfl) | (focus (simp; done)) | fail) | with_reducible apply Steady.each | with_reducible refine Steady.snd (by with_reducible assumption) ?_ | with_reducible refine Steady.snd2 (by with_reducible assumption) ?_ | with_reducible refine Steady.fst (by with_reducible assumption) ?_ | with_reducible apply SteadyDone.next | with_reducible apply SteadyDone.fault | with_reducible apply SteadyDone.after | with_reducible apply SteadyDone.ite | with_reducible refine SteadyDone.outNext (by with_reducible assumption) ?_ | with_reducible refine SteadyDone.outFault (by with_reducible assumption) ?_ | with_reducible refine SteadyDone.outAfter (by with_reducible assumption) ?_ | dsimp only | split

theorem steady_reserveRecord {ρ : State} (cause : Nat) (body : List (BitVec 168)) (s : State) (hρ : Steady ρ s) : Steady ρ (reserveRecord cause body s) := by
  unfold reserveRecord
  repeat' first | with_reducible assumption | refine fun _ => ?_ | with_reducible apply steady_programFree | with_reducible apply steady_slotUsed | with_reducible apply steady_abandon | fail_if_no_progress (with_reducible refine Steady.mk' ?_ ?_ ?_ ?_ ?_ ?_ ?_; iterate 6 first | with_reducible rfl | (unfold setTransit; with_reducible rfl) | (split <;> with_reducible rfl) | (dsimp only; split <;> with_reducible rfl) | (focus (simp; done)) | fail) | with_reducible apply Steady.each | with_reducible refine Steady.snd (by with_reducible assumption) ?_ | with_reducible refine Steady.snd2 (by with_reducible assumption) ?_ | with_reducible refine Steady.fst (by with_reducible assumption) ?_ | dsimp only | split

theorem steady_repairInterrupted {ρ : State} (w : Nat) (s : State) (hρ : Steady ρ s) : Steady ρ (repairInterrupted w s) := by
  unfold repairInterrupted
  repeat' first | with_reducible assumption | refine fun _ => ?_ | with_reducible apply steady_State_setNvaRow | with_reducible apply steady_eraseSector | with_reducible apply Steady.ite | with_reducible apply Steady.each | dsimp only | split

theorem steady_readySlot {ρ : State} (b : Nat) (s : State) (hρ : Steady ρ s) : Steady ρ (readySlot b s) := by
  unfold readySlot
  repeat' first | with_reducible assumption | refine fun _ => ?_ | with_reducible apply steady_eraseSector | with_reducible apply Steady.ite | dsimp only | split

end Sys2Proof.Machine
end

