-- ==== Sys2Proof/Laws/SteadySpans.lean ====
section
/-! SUPPORT. What the operations of Machine/Spans.lean keep (`Steady`). -/

namespace Sys2Proof.Machine

theorem steady_unitCount {ρ : State} (n : Option Nat) (ms : List Nat) (c : Nat) (s : State) (hρ : Steady ρ s) : Steady ρ (unitCount n ms c s) := by
  unfold unitCount
  repeat' first | with_reducible assumption | refine fun _ => ?_ | with_reducible apply steady_State_count | fail_if_no_progress (with_reducible refine Steady.mk' ?_ ?_ ?_ ?_ ?_ ?_ ?_; iterate 6 first | with_reducible rfl | (unfold setTransit; with_reducible rfl) | (split <;> with_reducible rfl) | (dsimp only; split <;> with_reducible rfl) | (focus (simp; done)) | fail) | with_reducible apply Steady.each | with_reducible refine Steady.snd (by with_reducible assumption) ?_ | with_reducible refine Steady.snd2 (by with_reducible assumption) ?_ | with_reducible refine Steady.fst (by with_reducible assumption) ?_ | dsimp only | split

theorem steady_spnGlobal {ρ : State} (s : State) (hρ : Steady ρ s) : Steady ρ (spnGlobal s) := by
  unfold spnGlobal
  repeat' first | with_reducible assumption | refine fun _ => ?_ | with_reducible apply steady_State_wr | dsimp only | split

theorem steady_spnShow {ρ : State} (s : State) (hρ : Steady ρ s) : Steady ρ (spnShow s) := by
  unfold spnShow
  repeat' first | with_reducible assumption | refine fun _ => ?_ | with_reducible apply steady_State_wr | with_reducible apply steady_spnGlobal | with_reducible apply steady_State_wrN | with_reducible apply steady_State_zero | with_reducible apply Steady.ite | fail_if_no_progress (with_reducible refine Steady.mk' ?_ ?_ ?_ ?_ ?_ ?_ ?_; iterate 6 first | with_reducible rfl | (unfold setTransit; with_reducible rfl) | (split <;> with_reducible rfl) | (dsimp only; split <;> with_reducible rfl) | (focus (simp; done)) | fail) | with_reducible apply Steady.each | with_reducible refine Steady.snd (by with_reducible assumption) ?_ | with_reducible refine Steady.snd2 (by with_reducible assumption) ?_ | with_reducible refine Steady.fst (by with_reducible assumption) ?_ | dsimp only | split

theorem steady_setLayout {ρ : State} (l : Layout) (s : State) (hρ : Steady ρ s) : Steady ρ (setLayout l s) := by
  unfold setLayout
  repeat' first | with_reducible assumption | refine fun _ => ?_ | with_reducible apply steady_spnShow | with_reducible apply steady_State_zero | fail_if_no_progress (with_reducible refine Steady.mk' ?_ ?_ ?_ ?_ ?_ ?_ ?_; iterate 6 first | with_reducible rfl | (unfold setTransit; with_reducible rfl) | (split <;> with_reducible rfl) | (dsimp only; split <;> with_reducible rfl) | (focus (simp; done)) | fail) | with_reducible apply Steady.each | dsimp only | split

theorem steady_trussFree {ρ : State} (m : Nat) (s : State) (hρ : Steady ρ s) : Steady ρ (trussFree m s) := by
  unfold trussFree
  repeat' first | with_reducible assumption | refine fun _ => ?_ | with_reducible apply Steady.ite | fail_if_no_progress (with_reducible refine Steady.mk' ?_ ?_ ?_ ?_ ?_ ?_ ?_; iterate 6 first | with_reducible rfl | (unfold setTransit; with_reducible rfl) | (split <;> with_reducible rfl) | (dsimp only; split <;> with_reducible rfl) | (focus (simp; done)) | fail) | with_reducible refine Steady.snd (by with_reducible assumption) ?_ | with_reducible refine Steady.snd2 (by with_reducible assumption) ?_ | with_reducible refine Steady.fst (by with_reducible assumption) ?_ | dsimp only | split

theorem steady_mapFrames {ρ : State} (g : Frame → Frame) (s : State) (hρ : Steady ρ s) : Steady ρ (mapFrames g s) := by
  unfold mapFrames
  repeat' first | with_reducible assumption | refine fun _ => ?_ | fail_if_no_progress (with_reducible refine Steady.mk' ?_ ?_ ?_ ?_ ?_ ?_ ?_; iterate 6 first | with_reducible rfl | (unfold setTransit; with_reducible rfl) | (split <;> with_reducible rfl) | (dsimp only; split <;> with_reducible rfl) | (focus (simp; done)) | fail) | dsimp only | split

theorem steady_replaceSpan {ρ : State} (a : Nat) (b : Nat) (s : State) (hρ : Steady ρ s) : Steady ρ (replaceSpan a b s) := by
  unfold replaceSpan
  repeat' first | with_reducible assumption | refine fun _ => ?_ | with_reducible apply steady_State_put | with_reducible apply steady_mapFrames | with_reducible apply Steady.ite | fail_if_no_progress (with_reducible refine Steady.mk' ?_ ?_ ?_ ?_ ?_ ?_ ?_; iterate 6 first | with_reducible rfl | (unfold setTransit; with_reducible rfl) | (split <;> with_reducible rfl) | (dsimp only; split <;> with_reducible rfl) | (focus (simp; done)) | fail) | with_reducible refine Steady.snd (by with_reducible assumption) ?_ | with_reducible refine Steady.snd2 (by with_reducible assumption) ?_ | with_reducible refine Steady.fst (by with_reducible assumption) ?_ | dsimp only | split

theorem steady_setOwner {ρ : State} (b : Nat) (o : Option Nat) (s : State) (hρ : Steady ρ s) : Steady ρ (setOwner b o s) := by
  unfold setOwner
  repeat' first | with_reducible assumption | refine fun _ => ?_ | fail_if_no_progress (with_reducible refine Steady.mk' ?_ ?_ ?_ ?_ ?_ ?_ ?_; iterate 6 first | with_reducible rfl | (unfold setTransit; with_reducible rfl) | (split <;> with_reducible rfl) | (dsimp only; split <;> with_reducible rfl) | (focus (simp; done)) | fail) | dsimp only | split

theorem steady_clearOwner {ρ : State} (n : Nat) (s : State) (hρ : Steady ρ s) : Steady ρ (clearOwner n s) := by
  unfold clearOwner
  repeat' first | with_reducible assumption | refine fun _ => ?_ | with_reducible apply Steady.ite | fail_if_no_progress (with_reducible refine Steady.mk' ?_ ?_ ?_ ?_ ?_ ?_ ?_; iterate 6 first | with_reducible rfl | (unfold setTransit; with_reducible rfl) | (split <;> with_reducible rfl) | (dsimp only; split <;> with_reducible rfl) | (focus (simp; done)) | fail) | dsimp only | split

theorem steady_coverSpan {ρ : State} (a : Nat) (st : Nat) (s : State) (hρ : Steady ρ s) : Steady ρ (coverSpan a st s) := by
  unfold coverSpan
  repeat' first | with_reducible assumption | refine fun _ => ?_ | with_reducible apply steady_State_wr | with_reducible apply steady_State_put | with_reducible apply steady_spnGlobal | with_reducible apply steady_spnShow | with_reducible apply steady_mapFrames | with_reducible apply steady_replaceSpan | with_reducible apply steady_setOwner | with_reducible apply Steady.ite | fail_if_no_progress (with_reducible refine Steady.mk' ?_ ?_ ?_ ?_ ?_ ?_ ?_; iterate 6 first | with_reducible rfl | (unfold setTransit; with_reducible rfl) | (split <;> with_reducible rfl) | (dsimp only; split <;> with_reducible rfl) | (focus (simp; done)) | fail) | with_reducible apply Steady.onlyIf | with_reducible refine Steady.snd (by with_reducible assumption) ?_ | with_reducible refine Steady.snd2 (by with_reducible assumption) ?_ | with_reducible refine Steady.fst (by with_reducible assumption) ?_ | dsimp only | split

theorem steady_spanFault {ρ : State} (n : Nat) (s : State) (hρ : Steady ρ s) : Steady ρ (spanFault n s) := by
  unfold spanFault
  repeat' first | with_reducible assumption | refine fun _ => ?_ | with_reducible apply steady_State_raise | with_reducible apply steady_swLoseAck | with_reducible apply steady_pptFire | with_reducible apply steady_mapFrames | with_reducible apply Steady.ite | fail_if_no_progress (with_reducible refine Steady.mk' ?_ ?_ ?_ ?_ ?_ ?_ ?_; iterate 6 first | with_reducible rfl | (unfold setTransit; with_reducible rfl) | (split <;> with_reducible rfl) | (dsimp only; split <;> with_reducible rfl) | (focus (simp; done)) | fail) | with_reducible refine Steady.snd (by with_reducible assumption) ?_ | with_reducible refine Steady.snd2 (by with_reducible assumption) ?_ | with_reducible refine Steady.fst (by with_reducible assumption) ?_ | with_reducible apply SteadyDone.next | with_reducible apply SteadyDone.fault | with_reducible apply SteadyDone.after | with_reducible apply SteadyDone.ite | with_reducible refine SteadyDone.outNext (by with_reducible assumption) ?_ | with_reducible refine SteadyDone.outFault (by with_reducible assumption) ?_ | with_reducible refine SteadyDone.outAfter (by with_reducible assumption) ?_ | dsimp only | split

theorem steady_spanFaultCover {ρ : State} (n : Nat) (s : State) (hρ : Steady ρ s) : Steady ρ (spanFaultCover n s) := by
  unfold spanFaultCover
  repeat' first | with_reducible assumption | refine fun _ => ?_ | with_reducible apply steady_testRequest | with_reducible apply steady_coverSpan | with_reducible apply Steady.ite | fail_if_no_progress (with_reducible refine Steady.mk' ?_ ?_ ?_ ?_ ?_ ?_ ?_; iterate 6 first | with_reducible rfl | (unfold setTransit; with_reducible rfl) | (split <;> with_reducible rfl) | (dsimp only; split <;> with_reducible rfl) | (focus (simp; done)) | fail) | with_reducible apply SteadyDone.next | with_reducible apply SteadyDone.fault | with_reducible apply SteadyDone.after | with_reducible apply SteadyDone.ite | with_reducible refine SteadyDone.outNext (by with_reducible assumption) ?_ | with_reducible refine SteadyDone.outFault (by with_reducible assumption) ?_ | with_reducible refine SteadyDone.outAfter (by with_reducible assumption) ?_ | dsimp only | split

theorem steady_releaseSpan {ρ : State} (n : Nat) (s : State) (hρ : Steady ρ s) : Steady ρ (releaseSpan n s) := by
  unfold releaseSpan
  repeat' first | with_reducible assumption | refine fun _ => ?_ | fail_if_no_progress (with_reducible refine Steady.mk' ?_ ?_ ?_ ?_ ?_ ?_ ?_; iterate 6 first | with_reducible rfl | (unfold setTransit; with_reducible rfl) | (split <;> with_reducible rfl) | (dsimp only; split <;> with_reducible rfl) | (focus (simp; done)) | fail) | dsimp only | split

theorem steady_takeBack {ρ : State} (n : Nat) (b : Nat) (s : State) (hρ : Steady ρ s) : Steady ρ (takeBack n b s) := by
  unfold takeBack
  repeat' first | with_reducible assumption | refine fun _ => ?_ | with_reducible apply steady_State_wr | with_reducible apply steady_State_put | with_reducible apply steady_replaceSpan | with_reducible apply steady_setOwner | with_reducible apply steady_releaseSpan | fail_if_no_progress (with_reducible refine Steady.mk' ?_ ?_ ?_ ?_ ?_ ?_ ?_; iterate 6 first | with_reducible rfl | (unfold setTransit; with_reducible rfl) | (split <;> with_reducible rfl) | (dsimp only; split <;> with_reducible rfl) | (focus (simp; done)) | fail) | with_reducible refine Steady.snd (by with_reducible assumption) ?_ | with_reducible refine Steady.snd2 (by with_reducible assumption) ?_ | with_reducible refine Steady.fst (by with_reducible assumption) ?_ | dsimp only | split

theorem steady_repaired {ρ : State} (n : Nat) (s : State) (hρ : Steady ρ s) : Steady ρ (repaired n s) := by
  unfold repaired
  repeat' first | with_reducible assumption | refine fun _ => ?_ | with_reducible apply steady_State_wr | with_reducible apply steady_State_put | with_reducible apply steady_setOwner | with_reducible apply steady_releaseSpan | with_reducible apply Steady.ite | fail_if_no_progress (with_reducible refine Steady.mk' ?_ ?_ ?_ ?_ ?_ ?_ ?_; iterate 6 first | with_reducible rfl | (unfold setTransit; with_reducible rfl) | (split <;> with_reducible rfl) | (dsimp only; split <;> with_reducible rfl) | (focus (simp; done)) | fail) | with_reducible refine Steady.snd (by with_reducible assumption) ?_ | with_reducible refine Steady.snd2 (by with_reducible assumption) ?_ | with_reducible refine Steady.fst (by with_reducible assumption) ?_ | dsimp only | split

theorem steady_spanReturn {ρ : State} (n : Nat) (kind : Nat) (ok : Bool) (s : State) (hρ : Steady ρ s) : Steady ρ (spanReturn n kind ok s) := by
  unfold spanReturn
  repeat' first | with_reducible assumption | refine fun _ => ?_ | with_reducible apply steady_State_put | with_reducible apply steady_State_raise | with_reducible apply steady_spnShow | with_reducible apply steady_setOwner | with_reducible apply steady_clearOwner | with_reducible apply steady_releaseSpan | with_reducible apply steady_takeBack | with_reducible apply steady_repaired | with_reducible apply Steady.ite | fail_if_no_progress (with_reducible refine Steady.mk' ?_ ?_ ?_ ?_ ?_ ?_ ?_; iterate 6 first | with_reducible rfl | (unfold setTransit; with_reducible rfl) | (split <;> with_reducible rfl) | (dsimp only; split <;> with_reducible rfl) | (focus (simp; done)) | fail) | with_reducible refine Steady.snd (by with_reducible assumption) ?_ | with_reducible refine Steady.snd2 (by with_reducible assumption) ?_ | with_reducible refine Steady.fst (by with_reducible assumption) ?_ | dsimp only | split

theorem steady_spanTestReturn {ρ : State} (n : Nat) (s : State) (hρ : Steady ρ s) : Steady ρ (spanTestReturn n s) := by
  unfold spanTestReturn
  repeat' first | with_reducible assumption | refine fun _ => ?_ | with_reducible apply steady_spanReturn | fail_if_no_progress (with_reducible refine Steady.mk' ?_ ?_ ?_ ?_ ?_ ?_ ?_; iterate 6 first | with_reducible rfl | (unfold setTransit; with_reducible rfl) | (split <;> with_reducible rfl) | (dsimp only; split <;> with_reducible rfl) | (focus (simp; done)) | fail) | with_reducible refine Steady.snd (by with_reducible assumption) ?_ | with_reducible refine Steady.snd2 (by with_reducible assumption) ?_ | with_reducible refine Steady.fst (by with_reducible assumption) ?_ | dsimp only | split

theorem steady_spnSwapWrite {ρ : State} (w : Word) (s : State) (hρ : Steady ρ s) : Steady ρ (spnSwapWrite w s) := by
  unfold spnSwapWrite
  repeat' first | with_reducible assumption | refine fun _ => ?_ | with_reducible apply steady_State_put | with_reducible apply Steady.ite | fail_if_no_progress (with_reducible refine Steady.mk' ?_ ?_ ?_ ?_ ?_ ?_ ?_; iterate 6 first | with_reducible rfl | (unfold setTransit; with_reducible rfl) | (split <;> with_reducible rfl) | (dsimp only; split <;> with_reducible rfl) | (focus (simp; done)) | fail) | dsimp only | split

theorem steady_spnSwapEffect {ρ : State} (s : State) (hρ : Steady ρ s) : Steady ρ (spnSwapEffect s) := by
  unfold spnSwapEffect
  repeat' first | with_reducible assumption | refine fun _ => ?_ | with_reducible apply steady_State_put | with_reducible apply steady_State_raise | with_reducible apply steady_swLoseAck | with_reducible apply steady_coverSpan | with_reducible apply Steady.ite | dsimp only | split

theorem steady_postPn {ρ : State} (kind : Nat) (p : Nat) (s : State) (hρ : Steady ρ s) : Steady ρ (postPn kind p s) := by
  unfold postPn
  repeat' first | with_reducible assumption | refine fun _ => ?_ | with_reducible apply steady_State_raise | with_reducible apply steady_State_bump | with_reducible apply Steady.ite | fail_if_no_progress (with_reducible refine Steady.mk' ?_ ?_ ?_ ?_ ?_ ?_ ?_; iterate 6 first | with_reducible rfl | (unfold setTransit; with_reducible rfl) | (split <;> with_reducible rfl) | (dsimp only; split <;> with_reducible rfl) | (focus (simp; done)) | fail) | with_reducible apply Steady.onlyIf | dsimp only | split

theorem steady_pnevPop {ρ : State} (w : Word) (s : State) (hρ : Steady ρ s) : Steady ρ (pnevPop w s) := by
  unfold pnevPop
  repeat' first | with_reducible assumption | refine fun _ => ?_ | with_reducible apply Steady.ite | fail_if_no_progress (with_reducible refine Steady.mk' ?_ ?_ ?_ ?_ ?_ ?_ ?_; iterate 6 first | with_reducible rfl | (unfold setTransit; with_reducible rfl) | (split <;> with_reducible rfl) | (dsimp only; split <;> with_reducible rfl) | (focus (simp; done)) | fail) | dsimp only | split

theorem steady_spnEvtWrite {ρ : State} (w : Word) (s : State) (hρ : Steady ρ s) : Steady ρ (spnEvtWrite w s) := by
  unfold spnEvtWrite
  repeat' first | with_reducible assumption | refine fun _ => ?_ | with_reducible apply steady_State_wr | with_reducible apply steady_State_zero | with_reducible apply Steady.each | with_reducible apply Steady.onlyIf | dsimp only | split

theorem steady_plateTally {ρ : State} (p : Nat) (g : Nat) (n : Nat) (s : State) (hρ : Steady ρ s) : Steady ρ (plateTally p g n s) := by
  unfold plateTally
  repeat' first | with_reducible assumption | refine fun _ => ?_ | with_reducible apply steady_writeContent64 | with_reducible apply steady_dirtyPlate | dsimp only | split

theorem steady_extraCells {ρ : State} {f : Frame} {s : State} {f' : Frame} {t : State} {g : State → State}
    (e : extraCells f s = (some (f', t), g)) (hρ : Steady ρ s) : Steady ρ t := by
  unfold extraCells at e
  dsimp only at e
  split at e
  · cases e
  · split at e
    · cases e
    · cases e
      rename_i heq _
      apply steady_setFrame
      apply steady_domAdd
      exact Steady.snd heq (steady_takeCells _ _ _ hρ)

theorem steady_extraCells_cause {ρ : State} {f : Frame} {s : State} {o : Option (Frame × State)} {g : State → State}
    (e : extraCells f s = (o, g)) (t : State) (h : Steady ρ t) : Steady ρ (g t) := by
  unfold extraCells at e
  dsimp only at e
  split at e
  · cases e
    exact steady_deckDrop _ _ _ h
  · split at e
    · cases e
      exact steady_deckDrop _ _ _ h
    · cases e
      exact h

theorem steady_storeForm {ρ : State} (f : Frame) (b : Bytes) (s : State) (hρ : Steady ρ s) : Steady ρ (storeForm f b s) := by
  unfold storeForm
  repeat' first | with_reducible assumption | refine fun _ => ?_ | with_reducible apply steady_pauseCheck | with_reducible apply steady_setFrame | with_reducible apply steady_dropBound | with_reducible apply steady_makeReady | with_reducible refine steady_extraCells (by with_reducible assumption) ?_ | with_reducible refine steady_extraCells_cause (by with_reducible assumption) _ ?_ | with_reducible apply Steady.ite | fail_if_no_progress (with_reducible refine Steady.mk' ?_ ?_ ?_ ?_ ?_ ?_ ?_; iterate 6 first | with_reducible rfl | (unfold setTransit; with_reducible rfl) | (split <;> with_reducible rfl) | (dsimp only; split <;> with_reducible rfl) | (focus (simp; done)) | fail) | with_reducible refine Steady.snd (by with_reducible assumption) ?_ | with_reducible refine Steady.snd2 (by with_reducible assumption) ?_ | with_reducible refine Steady.fst (by with_reducible assumption) ?_ | dsimp only | split

theorem steady_releaseTx {ρ : State} (n : Nat) (f : Frame) (r : Chan) (s : State) (hρ : Steady ρ s) : Steady ρ (releaseTx n f r s) := by
  unfold releaseTx
  repeat' first | with_reducible assumption | refine fun _ => ?_ | with_reducible apply steady_ledgerAdd | with_reducible apply steady_unitCount | with_reducible apply steady_plateTally | with_reducible apply steady_storeForm | with_reducible apply Steady.ite | with_reducible refine Steady.snd (by with_reducible assumption) ?_ | with_reducible refine Steady.snd2 (by with_reducible assumption) ?_ | with_reducible refine Steady.fst (by with_reducible assumption) ?_ | dsimp only | split

theorem steady_noteMark {ρ : State} (p : Nat) (h : Nat) (s : State) (hρ : Steady ρ s) : Steady ρ (noteMark p h s) := by
  unfold noteMark
  repeat' first | with_reducible assumption | refine fun _ => ?_ | with_reducible apply Steady.ite | fail_if_no_progress (with_reducible refine Steady.mk' ?_ ?_ ?_ ?_ ?_ ?_ ?_; iterate 6 first | with_reducible rfl | (unfold setTransit; with_reducible rfl) | (split <;> with_reducible rfl) | (dsimp only; split <;> with_reducible rfl) | (focus (simp; done)) | fail) | dsimp only | split

theorem steady_writeReplay {ρ : State} (f : Frame) (h : Nat) (m : Nat) (s : State) (hρ : Steady ρ s) : Steady ρ (writeReplay f h m s) := by
  unfold writeReplay
  repeat' first | with_reducible assumption | refine fun _ => ?_ | with_reducible apply steady_writeContent | with_reducible apply steady_writeContent64 | with_reducible apply steady_noteMark | with_reducible apply Steady.ite | with_reducible apply Steady.each | dsimp only | split

theorem steady_releaseRx {ρ : State} (n : Nat) (f : Frame) (r : Chan) (s : State) (hρ : Steady ρ s) : Steady ρ (releaseRx n f r s) := by
  unfold releaseRx
  repeat' first | with_reducible assumption | refine fun _ => ?_ | with_reducible apply steady_freeFrame | with_reducible apply steady_ledgerAdd | with_reducible apply steady_dropBound | with_reducible apply steady_unitCount | with_reducible apply steady_plateTally | with_reducible apply steady_storeForm | with_reducible apply steady_writeReplay | fail_if_no_progress (with_reducible refine Steady.mk' ?_ ?_ ?_ ?_ ?_ ?_ ?_; iterate 6 first | with_reducible rfl | (unfold setTransit; with_reducible rfl) | (split <;> with_reducible rfl) | (dsimp only; split <;> with_reducible rfl) | (focus (simp; done)) | fail) | with_reducible refine Steady.snd (by with_reducible assumption) ?_ | with_reducible refine Steady.snd2 (by with_reducible assumption) ?_ | with_reducible refine Steady.fst (by with_reducible assumption) ?_ | dsimp only | split

theorem steady_releaseOne {ρ : State} (n : Nat) (f : Frame) (s : State) (hρ : Steady ρ s) : Steady ρ (releaseOne n f s) := by
  unfold releaseOne
  repeat' first | with_reducible assumption | refine fun _ => ?_ | with_reducible apply steady_dropBound | with_reducible apply steady_unitCount | with_reducible apply steady_releaseTx | with_reducible apply steady_releaseRx | with_reducible apply Steady.ite | fail_if_no_progress (with_reducible refine Steady.mk' ?_ ?_ ?_ ?_ ?_ ?_ ?_; iterate 6 first | with_reducible rfl | (unfold setTransit; with_reducible rfl) | (split <;> with_reducible rfl) | (dsimp only; split <;> with_reducible rfl) | (focus (simp; done)) | fail) | with_reducible refine Steady.snd (by with_reducible assumption) ?_ | with_reducible refine Steady.snd2 (by with_reducible assumption) ?_ | with_reducible refine Steady.fst (by with_reducible assumption) ?_ | dsimp only | split

theorem steady_batchRelease {ρ : State} (n : Nat) (s : State) (hρ : Steady ρ s) : Steady ρ (batchRelease n s) := by
  unfold batchRelease
  repeat' first | with_reducible assumption | refine fun _ => ?_ | with_reducible apply steady_releaseOne | fail_if_no_progress (with_reducible refine Steady.mk' ?_ ?_ ?_ ?_ ?_ ?_ ?_; iterate 6 first | with_reducible rfl | (unfold setTransit; with_reducible rfl) | (split <;> with_reducible rfl) | (dsimp only; split <;> with_reducible rfl) | (focus (simp; done)) | fail) | with_reducible apply Steady.each | with_reducible refine Steady.snd (by with_reducible assumption) ?_ | with_reducible refine Steady.snd2 (by with_reducible assumption) ?_ | with_reducible refine Steady.fst (by with_reducible assumption) ?_ | dsimp only | split

theorem steady_sendViaduct {ρ : State} (m : Message) (s : State) (hρ : Steady ρ s) : Steady ρ (sendViaduct m s) := by
  unfold sendViaduct
  repeat' first | with_reducible assumption | refine fun _ => ?_ | fail_if_no_progress (with_reducible refine Steady.mk' ?_ ?_ ?_ ?_ ?_ ?_ ?_; iterate 6 first | with_reducible rfl | (unfold setTransit; with_reducible rfl) | (split <;> with_reducible rfl) | (dsimp only; split <;> with_reducible rfl) | (focus (simp; done)) | fail) | dsimp only | split

theorem steady_extendReservation {ρ : State} (p : Nat) (g : Nat) (s : State) (hρ : Steady ρ s) : Steady ρ (extendReservation p g s) := by
  unfold extendReservation
  repeat' first | with_reducible assumption | refine fun _ => ?_ | with_reducible apply steady_State_count | with_reducible apply steady_writeContent64 | with_reducible apply steady_sendViaduct | with_reducible apply Steady.ite | fail_if_no_progress (with_reducible refine Steady.mk' ?_ ?_ ?_ ?_ ?_ ?_ ?_; iterate 6 first | with_reducible rfl | (unfold setTransit; with_reducible rfl) | (split <;> with_reducible rfl) | (dsimp only; split <;> with_reducible rfl) | (focus (simp; done)) | fail) | dsimp only | split

theorem steady_givePn {ρ : State} {f : Frame} {s : State} {x t} (e : givePn f s = some (x, t)) (hρ : Steady ρ s) : Steady ρ t := by
  unfold givePn at e
  repeat' first | contradiction | simp only [Option.some.injEq, Prod.mk.injEq, reduceCtorEq] at e | obtain ⟨_, rfl⟩ := e | split at e | dsimp only at e
  all_goals repeat' first | with_reducible assumption | refine fun _ => ?_ | with_reducible apply steady_State_put | with_reducible apply steady_writeContent | with_reducible apply steady_writeContent64 | with_reducible apply steady_dirtyPlate | with_reducible apply steady_dropBound | with_reducible apply steady_unitCount | with_reducible apply steady_postPn | with_reducible apply steady_extendReservation | with_reducible apply Steady.ite | fail_if_no_progress (with_reducible refine Steady.mk' ?_ ?_ ?_ ?_ ?_ ?_ ?_; iterate 6 first | with_reducible rfl | (unfold setTransit; with_reducible rfl) | (split <;> with_reducible rfl) | (dsimp only; split <;> with_reducible rfl) | (focus (simp; done)) | fail) | with_reducible refine Steady.snd (by with_reducible assumption) ?_ | with_reducible refine Steady.snd2 (by with_reducible assumption) ?_ | with_reducible refine Steady.fst (by with_reducible assumption) ?_ | dsimp only | split

theorem steady_intoBatch {ρ : State} (n : Nat) (cost : Nat) (f : Frame) (s : State) (hρ : Steady ρ s) : Steady ρ (intoBatch n cost f s) := by
  unfold intoBatch
  repeat' first | with_reducible assumption | refine fun _ => ?_ | with_reducible apply steady_State_pmcEvent | with_reducible apply steady_usePlate | with_reducible apply steady_setFrame | fail_if_no_progress (with_reducible refine Steady.mk' ?_ ?_ ?_ ?_ ?_ ?_ ?_; iterate 6 first | with_reducible rfl | (unfold setTransit; with_reducible rfl) | (split <;> with_reducible rfl) | (dsimp only; split <;> with_reducible rfl) | (focus (simp; done)) | fail) | dsimp only | split

theorem steady_considerFrame {ρ : State} (f : Frame) (t : List Nat × State) (hρ : Steady ρ t.2) : Steady ρ (considerFrame f t).2 := by
  obtain ⟨skip, s⟩ := t
  dsimp only at hρ
  unfold considerFrame
  dsimp only
  repeat' first | with_reducible assumption | with_reducible apply Steady.ite | with_reducible apply steady_requestPlate | with_reducible apply steady_setFrame | with_reducible apply steady_State_pmcEvent | with_reducible apply steady_plcCount | with_reducible apply steady_dropBound | refine fun _ => ?_ | with_reducible apply steady_extendReservation | with_reducible apply steady_intoBatch | with_reducible refine steady_givePn (by with_reducible assumption) ?_ | with_reducible refine Steady.iteSome (by with_reducible assumption) ?_ ?_ | dsimp only | split

theorem steady_takeStipple {ρ : State} (f : Frame) (s : State) (hρ : Steady ρ s) : Steady ρ (takeStipple f s) := by
  unfold takeStipple
  repeat' first | with_reducible assumption | refine fun _ => ?_ | fail_if_no_progress (with_reducible refine Steady.mk' ?_ ?_ ?_ ?_ ?_ ?_ ?_; iterate 6 first | with_reducible rfl | (unfold setTransit; with_reducible rfl) | (split <;> with_reducible rfl) | (dsimp only; split <;> with_reducible rfl) | (focus (simp; done)) | fail) | dsimp only | split

theorem steady_coverFrame {ρ : State} (c : Nat) (p : Nat) (r : Chan) (s : State) (hρ : Steady ρ s) : Steady ρ (coverFrame c p r s) := by
  unfold coverFrame
  repeat' first | with_reducible assumption | refine fun _ => ?_ | with_reducible apply steady_addRef | fail_if_no_progress (with_reducible refine Steady.mk' ?_ ?_ ?_ ?_ ?_ ?_ ?_; iterate 6 first | with_reducible rfl | (unfold setTransit; with_reducible rfl) | (split <;> with_reducible rfl) | (dsimp only; split <;> with_reducible rfl) | (focus (simp; done)) | fail) | with_reducible refine Steady.snd (by with_reducible assumption) ?_ | with_reducible refine Steady.snd2 (by with_reducible assumption) ?_ | with_reducible refine Steady.fst (by with_reducible assumption) ?_ | with_reducible apply SteadyDone.next | with_reducible apply SteadyDone.fault | with_reducible apply SteadyDone.after | with_reducible apply SteadyDone.ite | with_reducible refine SteadyDone.outNext (by with_reducible assumption) ?_ | with_reducible refine SteadyDone.outFault (by with_reducible assumption) ?_ | with_reducible refine SteadyDone.outAfter (by with_reducible assumption) ?_ | with_reducible apply Steady.id' | dsimp only | split

theorem steady_stippleTake {ρ : State} (c : Nat) (r : Chan) (s : State) (hρ : Steady ρ s) : Steady ρ (stippleTake c r s) := by
  unfold stippleTake
  repeat' first | with_reducible assumption | refine fun _ => ?_ | with_reducible apply steady_State_count | with_reducible apply steady_dropBound | with_reducible apply steady_unitCount | with_reducible apply steady_takeStipple | with_reducible apply steady_coverFrame | with_reducible apply Steady.ite | fail_if_no_progress (with_reducible refine Steady.mk' ?_ ?_ ?_ ?_ ?_ ?_ ?_; iterate 6 first | with_reducible rfl | (unfold setTransit; with_reducible rfl) | (split <;> with_reducible rfl) | (dsimp only; split <;> with_reducible rfl) | (focus (simp; done)) | fail) | with_reducible apply Steady.each | with_reducible refine Steady.snd (by with_reducible assumption) ?_ | with_reducible refine Steady.snd2 (by with_reducible assumption) ?_ | with_reducible refine Steady.fst (by with_reducible assumption) ?_ | dsimp only | split

theorem steady_stippleEmit {ρ : State} (c : Nat) (s : State) (hρ : Steady ρ s) : Steady ρ (stippleEmit c s) := by
  unfold stippleEmit
  repeat' first | with_reducible assumption | refine fun _ => ?_ | with_reducible apply steady_stippleTake | with_reducible apply steady_considerFrame | with_reducible apply Steady.ite | fail_if_no_progress (with_reducible refine Steady.mk' ?_ ?_ ?_ ?_ ?_ ?_ ?_; iterate 6 first | with_reducible rfl | (unfold setTransit; with_reducible rfl) | (split <;> with_reducible rfl) | (dsimp only; split <;> with_reducible rfl) | (focus (simp; done)) | fail) | with_reducible apply Steady.foldl | with_reducible apply Steady.foldlSnd | with_reducible refine Steady.snd (by with_reducible assumption) ?_ | with_reducible refine Steady.snd2 (by with_reducible assumption) ?_ | with_reducible refine Steady.fst (by with_reducible assumption) ?_ | dsimp only | split

theorem steady_creditBegin {ρ : State} (s : State) (hρ : Steady ρ s) : Steady ρ (creditBegin s) := by
  unfold creditBegin
  repeat' first | with_reducible assumption | refine fun _ => ?_ | fail_if_no_progress (with_reducible refine Steady.mk' ?_ ?_ ?_ ?_ ?_ ?_ ?_; iterate 6 first | with_reducible rfl | (unfold setTransit; with_reducible rfl) | (split <;> with_reducible rfl) | (dsimp only; split <;> with_reducible rfl) | (focus (simp; done)) | fail) | with_reducible apply Steady.foldl | with_reducible apply Steady.foldlSnd | dsimp only | split

theorem steady_usedShow {ρ : State} (s : State) (hρ : Steady ρ s) : Steady ρ (usedShow s) := by
  unfold usedShow
  repeat' first | with_reducible assumption | refine fun _ => ?_ | with_reducible apply steady_State_wr | fail_if_no_progress (with_reducible refine Steady.mk' ?_ ?_ ?_ ?_ ?_ ?_ ?_; iterate 6 first | with_reducible rfl | (unfold setTransit; with_reducible rfl) | (split <;> with_reducible rfl) | (dsimp only; split <;> with_reducible rfl) | (focus (simp; done)) | fail) | with_reducible apply Steady.each | with_reducible refine Steady.snd (by with_reducible assumption) ?_ | with_reducible refine Steady.snd2 (by with_reducible assumption) ?_ | with_reducible refine Steady.fst (by with_reducible assumption) ?_ | dsimp only | split

theorem steady_dispatch {ρ : State} (s : State) (hρ : Steady ρ s) : Steady ρ (dispatch s) := by
  unfold dispatch
  repeat' first | with_reducible assumption | refine fun _ => ?_ | with_reducible apply steady_stippleEmit | with_reducible apply steady_creditBegin | with_reducible apply steady_usedShow | with_reducible apply steady_considerFrame | with_reducible apply Steady.ite | fail_if_no_progress (with_reducible refine Steady.mk' ?_ ?_ ?_ ?_ ?_ ?_ ?_; iterate 6 first | with_reducible rfl | (unfold setTransit; with_reducible rfl) | (split <;> with_reducible rfl) | (dsimp only; split <;> with_reducible rfl) | (focus (simp; done)) | fail) | with_reducible apply Steady.each | with_reducible apply Steady.foldl | with_reducible apply Steady.foldlSnd | dsimp only | split

end Sys2Proof.Machine
end

