-- ==== Sys2Proof/Laws/SteadyLedger.lean ====
section
/-! SUPPORT. What the operations of Machine/Ledger.lean keep (`Steady`). -/

namespace Sys2Proof.Machine

theorem steady_openAt {ρ : State} (w : Nat) (s : State) (hρ : Steady ρ s) : Steady ρ (openAt w s) := by
  unfold openAt
  repeat' first | with_reducible assumption | refine fun _ => ?_ | with_reducible apply steady_State_wrN | fail_if_no_progress (with_reducible refine Steady.mk' ?_ ?_ ?_ ?_ ?_ ?_ ?_; iterate 6 first | with_reducible rfl | (unfold setTransit; with_reducible rfl) | (split <;> with_reducible rfl) | (dsimp only; split <;> with_reducible rfl) | (focus (simp; done)) | fail) | dsimp only | split

theorem steady_takeSnapshot {ρ : State} (s : State) (hρ : Steady ρ s) : Steady ρ (takeSnapshot s) := by
  unfold takeSnapshot
  repeat' first | with_reducible assumption | refine fun _ => ?_ | with_reducible apply steady_State_wr | with_reducible apply steady_State_put | fail_if_no_progress (with_reducible refine Steady.mk' ?_ ?_ ?_ ?_ ?_ ?_ ?_; iterate 6 first | with_reducible rfl | (unfold setTransit; with_reducible rfl) | (split <;> with_reducible rfl) | (dsimp only; split <;> with_reducible rfl) | (focus (simp; done)) | fail) | with_reducible apply Steady.each | with_reducible refine Steady.snd (by with_reducible assumption) ?_ | with_reducible refine Steady.snd2 (by with_reducible assumption) ?_ | with_reducible refine Steady.fst (by with_reducible assumption) ?_ | dsimp only | split

theorem steady_closePeriod {ρ : State} (w : Nat) (s : State) (hρ : Steady ρ s) : Steady ρ (closePeriod w s) := by
  unfold closePeriod
  repeat' first | with_reducible assumption | refine fun _ => ?_ | with_reducible apply steady_State_raise | with_reducible apply steady_openAt | with_reducible apply steady_takeSnapshot | dsimp only | split

theorem steady_snapRelease {ρ : State} (w : Word) (s : State) (hρ : Steady ρ s) : Steady ρ (snapRelease w s) := by
  unfold snapRelease
  repeat' first | with_reducible assumption | refine fun _ => ?_ | with_reducible apply steady_State_put | with_reducible apply Steady.onlyIf | dsimp only | split

theorem steady_channelTimeAdd {ρ : State} (s : State) (hρ : Steady ρ s) : Steady ρ (channelTimeAdd s) := by
  unfold channelTimeAdd
  repeat' first | with_reducible assumption | refine fun _ => ?_ | with_reducible apply steady_ledgerAdd | with_reducible apply Steady.ite | fail_if_no_progress (with_reducible refine Steady.mk' ?_ ?_ ?_ ?_ ?_ ?_ ?_; iterate 6 first | with_reducible rfl | (unfold setTransit; with_reducible rfl) | (split <;> with_reducible rfl) | (dsimp only; split <;> with_reducible rfl) | (focus (simp; done)) | fail) | with_reducible apply Steady.each | with_reducible refine Steady.snd (by with_reducible assumption) ?_ | with_reducible refine Steady.snd2 (by with_reducible assumption) ?_ | with_reducible refine Steady.fst (by with_reducible assumption) ?_ | dsimp only | split

theorem steady_ledgerForward {ρ : State} (jump : Nat) (s : State) (hρ : Steady ρ s) : Steady ρ (ledgerForward jump s) := by
  unfold ledgerForward
  repeat' first | with_reducible assumption | refine fun _ => ?_ | fail_if_no_progress (with_reducible refine Steady.mk' ?_ ?_ ?_ ?_ ?_ ?_ ?_; iterate 6 first | with_reducible rfl | (unfold setTransit; with_reducible rfl) | (split <;> with_reducible rfl) | (dsimp only; split <;> with_reducible rfl) | (focus (simp; done)) | fail) | dsimp only | split

theorem steady_storeRecord {ρ : State} (d : Nat) (body : Bytes) (s : State) (hρ : Steady ρ s) : Steady ρ (storeRecord d body s) := by
  unfold storeRecord
  repeat' first | with_reducible assumption | refine fun _ => ?_ | with_reducible apply steady_State_setNvaRow | fail_if_no_progress (with_reducible refine Steady.mk' ?_ ?_ ?_ ?_ ?_ ?_ ?_; iterate 6 first | with_reducible rfl | (unfold setTransit; with_reducible rfl) | (split <;> with_reducible rfl) | (dsimp only; split <;> with_reducible rfl) | (focus (simp; done)) | fail) | with_reducible apply Steady.each | with_reducible refine Steady.snd (by with_reducible assumption) ?_ | with_reducible refine Steady.snd2 (by with_reducible assumption) ?_ | with_reducible refine Steady.fst (by with_reducible assumption) ?_ | dsimp only | split

theorem steady_emptyRun {ρ : State} (n : Nat) (m : Nat) (p : Nat) (flags : Nat) (s : State) (hρ : Steady ρ s) : Steady ρ (emptyRun n m p flags s) := by
  unfold emptyRun
  repeat' first | with_reducible assumption | refine fun _ => ?_ | with_reducible apply steady_storeRecord | with_reducible apply Steady.each | with_reducible apply Steady.onlyIf | dsimp only | split

theorem steady_periodClose {ρ : State} (s : State) (hρ : Steady ρ s) : Steady ρ (periodClose s) := by
  unfold periodClose
  repeat' first | with_reducible assumption | refine fun _ => ?_ | with_reducible apply steady_State_raise | with_reducible apply steady_closePeriod | with_reducible apply steady_emptyRun | with_reducible apply Steady.ite | fail_if_no_progress (with_reducible refine Steady.mk' ?_ ?_ ?_ ?_ ?_ ?_ ?_; iterate 6 first | with_reducible rfl | (unfold setTransit; with_reducible rfl) | (split <;> with_reducible rfl) | (dsimp only; split <;> with_reducible rfl) | (focus (simp; done)) | fail) | with_reducible apply Steady.onlyIf | dsimp only | split

theorem steady_finalRecord {ρ : State} (t : Nat) (s : State) (hρ : Steady ρ s) : Steady ρ (finalRecord t s) := by
  unfold finalRecord
  repeat' first | with_reducible assumption | refine fun _ => ?_ | with_reducible apply steady_storeRecord | with_reducible apply steady_State_zero | with_reducible apply Steady.ite | with_reducible refine Steady.snd (by with_reducible assumption) ?_ | with_reducible refine Steady.snd2 (by with_reducible assumption) ?_ | with_reducible refine Steady.fst (by with_reducible assumption) ?_ | dsimp only | split

theorem steady_setClockNow {ρ : State} (w : Nat) (s : State) (hρ : Steady ρ s) : Steady ρ (setClockNow w s) := by
  unfold setClockNow
  repeat' first | with_reducible assumption | refine fun _ => ?_ | with_reducible apply steady_State_put | with_reducible apply steady_State_raise | with_reducible apply steady_closePeriod | with_reducible apply steady_storeRecord | with_reducible apply steady_emptyRun | with_reducible apply Steady.ite | fail_if_no_progress (with_reducible refine Steady.mk' ?_ ?_ ?_ ?_ ?_ ?_ ?_; iterate 6 first | with_reducible rfl | (unfold setTransit; with_reducible rfl) | (split <;> with_reducible rfl) | (dsimp only; split <;> with_reducible rfl) | (focus (simp; done)) | fail) | with_reducible apply Steady.each | with_reducible apply Steady.onlyIf | dsimp only | split

theorem steady_setClockDue {ρ : State} (w : Nat) (s : State) (hρ : Steady ρ s) : Steady ρ (setClockDue w s) := by
  unfold setClockDue
  repeat' first | with_reducible assumption | refine fun _ => ?_ | fail_if_no_progress (with_reducible refine Steady.mk' ?_ ?_ ?_ ?_ ?_ ?_ ?_; iterate 6 first | with_reducible rfl | (unfold setTransit; with_reducible rfl) | (split <;> with_reducible rfl) | (dsimp only; split <;> with_reducible rfl) | (focus (simp; done)) | fail) | dsimp only | split

theorem steady_lgrSetGo {ρ : State} (w : Word) (s : State) (hρ : Steady ρ s) : Steady ρ (lgrSetGo w s) := by
  unfold lgrSetGo
  repeat' first | with_reducible assumption | refine fun _ => ?_ | with_reducible apply steady_setClockDue | with_reducible apply Steady.ite | dsimp only | split

theorem steady_lgrCfgWrite {ρ : State} (w : Word) (s : State) (hρ : Steady ρ s) : Steady ρ (lgrCfgWrite w s) := by
  unfold lgrCfgWrite
  repeat' first | with_reducible assumption | refine fun _ => ?_ | with_reducible apply steady_State_put | with_reducible apply Steady.ite | dsimp only | split

theorem steady_lgrEvtWrite {ρ : State} (w : Word) (s : State) (hρ : Steady ρ s) : Steady ρ (lgrEvtWrite w s) := by
  unfold lgrEvtWrite
  repeat' first | with_reducible assumption | refine fun _ => ?_ | with_reducible apply steady_State_wr | dsimp only | split

theorem steady_ledgerPeriod {ρ : State} (s : State) (hρ : Steady ρ s) : Steady ρ (ledgerPeriod s) := by
  unfold ledgerPeriod
  repeat' first | with_reducible assumption | refine fun _ => ?_ | with_reducible apply steady_periodClose | with_reducible apply steady_setClockNow | fail_if_no_progress (with_reducible refine Steady.mk' ?_ ?_ ?_ ?_ ?_ ?_ ?_; iterate 6 first | with_reducible rfl | (unfold setTransit; with_reducible rfl) | (split <;> with_reducible rfl) | (dsimp only; split <;> with_reducible rfl) | (focus (simp; done)) | fail) | with_reducible refine Steady.snd (by with_reducible assumption) ?_ | with_reducible refine Steady.snd2 (by with_reducible assumption) ?_ | with_reducible refine Steady.fst (by with_reducible assumption) ?_ | dsimp only | split

theorem steady_ledgerBoundary {ρ : State} (s : State) (hρ : Steady ρ s) : Steady ρ (ledgerBoundary s) := by
  unfold ledgerBoundary
  repeat' first | with_reducible assumption | refine fun _ => ?_ | with_reducible apply steady_channelTimeAdd | with_reducible apply steady_ledgerPeriod | dsimp only | split

theorem steady_checkpointStart {ρ : State} (b : Nat) (s : State) (hρ : Steady ρ s) : Steady ρ (checkpointStart b s) := by
  unfold checkpointStart
  repeat' first | with_reducible assumption | refine fun _ => ?_ | with_reducible apply steady_sendViaduct | with_reducible apply steady_startWork | with_reducible apply Steady.ite | with_reducible apply Steady.onlyIf | with_reducible apply SteadyDone.next | with_reducible apply SteadyDone.fault | with_reducible apply SteadyDone.after | with_reducible apply SteadyDone.ite | with_reducible refine SteadyDone.outNext (by with_reducible assumption) ?_ | with_reducible refine SteadyDone.outFault (by with_reducible assumption) ?_ | with_reducible refine SteadyDone.outAfter (by with_reducible assumption) ?_ | dsimp only | split

theorem steady_imageStart {ρ : State} (b : Nat) (s : State) (hρ : Steady ρ s) : Steady ρ (imageStart b s) := by
  unfold imageStart
  repeat' first | with_reducible assumption | refine fun _ => ?_ | with_reducible apply steady_startWork | with_reducible apply Steady.ite | fail_if_no_progress (with_reducible refine Steady.mk' ?_ ?_ ?_ ?_ ?_ ?_ ?_; iterate 6 first | with_reducible rfl | (unfold setTransit; with_reducible rfl) | (split <;> with_reducible rfl) | (dsimp only; split <;> with_reducible rfl) | (focus (simp; done)) | fail) | with_reducible refine Steady.snd (by with_reducible assumption) ?_ | with_reducible refine Steady.snd2 (by with_reducible assumption) ?_ | with_reducible refine Steady.fst (by with_reducible assumption) ?_ | dsimp only | split

theorem steady_restoreDomain {ρ : State} (d : Nat) (s : State) (hρ : Steady ρ s) : Steady ρ (restoreDomain d s) := by
  unfold restoreDomain
  repeat' first | with_reducible assumption | refine fun _ => ?_ | with_reducible apply steady_State_wrN | fail_if_no_progress (with_reducible refine Steady.mk' ?_ ?_ ?_ ?_ ?_ ?_ ?_; iterate 6 first | with_reducible rfl | (unfold setTransit; with_reducible rfl) | (split <;> with_reducible rfl) | (dsimp only; split <;> with_reducible rfl) | (focus (simp; done)) | fail) | with_reducible apply Steady.each | with_reducible refine Steady.snd (by with_reducible assumption) ?_ | with_reducible refine Steady.snd2 (by with_reducible assumption) ?_ | with_reducible refine Steady.fst (by with_reducible assumption) ?_ | dsimp only | split

theorem steady_gapRecords {ρ : State} (d : Nat) (n : Nat) (upTo : Nat) (wUp : Nat) (lost : List Nat) (s : State) (hρ : Steady ρ s) : Steady ρ (gapRecords d n upTo wUp lost s) := by
  unfold gapRecords
  repeat' first | with_reducible assumption | refine fun _ => ?_ | with_reducible apply steady_storeRecord | with_reducible apply steady_State_zero | with_reducible apply Steady.ite | with_reducible apply Steady.onlyIf | dsimp only | split

theorem steady_ledgerGap {ρ : State} (upTo : Nat) (wUp : Nat) (lost : List Nat) (s : State) (hρ : Steady ρ s) : Steady ρ (ledgerGap upTo wUp lost s) := by
  unfold ledgerGap
  repeat' first | with_reducible assumption | refine fun _ => ?_ | with_reducible apply steady_State_raise | with_reducible apply steady_openAt | with_reducible apply steady_gapRecords | with_reducible apply Steady.ite | with_reducible apply Steady.each | dsimp only | split

theorem steady_ledgerTakes {ρ : State} (anchorS : Nat) (anchorW : Nat) (n : Nat) (p : Nat) (valid : Bool) (s : State) (hρ : Steady ρ s) : Steady ρ (ledgerTakes anchorS anchorW n p valid s) := by
  unfold ledgerTakes
  repeat' first | with_reducible assumption | refine fun _ => ?_ | with_reducible apply steady_State_flag | with_reducible apply steady_restoreDomain | with_reducible apply steady_State_wrN | fail_if_no_progress (with_reducible refine Steady.mk' ?_ ?_ ?_ ?_ ?_ ?_ ?_; iterate 6 first | with_reducible rfl | (unfold setTransit; with_reducible rfl) | (split <;> with_reducible rfl) | (dsimp only; split <;> with_reducible rfl) | (focus (simp; done)) | fail) | with_reducible apply Steady.each | dsimp only | split

theorem steady_ledgerRestore {ρ : State} (s : State) (hρ : Steady ρ s) : Steady ρ (ledgerRestore s) := by
  unfold ledgerRestore
  repeat' first | with_reducible assumption | refine fun _ => ?_ | with_reducible apply steady_State_flag | with_reducible apply steady_ledgerGap | with_reducible apply steady_ledgerTakes | with_reducible apply Steady.ite | fail_if_no_progress (with_reducible refine Steady.mk' ?_ ?_ ?_ ?_ ?_ ?_ ?_; iterate 6 first | with_reducible rfl | (unfold setTransit; with_reducible rfl) | (split <;> with_reducible rfl) | (dsimp only; split <;> with_reducible rfl) | (focus (simp; done)) | fail) | with_reducible refine Steady.snd (by with_reducible assumption) ?_ | with_reducible refine Steady.snd2 (by with_reducible assumption) ?_ | with_reducible refine Steady.fst (by with_reducible assumption) ?_ | dsimp only | split

theorem steady_ledgerTakeover {ρ : State} (s : State) (hρ : Steady ρ s) : Steady ρ (ledgerTakeover s) := by
  unfold ledgerTakeover
  repeat' first | with_reducible assumption | refine fun _ => ?_ | with_reducible apply steady_ledgerGap | with_reducible apply steady_ledgerTakes | dsimp only | split

theorem steady_ledgerFollows {ρ : State} (before after : State) (hρ : Steady ρ after) : Steady ρ (ledgerFollows before after) := by
  unfold ledgerFollows
  exact Steady.ite (steady_ledgerTakeover _ hρ) hρ

end Sys2Proof.Machine
end

