-- ==== Sys2Proof/Laws/SteadyLifeCycle.lean ====
section
/-! SUPPORT. What the operations of Machine/LifeCycle.lean keep (`Steady`). -/

namespace Sys2Proof.Machine

theorem steady_lifeCycleRead {ρ : State} (s : State) (hρ : Steady ρ s) : Steady ρ (lifeCycleRead s) := by
  unfold lifeCycleRead
  repeat' first | with_reducible assumption | refine fun _ => ?_ | with_reducible apply steady_State_wr | with_reducible refine Steady.snd (by with_reducible assumption) ?_ | with_reducible refine Steady.snd2 (by with_reducible assumption) ?_ | with_reducible refine Steady.fst (by with_reducible assumption) ?_ | dsimp only | split

theorem steady_nextRefused {ρ : State} (e : Nat) (s : State) (hρ : Steady ρ s) : Steady ρ (nextRefused e s) := by
  unfold nextRefused
  repeat' first | with_reducible assumption | refine fun _ => ?_ | with_reducible apply steady_State_put | with_reducible apply steady_State_raise | dsimp only | split

theorem steady_requestTransition {ρ : State} (w : Word) (cause : Nat) (s : State) (hρ : Steady ρ s) : Steady ρ (requestTransition w cause s) := by
  unfold requestTransition
  repeat' first | with_reducible assumption | refine fun _ => ?_ | with_reducible apply steady_State_put | with_reducible apply steady_State_raise | with_reducible apply steady_nextRefused | with_reducible apply Steady.ite | fail_if_no_progress (with_reducible refine Steady.mk' ?_ ?_ ?_ ?_ ?_ ?_ ?_; iterate 6 first | with_reducible rfl | (unfold setTransit; with_reducible rfl) | (split <;> with_reducible rfl) | (dsimp only; split <;> with_reducible rfl) | (focus (simp; done)) | fail) | with_reducible refine Steady.snd (by with_reducible assumption) ?_ | with_reducible refine Steady.snd2 (by with_reducible assumption) ?_ | with_reducible refine Steady.fst (by with_reducible assumption) ?_ | dsimp only | split

theorem steady_stepOne {ρ : State} (s : State) (hρ : Steady ρ s) : Steady ρ (stepOne s) := by
  unfold stepOne
  repeat' first | with_reducible assumption | refine fun _ => ?_ | with_reducible apply steady_State_wr | with_reducible apply steady_State_put | fail_if_no_progress (with_reducible refine Steady.mk' ?_ ?_ ?_ ?_ ?_ ?_ ?_; iterate 6 first | with_reducible rfl | (unfold setTransit; with_reducible rfl) | (split <;> with_reducible rfl) | (dsimp only; split <;> with_reducible rfl) | (focus (simp; done)) | fail) | with_reducible apply Steady.each | dsimp only | split

theorem steady_lcsNextWrite {ρ : State} (w : Word) (s : State) (hρ : Steady ρ s) : Steady ρ (lcsNextWrite w s) := by
  unfold lcsNextWrite
  repeat' first | with_reducible assumption | refine fun _ => ?_ | with_reducible apply steady_State_wr | with_reducible apply steady_abandon | with_reducible apply steady_nextRefused | with_reducible apply steady_requestTransition | with_reducible apply steady_stepOne | with_reducible apply Steady.ite | fail_if_no_progress (with_reducible refine Steady.mk' ?_ ?_ ?_ ?_ ?_ ?_ ?_; iterate 6 first | with_reducible rfl | (unfold setTransit; with_reducible rfl) | (split <;> with_reducible rfl) | (dsimp only; split <;> with_reducible rfl) | (focus (simp; done)) | fail) | with_reducible refine Steady.snd (by with_reducible assumption) ?_ | with_reducible refine Steady.snd2 (by with_reducible assumption) ?_ | with_reducible refine Steady.fst (by with_reducible assumption) ?_ | dsimp only | split

theorem steady_eraseClass {ρ : State} (first : Nat) (n : Nat) (s : State) (hρ : Steady ρ s) : Steady ρ (eraseClass first n s) := by
  unfold eraseClass
  repeat' first | with_reducible assumption | refine fun _ => ?_ | with_reducible apply steady_eraseSector | with_reducible apply Steady.each | dsimp only | split

theorem steady_logBoth {ρ : State} (row : Nat) (d : BitVec 168) (s : State) (hρ : Steady ρ s) : Steady ρ (logBoth row d s) := by
  unfold logBoth
  repeat' first | with_reducible assumption | refine fun _ => ?_ | with_reducible apply steady_State_setNvaRow | with_reducible apply Steady.each | dsimp only | split

theorem steady_programCopies {ρ : State} (r : Nat) (w : Word) (s : State) (hρ : Steady ρ s) : Steady ρ (programCopies r w s) := by
  unfold programCopies
  repeat' first | with_reducible assumption | refine fun _ => ?_ | with_reducible apply steady_State_setNvaRow | with_reducible apply Steady.ite | with_reducible apply Steady.each | with_reducible refine Steady.snd (by with_reducible assumption) ?_ | with_reducible refine Steady.snd2 (by with_reducible assumption) ?_ | with_reducible refine Steady.fst (by with_reducible assumption) ?_ | dsimp only | split

theorem steady_levelShow {ρ : State} (s : State) (hρ : Steady ρ s) : Steady ρ (levelShow s) := by
  unfold levelShow
  repeat' first | with_reducible assumption | refine fun _ => ?_ | with_reducible apply steady_State_put | with_reducible apply Steady.ite | dsimp only | split

theorem steady_certOn {ρ : State} (s : State) (hρ : Steady ρ s) : Steady ρ (certOn s) := by
  unfold certOn
  repeat' first | with_reducible assumption | refine fun _ => ?_ | with_reducible apply steady_State_wr | with_reducible apply steady_State_put | with_reducible apply steady_State_raise | with_reducible apply steady_State_wrN | fail_if_no_progress (with_reducible refine Steady.mk' ?_ ?_ ?_ ?_ ?_ ?_ ?_; iterate 6 first | with_reducible rfl | (unfold setTransit; with_reducible rfl) | (split <;> with_reducible rfl) | (dsimp only; split <;> with_reducible rfl) | (focus (simp; done)) | fail) | with_reducible refine Steady.snd (by with_reducible assumption) ?_ | with_reducible refine Steady.snd2 (by with_reducible assumption) ?_ | with_reducible refine Steady.fst (by with_reducible assumption) ?_ | dsimp only | split

theorem steady_lcsEvtWrite {ρ : State} (w : Word) (s : State) (hρ : Steady ρ s) : Steady ρ (lcsEvtWrite w s) := by
  unfold lcsEvtWrite
  repeat' first | with_reducible assumption | refine fun _ => ?_ | with_reducible apply steady_State_wr | dsimp only | split

theorem steady_dbgEvtWrite {ρ : State} (w : Word) (s : State) (hρ : Steady ρ s) : Steady ρ (dbgEvtWrite w s) := by
  unfold dbgEvtWrite
  repeat' first | with_reducible assumption | refine fun _ => ?_ | with_reducible apply steady_State_wr | dsimp only | split

end Sys2Proof.Machine
end

