-- ==== Sys2Proof/Laws/SteadySetup.lean ====
section
/-! SUPPORT. What the operations of Machine/Setup.lean keep (`Steady`). -/

namespace Sys2Proof.Machine

theorem steady_effectiveStroke {ρ : State} (e : Effective) (dom : Nat) (s : State) (hρ : Steady ρ s) : Steady ρ (effectiveStroke e dom s).2 := by
  unfold effectiveStroke
  repeat' first | with_reducible assumption | refine fun _ => ?_ | with_reducible apply steady_State_pmcEvent | with_reducible apply Steady.ite | fail_if_no_progress (with_reducible refine Steady.mk' ?_ ?_ ?_ ?_ ?_ ?_ ?_; iterate 6 first | with_reducible rfl | (unfold setTransit; with_reducible rfl) | (split <;> with_reducible rfl) | (dsimp only; split <;> with_reducible rfl) | (focus (simp; done)) | fail) | with_reducible refine Steady.snd (by with_reducible assumption) ?_ | with_reducible refine Steady.snd2 (by with_reducible assumption) ?_ | with_reducible refine Steady.fst (by with_reducible assumption) ?_ | dsimp only | split

theorem steady_mirrorChange {ρ : State} (c : Pending) (s : State) (hρ : Steady ρ s) : Steady ρ (mirrorChange c s) := by
  unfold mirrorChange
  repeat' first | with_reducible assumption | refine fun _ => ?_ | with_reducible apply steady_State_count | with_reducible apply steady_sendViaduct | with_reducible apply Steady.ite | fail_if_no_progress (with_reducible refine Steady.mk' ?_ ?_ ?_ ?_ ?_ ?_ ?_; iterate 6 first | with_reducible rfl | (unfold setTransit; with_reducible rfl) | (split <;> with_reducible rfl) | (dsimp only; split <;> with_reducible rfl) | (focus (simp; done)) | fail) | with_reducible refine Steady.snd (by with_reducible assumption) ?_ | with_reducible refine Steady.snd2 (by with_reducible assumption) ?_ | with_reducible refine Steady.fst (by with_reducible assumption) ?_ | with_reducible apply SteadyDone.next | with_reducible apply SteadyDone.fault | with_reducible apply SteadyDone.after | with_reducible apply SteadyDone.ite | with_reducible refine SteadyDone.outNext (by with_reducible assumption) ?_ | with_reducible refine SteadyDone.outFault (by with_reducible assumption) ?_ | with_reducible refine SteadyDone.outAfter (by with_reducible assumption) ?_ | dsimp only | split

theorem steady_writeChange {ρ : State} (kind : Nat) (num : Nat) (c : Change) (e : Effective) (dom : Nat) (s : State) (hρ : Steady ρ s) : Steady ρ (writeChange kind num c e dom s) := by
  unfold writeChange
  repeat' first | with_reducible assumption | refine fun _ => ?_ | with_reducible apply steady_State_raise | with_reducible apply steady_requestPlate | with_reducible apply steady_effectiveStroke | with_reducible apply steady_mirrorChange | with_reducible apply Steady.ite | fail_if_no_progress (with_reducible refine Steady.mk' ?_ ?_ ?_ ?_ ?_ ?_ ?_; iterate 6 first | with_reducible rfl | (unfold setTransit; with_reducible rfl) | (split <;> with_reducible rfl) | (dsimp only; split <;> with_reducible rfl) | (focus (simp; done)) | fail) | with_reducible apply Steady.each | with_reducible refine Steady.snd (by with_reducible assumption) ?_ | with_reducible refine Steady.snd2 (by with_reducible assumption) ?_ | with_reducible refine Steady.fst (by with_reducible assumption) ?_ | dsimp only | split

theorem steady_openChannel {ρ : State} (c : Nat) (r : Chan) (s : State) (hρ : Steady ρ s) : Steady ρ (openChannel c r s) := by
  unfold openChannel
  repeat' first | with_reducible assumption | refine fun _ => ?_ | with_reducible apply steady_State_wr | with_reducible apply steady_setLayout | with_reducible apply Steady.ite | fail_if_no_progress (with_reducible refine Steady.mk' ?_ ?_ ?_ ?_ ?_ ?_ ?_; iterate 6 first | with_reducible rfl | (unfold setTransit; with_reducible rfl) | (split <;> with_reducible rfl) | (dsimp only; split <;> with_reducible rfl) | (focus (simp; done)) | fail) | with_reducible refine Steady.snd (by with_reducible assumption) ?_ | with_reducible refine Steady.snd2 (by with_reducible assumption) ?_ | with_reducible refine Steady.fst (by with_reducible assumption) ?_ | dsimp only | split

theorem steady_unstipple {ρ : State} (c : Nat) (s : State) (hρ : Steady ρ s) : Steady ρ (unstipple c s) := by
  unfold unstipple
  repeat' first | with_reducible assumption | refine fun _ => ?_ | with_reducible apply steady_State_setPlateWord | with_reducible apply steady_State_putPlate | with_reducible apply steady_dirtyPlate | with_reducible apply steady_leavePinned | with_reducible apply Steady.ite | with_reducible apply Steady.each | with_reducible refine Steady.snd (by with_reducible assumption) ?_ | with_reducible refine Steady.snd2 (by with_reducible assumption) ?_ | with_reducible refine Steady.fst (by with_reducible assumption) ?_ | dsimp only | split

theorem steady_closeChannel {ρ : State} (c : Nat) (s : State) (hρ : Steady ρ s) : Steady ρ (closeChannel c s) := by
  unfold closeChannel
  repeat' first | with_reducible assumption | refine fun _ => ?_ | with_reducible apply steady_State_wr | with_reducible apply steady_setLayout | with_reducible apply steady_unstipple | with_reducible apply Steady.ite | fail_if_no_progress (with_reducible refine Steady.mk' ?_ ?_ ?_ ?_ ?_ ?_ ?_; iterate 6 first | with_reducible rfl | (unfold setTransit; with_reducible rfl) | (split <;> with_reducible rfl) | (dsimp only; split <;> with_reducible rfl) | (focus (simp; done)) | fail) | with_reducible refine Steady.snd (by with_reducible assumption) ?_ | with_reducible refine Steady.snd2 (by with_reducible assumption) ?_ | with_reducible refine Steady.fst (by with_reducible assumption) ?_ | dsimp only | split

theorem steady_setChannel {ρ : State} (c : Nat) (r : Chan) (s : State) (hρ : Steady ρ s) : Steady ρ (setChannel c r s) := by
  unfold setChannel
  repeat' first | with_reducible assumption | refine fun _ => ?_ | fail_if_no_progress (with_reducible refine Steady.mk' ?_ ?_ ?_ ?_ ?_ ?_ ?_; iterate 6 first | with_reducible rfl | (unfold setTransit; with_reducible rfl) | (split <;> with_reducible rfl) | (dsimp only; split <;> with_reducible rfl) | (focus (simp; done)) | fail) | dsimp only | split

theorem steady_bindPlate {ρ : State} (p : Nat) (l : List Word) (txCurrent : Bool) (s : State) (hρ : Steady ρ s) : Steady ρ (bindPlate p l txCurrent s) := by
  unfold bindPlate
  repeat' first | with_reducible assumption | refine fun _ => ?_ | with_reducible apply steady_enterPinned | with_reducible apply steady_setChannel | with_reducible apply Steady.ite | fail_if_no_progress (with_reducible refine Steady.mk' ?_ ?_ ?_ ?_ ?_ ?_ ?_; iterate 6 first | with_reducible rfl | (unfold setTransit; with_reducible rfl) | (split <;> with_reducible rfl) | (dsimp only; split <;> with_reducible rfl) | (focus (simp; done)) | fail) | with_reducible refine Steady.snd (by with_reducible assumption) ?_ | with_reducible refine Steady.snd2 (by with_reducible assumption) ?_ | with_reducible refine Steady.fst (by with_reducible assumption) ?_ | dsimp only | split

theorem steady_noteReservation {ρ : State} (p : Nat) (l : List Word) (s : State) (hρ : Steady ρ s) : Steady ρ (noteReservation p l s) := by
  unfold noteReservation
  repeat' first | with_reducible assumption | refine fun _ => ?_ | with_reducible apply Steady.ite | fail_if_no_progress (with_reducible refine Steady.mk' ?_ ?_ ?_ ?_ ?_ ?_ ?_; iterate 6 first | with_reducible rfl | (unfold setTransit; with_reducible rfl) | (split <;> with_reducible rfl) | (dsimp only; split <;> with_reducible rfl) | (focus (simp; done)) | fail) | dsimp only | split

theorem steady_applyPlate {ρ : State} (c : Change) (eff : Option Nat) (s : State) (hρ : Steady ρ s) : Steady ρ (applyPlate c eff s) := by
  unfold applyPlate
  repeat' first | with_reducible assumption | refine fun _ => ?_ | with_reducible apply steady_State_putPlate | with_reducible apply steady_dirtyPlate | with_reducible apply steady_makeResident | with_reducible apply steady_leavePinned | with_reducible apply steady_enterPinned | with_reducible apply steady_installEffect | with_reducible apply steady_retireEffect | with_reducible apply steady_recycleEffect | with_reducible apply steady_plateVoid | with_reducible apply steady_bindPlate | with_reducible apply steady_noteReservation | with_reducible apply Steady.ite | fail_if_no_progress (with_reducible refine Steady.mk' ?_ ?_ ?_ ?_ ?_ ?_ ?_; iterate 6 first | with_reducible rfl | (unfold setTransit; with_reducible rfl) | (split <;> with_reducible rfl) | (dsimp only; split <;> with_reducible rfl) | (focus (simp; done)) | fail) | with_reducible refine Steady.snd (by with_reducible assumption) ?_ | with_reducible refine Steady.snd2 (by with_reducible assumption) ?_ | with_reducible refine Steady.fst (by with_reducible assumption) ?_ | dsimp only | split

theorem steady_applyChange {ρ : State} (c : Change) (eff : Option Nat) (s : State) (hρ : Steady ρ s) : Steady ρ (applyChange c eff s) := by
  unfold applyChange
  repeat' first | with_reducible assumption | refine fun _ => ?_ | with_reducible apply steady_State_wr | with_reducible apply steady_State_put | with_reducible apply steady_eventVector | with_reducible apply steady_destroyObject | with_reducible apply steady_jobAbortWrite | with_reducible apply steady_recycleEffect | with_reducible apply steady_ownDeckLimit | with_reducible apply steady_setLayout | with_reducible apply steady_openChannel | with_reducible apply steady_closeChannel | with_reducible apply steady_setChannel | with_reducible apply steady_applyPlate | with_reducible apply steady_State_zero | with_reducible apply Steady.ite | fail_if_no_progress (with_reducible refine Steady.mk' ?_ ?_ ?_ ?_ ?_ ?_ ?_; iterate 6 first | with_reducible rfl | (unfold setTransit; with_reducible rfl) | (split <;> with_reducible rfl) | (dsimp only; split <;> with_reducible rfl) | (focus (simp; done)) | fail) | with_reducible apply Steady.each | with_reducible apply Steady.onlyIf | with_reducible refine Steady.snd (by with_reducible assumption) ?_ | with_reducible refine Steady.snd2 (by with_reducible assumption) ?_ | with_reducible refine Steady.fst (by with_reducible assumption) ?_ | dsimp only | split

theorem steady_applyDue {ρ : State} (p : Pending → Bool) (s : State) (hρ : Steady ρ s) : Steady ρ (applyDue p s) := by
  unfold applyDue
  repeat' first | with_reducible assumption | refine fun _ => ?_ | with_reducible apply steady_State_pmcEvent | with_reducible apply steady_applyChange | fail_if_no_progress (with_reducible refine Steady.mk' ?_ ?_ ?_ ?_ ?_ ?_ ?_; iterate 6 first | with_reducible rfl | (unfold setTransit; with_reducible rfl) | (split <;> with_reducible rfl) | (dsimp only; split <;> with_reducible rfl) | (focus (simp; done)) | fail) | with_reducible apply Steady.each | with_reducible refine Steady.snd (by with_reducible assumption) ?_ | with_reducible refine Steady.snd2 (by with_reducible assumption) ?_ | with_reducible refine Steady.fst (by with_reducible assumption) ?_ | dsimp only | split

theorem steady_switchDone {ρ : State} (k : Nat) (s : State) (hρ : Steady ρ s) : Steady ρ (switchDone k s) := by
  unfold switchDone
  repeat' first | with_reducible assumption | refine fun _ => ?_ | with_reducible apply steady_State_put | with_reducible apply steady_planSwitch | with_reducible apply Steady.ite | dsimp only | split

theorem steady_contentEffect {ρ : State} (ks : List Nat) (s : State) (hρ : Steady ρ s) : Steady ρ (contentEffect ks s) := by
  unfold contentEffect
  repeat' first | with_reducible assumption | refine fun _ => ?_ | with_reducible apply steady_applyDue | with_reducible apply steady_switchDone | with_reducible apply Steady.each | with_reducible apply SteadyDone.next | with_reducible apply SteadyDone.fault | with_reducible apply SteadyDone.after | with_reducible apply SteadyDone.ite | with_reducible refine SteadyDone.outNext (by with_reducible assumption) ?_ | with_reducible refine SteadyDone.outFault (by with_reducible assumption) ?_ | with_reducible refine SteadyDone.outAfter (by with_reducible assumption) ?_ | dsimp only | split

theorem steady_setupEffect {ρ : State} (s : State) (hρ : Steady ρ s) : Steady ρ (setupEffect s) := by
  unfold setupEffect
  repeat' first | with_reducible assumption | refine fun _ => ?_ | with_reducible apply steady_contentEffect | dsimp only | split

theorem steady_plateChangeEffect {ρ : State} (p : Nat) (s : State) (hρ : Steady ρ s) : Steady ρ (plateChangeEffect p s) := by
  unfold plateChangeEffect
  repeat' first | with_reducible assumption | refine fun _ => ?_ | with_reducible apply steady_applyDue | with_reducible apply Steady.ite | dsimp only | split

theorem steady_dropSlot {ρ : State} (k : Nat) (s : State) (hρ : Steady ρ s) : Steady ρ (dropSlot k s) := by
  unfold dropSlot
  repeat' first | with_reducible assumption | refine fun _ => ?_ | fail_if_no_progress (with_reducible refine Steady.mk' ?_ ?_ ?_ ?_ ?_ ?_ ?_; iterate 6 first | with_reducible rfl | (unfold setTransit; with_reducible rfl) | (split <;> with_reducible rfl) | (dsimp only; split <;> with_reducible rfl) | (focus (simp; done)) | fail) | dsimp only | split

theorem steady_cancelSlot {ρ : State} (k : Nat) (cause : Nat) (s : State) (hρ : Steady ρ s) : Steady ρ (cancelSlot k cause s) := by
  unfold cancelSlot
  repeat' first | with_reducible assumption | refine fun _ => ?_ | with_reducible apply steady_swCancel | with_reducible apply steady_dropSlot | dsimp only | split

theorem steady_switchDecision {ρ : State} (k : Nat) (s : State) (hρ : Steady ρ s) : Steady ρ (switchDecision k s) := by
  unfold switchDecision
  repeat' first | with_reducible assumption | refine fun _ => ?_ | with_reducible apply steady_swCommit | with_reducible apply steady_swMiss | with_reducible apply steady_dropSlot | fail_if_no_progress (with_reducible refine Steady.mk' ?_ ?_ ?_ ?_ ?_ ?_ ?_; iterate 6 first | with_reducible rfl | (unfold setTransit; with_reducible rfl) | (split <;> with_reducible rfl) | (dsimp only; split <;> with_reducible rfl) | (focus (simp; done)) | fail) | with_reducible refine Steady.snd (by with_reducible assumption) ?_ | with_reducible refine Steady.snd2 (by with_reducible assumption) ?_ | with_reducible refine Steady.fst (by with_reducible assumption) ?_ | dsimp only | split

theorem steady_switchStroke {ρ : State} (k : Nat) (s : State) (hρ : Steady ρ s) : Steady ρ (switchStroke k s) := by
  unfold switchStroke
  repeat' first | with_reducible assumption | refine fun _ => ?_ | with_reducible apply steady_contentEffect | with_reducible apply Steady.ite | dsimp only | split

theorem steady_switchAck {ρ : State} (k : Nat) (i : Nat) (s : State) (hρ : Steady ρ s) : Steady ρ (switchAck k i s) := by
  unfold switchAck
  repeat' first | with_reducible assumption | refine fun _ => ?_ | with_reducible apply steady_swAck | with_reducible apply Steady.ite | dsimp only | split

theorem steady_setupCommand {ρ : State} (c : Caller) (f : State → State) (s : State) (hf : ∀ x0, Steady ρ x0 → Steady ρ (f x0)) (hρ : Steady ρ s) : Steady ρ (setupCommand c f s) := by
  unfold setupCommand
  repeat' first | with_reducible assumption | refine fun _ => ?_ | with_reducible apply hf | with_reducible apply steady_finish | with_reducible apply Steady.ite | dsimp only | split

theorem steady_spanRefusal {ρ : State} (ch : Change) (st : Nat) (s : State) (hρ : Steady ρ s) : Steady ρ (spanRefusal ch st s) := by
  unfold spanRefusal
  repeat' first | with_reducible assumption | refine fun _ => ?_ | with_reducible apply steady_State_raise | fail_if_no_progress (with_reducible refine Steady.mk' ?_ ?_ ?_ ?_ ?_ ?_ ?_; iterate 6 first | with_reducible rfl | (unfold setTransit; with_reducible rfl) | (split <;> with_reducible rfl) | (dsimp only; split <;> with_reducible rfl) | (focus (simp; done)) | fail) | with_reducible apply Steady.onlyIf | with_reducible refine Steady.snd (by with_reducible assumption) ?_ | with_reducible refine Steady.snd2 (by with_reducible assumption) ?_ | with_reducible refine Steady.fst (by with_reducible assumption) ?_ | dsimp only | split

theorem steady_channelOpen {ρ : State} (c : Caller) (e : Effective) (a : ChannelArgs) (s : State) (hρ : Steady ρ s) : Steady ρ (channelOpen c e a s) := by
  unfold channelOpen
  repeat' first | with_reducible assumption | refine fun _ => ?_ | with_reducible apply steady_State_useFree | with_reducible apply steady_finish | with_reducible apply steady_writeChange | with_reducible apply steady_setupCommand | with_reducible apply steady_spanRefusal | with_reducible apply Steady.ite | with_reducible refine Steady.snd (by with_reducible assumption) ?_ | with_reducible refine Steady.snd2 (by with_reducible assumption) ?_ | with_reducible refine Steady.fst (by with_reducible assumption) ?_ | dsimp only | split

theorem steady_chanCommand {ρ : State} (c : Caller) (e : Effective) (n : Nat) (ch : Change) (s : State) (hρ : Steady ρ s) : Steady ρ (chanCommand c e n ch s) := by
  unfold chanCommand
  repeat' first | with_reducible assumption | refine fun _ => ?_ | with_reducible apply steady_finish | with_reducible apply steady_effectiveStroke | with_reducible apply steady_writeChange | with_reducible apply steady_setupCommand | with_reducible apply steady_spanRefusal | with_reducible apply Steady.ite | fail_if_no_progress (with_reducible refine Steady.mk' ?_ ?_ ?_ ?_ ?_ ?_ ?_; iterate 6 first | with_reducible rfl | (unfold setTransit; with_reducible rfl) | (split <;> with_reducible rfl) | (dsimp only; split <;> with_reducible rfl) | (focus (simp; done)) | fail) | with_reducible refine Steady.snd (by with_reducible assumption) ?_ | with_reducible refine Steady.snd2 (by with_reducible assumption) ?_ | with_reducible refine Steady.fst (by with_reducible assumption) ?_ | dsimp only | split

theorem steady_plateInstall {ρ : State} (c : Caller) (e : Effective) (a : InstallArgs) (s : State) (hρ : Steady ρ s) : Steady ρ (plateInstall c e a s) := by
  unfold plateInstall
  repeat' first | with_reducible assumption | refine fun _ => ?_ | with_reducible apply steady_State_raise | with_reducible apply steady_finish | with_reducible apply steady_keyRefuse | with_reducible apply steady_writeChange | with_reducible apply steady_setupCommand | with_reducible apply Steady.ite | fail_if_no_progress (with_reducible refine Steady.mk' ?_ ?_ ?_ ?_ ?_ ?_ ?_; iterate 6 first | with_reducible rfl | (unfold setTransit; with_reducible rfl) | (split <;> with_reducible rfl) | (dsimp only; split <;> with_reducible rfl) | (focus (simp; done)) | fail) | with_reducible apply Steady.onlyIf | with_reducible refine Steady.snd (by with_reducible assumption) ?_ | with_reducible refine Steady.snd2 (by with_reducible assumption) ?_ | with_reducible refine Steady.fst (by with_reducible assumption) ?_ | dsimp only | split

theorem steady_plateCommand {ρ : State} (c : Caller) (e : Effective) (p : Nat) (ch : Change) (check : State → Nat → Nat) (s : State) (hρ : Steady ρ s) : Steady ρ (plateCommand c e p ch check s) := by
  unfold plateCommand
  repeat' first | with_reducible assumption | refine fun _ => ?_ | with_reducible apply steady_finish | with_reducible apply steady_writeChange | with_reducible apply steady_setupCommand | with_reducible apply Steady.ite | dsimp only | split

theorem steady_plateRead {ρ : State} (c : Caller) (p : Nat) (s : State) (hρ : Steady ρ s) : Steady ρ (plateRead c p s) := by
  unfold plateRead
  repeat' first | with_reducible assumption | refine fun _ => ?_ | with_reducible apply steady_finish | with_reducible apply steady_requestPlate | with_reducible apply Steady.ite | dsimp only | split

theorem steady_clearClassSet {ρ : State} (c : Caller) (e : Effective) (side : Nat) (k : Nat) (mtch : Word) (act : Word) (da : BitVec 48) (s : State) (hρ : Steady ρ s) : Steady ρ (clearClassSet c e side k mtch act da s) := by
  unfold clearClassSet
  repeat' first | with_reducible assumption | refine fun _ => ?_ | with_reducible apply steady_finish | with_reducible apply steady_writeChange | with_reducible apply steady_setupCommand | with_reducible apply Steady.ite | dsimp only | split

theorem steady_switchArm {ρ : State} (c : Caller) (t : StrokeTime) (kind : Nat) (s : State) (hρ : Steady ρ s) : Steady ρ (switchArm c t kind s) := by
  unfold switchArm
  repeat' first | with_reducible assumption | refine fun _ => ?_ | with_reducible apply steady_State_wr | with_reducible apply steady_State_put | with_reducible apply steady_swArm | with_reducible apply steady_finish | with_reducible apply steady_State_zero | with_reducible apply Steady.ite | fail_if_no_progress (with_reducible refine Steady.mk' ?_ ?_ ?_ ?_ ?_ ?_ ?_; iterate 6 first | with_reducible rfl | (unfold setTransit; with_reducible rfl) | (split <;> with_reducible rfl) | (dsimp only; split <;> with_reducible rfl) | (focus (simp; done)) | fail) | with_reducible refine Steady.snd (by with_reducible assumption) ?_ | with_reducible refine Steady.snd2 (by with_reducible assumption) ?_ | with_reducible refine Steady.fst (by with_reducible assumption) ?_ | dsimp only | split

theorem steady_switchCancel {ρ : State} (c : Caller) (k : Nat) (s : State) (hρ : Steady ρ s) : Steady ρ (switchCancel c k s) := by
  unfold switchCancel
  repeat' first | with_reducible assumption | refine fun _ => ?_ | with_reducible apply steady_swCancelWrite | with_reducible apply steady_finish | with_reducible apply Steady.ite | fail_if_no_progress (with_reducible refine Steady.mk' ?_ ?_ ?_ ?_ ?_ ?_ ?_; iterate 6 first | with_reducible rfl | (unfold setTransit; with_reducible rfl) | (split <;> with_reducible rfl) | (dsimp only; split <;> with_reducible rfl) | (focus (simp; done)) | fail) | with_reducible refine Steady.snd (by with_reducible assumption) ?_ | with_reducible refine Steady.snd2 (by with_reducible assumption) ?_ | with_reducible refine Steady.fst (by with_reducible assumption) ?_ | dsimp only | split

end Sys2Proof.Machine
end

