-- ==== Sys2Proof/Laws/SteadyCommands.lean ====
section
/-! SUPPORT. What the operations of Machine/Commands.lean keep (`Steady`). -/

namespace Sys2Proof.Machine

theorem steady_notStarted {ρ : State} (c : Caller) (s : State) (hρ : Steady ρ s) : Steady ρ (notStarted c s) := by
  unfold notStarted
  repeat' first | with_reducible assumption | refine fun _ => ?_ | with_reducible apply Steady.ite | fail_if_no_progress (with_reducible refine Steady.mk' ?_ ?_ ?_ ?_ ?_ ?_ ?_; iterate 6 first | with_reducible rfl | (unfold setTransit; with_reducible rfl) | (split <;> with_reducible rfl) | (dsimp only; split <;> with_reducible rfl) | (focus (simp; done)) | fail) | with_reducible refine Steady.snd (by with_reducible assumption) ?_ | with_reducible refine Steady.snd2 (by with_reducible assumption) ?_ | with_reducible refine Steady.fst (by with_reducible assumption) ?_ | with_reducible apply Steady.id' | dsimp only | split

theorem steady_cmdAbort {ρ : State} (c : Caller) (tag : BitVec 32) (s : State) (hρ : Steady ρ s) : Steady ρ (cmdAbort c tag s) := by
  unfold cmdAbort
  repeat' first | with_reducible assumption | refine fun _ => ?_ | with_reducible apply steady_State_updGrv | with_reducible apply steady_jobAbortWrite | with_reducible apply Steady.ite | fail_if_no_progress (with_reducible refine Steady.mk' ?_ ?_ ?_ ?_ ?_ ?_ ?_; iterate 6 first | with_reducible rfl | (unfold setTransit; with_reducible rfl) | (split <;> with_reducible rfl) | (dsimp only; split <;> with_reducible rfl) | (focus (simp; done)) | fail) | with_reducible refine Steady.snd (by with_reducible assumption) ?_ | with_reducible refine Steady.snd2 (by with_reducible assumption) ?_ | with_reducible refine Steady.fst (by with_reducible assumption) ?_ | with_reducible apply Steady.id' | dsimp only | split

theorem steady_abortDecide {ρ : State} (c : Caller) (tag : BitVec 32) (s : State) (hρ : Steady ρ s) : Steady ρ (abortDecide c tag s) := by
  unfold abortDecide
  repeat' first | with_reducible assumption | refine fun _ => ?_ | with_reducible apply steady_completeHost | with_reducible apply steady_finishEnd | with_reducible apply steady_quorumCancel | with_reducible apply steady_State_updGrv | with_reducible apply steady_jobAbortWrite | with_reducible apply Steady.ite | fail_if_no_progress (with_reducible refine Steady.mk' ?_ ?_ ?_ ?_ ?_ ?_ ?_; iterate 6 first | with_reducible rfl | (unfold setTransit; with_reducible rfl) | (split <;> with_reducible rfl) | (dsimp only; split <;> with_reducible rfl) | (focus (simp; done)) | fail) | with_reducible refine Steady.snd (by with_reducible assumption) ?_ | with_reducible refine Steady.snd2 (by with_reducible assumption) ?_ | with_reducible refine Steady.fst (by with_reducible assumption) ?_ | with_reducible apply SteadyDone.next | with_reducible apply SteadyDone.fault | with_reducible apply SteadyDone.after | with_reducible apply SteadyDone.ite | with_reducible refine SteadyDone.outNext (by with_reducible assumption) ?_ | with_reducible refine SteadyDone.outFault (by with_reducible assumption) ?_ | with_reducible refine SteadyDone.outAfter (by with_reducible assumption) ?_ | with_reducible apply Steady.id' | dsimp only | split

theorem steady_abortsDecide {ρ : State} (s : State) (hρ : Steady ρ s) : Steady ρ (abortsDecide s) := by
  unfold abortsDecide
  repeat' first | with_reducible assumption | refine fun _ => ?_ | with_reducible apply steady_abortDecide | with_reducible apply Steady.ite | fail_if_no_progress (with_reducible refine Steady.mk' ?_ ?_ ?_ ?_ ?_ ?_ ?_; iterate 6 first | with_reducible rfl | (unfold setTransit; with_reducible rfl) | (split <;> with_reducible rfl) | (dsimp only; split <;> with_reducible rfl) | (focus (simp; done)) | fail) | with_reducible apply Steady.each | with_reducible refine Steady.snd (by with_reducible assumption) ?_ | with_reducible refine Steady.snd2 (by with_reducible assumption) ?_ | with_reducible refine Steady.fst (by with_reducible assumption) ?_ | with_reducible apply Steady.id' | dsimp only | split

theorem steady_cmdLost {ρ : State} (c : Caller) (s : State) (hρ : Steady ρ s) : Steady ρ (cmdLost c s) := by
  unfold cmdLost
  repeat' first | with_reducible assumption | refine fun _ => ?_ | with_reducible apply steady_finish | with_reducible apply Steady.ite | fail_if_no_progress (with_reducible refine Steady.mk' ?_ ?_ ?_ ?_ ?_ ?_ ?_; iterate 6 first | with_reducible rfl | (unfold setTransit; with_reducible rfl) | (split <;> with_reducible rfl) | (dsimp only; split <;> with_reducible rfl) | (focus (simp; done)) | fail) | with_reducible refine Steady.snd (by with_reducible assumption) ?_ | with_reducible refine Steady.snd2 (by with_reducible assumption) ?_ | with_reducible refine Steady.fst (by with_reducible assumption) ?_ | with_reducible apply Steady.id' | dsimp only | split

theorem steady_persistObject {ρ : State} (i : Nat) (s : State) (hρ : Steady ρ s) : Steady ρ (persistObject i s) := by
  unfold persistObject
  repeat' first | with_reducible assumption | refine fun _ => ?_ | with_reducible apply steady_State_wr | with_reducible apply steady_State_put | with_reducible apply steady_State_setSlot | with_reducible apply steady_resealObject | fail_if_no_progress (with_reducible refine Steady.mk' ?_ ?_ ?_ ?_ ?_ ?_ ?_; iterate 6 first | with_reducible rfl | (unfold setTransit; with_reducible rfl) | (split <;> with_reducible rfl) | (dsimp only; split <;> with_reducible rfl) | (focus (simp; done)) | fail) | with_reducible apply Steady.each | with_reducible apply Steady.onlyIf | dsimp only | split

theorem steady_keyGenerate {ρ : State} (c : Caller) (ty : Byte) (usage : Byte) (flags : Byte) (size : Nat) (s : State) (hρ : Steady ρ s) : Steady ρ (keyGenerate c ty usage flags size s) := by
  unfold keyGenerate
  repeat' first | with_reducible assumption | refine fun _ => ?_ | with_reducible apply steady_State_useFree | with_reducible apply steady_finish | with_reducible apply steady_keyCount | with_reducible apply steady_keyBegin | with_reducible apply Steady.ite | fail_if_no_progress (with_reducible refine Steady.mk' ?_ ?_ ?_ ?_ ?_ ?_ ?_; iterate 6 first | with_reducible rfl | (unfold setTransit; with_reducible rfl) | (split <;> with_reducible rfl) | (dsimp only; split <;> with_reducible rfl) | (focus (simp; done)) | fail) | with_reducible refine Steady.snd (by with_reducible assumption) ?_ | with_reducible refine Steady.snd2 (by with_reducible assumption) ?_ | with_reducible refine Steady.fst (by with_reducible assumption) ?_ | dsimp only | split

theorem steady_keyDerive {ρ : State} (c : Caller) (parent : BitVec 24) (method : Byte) (ty : Byte) (usage : Byte) (flags : Byte) (label : Bytes) (context : Bytes) (s : State) (hρ : Steady ρ s) : Steady ρ (keyDerive c parent method ty usage flags label context s) := by
  unfold keyDerive
  repeat' first | with_reducible assumption | refine fun _ => ?_ | with_reducible apply steady_State_useFree | with_reducible apply steady_finish | with_reducible apply steady_keyRefuse | with_reducible apply steady_keyBegin | with_reducible apply Steady.ite | fail_if_no_progress (with_reducible refine Steady.mk' ?_ ?_ ?_ ?_ ?_ ?_ ?_; iterate 6 first | with_reducible rfl | (unfold setTransit; with_reducible rfl) | (split <;> with_reducible rfl) | (dsimp only; split <;> with_reducible rfl) | (focus (simp; done)) | fail) | with_reducible refine Steady.snd (by with_reducible assumption) ?_ | with_reducible refine Steady.snd2 (by with_reducible assumption) ?_ | with_reducible refine Steady.fst (by with_reducible assumption) ?_ | dsimp only | split

theorem steady_keyWrap {ρ : State} (c : Caller) (wrap : BitVec 24) (target : BitVec 24) (format : Byte) (s : State) (hρ : Steady ρ s) : Steady ρ (keyWrap c wrap target format s) := by
  unfold keyWrap
  repeat' first | with_reducible assumption | refine fun _ => ?_ | with_reducible apply steady_finish | with_reducible apply steady_keyRefuse | with_reducible apply steady_keyBegin | with_reducible apply Steady.ite | with_reducible refine Steady.snd (by with_reducible assumption) ?_ | with_reducible refine Steady.snd2 (by with_reducible assumption) ?_ | with_reducible refine Steady.fst (by with_reducible assumption) ?_ | dsimp only | split

theorem steady_keyUnwrap {ρ : State} (c : Caller) (wrap : BitVec 24) (format : Byte) (mask : Byte) (flags : Byte) (salt : Bytes) (blob : Bytes) (s : State) (hρ : Steady ρ s) : Steady ρ (keyUnwrap c wrap format mask flags salt blob s) := by
  unfold keyUnwrap
  repeat' first | with_reducible assumption | refine fun _ => ?_ | with_reducible apply steady_finish | with_reducible apply steady_keyRefuse | with_reducible apply steady_keyBegin | with_reducible apply Steady.ite | fail_if_no_progress (with_reducible refine Steady.mk' ?_ ?_ ?_ ?_ ?_ ?_ ?_; iterate 6 first | with_reducible rfl | (unfold setTransit; with_reducible rfl) | (split <;> with_reducible rfl) | (dsimp only; split <;> with_reducible rfl) | (focus (simp; done)) | fail) | with_reducible refine Steady.snd (by with_reducible assumption) ?_ | with_reducible refine Steady.snd2 (by with_reducible assumption) ?_ | with_reducible refine Steady.fst (by with_reducible assumption) ?_ | dsimp only | split

theorem steady_keyMac {ρ : State} (c : Caller) (handle : BitVec 24) (alg : Byte) (data : Bytes) (s : State) (hρ : Steady ρ s) : Steady ρ (keyMac c handle alg data s) := by
  unfold keyMac
  repeat' first | with_reducible assumption | refine fun _ => ?_ | with_reducible apply steady_finish | with_reducible apply steady_keyRefuse | with_reducible apply steady_keyBegin | with_reducible apply Steady.ite | with_reducible refine Steady.snd (by with_reducible assumption) ?_ | with_reducible refine Steady.snd2 (by with_reducible assumption) ?_ | with_reducible refine Steady.fst (by with_reducible assumption) ?_ | dsimp only | split

theorem steady_keyRestrict {ρ : State} (c : Caller) (handle : BitVec 24) (usageMask : Byte) (flagsMask : Byte) (s : State) (hρ : Steady ρ s) : Steady ρ (keyRestrict c handle usageMask flagsMask s) := by
  unfold keyRestrict
  repeat' first | with_reducible assumption | refine fun _ => ?_ | with_reducible apply steady_finish | with_reducible apply steady_State_setSlot | with_reducible apply steady_keyRefuse | with_reducible apply steady_resealObject | with_reducible apply Steady.ite | fail_if_no_progress (with_reducible refine Steady.mk' ?_ ?_ ?_ ?_ ?_ ?_ ?_; iterate 6 first | with_reducible rfl | (unfold setTransit; with_reducible rfl) | (split <;> with_reducible rfl) | (dsimp only; split <;> with_reducible rfl) | (focus (simp; done)) | fail) | with_reducible apply Steady.each | with_reducible apply Steady.onlyIf | with_reducible refine Steady.snd (by with_reducible assumption) ?_ | with_reducible refine Steady.snd2 (by with_reducible assumption) ?_ | with_reducible refine Steady.fst (by with_reducible assumption) ?_ | dsimp only | split

theorem steady_keyPersist {ρ : State} (c : Caller) (handle : BitVec 24) (s : State) (hρ : Steady ρ s) : Steady ρ (keyPersist c handle s) := by
  unfold keyPersist
  repeat' first | with_reducible assumption | refine fun _ => ?_ | with_reducible apply steady_finish | with_reducible apply steady_keyCount | with_reducible apply steady_keyRefuse | with_reducible apply steady_keyBegin | with_reducible apply Steady.ite | with_reducible refine Steady.snd (by with_reducible assumption) ?_ | with_reducible refine Steady.snd2 (by with_reducible assumption) ?_ | with_reducible refine Steady.fst (by with_reducible assumption) ?_ | dsimp only | split

theorem steady_keyDestroy {ρ : State} (c : Caller) (handle : BitVec 24) (s : State) (hρ : Steady ρ s) : Steady ρ (keyDestroy c handle s) := by
  unfold keyDestroy
  repeat' first | with_reducible assumption | refine fun _ => ?_ | with_reducible apply steady_finish | with_reducible apply steady_keyRefuse | with_reducible apply steady_keyBegin | with_reducible apply Steady.ite | fail_if_no_progress (with_reducible refine Steady.mk' ?_ ?_ ?_ ?_ ?_ ?_ ?_; iterate 6 first | with_reducible rfl | (unfold setTransit; with_reducible rfl) | (split <;> with_reducible rfl) | (dsimp only; split <;> with_reducible rfl) | (focus (simp; done)) | fail) | with_reducible refine Steady.snd (by with_reducible assumption) ?_ | with_reducible refine Steady.snd2 (by with_reducible assumption) ?_ | with_reducible refine Steady.fst (by with_reducible assumption) ?_ | dsimp only | split

theorem steady_keyInfo {ρ : State} (c : Caller) (handle : BitVec 24) (s : State) (hρ : Steady ρ s) : Steady ρ (keyInfo c handle s) := by
  unfold keyInfo
  repeat' first | with_reducible assumption | refine fun _ => ?_ | with_reducible apply steady_finish | with_reducible apply steady_keyRefuse | with_reducible apply Steady.ite | with_reducible refine Steady.snd (by with_reducible assumption) ?_ | with_reducible refine Steady.snd2 (by with_reducible assumption) ?_ | with_reducible refine Steady.fst (by with_reducible assumption) ?_ | dsimp only | split

theorem steady_plateKeyInstall {ρ : State} (c : Caller) (plate : Nat) (sak : Nat) (s : State) (hρ : Steady ρ s) : Steady ρ (plateKeyInstall c plate sak s) := by
  unfold plateKeyInstall
  repeat' first | with_reducible assumption | refine fun _ => ?_ | with_reducible apply steady_State_put | with_reducible apply steady_finish | with_reducible apply steady_keyRefuse | with_reducible apply Steady.ite | fail_if_no_progress (with_reducible refine Steady.mk' ?_ ?_ ?_ ?_ ?_ ?_ ?_; iterate 6 first | with_reducible rfl | (unfold setTransit; with_reducible rfl) | (split <;> with_reducible rfl) | (dsimp only; split <;> with_reducible rfl) | (focus (simp; done)) | fail) | with_reducible refine Steady.snd (by with_reducible assumption) ?_ | with_reducible refine Steady.snd2 (by with_reducible assumption) ?_ | with_reducible refine Steady.fst (by with_reducible assumption) ?_ | dsimp only | split

theorem steady_commitJob {ρ : State} (n : Nat) (dur : Nat) (c : Caller) (s : State) (hρ : Steady ρ s) : Steady ρ (commitJob n dur c s) := by
  unfold commitJob
  repeat' first | with_reducible assumption | refine fun _ => ?_ | with_reducible apply steady_State_wr | with_reducible apply steady_commitOp | dsimp only | split

theorem steady_graverClaim {ρ : State} (c : Caller) (n : Nat) (s : State) (hρ : Steady ρ s) : Steady ρ (graverClaim c n s) := by
  unfold graverClaim
  repeat' first | with_reducible assumption | refine fun _ => ?_ | with_reducible apply steady_finish | with_reducible apply steady_State_updGrv | with_reducible apply steady_claimOp | with_reducible apply Steady.ite | fail_if_no_progress (with_reducible refine Steady.mk' ?_ ?_ ?_ ?_ ?_ ?_ ?_; iterate 6 first | with_reducible rfl | (unfold setTransit; with_reducible rfl) | (split <;> with_reducible rfl) | (dsimp only; split <;> with_reducible rfl) | (focus (simp; done)) | fail) | dsimp only | split

theorem steady_graverCommit {ρ : State} (c : Caller) (n : Nat) (dur : Nat) (s : State) (hρ : Steady ρ s) : Steady ρ (graverCommit c n dur s) := by
  unfold graverCommit
  repeat' first | with_reducible assumption | refine fun _ => ?_ | with_reducible apply steady_finish | with_reducible apply steady_keyRefuse | with_reducible apply steady_commitJob | fail_if_no_progress (with_reducible refine Steady.mk' ?_ ?_ ?_ ?_ ?_ ?_ ?_; iterate 6 first | with_reducible rfl | (unfold setTransit; with_reducible rfl) | (split <;> with_reducible rfl) | (dsimp only; split <;> with_reducible rfl) | (focus (simp; done)) | fail) | with_reducible refine Steady.snd (by with_reducible assumption) ?_ | with_reducible refine Steady.snd2 (by with_reducible assumption) ?_ | with_reducible refine Steady.fst (by with_reducible assumption) ?_ | dsimp only | split

theorem steady_graverRelease {ρ : State} (c : Caller) (n : Nat) (s : State) (hρ : Steady ρ s) : Steady ρ (graverRelease c n s) := by
  unfold graverRelease
  repeat' first | with_reducible assumption | refine fun _ => ?_ | with_reducible apply steady_finish | with_reducible apply steady_releaseOp | with_reducible apply Steady.ite | dsimp only | split

theorem steady_jobSetup {ρ : State} (n : Nat) (a : GraverArgs) (s : State) (hρ : Steady ρ s) : Steady ρ (jobSetup n a s) := by
  unfold jobSetup
  repeat' first | with_reducible assumption | refine fun _ => ?_ | with_reducible apply steady_State_wr | with_reducible apply steady_State_put | with_reducible apply steady_State_updGrv | with_reducible apply Steady.ite | fail_if_no_progress (with_reducible refine Steady.mk' ?_ ?_ ?_ ?_ ?_ ?_ ?_; iterate 6 first | with_reducible rfl | (unfold setTransit; with_reducible rfl) | (split <;> with_reducible rfl) | (dsimp only; split <;> with_reducible rfl) | (focus (simp; done)) | fail) | with_reducible apply Steady.each | with_reducible apply Steady.foldl | with_reducible apply Steady.foldlSnd | with_reducible refine Steady.snd (by with_reducible assumption) ?_ | with_reducible refine Steady.snd2 (by with_reducible assumption) ?_ | with_reducible refine Steady.fst (by with_reducible assumption) ?_ | dsimp only | split

theorem steady_flightGraver {ρ : State} (c : Caller) (n : Option Nat) (s : State) (hρ : Steady ρ s) : Steady ρ (flightGraver c n s) := by
  unfold flightGraver
  repeat' first | with_reducible assumption | refine fun _ => ?_ | with_reducible apply Steady.ite | fail_if_no_progress (with_reducible refine Steady.mk' ?_ ?_ ?_ ?_ ?_ ?_ ?_; iterate 6 first | with_reducible rfl | (unfold setTransit; with_reducible rfl) | (split <;> with_reducible rfl) | (dsimp only; split <;> with_reducible rfl) | (focus (simp; done)) | fail) | with_reducible refine Steady.snd (by with_reducible assumption) ?_ | with_reducible refine Steady.snd2 (by with_reducible assumption) ?_ | with_reducible refine Steady.fst (by with_reducible assumption) ?_ | with_reducible apply Steady.id' | dsimp only | split

theorem steady_jobSubmit {ρ : State} (c : Caller) (n : Nat) (a : GraverArgs) (dur : Nat) (s : State) (hρ : Steady ρ s) : Steady ρ (jobSubmit c n a dur s) := by
  unfold jobSubmit
  repeat' first | with_reducible assumption | refine fun _ => ?_ | with_reducible apply steady_finish | with_reducible apply steady_keyRefuse | with_reducible apply steady_releaseOp | with_reducible apply steady_jobAnswer | with_reducible apply steady_commitJob | with_reducible apply steady_jobSetup | fail_if_no_progress (with_reducible refine Steady.mk' ?_ ?_ ?_ ?_ ?_ ?_ ?_; iterate 6 first | with_reducible rfl | (unfold setTransit; with_reducible rfl) | (split <;> with_reducible rfl) | (dsimp only; split <;> with_reducible rfl) | (focus (simp; done)) | fail) | with_reducible refine Steady.snd (by with_reducible assumption) ?_ | with_reducible refine Steady.snd2 (by with_reducible assumption) ?_ | with_reducible refine Steady.fst (by with_reducible assumption) ?_ | dsimp only | split

theorem steady_graverStage {ρ : State} (n : Nat) (s : State) (hρ : Steady ρ s) : Steady ρ (graverStage n s) := by
  unfold graverStage
  repeat' first | with_reducible assumption | refine fun _ => ?_ | with_reducible apply steady_State_updGrv | with_reducible apply steady_keyJobAgain | with_reducible apply steady_notStarted | with_reducible apply steady_flightGraver | with_reducible apply steady_jobSubmit | with_reducible apply Steady.ite | fail_if_no_progress (with_reducible refine Steady.mk' ?_ ?_ ?_ ?_ ?_ ?_ ?_; iterate 6 first | with_reducible rfl | (unfold setTransit; with_reducible rfl) | (split <;> with_reducible rfl) | (dsimp only; split <;> with_reducible rfl) | (focus (simp; done)) | fail) | with_reducible refine Steady.snd (by with_reducible assumption) ?_ | with_reducible refine Steady.snd2 (by with_reducible assumption) ?_ | with_reducible refine Steady.fst (by with_reducible assumption) ?_ | dsimp only | split

theorem steady_jobClaim {ρ : State} (c : Caller) (n : Nat) (a : GraverArgs) (dur : Nat) (s : State) (hρ : Steady ρ s) : Steady ρ (jobClaim c n a dur s) := by
  unfold jobClaim
  repeat' first | with_reducible assumption | refine fun _ => ?_ | with_reducible apply steady_State_updGrv | with_reducible apply steady_claimOp | with_reducible apply steady_flightGraver | with_reducible apply steady_jobSubmit | with_reducible apply Steady.ite | fail_if_no_progress (with_reducible refine Steady.mk' ?_ ?_ ?_ ?_ ?_ ?_ ?_; iterate 6 first | with_reducible rfl | (unfold setTransit; with_reducible rfl) | (split <;> with_reducible rfl) | (dsimp only; split <;> with_reducible rfl) | (focus (simp; done)) | fail) | dsimp only | split

theorem steady_graverJob {ρ : State} (c : Caller) (a : GraverArgs) (s : State) (hρ : Steady ρ s) : Steady ρ (graverJob c a s) := by
  unfold graverJob
  repeat' first | with_reducible assumption | refine fun _ => ?_ | with_reducible apply steady_State_useFree | with_reducible apply steady_finish | with_reducible apply steady_notStarted | with_reducible apply steady_jobClaim | with_reducible apply Steady.ite | fail_if_no_progress (with_reducible refine Steady.mk' ?_ ?_ ?_ ?_ ?_ ?_ ?_; iterate 6 first | with_reducible rfl | (unfold setTransit; with_reducible rfl) | (split <;> with_reducible rfl) | (dsimp only; split <;> with_reducible rfl) | (focus (simp; done)) | fail) | with_reducible refine Steady.snd (by with_reducible assumption) ?_ | with_reducible refine Steady.snd2 (by with_reducible assumption) ?_ | with_reducible refine Steady.fst (by with_reducible assumption) ?_ | dsimp only | split

theorem steady_swapOp {ρ : State} (o : KeyOp) (o' : KeyOp) (s : State) (hρ : Steady ρ s) : Steady ρ (swapOp o o' s) := by
  unfold swapOp
  repeat' first | with_reducible assumption | refine fun _ => ?_ | with_reducible apply Steady.ite | fail_if_no_progress (with_reducible refine Steady.mk' ?_ ?_ ?_ ?_ ?_ ?_ ?_; iterate 6 first | with_reducible rfl | (unfold setTransit; with_reducible rfl) | (split <;> with_reducible rfl) | (dsimp only; split <;> with_reducible rfl) | (focus (simp; done)) | fail) | dsimp only | split

theorem steady_claimObject {ρ : State} (i : Nat) (o : NewObject) (s : State) (hρ : Steady ρ s) : Steady ρ (claimObject i o s) := by
  unfold claimObject
  repeat' first | with_reducible assumption | refine fun _ => ?_ | with_reducible apply steady_State_setSlot | fail_if_no_progress (with_reducible refine Steady.mk' ?_ ?_ ?_ ?_ ?_ ?_ ?_; iterate 6 first | with_reducible rfl | (unfold setTransit; with_reducible rfl) | (split <;> with_reducible rfl) | (dsimp only; split <;> with_reducible rfl) | (focus (simp; done)) | fail) | with_reducible apply Steady.each | dsimp only | split

theorem steady_objectMade {ρ : State} (o : KeyOp) (persist : Bool) (h : Nat) (r1 : Nat) (s : State) (hρ : Steady ρ s) : Steady ρ (objectMade o persist h r1 s) := by
  unfold objectMade
  repeat' first | with_reducible assumption | refine fun _ => ?_ | with_reducible apply steady_dropOp | with_reducible apply steady_opAnswer | with_reducible apply steady_swapOp | with_reducible apply Steady.ite | fail_if_no_progress (with_reducible refine Steady.mk' ?_ ?_ ?_ ?_ ?_ ?_ ?_; iterate 6 first | with_reducible rfl | (unfold setTransit; with_reducible rfl) | (split <;> with_reducible rfl) | (dsimp only; split <;> with_reducible rfl) | (focus (simp; done)) | fail) | dsimp only | split

theorem steady_persistProgress {ρ : State} (o : KeyOp) (i : Nat) (s : State) (hρ : Steady ρ s) : Steady ρ (persistProgress o i s) := by
  unfold persistProgress
  repeat' first | with_reducible assumption | refine fun _ => ?_ | with_reducible apply steady_addBlocks | fail_if_no_progress (with_reducible refine Steady.mk' ?_ ?_ ?_ ?_ ?_ ?_ ?_; iterate 6 first | with_reducible rfl | (unfold setTransit; with_reducible rfl) | (split <;> with_reducible rfl) | (dsimp only; split <;> with_reducible rfl) | (focus (simp; done)) | fail) | with_reducible refine Steady.snd (by with_reducible assumption) ?_ | with_reducible refine Steady.snd2 (by with_reducible assumption) ?_ | with_reducible refine Steady.fst (by with_reducible assumption) ?_ | dsimp only | split

theorem steady_keyJobStart {ρ : State} (o : KeyOp) (x : NewObject) (j : KeyJobs) (s : State) (hρ : Steady ρ s) : Steady ρ (keyJobStart o x j s) := by
  unfold keyJobStart
  repeat' first | with_reducible assumption | refine fun _ => ?_ | with_reducible apply steady_jobClaim | with_reducible apply steady_swapOp | fail_if_no_progress (with_reducible refine Steady.mk' ?_ ?_ ?_ ?_ ?_ ?_ ?_; iterate 6 first | with_reducible rfl | (unfold setTransit; with_reducible rfl) | (split <;> with_reducible rfl) | (dsimp only; split <;> with_reducible rfl) | (focus (simp; done)) | fail) | with_reducible refine Steady.snd (by with_reducible assumption) ?_ | with_reducible refine Steady.snd2 (by with_reducible assumption) ?_ | with_reducible refine Steady.fst (by with_reducible assumption) ?_ | dsimp only | split

theorem steady_keyJobsOver {ρ : State} (j : KeyJobs) (s : State) (hρ : Steady ρ s) : Steady ρ (keyJobsOver j s) := by
  unfold keyJobsOver
  repeat' first | with_reducible assumption | refine fun _ => ?_ | with_reducible apply steady_destroyObject | with_reducible apply Steady.each | dsimp only | split

theorem steady_keyJobsStep {ρ : State} (o : KeyOp) (x : NewObject) (j : KeyJobs) (s : State) (hρ : Steady ρ s) : Steady ρ (keyJobsStep o x j s) := by
  unfold keyJobsStep
  repeat' first | with_reducible assumption | refine fun _ => ?_ | with_reducible apply steady_dropOp | with_reducible apply steady_opAnswer | with_reducible apply steady_swapOp | with_reducible apply steady_claimObject | with_reducible apply steady_objectMade | with_reducible apply steady_keyJobStart | with_reducible apply steady_keyJobsOver | with_reducible apply Steady.ite | fail_if_no_progress (with_reducible refine Steady.mk' ?_ ?_ ?_ ?_ ?_ ?_ ?_; iterate 6 first | with_reducible rfl | (unfold setTransit; with_reducible rfl) | (split <;> with_reducible rfl) | (dsimp only; split <;> with_reducible rfl) | (focus (simp; done)) | fail) | with_reducible refine Steady.snd (by with_reducible assumption) ?_ | with_reducible refine Steady.snd2 (by with_reducible assumption) ?_ | with_reducible refine Steady.fst (by with_reducible assumption) ?_ | dsimp only | split

theorem steady_keyOpStep {ρ : State} (o : KeyOp) (s : State) (hρ : Steady ρ s) : Steady ρ (keyOpStep o s) := by
  unfold keyOpStep
  repeat' first | with_reducible assumption | refine fun _ => ?_ | with_reducible apply steady_keyCount | with_reducible apply steady_createObject | with_reducible apply steady_keepBlocks | with_reducible apply steady_destroyObject | with_reducible apply steady_quorumApproval | with_reducible apply steady_dropOp | with_reducible apply steady_opAnswer | with_reducible apply steady_persistObject | with_reducible apply steady_objectMade | with_reducible apply steady_persistProgress | with_reducible apply steady_keyJobsStep | with_reducible apply Steady.ite | fail_if_no_progress (with_reducible refine Steady.mk' ?_ ?_ ?_ ?_ ?_ ?_ ?_; iterate 6 first | with_reducible rfl | (unfold setTransit; with_reducible rfl) | (split <;> with_reducible rfl) | (dsimp only; split <;> with_reducible rfl) | (focus (simp; done)) | fail) | with_reducible refine Steady.snd (by with_reducible assumption) ?_ | with_reducible refine Steady.snd2 (by with_reducible assumption) ?_ | with_reducible refine Steady.fst (by with_reducible assumption) ?_ | dsimp only | split

theorem steady_keyBoundary {ρ : State} (s : State) (hρ : Steady ρ s) : Steady ρ (keyBoundary s) := by
  unfold keyBoundary
  repeat' first | with_reducible assumption | refine fun _ => ?_ | with_reducible apply steady_keyOpStep | with_reducible apply Steady.each | dsimp only | split

theorem steady_readOpenPeriod {ρ : State} (c : Caller) (s : State) (hρ : Steady ρ s) : Steady ρ (readOpenPeriod c s) := by
  unfold readOpenPeriod
  repeat' first | with_reducible assumption | refine fun _ => ?_ | with_reducible apply steady_finish | dsimp only | split

theorem steady_readRecords {ρ : State} (c : Caller) (seq : Nat) (s : State) (hρ : Steady ρ s) : Steady ρ (readRecords c seq s) := by
  unfold readRecords
  repeat' first | with_reducible assumption | refine fun _ => ?_ | with_reducible apply steady_finish | with_reducible apply Steady.ite | fail_if_no_progress (with_reducible refine Steady.mk' ?_ ?_ ?_ ?_ ?_ ?_ ?_; iterate 6 first | with_reducible rfl | (unfold setTransit; with_reducible rfl) | (split <;> with_reducible rfl) | (dsimp only; split <;> with_reducible rfl) | (focus (simp; done)) | fail) | with_reducible refine Steady.snd (by with_reducible assumption) ?_ | with_reducible refine Steady.snd2 (by with_reducible assumption) ?_ | with_reducible refine Steady.fst (by with_reducible assumption) ?_ | with_reducible apply Steady.id' | dsimp only | split

theorem steady_setClock {ρ : State} (c : Caller) (w : Nat) (s : State) (hρ : Steady ρ s) : Steady ρ (setClock c w s) := by
  unfold setClock
  repeat' first | with_reducible assumption | refine fun _ => ?_ | with_reducible apply steady_finish | with_reducible apply steady_setClockDue | with_reducible apply Steady.ite | dsimp only | split

theorem steady_setPeriod {ρ : State} (c : Caller) (secs : Nat) (s : State) (hρ : Steady ρ s) : Steady ρ (setPeriod c secs s) := by
  unfold setPeriod
  repeat' first | with_reducible assumption | refine fun _ => ?_ | with_reducible apply steady_finish | with_reducible apply steady_lgrCfgWrite | with_reducible apply Steady.ite | dsimp only | split

theorem steady_ledgerSign {ρ : State} (c : Caller) (record : Bytes) (s : State) (hρ : Steady ρ s) : Steady ρ (ledgerSign c record s) := by
  unfold ledgerSign
  repeat' first | with_reducible assumption | refine fun _ => ?_ | with_reducible apply steady_finish | with_reducible apply steady_storeRecord | with_reducible apply Steady.ite | dsimp only | split

theorem steady_quotaChange {ρ : State} (t : Nat) (q : Quotas) (s : State) (hρ : Steady ρ s) : Steady ρ (quotaChange t q s) := by
  unfold quotaChange
  repeat' first | with_reducible assumption | refine fun _ => ?_ | with_reducible apply steady_writeChange | dsimp only | split

theorem steady_deriveTenant {ρ : State} (t : Nat) (s : State) (hρ : Steady ρ s) : Steady ρ (deriveTenant t s) := by
  unfold deriveTenant
  repeat' first | with_reducible assumption | refine fun _ => ?_ | fail_if_no_progress (with_reducible refine Steady.mk' ?_ ?_ ?_ ?_ ?_ ?_ ?_; iterate 6 first | with_reducible rfl | (unfold setTransit; with_reducible rfl) | (split <;> with_reducible rfl) | (dsimp only; split <;> with_reducible rfl) | (focus (simp; done)) | fail) | with_reducible refine Steady.snd (by with_reducible assumption) ?_ | with_reducible refine Steady.snd2 (by with_reducible assumption) ?_ | with_reducible refine Steady.fst (by with_reducible assumption) ?_ | dsimp only | split

theorem steady_tenantCreate {ρ : State} (c : Caller) (t : Nat) (q : Quotas) (s : State) (hρ : Steady ρ s) : Steady ρ (tenantCreate c t q s) := by
  unfold tenantCreate
  repeat' first | with_reducible assumption | refine fun _ => ?_ | with_reducible apply steady_finish | with_reducible apply steady_writeChange | with_reducible apply steady_setupCommand | with_reducible apply steady_quotaChange | with_reducible apply steady_deriveTenant | with_reducible apply Steady.ite | dsimp only | split

theorem steady_tenantQuota {ρ : State} (c : Caller) (t : Nat) (q : Quotas) (s : State) (hρ : Steady ρ s) : Steady ρ (tenantQuota c t q s) := by
  unfold tenantQuota
  repeat' first | with_reducible assumption | refine fun _ => ?_ | with_reducible apply steady_finish | with_reducible apply steady_setupCommand | with_reducible apply steady_quotaChange | with_reducible apply Steady.ite | dsimp only | split

theorem steady_tenantMove {ρ : State} (c : Caller) (t : Nat) (a : Nat) (b : Nat) (s : State) (hρ : Steady ρ s) : Steady ρ (tenantMove c t a b s) := by
  unfold tenantMove
  repeat' first | with_reducible assumption | refine fun _ => ?_ | with_reducible apply steady_finish | with_reducible apply steady_writeChange | with_reducible apply steady_setupCommand | with_reducible apply Steady.ite | dsimp only | split

theorem steady_tenantErase {ρ : State} (c : Caller) (e : Effective) (t : Nat) (s : State) (hρ : Steady ρ s) : Steady ρ (tenantErase c e t s) := by
  unfold tenantErase
  repeat' first | with_reducible assumption | refine fun _ => ?_ | with_reducible apply steady_finish | with_reducible apply steady_withQuorum | with_reducible apply steady_writeChange | with_reducible apply steady_setupCommand | with_reducible apply Steady.ite | fail_if_no_progress (with_reducible refine Steady.mk' ?_ ?_ ?_ ?_ ?_ ?_ ?_; iterate 6 first | with_reducible rfl | (unfold setTransit; with_reducible rfl) | (split <;> with_reducible rfl) | (dsimp only; split <;> with_reducible rfl) | (focus (simp; done)) | fail) | dsimp only | split

theorem steady_tenantEraseComplete {ρ : State} (t : Nat) (s : State) (hρ : Steady ρ s) : Steady ρ (tenantEraseComplete t s) := by
  unfold tenantEraseComplete
  repeat' first | with_reducible assumption | refine fun _ => ?_ | with_reducible apply steady_State_wr | with_reducible apply steady_State_raise | with_reducible apply steady_eventVector | with_reducible apply steady_releaseOp | with_reducible apply steady_ownDeckLimit | with_reducible apply steady_finalRecord | with_reducible apply Steady.ite | fail_if_no_progress (with_reducible refine Steady.mk' ?_ ?_ ?_ ?_ ?_ ?_ ?_; iterate 6 first | with_reducible rfl | (unfold setTransit; with_reducible rfl) | (split <;> with_reducible rfl) | (dsimp only; split <;> with_reducible rfl) | (focus (simp; done)) | fail) | with_reducible apply Steady.each | with_reducible refine Steady.snd (by with_reducible assumption) ?_ | with_reducible refine Steady.snd2 (by with_reducible assumption) ?_ | with_reducible refine Steady.fst (by with_reducible assumption) ?_ | dsimp only | split

theorem steady_planLoad {ρ : State} (c : Caller) (words : List Word) (s : State) (hρ : Steady ρ s) : Steady ρ (planLoad c words s) := by
  unfold planLoad
  repeat' first | with_reducible assumption | refine fun _ => ?_ | with_reducible apply steady_State_put | with_reducible apply steady_planCheckEnd | with_reducible apply steady_finish | with_reducible apply Steady.ite | fail_if_no_progress (with_reducible refine Steady.mk' ?_ ?_ ?_ ?_ ?_ ?_ ?_; iterate 6 first | with_reducible rfl | (unfold setTransit; with_reducible rfl) | (split <;> with_reducible rfl) | (dsimp only; split <;> with_reducible rfl) | (focus (simp; done)) | fail) | with_reducible refine Steady.snd (by with_reducible assumption) ?_ | with_reducible refine Steady.snd2 (by with_reducible assumption) ?_ | with_reducible refine Steady.fst (by with_reducible assumption) ?_ | dsimp only | split

theorem steady_configStore {ρ : State} (c : Caller) (s : State) (hρ : Steady ρ s) : Steady ρ (configStore c s) := by
  unfold configStore
  repeat' first | with_reducible assumption | refine fun _ => ?_ | with_reducible apply steady_finish | with_reducible apply Steady.ite | fail_if_no_progress (with_reducible refine Steady.mk' ?_ ?_ ?_ ?_ ?_ ?_ ?_; iterate 6 first | with_reducible rfl | (unfold setTransit; with_reducible rfl) | (split <;> with_reducible rfl) | (dsimp only; split <;> with_reducible rfl) | (focus (simp; done)) | fail) | dsimp only | split

theorem steady_configErase {ρ : State} (c : Caller) (s : State) (hρ : Steady ρ s) : Steady ρ (configErase c s) := by
  unfold configErase
  repeat' first | with_reducible assumption | refine fun _ => ?_ | with_reducible apply steady_finish | with_reducible apply steady_eraseClass | with_reducible apply Steady.ite | fail_if_no_progress (with_reducible refine Steady.mk' ?_ ?_ ?_ ?_ ?_ ?_ ?_; iterate 6 first | with_reducible rfl | (unfold setTransit; with_reducible rfl) | (split <;> with_reducible rfl) | (dsimp only; split <;> with_reducible rfl) | (focus (simp; done)) | fail) | dsimp only | split

theorem steady_quorumSizes {ρ : State} (s : State) (hρ : Steady ρ s) : Steady ρ (quorumSizes s) := by
  unfold quorumSizes
  repeat' first | with_reducible assumption | refine fun _ => ?_ | with_reducible apply steady_State_wr | fail_if_no_progress (with_reducible refine Steady.mk' ?_ ?_ ?_ ?_ ?_ ?_ ?_; iterate 6 first | with_reducible rfl | (unfold setTransit; with_reducible rfl) | (split <;> with_reducible rfl) | (dsimp only; split <;> with_reducible rfl) | (focus (simp; done)) | fail) | with_reducible apply Steady.each | with_reducible refine Steady.snd (by with_reducible assumption) ?_ | with_reducible refine Steady.snd2 (by with_reducible assumption) ?_ | with_reducible refine Steady.fst (by with_reducible assumption) ?_ | dsimp only | split

theorem steady_enroll {ρ : State} (u : Nat) (key : Bytes) (s : State) (hρ : Steady ρ s) : Steady ρ (enroll u key s) := by
  unfold enroll
  repeat' first | with_reducible assumption | refine fun _ => ?_ | with_reducible apply steady_State_wr | with_reducible apply steady_quorumSizes | fail_if_no_progress (with_reducible refine Steady.mk' ?_ ?_ ?_ ?_ ?_ ?_ ?_; iterate 6 first | with_reducible rfl | (unfold setTransit; with_reducible rfl) | (split <;> with_reducible rfl) | (dsimp only; split <;> with_reducible rfl) | (focus (simp; done)) | fail) | dsimp only | split

theorem steady_custodianEnroll {ρ : State} (c : Caller) (u : Nat) (key : Bytes) (s : State) (hρ : Steady ρ s) : Steady ρ (custodianEnroll c u key s) := by
  unfold custodianEnroll
  repeat' first | with_reducible assumption | refine fun _ => ?_ | with_reducible apply steady_finish | with_reducible apply steady_withQuorum | with_reducible apply steady_enroll | with_reducible apply Steady.ite | fail_if_no_progress (with_reducible refine Steady.mk' ?_ ?_ ?_ ?_ ?_ ?_ ?_; iterate 6 first | with_reducible rfl | (unfold setTransit; with_reducible rfl) | (split <;> with_reducible rfl) | (dsimp only; split <;> with_reducible rfl) | (focus (simp; done)) | fail) | dsimp only | split

theorem steady_custodianRemove {ρ : State} (c : Caller) (u : Nat) (s : State) (hρ : Steady ρ s) : Steady ρ (custodianRemove c u s) := by
  unfold custodianRemove
  repeat' first | with_reducible assumption | refine fun _ => ?_ | with_reducible apply steady_State_wr | with_reducible apply steady_finish | with_reducible apply steady_quorumShow | with_reducible apply steady_withQuorum | with_reducible apply steady_quorumSizes | with_reducible apply Steady.ite | fail_if_no_progress (with_reducible refine Steady.mk' ?_ ?_ ?_ ?_ ?_ ?_ ?_; iterate 6 first | with_reducible rfl | (unfold setTransit; with_reducible rfl) | (split <;> with_reducible rfl) | (dsimp only; split <;> with_reducible rfl) | (focus (simp; done)) | fail) | with_reducible apply Steady.each | with_reducible apply Steady.foldl | with_reducible apply Steady.foldlSnd | dsimp only | split

theorem steady_quorumSet {ρ : State} (c : Caller) (cls : Nat) (m : Nat) (s : State) (hρ : Steady ρ s) : Steady ρ (quorumSet c cls m s) := by
  unfold quorumSet
  repeat' first | with_reducible assumption | refine fun _ => ?_ | with_reducible apply steady_finish | with_reducible apply steady_withQuorum | with_reducible apply steady_quorumSizes | with_reducible apply Steady.ite | fail_if_no_progress (with_reducible refine Steady.mk' ?_ ?_ ?_ ?_ ?_ ?_ ?_; iterate 6 first | with_reducible rfl | (unfold setTransit; with_reducible rfl) | (split <;> with_reducible rfl) | (dsimp only; split <;> with_reducible rfl) | (focus (simp; done)) | fail) | dsimp only | split

theorem steady_quorumRequest {ρ : State} (c : Caller) (cls : Nat) (digest : Bytes) (s : State) (hρ : Steady ρ s) : Steady ρ (quorumRequest c cls digest s) := by
  unfold quorumRequest
  repeat' first | with_reducible assumption | refine fun _ => ?_ | with_reducible apply steady_finish | with_reducible apply steady_quorumHold | with_reducible apply Steady.ite | fail_if_no_progress (with_reducible refine Steady.mk' ?_ ?_ ?_ ?_ ?_ ?_ ?_; iterate 6 first | with_reducible rfl | (unfold setTransit; with_reducible rfl) | (split <;> with_reducible rfl) | (dsimp only; split <;> with_reducible rfl) | (focus (simp; done)) | fail) | with_reducible refine Steady.snd (by with_reducible assumption) ?_ | with_reducible refine Steady.snd2 (by with_reducible assumption) ?_ | with_reducible refine Steady.fst (by with_reducible assumption) ?_ | dsimp only | split

theorem steady_quorumApprove {ρ : State} (c : Caller) (cls : Nat) (u : Nat) (sig : Bytes) (s : State) (hρ : Steady ρ s) : Steady ρ (quorumApprove c cls u sig s) := by
  unfold quorumApprove
  repeat' first | with_reducible assumption | refine fun _ => ?_ | with_reducible apply steady_finish | with_reducible apply steady_keyBegin | with_reducible apply Steady.ite | dsimp only | split

theorem steady_lifecycleCommand {ρ : State} (c : Caller) (target : Word) (p : Bytes) (s : State) (hρ : Steady ρ s) : Steady ρ (lifecycleCommand c target p s) := by
  unfold lifecycleCommand
  repeat' first | with_reducible assumption | refine fun _ => ?_ | with_reducible apply steady_finish | with_reducible apply steady_withQuorum | with_reducible apply steady_lcsNextWrite | with_reducible apply Steady.ite | fail_if_no_progress (with_reducible refine Steady.mk' ?_ ?_ ?_ ?_ ?_ ?_ ?_; iterate 6 first | with_reducible rfl | (unfold setTransit; with_reducible rfl) | (split <;> with_reducible rfl) | (dsimp only; split <;> with_reducible rfl) | (focus (simp; done)) | fail) | with_reducible refine Steady.snd (by with_reducible assumption) ?_ | with_reducible refine Steady.snd2 (by with_reducible assumption) ?_ | with_reducible refine Steady.fst (by with_reducible assumption) ?_ | dsimp only | split

theorem steady_debugCert {ρ : State} (c : Caller) (cert : Bytes) (s : State) (hρ : Steady ρ s) : Steady ρ (debugCert c cert s) := by
  unfold debugCert
  repeat' first | with_reducible assumption | refine fun _ => ?_ | with_reducible apply steady_State_wr | with_reducible apply steady_State_raise | with_reducible apply steady_finish | with_reducible apply steady_withQuorum | with_reducible apply Steady.ite | fail_if_no_progress (with_reducible refine Steady.mk' ?_ ?_ ?_ ?_ ?_ ?_ ?_; iterate 6 first | with_reducible rfl | (unfold setTransit; with_reducible rfl) | (split <;> with_reducible rfl) | (dsimp only; split <;> with_reducible rfl) | (focus (simp; done)) | fail) | dsimp only | split

theorem steady_debugCertEnd {ρ : State} (c : Caller) (s : State) (hρ : Steady ρ s) : Steady ρ (debugCertEnd c s) := by
  unfold debugCertEnd
  repeat' first | with_reducible assumption | refine fun _ => ?_ | with_reducible apply steady_finish | fail_if_no_progress (with_reducible refine Steady.mk' ?_ ?_ ?_ ?_ ?_ ?_ ?_; iterate 6 first | with_reducible rfl | (unfold setTransit; with_reducible rfl) | (split <;> with_reducible rfl) | (dsimp only; split <;> with_reducible rfl) | (focus (simp; done)) | fail) | dsimp only | split

end Sys2Proof.Machine
end

