-- ==== Sys2Proof/Laws/SteadyCoreCtl.lean ====
section
/-! SUPPORT. What the operations of Machine/CoreCtl.lean keep (`Steady`). -/

namespace Sys2Proof.Machine

theorem steady_setCoreState {ρ : State} (n : Nat) (v : Nat) (s : State) (hρ : Steady ρ s) : Steady ρ (setCoreState n v s) := by
  unfold setCoreState
  repeat' first | with_reducible assumption | refine fun _ => ?_ | with_reducible apply steady_State_put | dsimp only | split

theorem steady_coreBusyShow {ρ : State} (n : Nat) (s : State) (hρ : Steady ρ s) : Steady ρ (coreBusyShow n s) := by
  unfold coreBusyShow
  repeat' first | with_reducible assumption | refine fun _ => ?_ | with_reducible apply steady_State_flag | dsimp only | split

theorem steady_latchReset {ρ : State} (master : Nat) (s : State) (hρ : Steady ρ s) : Steady ρ (latchReset master s) := by
  unfold latchReset
  repeat' first | with_reducible assumption | refine fun _ => ?_ | fail_if_no_progress (with_reducible refine Steady.mk' ?_ ?_ ?_ ?_ ?_ ?_ ?_; iterate 6 first | with_reducible rfl | (unfold setTransit; with_reducible rfl) | (split <;> with_reducible rfl) | (dsimp only; split <;> with_reducible rfl) | (focus (simp; done)) | fail) | dsimp only | split

theorem steady_flrTake {ρ : State} (fn : Nat) (s : State) (hρ : Steady ρ s) : Steady ρ (flrTake fn s) := by
  unfold flrTake
  repeat' first | with_reducible assumption | refine fun _ => ?_ | with_reducible apply steady_flrTakeOne | with_reducible apply steady_latchReset | with_reducible apply Steady.ite | dsimp only | split

theorem steady_callWithdraw {ρ : State} (n : Nat) (s : State) (hρ : Steady ρ s) : Steady ρ (callWithdraw n s) := by
  unfold callWithdraw
  repeat' first | with_reducible assumption | refine fun _ => ?_ | with_reducible apply steady_State_wr | with_reducible apply Steady.ite | fail_if_no_progress (with_reducible refine Steady.mk' ?_ ?_ ?_ ?_ ?_ ?_ ?_; iterate 6 first | with_reducible rfl | (unfold setTransit; with_reducible rfl) | (split <;> with_reducible rfl) | (dsimp only; split <;> with_reducible rfl) | (focus (simp; done)) | fail) | with_reducible refine Steady.snd (by with_reducible assumption) ?_ | with_reducible refine Steady.snd2 (by with_reducible assumption) ?_ | with_reducible refine Steady.fst (by with_reducible assumption) ?_ | dsimp only | split

theorem steady_coreReset {ρ : State} (n : Nat) (s : State) (hρ : Steady ρ s) : Steady ρ (coreReset n s) := by
  unfold coreReset
  repeat' first | with_reducible assumption | refine fun _ => ?_ | with_reducible apply steady_State_wr | with_reducible apply steady_State_put | with_reducible apply steady_State_setCore | with_reducible apply steady_latchReset | with_reducible apply steady_callWithdraw | fail_if_no_progress (with_reducible refine Steady.mk' ?_ ?_ ?_ ?_ ?_ ?_ ?_; iterate 6 first | with_reducible rfl | (unfold setTransit; with_reducible rfl) | (split <;> with_reducible rfl) | (dsimp only; split <;> with_reducible rfl) | (focus (simp; done)) | fail) | dsimp only | split

theorem steady_coreResetDone {ρ : State} (n : Nat) (s : State) (hρ : Steady ρ s) : Steady ρ (coreResetDone n s) := by
  unfold coreResetDone
  repeat' first | with_reducible assumption | refine fun _ => ?_ | with_reducible apply steady_State_setCore | with_reducible apply steady_setCoreState | with_reducible apply steady_coreBusyShow | with_reducible apply Steady.ite | fail_if_no_progress (with_reducible refine Steady.mk' ?_ ?_ ?_ ?_ ?_ ?_ ?_; iterate 6 first | with_reducible rfl | (unfold setTransit; with_reducible rfl) | (split <;> with_reducible rfl) | (dsimp only; split <;> with_reducible rfl) | (focus (simp; done)) | fail) | with_reducible refine Steady.snd (by with_reducible assumption) ?_ | with_reducible refine Steady.snd2 (by with_reducible assumption) ?_ | with_reducible refine Steady.fst (by with_reducible assumption) ?_ | dsimp only | split

theorem steady_coreStart {ρ : State} (n : Nat) (s : State) (hρ : Steady ρ s) : Steady ρ (coreStart n s) := by
  unfold coreStart
  repeat' first | with_reducible assumption | refine fun _ => ?_ | with_reducible apply steady_State_put | with_reducible apply steady_setCoreState | dsimp only | split

theorem steady_coreHold {ρ : State} (n : Nat) (s : State) (hρ : Steady ρ s) : Steady ρ (coreHold n s) := by
  unfold coreHold
  repeat' first | with_reducible assumption | refine fun _ => ?_ | with_reducible apply steady_State_setCore | with_reducible apply steady_setCoreState | with_reducible apply Steady.ite | fail_if_no_progress (with_reducible refine Steady.mk' ?_ ?_ ?_ ?_ ?_ ?_ ?_; iterate 6 first | with_reducible rfl | (unfold setTransit; with_reducible rfl) | (split <;> with_reducible rfl) | (dsimp only; split <;> with_reducible rfl) | (focus (simp; done)) | fail) | with_reducible apply Steady.id' | dsimp only | split

theorem steady_runWrite {ρ : State} (n : Nat) (on : Bool) (s : State) (hρ : Steady ρ s) : Steady ρ (runWrite n on s) := by
  unfold runWrite
  repeat' first | with_reducible assumption | refine fun _ => ?_ | with_reducible apply steady_State_put | with_reducible apply steady_coreStart | with_reducible apply steady_coreHold | with_reducible apply Steady.ite | dsimp only | split

theorem steady_pclrWrite {ρ : State} (n : Nat) (s : State) (hρ : Steady ρ s) : Steady ρ (pclrWrite n s) := by
  unfold pclrWrite
  repeat' first | with_reducible assumption | refine fun _ => ?_ | with_reducible apply steady_State_setCore | with_reducible apply steady_coreBusyShow | with_reducible apply Steady.ite | fail_if_no_progress (with_reducible refine Steady.mk' ?_ ?_ ?_ ?_ ?_ ?_ ?_; iterate 6 first | with_reducible rfl | (unfold setTransit; with_reducible rfl) | (split <;> with_reducible rfl) | (dsimp only; split <;> with_reducible rfl) | (focus (simp; done)) | fail) | dsimp only | split

theorem steady_pclrDone {ρ : State} (n : Nat) (s : State) (hρ : Steady ρ s) : Steady ρ (pclrDone n s) := by
  unfold pclrDone
  repeat' first | with_reducible assumption | refine fun _ => ?_ | with_reducible apply steady_State_setCore | with_reducible apply steady_coreBusyShow | with_reducible apply Steady.ite | fail_if_no_progress (with_reducible refine Steady.mk' ?_ ?_ ?_ ?_ ?_ ?_ ?_; iterate 6 first | with_reducible rfl | (unfold setTransit; with_reducible rfl) | (split <;> with_reducible rfl) | (dsimp only; split <;> with_reducible rfl) | (focus (simp; done)) | fail) | with_reducible refine Steady.snd (by with_reducible assumption) ?_ | with_reducible refine Steady.snd2 (by with_reducible assumption) ?_ | with_reducible refine Steady.fst (by with_reducible assumption) ?_ | dsimp only | split

theorem steady_digWrite {ρ : State} (n : Nat) (s : State) (hρ : Steady ρ s) : Steady ρ (digWrite n s) := by
  unfold digWrite
  repeat' first | with_reducible assumption | refine fun _ => ?_ | with_reducible apply steady_State_setCore | with_reducible apply steady_coreBusyShow | with_reducible apply Steady.ite | fail_if_no_progress (with_reducible refine Steady.mk' ?_ ?_ ?_ ?_ ?_ ?_ ?_; iterate 6 first | with_reducible rfl | (unfold setTransit; with_reducible rfl) | (split <;> with_reducible rfl) | (dsimp only; split <;> with_reducible rfl) | (focus (simp; done)) | fail) | dsimp only | split

theorem steady_digDone {ρ : State} (n : Nat) (s : State) (hρ : Steady ρ s) : Steady ρ (digDone n s) := by
  unfold digDone
  repeat' first | with_reducible assumption | refine fun _ => ?_ | with_reducible apply steady_State_setCore | with_reducible apply steady_setCoreState | with_reducible apply steady_coreBusyShow | with_reducible apply steady_coreStart | with_reducible apply steady_State_wrN | with_reducible apply Steady.ite | fail_if_no_progress (with_reducible refine Steady.mk' ?_ ?_ ?_ ?_ ?_ ?_ ?_; iterate 6 first | with_reducible rfl | (unfold setTransit; with_reducible rfl) | (split <;> with_reducible rfl) | (dsimp only; split <;> with_reducible rfl) | (focus (simp; done)) | fail) | with_reducible refine Steady.snd (by with_reducible assumption) ?_ | with_reducible refine Steady.snd2 (by with_reducible assumption) ?_ | with_reducible refine Steady.fst (by with_reducible assumption) ?_ | dsimp only | split

theorem steady_loadEnWrite {ρ : State} (n : Nat) (on : Bool) (s : State) (hρ : Steady ρ s) : Steady ρ (loadEnWrite n on s) := by
  unfold loadEnWrite
  repeat' first | with_reducible assumption | refine fun _ => ?_ | with_reducible apply steady_State_flag | with_reducible apply Steady.ite | dsimp only | split

theorem steady_coreCtlWrite {ρ : State} (n : Nat) (w : Word) (s : State) (hρ : Steady ρ s) : Steady ρ (coreCtlWrite n w s) := by
  unfold coreCtlWrite
  repeat' first | with_reducible assumption | refine fun _ => ?_ | with_reducible apply steady_coreReset | with_reducible apply steady_runWrite | with_reducible apply steady_pclrWrite | with_reducible apply steady_digWrite | with_reducible apply steady_loadEnWrite | with_reducible apply Steady.ite | with_reducible apply Steady.onlyIf | dsimp only | split

theorem steady_pldWrite {ρ : State} (keep : Bool) (n : Nat) (w : Word) (s : State) (hρ : Steady ρ s) : Steady ρ (pldWrite keep n w s) := by
  unfold pldWrite
  repeat' first | with_reducible assumption | refine fun _ => ?_ | with_reducible apply steady_State_wr | with_reducible apply steady_State_raise | with_reducible apply steady_State_setCore | with_reducible apply Steady.ite | fail_if_no_progress (with_reducible refine Steady.mk' ?_ ?_ ?_ ?_ ?_ ?_ ?_; iterate 6 first | with_reducible rfl | (unfold setTransit; with_reducible rfl) | (split <;> with_reducible rfl) | (dsimp only; split <;> with_reducible rfl) | (focus (simp; done)) | fail) | dsimp only | split

theorem steady_adoptOps {ρ : State} (n : Nat) (w : Option (Nat × Nat)) (s : State) (hρ : Steady ρ s) : Steady ρ (adoptOps n w s) := by
  unfold adoptOps
  repeat' first | with_reducible assumption | refine fun _ => ?_ | with_reducible apply Steady.ite | fail_if_no_progress (with_reducible refine Steady.mk' ?_ ?_ ?_ ?_ ?_ ?_ ?_; iterate 6 first | with_reducible rfl | (unfold setTransit; with_reducible rfl) | (split <;> with_reducible rfl) | (dsimp only; split <;> with_reducible rfl) | (focus (simp; done)) | fail) | with_reducible refine Steady.snd (by with_reducible assumption) ?_ | with_reducible refine Steady.snd2 (by with_reducible assumption) ?_ | with_reducible refine Steady.fst (by with_reducible assumption) ?_ | dsimp only | split

theorem steady_callPost {ρ : State} (n : Nat) (num : Nat) (s : State) (hρ : Steady ρ s) : Steady ρ (callPost n num s) := by
  unfold callPost
  repeat' first | with_reducible assumption | refine fun _ => ?_ | with_reducible apply steady_State_wr | with_reducible apply steady_State_setCore | with_reducible apply steady_setCoreState | with_reducible apply steady_adoptOps | with_reducible apply steady_State_wrN | with_reducible apply steady_State_zero | with_reducible apply Steady.ite | fail_if_no_progress (with_reducible refine Steady.mk' ?_ ?_ ?_ ?_ ?_ ?_ ?_; iterate 6 first | with_reducible rfl | (unfold setTransit; with_reducible rfl) | (split <;> with_reducible rfl) | (dsimp only; split <;> with_reducible rfl) | (focus (simp; done)) | fail) | with_reducible apply Steady.each | with_reducible refine Steady.snd (by with_reducible assumption) ?_ | with_reducible refine Steady.snd2 (by with_reducible assumption) ?_ | with_reducible refine Steady.fst (by with_reducible assumption) ?_ | dsimp only | split

theorem steady_kdoneWrite {ρ : State} (n : Nat) (w : Word) (s : State) (hρ : Steady ρ s) : Steady ρ (kdoneWrite n w s) := by
  unfold kdoneWrite
  repeat' first | with_reducible assumption | refine fun _ => ?_ | with_reducible apply steady_State_wr | with_reducible apply steady_State_setCore | with_reducible apply Steady.ite | fail_if_no_progress (with_reducible refine Steady.mk' ?_ ?_ ?_ ?_ ?_ ?_ ?_; iterate 6 first | with_reducible rfl | (unfold setTransit; with_reducible rfl) | (split <;> with_reducible rfl) | (dsimp only; split <;> with_reducible rfl) | (focus (simp; done)) | fail) | dsimp only | split

theorem steady_kcallRelease {ρ : State} (n : Nat) (s : State) (hρ : Steady ρ s) : Steady ρ (kcallRelease n s) := by
  unfold kcallRelease
  repeat' first | with_reducible assumption | refine fun _ => ?_ | with_reducible apply steady_State_wr | with_reducible apply steady_State_bump | with_reducible apply steady_State_pmcEvent | with_reducible apply steady_State_pmcLatency | with_reducible apply steady_State_setCore | with_reducible apply steady_setCoreState | with_reducible apply Steady.ite | fail_if_no_progress (with_reducible refine Steady.mk' ?_ ?_ ?_ ?_ ?_ ?_ ?_; iterate 6 first | with_reducible rfl | (unfold setTransit; with_reducible rfl) | (split <;> with_reducible rfl) | (dsimp only; split <;> with_reducible rfl) | (focus (simp; done)) | fail) | with_reducible apply Steady.onlyIf | with_reducible apply Steady.foldl | with_reducible apply Steady.foldlSnd | with_reducible refine Steady.snd (by with_reducible assumption) ?_ | with_reducible refine Steady.snd2 (by with_reducible assumption) ?_ | with_reducible refine Steady.fst (by with_reducible assumption) ?_ | dsimp only | split

theorem steady_daddrStep {ρ : State} (n : Nat) (s : State) (hρ : Steady ρ s) : Steady ρ (daddrStep n s) := by
  unfold daddrStep
  repeat' first | with_reducible assumption | refine fun _ => ?_ | with_reducible apply steady_State_wr | dsimp only | split

theorem steady_ddataWrite {ρ : State} (n : Nat) (w : Word) (s : State) (hρ : Steady ρ s) : Steady ρ (ddataWrite n w s) := by
  unfold ddataWrite
  repeat' first | with_reducible assumption | refine fun _ => ?_ | with_reducible apply steady_State_setCore | with_reducible apply steady_daddrStep | with_reducible apply Steady.ite | fail_if_no_progress (with_reducible refine Steady.mk' ?_ ?_ ?_ ?_ ?_ ?_ ?_; iterate 6 first | with_reducible rfl | (unfold setTransit; with_reducible rfl) | (split <;> with_reducible rfl) | (dsimp only; split <;> with_reducible rfl) | (focus (simp; done)) | fail) | dsimp only | split

theorem steady_ddataRead {ρ : State} (n : Nat) (s : State) (hρ : Steady ρ s) : Steady ρ (ddataRead n s).2 := by
  unfold ddataRead
  repeat' first | with_reducible assumption | refine fun _ => ?_ | with_reducible apply steady_daddrStep | with_reducible apply Steady.ite | dsimp only | split

theorem steady_ipendBoundary {ρ : State} (n : Nat) (s : State) (hρ : Steady ρ s) : Steady ρ (ipendBoundary n s) := by
  unfold ipendBoundary
  repeat' first | with_reducible assumption | refine fun _ => ?_ | with_reducible apply steady_State_setCore | fail_if_no_progress (with_reducible refine Steady.mk' ?_ ?_ ?_ ?_ ?_ ?_ ?_; iterate 6 first | with_reducible rfl | (unfold setTransit; with_reducible rfl) | (split <;> with_reducible rfl) | (dsimp only; split <;> with_reducible rfl) | (focus (simp; done)) | fail) | dsimp only | split

theorem steady_spareTakes {ρ : State} (n : Nat) (p : Nat) (s : State) (hρ : Steady ρ s) : Steady ρ (spareTakes n p s) := by
  unfold spareTakes
  repeat' first | with_reducible assumption | refine fun _ => ?_ | with_reducible apply steady_State_wr | with_reducible apply steady_State_setCore | with_reducible apply steady_coreStart | with_reducible apply Steady.ite | fail_if_no_progress (with_reducible refine Steady.mk' ?_ ?_ ?_ ?_ ?_ ?_ ?_; iterate 6 first | with_reducible rfl | (unfold setTransit; with_reducible rfl) | (split <;> with_reducible rfl) | (dsimp only; split <;> with_reducible rfl) | (focus (simp; done)) | fail) | with_reducible apply Steady.each | dsimp only | split

theorem steady_pierSilent {ρ : State} (n : Nat) (s : State) (hρ : Steady ρ s) : Steady ρ (pierSilent n s) := by
  unfold pierSilent
  repeat' first | with_reducible assumption | refine fun _ => ?_ | with_reducible apply steady_swLoseAck | with_reducible apply steady_setCoreState | with_reducible apply Steady.ite | dsimp only | split

theorem steady_pierReplace {ρ : State} (n : Nat) (s : State) (hρ : Steady ρ s) : Steady ρ (pierReplace n s) := by
  unfold pierReplace
  repeat' first | with_reducible assumption | refine fun _ => ?_ | with_reducible apply steady_testRequest | with_reducible apply steady_State_setCore | with_reducible apply steady_coreReset | with_reducible apply steady_spareTakes | with_reducible apply Steady.ite | fail_if_no_progress (with_reducible refine Steady.mk' ?_ ?_ ?_ ?_ ?_ ?_ ?_; iterate 6 first | with_reducible rfl | (unfold setTransit; with_reducible rfl) | (split <;> with_reducible rfl) | (dsimp only; split <;> with_reducible rfl) | (focus (simp; done)) | fail) | with_reducible refine Steady.snd (by with_reducible assumption) ?_ | with_reducible refine Steady.snd2 (by with_reducible assumption) ?_ | with_reducible refine Steady.fst (by with_reducible assumption) ?_ | dsimp only | split

theorem steady_lockstepFail {ρ : State} (n : Nat) (s : State) (hρ : Steady ρ s) : Steady ρ (lockstepFail n s) := by
  unfold lockstepFail
  repeat' first | with_reducible assumption | refine fun _ => ?_ | with_reducible apply steady_State_raise | with_reducible apply steady_swLoseAck | with_reducible apply steady_pptFire | with_reducible apply steady_setCoreState | with_reducible apply Steady.ite | fail_if_no_progress (with_reducible refine Steady.mk' ?_ ?_ ?_ ?_ ?_ ?_ ?_; iterate 6 first | with_reducible rfl | (unfold setTransit; with_reducible rfl) | (split <;> with_reducible rfl) | (dsimp only; split <;> with_reducible rfl) | (focus (simp; done)) | fail) | (with_reducible apply Steady.due'; all_goals first | with_reducible rfl | skip) | (unfold legalCause; decide) | dsimp only | split

end Sys2Proof.Machine
end

