-- ==== Sys2Proof/Laws/SteadyEntropy.lean ====
section
/-! SUPPORT. What the operations of Machine/Entropy.lean keep (`Steady`). -/

namespace Sys2Proof.Machine

theorem steady_entCount {ρ : State} (c : Nat) (s : State) (hρ : Steady ρ s) : Steady ρ (entCount c s) := by
  unfold entCount
  repeat' first | with_reducible assumption | refine fun _ => ?_ | with_reducible apply steady_State_count | dsimp only | split

theorem steady_srcEnter {ρ : State} (k : Nat) (st : Nat) (s : State) (hρ : Steady ρ s) : Steady ρ (srcEnter k st s) := by
  unfold srcEnter
  repeat' first | with_reducible assumption | refine fun _ => ?_ | with_reducible apply steady_State_put | with_reducible apply steady_State_flag | fail_if_no_progress (with_reducible refine Steady.mk' ?_ ?_ ?_ ?_ ?_ ?_ ?_; iterate 6 first | with_reducible rfl | (unfold setTransit; with_reducible rfl) | (split <;> with_reducible rfl) | (dsimp only; split <;> with_reducible rfl) | (focus (simp; done)) | fail) | dsimp only | split

theorem steady_healthFail {ρ : State} (k : Nat) (apt : Bool) (bits : List Bool) (s : State) (hρ : Steady ρ s) : Steady ρ (healthFail k apt bits s) := by
  unfold healthFail
  repeat' first | with_reducible assumption | refine fun _ => ?_ | with_reducible apply steady_State_raise | with_reducible apply steady_State_flag | with_reducible apply steady_testRequest | with_reducible apply steady_entCount | with_reducible apply steady_srcEnter | with_reducible apply Steady.ite | fail_if_no_progress (with_reducible refine Steady.mk' ?_ ?_ ?_ ?_ ?_ ?_ ?_; iterate 6 first | with_reducible rfl | (unfold setTransit; with_reducible rfl) | (split <;> with_reducible rfl) | (dsimp only; split <;> with_reducible rfl) | (focus (simp; done)) | fail) | dsimp only | split

theorem steady_startupPass {ρ : State} (k : Nat) (s : State) (hρ : Steady ρ s) : Steady ρ (startupPass k s) := by
  unfold startupPass
  repeat' first | with_reducible assumption | refine fun _ => ?_ | with_reducible apply steady_srcEnter | with_reducible apply Steady.ite | dsimp only | split

theorem steady_sourceTestBegin {ρ : State} (k : Nat) (s : State) (hρ : Steady ρ s) : Steady ρ (sourceTestBegin k s) := by
  unfold sourceTestBegin
  repeat' first | with_reducible assumption | refine fun _ => ?_ | with_reducible apply steady_srcEnter | fail_if_no_progress (with_reducible refine Steady.mk' ?_ ?_ ?_ ?_ ?_ ?_ ?_; iterate 6 first | with_reducible rfl | (unfold setTransit; with_reducible rfl) | (split <;> with_reducible rfl) | (dsimp only; split <;> with_reducible rfl) | (focus (simp; done)) | fail) | dsimp only | split

theorem steady_sourceTestEnd {ρ : State} (k : Nat) (s : State) (hρ : Steady ρ s) : Steady ρ (sourceTestEnd k s) := by
  unfold sourceTestEnd
  repeat' first | with_reducible assumption | refine fun _ => ?_ | with_reducible apply steady_State_raise | with_reducible apply steady_entCount | with_reducible apply steady_srcEnter | with_reducible apply Steady.ite | fail_if_no_progress (with_reducible refine Steady.mk' ?_ ?_ ?_ ?_ ?_ ?_ ?_; iterate 6 first | with_reducible rfl | (unfold setTransit; with_reducible rfl) | (split <;> with_reducible rfl) | (dsimp only; split <;> with_reducible rfl) | (focus (simp; done)) | fail) | with_reducible refine Steady.snd (by with_reducible assumption) ?_ | with_reducible refine Steady.snd2 (by with_reducible assumption) ?_ | with_reducible refine Steady.fst (by with_reducible assumption) ?_ | dsimp only | split

theorem steady_entCtlWrite {ρ : State} (w : Word) (s : State) (hρ : Steady ρ s) : Steady ρ (entCtlWrite w s) := by
  unfold entCtlWrite
  repeat' first | with_reducible assumption | refine fun _ => ?_ | with_reducible apply steady_State_put | with_reducible apply steady_srcEnter | with_reducible apply Steady.ite | fail_if_no_progress (with_reducible refine Steady.mk' ?_ ?_ ?_ ?_ ?_ ?_ ?_; iterate 6 first | with_reducible rfl | (unfold setTransit; with_reducible rfl) | (split <;> with_reducible rfl) | (dsimp only; split <;> with_reducible rfl) | (focus (simp; done)) | fail) | with_reducible apply Steady.each | dsimp only | split

theorem steady_poolShow {ρ : State} (s : State) (hρ : Steady ρ s) : Steady ρ (poolShow s) := by
  unfold poolShow
  repeat' first | with_reducible assumption | refine fun _ => ?_ | with_reducible apply steady_State_wr | dsimp only | split

theorem steady_conditionedBlock {ρ : State} (raw : List Bool) (s : State) (hρ : Steady ρ s) : Steady ρ (conditionedBlock raw s) := by
  unfold conditionedBlock
  repeat' first | with_reducible assumption | refine fun _ => ?_ | with_reducible apply steady_entCount | with_reducible apply steady_poolShow | with_reducible apply Steady.ite | fail_if_no_progress (with_reducible refine Steady.mk' ?_ ?_ ?_ ?_ ?_ ?_ ?_; iterate 6 first | with_reducible rfl | (unfold setTransit; with_reducible rfl) | (split <;> with_reducible rfl) | (dsimp only; split <;> with_reducible rfl) | (focus (simp; done)) | fail) | with_reducible apply Steady.foldl | with_reducible apply Steady.foldlSnd | dsimp only | split

theorem steady_takeBlock {ρ : State} {s : State} {x t} (e : takeBlock s = some (x, t)) (hρ : Steady ρ s) : Steady ρ t := by
  unfold takeBlock at e
  repeat' first | contradiction | simp only [Option.some.injEq, Prod.mk.injEq, reduceCtorEq] at e | obtain ⟨_, rfl⟩ := e | split at e | dsimp only at e
  all_goals repeat' first | with_reducible assumption | refine fun _ => ?_ | with_reducible apply steady_poolShow | fail_if_no_progress (with_reducible refine Steady.mk' ?_ ?_ ?_ ?_ ?_ ?_ ?_; iterate 6 first | with_reducible rfl | (unfold setTransit; with_reducible rfl) | (split <;> with_reducible rfl) | (dsimp only; split <;> with_reducible rfl) | (focus (simp; done)) | fail) | with_reducible refine Steady.snd (by with_reducible assumption) ?_ | with_reducible refine Steady.snd2 (by with_reducible assumption) ?_ | with_reducible refine Steady.fst (by with_reducible assumption) ?_ | dsimp only | split

theorem steady_State_setDrbg {ρ : State} (s : State) (i : Nat) (d : Drbg) (hρ : Steady ρ s) : Steady ρ (State.setDrbg s i d) := by
  unfold State.setDrbg
  repeat' first | with_reducible assumption | refine fun _ => ?_ | with_reducible apply steady_State_put | fail_if_no_progress (with_reducible refine Steady.mk' ?_ ?_ ?_ ?_ ?_ ?_ ?_; iterate 6 first | with_reducible rfl | (unfold setTransit; with_reducible rfl) | (split <;> with_reducible rfl) | (dsimp only; split <;> with_reducible rfl) | (focus (simp; done)) | fail) | with_reducible refine Steady.snd (by with_reducible assumption) ?_ | with_reducible refine Steady.snd2 (by with_reducible assumption) ?_ | with_reducible refine Steady.fst (by with_reducible assumption) ?_ | dsimp only | split

theorem steady_drbgShow {ρ : State} (s : State) (hρ : Steady ρ s) : Steady ρ (drbgShow s) := by
  unfold drbgShow
  repeat' first | with_reducible assumption | refine fun _ => ?_ | with_reducible apply steady_State_flag | with_reducible apply Steady.each | dsimp only | split

theorem steady_drbgFill {ρ : State} (i : Nat) (s : State) (hρ : Steady ρ s) : Steady ρ (drbgFill i s) := by
  unfold drbgFill
  repeat' first | with_reducible assumption | refine fun _ => ?_ | with_reducible apply steady_State_setDrbg | fail_if_no_progress (with_reducible refine Steady.mk' ?_ ?_ ?_ ?_ ?_ ?_ ?_; iterate 6 first | with_reducible rfl | (unfold setTransit; with_reducible rfl) | (split <;> with_reducible rfl) | (dsimp only; split <;> with_reducible rfl) | (focus (simp; done)) | fail) | with_reducible refine Steady.snd (by with_reducible assumption) ?_ | with_reducible refine Steady.snd2 (by with_reducible assumption) ?_ | with_reducible refine Steady.fst (by with_reducible assumption) ?_ | dsimp only | split

theorem steady_drbgInstantiate {ρ : State} (i : Nat) (s : State) (hρ : Steady ρ s) : Steady ρ (drbgInstantiate i s) := by
  unfold drbgInstantiate
  repeat' first | with_reducible assumption | refine fun _ => ?_ | with_reducible apply steady_State_put | with_reducible apply steady_poolShow | with_reducible apply steady_State_setDrbg | with_reducible apply steady_drbgShow | with_reducible apply steady_drbgFill | with_reducible apply Steady.ite | fail_if_no_progress (with_reducible refine Steady.mk' ?_ ?_ ?_ ?_ ?_ ?_ ?_; iterate 6 first | with_reducible rfl | (unfold setTransit; with_reducible rfl) | (split <;> with_reducible rfl) | (dsimp only; split <;> with_reducible rfl) | (focus (simp; done)) | fail) | with_reducible apply Steady.onlyIf | with_reducible refine Steady.snd (by with_reducible assumption) ?_ | with_reducible refine Steady.snd2 (by with_reducible assumption) ?_ | with_reducible refine Steady.fst (by with_reducible assumption) ?_ | dsimp only | split

theorem steady_drbgReseedWith {ρ : State} (i : Nat) (x : BitVec 384) (s : State) (hρ : Steady ρ s) : Steady ρ (drbgReseedWith i x s) := by
  unfold drbgReseedWith
  repeat' first | with_reducible assumption | refine fun _ => ?_ | with_reducible apply steady_State_put | with_reducible apply steady_entCount | with_reducible apply steady_State_setDrbg | with_reducible apply steady_drbgShow | with_reducible apply steady_drbgFill | fail_if_no_progress (with_reducible refine Steady.mk' ?_ ?_ ?_ ?_ ?_ ?_ ?_; iterate 6 first | with_reducible rfl | (unfold setTransit; with_reducible rfl) | (split <;> with_reducible rfl) | (dsimp only; split <;> with_reducible rfl) | (focus (simp; done)) | fail) | dsimp only | split

theorem steady_drbgReseed {ρ : State} (i : Nat) (s : State) (hρ : Steady ρ s) : Steady ρ (drbgReseed i s) := by
  unfold drbgReseed
  repeat' first | with_reducible assumption | refine fun _ => ?_ | with_reducible apply steady_State_put | with_reducible apply steady_State_raise | with_reducible apply steady_entCount | with_reducible refine steady_takeBlock (by with_reducible assumption) ?_ | with_reducible apply steady_State_setDrbg | with_reducible apply steady_drbgShow | with_reducible apply steady_drbgReseedWith | with_reducible apply Steady.ite | fail_if_no_progress (with_reducible refine Steady.mk' ?_ ?_ ?_ ?_ ?_ ?_ ?_; iterate 6 first | with_reducible rfl | (unfold setTransit; with_reducible rfl) | (split <;> with_reducible rfl) | (dsimp only; split <;> with_reducible rfl) | (focus (simp; done)) | fail) | with_reducible refine Steady.snd (by with_reducible assumption) ?_ | with_reducible refine Steady.snd2 (by with_reducible assumption) ?_ | with_reducible refine Steady.fst (by with_reducible assumption) ?_ | dsimp only | split

theorem steady_drbgUnblock {ρ : State} (i : Nat) (s : State) (hρ : Steady ρ s) : Steady ρ (drbgUnblock i s) := by
  unfold drbgUnblock
  repeat' first | with_reducible assumption | refine fun _ => ?_ | with_reducible refine steady_takeBlock (by with_reducible assumption) ?_ | with_reducible apply steady_drbgReseedWith | with_reducible apply Steady.ite | fail_if_no_progress (with_reducible refine Steady.mk' ?_ ?_ ?_ ?_ ?_ ?_ ?_; iterate 6 first | with_reducible rfl | (unfold setTransit; with_reducible rfl) | (split <;> with_reducible rfl) | (dsimp only; split <;> with_reducible rfl) | (focus (simp; done)) | fail) | with_reducible refine Steady.snd (by with_reducible assumption) ?_ | with_reducible refine Steady.snd2 (by with_reducible assumption) ?_ | with_reducible refine Steady.fst (by with_reducible assumption) ?_ | dsimp only | split

theorem steady_entDataTake {ρ : State} (i : Nat) (s : State) (hρ : Steady ρ s) : Steady ρ (entDataTake i s).2 := by
  unfold entDataTake
  repeat' first | with_reducible assumption | refine fun _ => ?_ | with_reducible apply steady_State_put | with_reducible apply steady_entCount | with_reducible apply steady_State_setDrbg | with_reducible apply steady_drbgFill | with_reducible apply Steady.ite | fail_if_no_progress (with_reducible refine Steady.mk' ?_ ?_ ?_ ?_ ?_ ?_ ?_; iterate 6 first | with_reducible rfl | (unfold setTransit; with_reducible rfl) | (split <;> with_reducible rfl) | (dsimp only; split <;> with_reducible rfl) | (focus (simp; done)) | fail) | with_reducible refine Steady.snd (by with_reducible assumption) ?_ | with_reducible refine Steady.snd2 (by with_reducible assumption) ?_ | with_reducible refine Steady.fst (by with_reducible assumption) ?_ | dsimp only | split

theorem steady_entStatTake {ρ : State} (i : Nat) (s : State) (hρ : Steady ρ s) : Steady ρ (entStatTake i s).2 := by
  unfold entStatTake
  repeat' first | with_reducible assumption | refine fun _ => ?_ | with_reducible apply steady_State_put | with_reducible apply Steady.ite | dsimp only | split

theorem steady_katEnd {ρ : State} (ok : Bool) (s : State) (hρ : Steady ρ s) : Steady ρ (katEnd ok s) := by
  unfold katEnd
  repeat' first | with_reducible assumption | refine fun _ => ?_ | with_reducible apply steady_State_flag | with_reducible apply steady_drbgShow | dsimp only | split

theorem steady_entEvtWrite {ρ : State} (w : Word) (s : State) (hρ : Steady ρ s) : Steady ρ (entEvtWrite w s) := by
  unfold entEvtWrite
  repeat' first | with_reducible assumption | refine fun _ => ?_ | with_reducible apply steady_State_wr | with_reducible apply steady_State_zero | with_reducible apply Steady.onlyIf | dsimp only | split

theorem steady_entRestart {ρ : State} (s : State) (hρ : Steady ρ s) : Steady ρ (entRestart s) := by
  unfold entRestart
  repeat' first | with_reducible assumption | refine fun _ => ?_ | with_reducible apply steady_State_wr | with_reducible apply steady_State_put | with_reducible apply steady_srcEnter | with_reducible apply steady_poolShow | with_reducible apply steady_drbgShow | with_reducible apply Steady.ite | fail_if_no_progress (with_reducible refine Steady.mk' ?_ ?_ ?_ ?_ ?_ ?_ ?_; iterate 6 first | with_reducible rfl | (unfold setTransit; with_reducible rfl) | (split <;> with_reducible rfl) | (dsimp only; split <;> with_reducible rfl) | (focus (simp; done)) | fail) | with_reducible apply Steady.each | with_reducible refine Steady.snd (by with_reducible assumption) ?_ | with_reducible refine Steady.snd2 (by with_reducible assumption) ?_ | with_reducible refine Steady.fst (by with_reducible assumption) ?_ | dsimp only | split

theorem steady_sealedStore {ρ : State} (n : Nat) (l : List (Nat × Nat × Word)) (s : State) (hρ : Steady ρ s) : Steady ρ (sealedStore n l s) := by
  unfold sealedStore
  repeat' first | with_reducible assumption | refine fun _ => ?_ | with_reducible apply steady_State_updGrv | with_reducible apply steady_sealBank | with_reducible apply Steady.ite | with_reducible apply Steady.each | with_reducible refine Steady.snd (by with_reducible assumption) ?_ | with_reducible refine Steady.snd2 (by with_reducible assumption) ?_ | with_reducible refine Steady.fst (by with_reducible assumption) ?_ | dsimp only | split

theorem steady_graverFeed {ρ : State} (i : Nat) (s : State) (hρ : Steady ρ s) : Steady ρ (graverFeed i s) := by
  unfold graverFeed
  repeat' first | with_reducible assumption | refine fun _ => ?_ | with_reducible apply steady_State_updGrv | with_reducible apply steady_State_setDrbg | with_reducible apply steady_drbgFill | with_reducible apply steady_sealedStore | with_reducible apply Steady.ite | fail_if_no_progress (with_reducible refine Steady.mk' ?_ ?_ ?_ ?_ ?_ ?_ ?_; iterate 6 first | with_reducible rfl | (unfold setTransit; with_reducible rfl) | (split <;> with_reducible rfl) | (dsimp only; split <;> with_reducible rfl) | (focus (simp; done)) | fail) | with_reducible refine Steady.snd (by with_reducible assumption) ?_ | with_reducible refine Steady.snd2 (by with_reducible assumption) ?_ | with_reducible refine Steady.fst (by with_reducible assumption) ?_ | dsimp only | split

theorem steady_graverPhase {ρ : State} (n : Nat) (s : State) (hρ : Steady ρ s) : Steady ρ (graverPhase n s) := by
  unfold graverPhase
  repeat' first | with_reducible assumption | refine fun _ => ?_ | with_reducible apply steady_sealedStore | with_reducible apply Steady.ite | with_reducible refine Steady.snd (by with_reducible assumption) ?_ | with_reducible refine Steady.snd2 (by with_reducible assumption) ?_ | with_reducible refine Steady.fst (by with_reducible assumption) ?_ | dsimp only | split

theorem steady_graverDraws {ρ : State} (s : State) (hρ : Steady ρ s) : Steady ρ (graverDraws s) := by
  unfold graverDraws
  repeat' first | with_reducible assumption | refine fun _ => ?_ | with_reducible apply steady_graverFeed | with_reducible apply steady_graverPhase | with_reducible apply Steady.each | dsimp only | split

theorem steady_entBoundary {ρ : State} (s : State) (hρ : Steady ρ s) : Steady ρ (entBoundary s) := by
  unfold entBoundary
  repeat' first | with_reducible assumption | refine fun _ => ?_ | with_reducible apply steady_State_setDrbg | with_reducible apply steady_drbgInstantiate | with_reducible apply steady_drbgReseed | with_reducible apply steady_drbgUnblock | with_reducible apply steady_graverDraws | fail_if_no_progress (with_reducible refine Steady.mk' ?_ ?_ ?_ ?_ ?_ ?_ ?_; iterate 6 first | with_reducible rfl | (unfold setTransit; with_reducible rfl) | (split <;> with_reducible rfl) | (dsimp only; split <;> with_reducible rfl) | (focus (simp; done)) | fail) | with_reducible apply Steady.each | dsimp only | split

end Sys2Proof.Machine
end

