-- ==== Sys2Proof/Laws/SteadyAgree.lean ====
section
/-! SUPPORT. What the operations of Machine/Agree.lean keep (`Steady`). -/

namespace Sys2Proof.Machine

theorem steady_setAgreement {ρ : State} (site : Nat) (a : Option Agreement) (s : State) (hρ : Steady ρ s) : Steady ρ (setAgreement site a s) := by
  unfold setAgreement
  repeat' first | with_reducible assumption | refine fun _ => ?_ | fail_if_no_progress (with_reducible refine Steady.mk' ?_ ?_ ?_ ?_ ?_ ?_ ?_; iterate 6 first | with_reducible rfl | (unfold setTransit; with_reducible rfl) | (split <;> with_reducible rfl) | (dsimp only; split <;> with_reducible rfl) | (focus (simp; done)) | fail) | dsimp only | split

theorem steady_agreementFail {ρ : State} (site : Nat) (s : State) (hρ : Steady ρ s) : Steady ρ (agreementFail site s) := by
  unfold agreementFail
  repeat' first | with_reducible assumption | refine fun _ => ?_ | with_reducible apply steady_setAgreement | fail_if_no_progress (with_reducible refine Steady.mk' ?_ ?_ ?_ ?_ ?_ ?_ ?_; iterate 6 first | with_reducible rfl | (unfold setTransit; with_reducible rfl) | (split <;> with_reducible rfl) | (dsimp only; split <;> with_reducible rfl) | (focus (simp; done)) | fail) | with_reducible refine Steady.snd (by with_reducible assumption) ?_ | with_reducible refine Steady.snd2 (by with_reducible assumption) ?_ | with_reducible refine Steady.fst (by with_reducible assumption) ?_ | dsimp only | split

theorem steady_freshPrivates {ρ : State} (s : State) (hρ : Steady ρ s) : Steady ρ (freshPrivates s).2.2 := by
  unfold freshPrivates
  repeat' first | with_reducible assumption | refine fun _ => ?_ | with_reducible apply steady_State_useFree | with_reducible refine Steady.snd (by with_reducible assumption) ?_ | with_reducible refine Steady.snd2 (by with_reducible assumption) ?_ | with_reducible refine Steady.fst (by with_reducible assumption) ?_ | dsimp only | split

theorem steady_sendAgreement {ρ : State} (site : Nat) (number : Nat) (body : Bytes) (s : State) (hρ : Steady ρ s) : Steady ρ (sendAgreement site number body s) := by
  unfold sendAgreement
  repeat' first | with_reducible assumption | refine fun _ => ?_ | with_reducible apply steady_portCount | with_reducible apply steady_transmit | with_reducible apply steady_sendViaduct | with_reducible apply Steady.ite | fail_if_no_progress (with_reducible refine Steady.mk' ?_ ?_ ?_ ?_ ?_ ?_ ?_; iterate 6 first | with_reducible rfl | (unfold setTransit; with_reducible rfl) | (split <;> with_reducible rfl) | (dsimp only; split <;> with_reducible rfl) | (focus (simp; done)) | fail) | with_reducible apply Steady.each | with_reducible refine Steady.snd (by with_reducible assumption) ?_ | with_reducible refine Steady.snd2 (by with_reducible assumption) ?_ | with_reducible refine Steady.fst (by with_reducible assumption) ?_ | dsimp only | split

theorem steady_agreementRuns {ρ : State} (site : Nat) (s : State) (hρ : Steady ρ s) : Steady ρ (agreementRuns site s) := by
  unfold agreementRuns
  repeat' first | with_reducible assumption | refine fun _ => ?_ | with_reducible apply steady_State_put | with_reducible apply Steady.ite | dsimp only | split

theorem steady_agreementStart {ρ : State} (site : Nat) (s : State) (hρ : Steady ρ s) : Steady ρ (agreementStart site s) := by
  unfold agreementStart
  repeat' first | with_reducible assumption | refine fun _ => ?_ | with_reducible apply steady_setAgreement | with_reducible apply steady_freshPrivates | with_reducible apply steady_sendAgreement | with_reducible apply steady_agreementRuns | with_reducible apply Steady.ite | fail_if_no_progress (with_reducible refine Steady.mk' ?_ ?_ ?_ ?_ ?_ ?_ ?_; iterate 6 first | with_reducible rfl | (unfold setTransit; with_reducible rfl) | (split <;> with_reducible rfl) | (dsimp only; split <;> with_reducible rfl) | (focus (simp; done)) | fail) | with_reducible refine Steady.snd (by with_reducible assumption) ?_ | with_reducible refine Steady.snd2 (by with_reducible assumption) ?_ | with_reducible refine Steady.fst (by with_reducible assumption) ?_ | dsimp only | split

theorem steady_agreementOne {ρ : State} (site : Nat) (m : AgreeMsg) (s : State) (hρ : Steady ρ s) : Steady ρ (agreementOne site m s) := by
  unfold agreementOne
  repeat' first | with_reducible assumption | refine fun _ => ?_ | with_reducible apply steady_setAgreement | with_reducible apply steady_agreementFail | with_reducible apply steady_freshPrivates | with_reducible apply steady_sendAgreement | with_reducible apply steady_agreementRuns | with_reducible apply Steady.ite | fail_if_no_progress (with_reducible refine Steady.mk' ?_ ?_ ?_ ?_ ?_ ?_ ?_; iterate 6 first | with_reducible rfl | (unfold setTransit; with_reducible rfl) | (split <;> with_reducible rfl) | (dsimp only; split <;> with_reducible rfl) | (focus (simp; done)) | fail) | with_reducible refine Steady.snd (by with_reducible assumption) ?_ | with_reducible refine Steady.snd2 (by with_reducible assumption) ?_ | with_reducible refine Steady.fst (by with_reducible assumption) ?_ | dsimp only | split

theorem steady_agreementKeys {ρ : State} (site : Nat) (transcript : Bytes) (z : Bytes) (s : State) (hρ : Steady ρ s) : Steady ρ (agreementKeys site transcript z s) := by
  unfold agreementKeys
  repeat' first | with_reducible assumption | refine fun _ => ?_ | with_reducible apply steady_createObject | with_reducible apply steady_setAgreement | fail_if_no_progress (with_reducible refine Steady.mk' ?_ ?_ ?_ ?_ ?_ ?_ ?_; iterate 6 first | with_reducible rfl | (unfold setTransit; with_reducible rfl) | (split <;> with_reducible rfl) | (dsimp only; split <;> with_reducible rfl) | (focus (simp; done)) | fail) | with_reducible refine Steady.snd (by with_reducible assumption) ?_ | with_reducible refine Steady.snd2 (by with_reducible assumption) ?_ | with_reducible refine Steady.fst (by with_reducible assumption) ?_ | dsimp only | split

theorem steady_agreementTwo {ρ : State} (site : Nat) (m : AgreeMsg) (s : State) (hρ : Steady ρ s) : Steady ρ (agreementTwo site m s).2 := by
  unfold agreementTwo
  repeat' first | with_reducible assumption | refine fun _ => ?_ | with_reducible apply steady_agreementFail | with_reducible apply steady_sendAgreement | with_reducible apply steady_agreementKeys | with_reducible apply Steady.ite | fail_if_no_progress (with_reducible refine Steady.mk' ?_ ?_ ?_ ?_ ?_ ?_ ?_; iterate 6 first | with_reducible rfl | (unfold setTransit; with_reducible rfl) | (split <;> with_reducible rfl) | (dsimp only; split <;> with_reducible rfl) | (focus (simp; done)) | fail) | with_reducible refine Steady.snd (by with_reducible assumption) ?_ | with_reducible refine Steady.snd2 (by with_reducible assumption) ?_ | with_reducible refine Steady.fst (by with_reducible assumption) ?_ | dsimp only | split

theorem steady_agreementThree {ρ : State} (site : Nat) (m : AgreeMsg) (s : State) (hρ : Steady ρ s) : Steady ρ (agreementThree site m s).2 := by
  unfold agreementThree
  repeat' first | with_reducible assumption | refine fun _ => ?_ | with_reducible apply steady_agreementFail | with_reducible apply steady_agreementKeys | with_reducible apply Steady.ite | fail_if_no_progress (with_reducible refine Steady.mk' ?_ ?_ ?_ ?_ ?_ ?_ ?_; iterate 6 first | with_reducible rfl | (unfold setTransit; with_reducible rfl) | (split <;> with_reducible rfl) | (dsimp only; split <;> with_reducible rfl) | (focus (simp; done)) | fail) | with_reducible refine Steady.snd (by with_reducible assumption) ?_ | with_reducible refine Steady.snd2 (by with_reducible assumption) ?_ | with_reducible refine Steady.fst (by with_reducible assumption) ?_ | dsimp only | split

theorem steady_agreementRetry {ρ : State} (site : Nat) (s : State) (hρ : Steady ρ s) : Steady ρ (agreementRetry site s) := by
  unfold agreementRetry
  repeat' first | with_reducible assumption | refine fun _ => ?_ | with_reducible apply steady_setAgreement | with_reducible apply Steady.ite | fail_if_no_progress (with_reducible refine Steady.mk' ?_ ?_ ?_ ?_ ?_ ?_ ?_; iterate 6 first | with_reducible rfl | (unfold setTransit; with_reducible rfl) | (split <;> with_reducible rfl) | (dsimp only; split <;> with_reducible rfl) | (focus (simp; done)) | fail) | with_reducible refine Steady.snd (by with_reducible assumption) ?_ | with_reducible refine Steady.snd2 (by with_reducible assumption) ?_ | with_reducible refine Steady.fst (by with_reducible assumption) ?_ | dsimp only | split

end Sys2Proof.Machine
end

