-- ==== Sys2Proof/Laws/SteadyViaduct.lean ====
section
/-! SUPPORT. What the operations of Machine/Viaduct.lean keep (`Steady`). -/

namespace Sys2Proof.Machine

theorem steady_vdtCount {ρ : State} (c : Nat) (s : State) (hρ : Steady ρ s) : Steady ρ (vdtCount c s) := by
  unfold vdtCount
  repeat' first | with_reducible assumption | refine fun _ => ?_ | with_reducible apply steady_State_count | dsimp only | split

theorem steady_setPair {ρ : State} (p : Nat) (s : State) (hρ : Steady ρ s) : Steady ρ (setPair p s) := by
  unfold setPair
  repeat' first | with_reducible assumption | refine fun _ => ?_ | with_reducible apply steady_State_put | dsimp only | split

theorem steady_holdShow {ρ : State} (force : Bool) (s : State) (hρ : Steady ρ s) : Steady ρ (holdShow force s) := by
  unfold holdShow
  repeat' first | with_reducible assumption | refine fun _ => ?_ | with_reducible apply steady_State_flag | dsimp only | split

theorem steady_setRole {ρ : State} (r : Nat) (force : Bool) (s : State) (hρ : Steady ρ s) : Steady ρ (setRole r force s) := by
  unfold setRole
  repeat' first | with_reducible assumption | refine fun _ => ?_ | with_reducible apply steady_State_wr | with_reducible apply steady_State_put | with_reducible apply steady_holdShow | with_reducible apply steady_State_wrN | with_reducible apply Steady.ite | dsimp only | split

theorem steady_releaseHeld {ρ : State} (p : Nat → Bool) (s : State) (hρ : Steady ρ s) : Steady ρ (releaseHeld p s) := by
  unfold releaseHeld
  repeat' first | with_reducible assumption | refine fun _ => ?_ | with_reducible apply steady_makeReady | fail_if_no_progress (with_reducible refine Steady.mk' ?_ ?_ ?_ ?_ ?_ ?_ ?_; iterate 6 first | with_reducible rfl | (unfold setTransit; with_reducible rfl) | (split <;> with_reducible rfl) | (dsimp only; split <;> with_reducible rfl) | (focus (simp; done)) | fail) | with_reducible apply Steady.each | with_reducible refine Steady.snd (by with_reducible assumption) ?_ | with_reducible refine Steady.snd2 (by with_reducible assumption) ?_ | with_reducible refine Steady.fst (by with_reducible assumption) ?_ | dsimp only | split

theorem steady_settleReservations {ρ : State} (s : State) (hρ : Steady ρ s) : Steady ρ (settleReservations s) := by
  unfold settleReservations
  repeat' first | with_reducible assumption | refine fun _ => ?_ | with_reducible apply steady_writeContent64 | with_reducible apply steady_dirtyPlate | fail_if_no_progress (with_reducible refine Steady.mk' ?_ ?_ ?_ ?_ ?_ ?_ ?_; iterate 6 first | with_reducible rfl | (unfold setTransit; with_reducible rfl) | (split <;> with_reducible rfl) | (dsimp only; split <;> with_reducible rfl) | (focus (simp; done)) | fail) | with_reducible apply Steady.each | with_reducible refine Steady.snd (by with_reducible assumption) ?_ | with_reducible refine Steady.snd2 (by with_reducible assumption) ?_ | with_reducible refine Steady.fst (by with_reducible assumption) ?_ | dsimp only | split

theorem steady_mirrorEnds {ρ : State} (s : State) (hρ : Steady ρ s) : Steady ρ (mirrorEnds s) := by
  unfold mirrorEnds
  repeat' first | with_reducible assumption | refine fun _ => ?_ | with_reducible apply steady_releaseHeld | with_reducible apply steady_settleReservations | fail_if_no_progress (with_reducible refine Steady.mk' ?_ ?_ ?_ ?_ ?_ ?_ ?_; iterate 6 first | with_reducible rfl | (unfold setTransit; with_reducible rfl) | (split <;> with_reducible rfl) | (dsimp only; split <;> with_reducible rfl) | (focus (simp; done)) | fail) | with_reducible refine Steady.snd (by with_reducible assumption) ?_ | with_reducible refine Steady.snd2 (by with_reducible assumption) ?_ | with_reducible refine Steady.fst (by with_reducible assumption) ?_ | dsimp only | split

theorem steady_pairDown {ρ : State} (s : State) (hρ : Steady ρ s) : Steady ρ (pairDown s) := by
  unfold pairDown
  repeat' first | with_reducible assumption | refine fun _ => ?_ | with_reducible apply steady_State_put | with_reducible apply steady_setPair | with_reducible apply steady_mirrorEnds | fail_if_no_progress (with_reducible refine Steady.mk' ?_ ?_ ?_ ?_ ?_ ?_ ?_; iterate 6 first | with_reducible rfl | (unfold setTransit; with_reducible rfl) | (split <;> with_reducible rfl) | (dsimp only; split <;> with_reducible rfl) | (focus (simp; done)) | fail) | dsimp only | split

theorem steady_makeSolo {ρ : State} (s : State) (hρ : Steady ρ s) : Steady ρ (makeSolo s) := by
  unfold makeSolo
  repeat' first | with_reducible assumption | refine fun _ => ?_ | with_reducible apply steady_setRole | with_reducible apply steady_pairDown | dsimp only | split

theorem steady_holdSample {ρ : State} (level : Bool) (s : State) (hρ : Steady ρ s) : Steady ρ (holdSample level s) := by
  unfold holdSample
  repeat' first | with_reducible assumption | refine fun _ => ?_ | with_reducible apply steady_State_flag | with_reducible apply Steady.ite | fail_if_no_progress (with_reducible refine Steady.mk' ?_ ?_ ?_ ?_ ?_ ?_ ?_; iterate 6 first | with_reducible rfl | (unfold setTransit; with_reducible rfl) | (split <;> with_reducible rfl) | (dsimp only; split <;> with_reducible rfl) | (focus (simp; done)) | fail) | dsimp only | split

theorem steady_heartbeatSend {ρ : State} (s : State) (hρ : Steady ρ s) : Steady ρ (heartbeatSend s) := by
  unfold heartbeatSend
  repeat' first | with_reducible assumption | refine fun _ => ?_ | with_reducible apply steady_sendViaduct | with_reducible apply Steady.ite | fail_if_no_progress (with_reducible refine Steady.mk' ?_ ?_ ?_ ?_ ?_ ?_ ?_; iterate 6 first | with_reducible rfl | (unfold setTransit; with_reducible rfl) | (split <;> with_reducible rfl) | (dsimp only; split <;> with_reducible rfl) | (focus (simp; done)) | fail) | with_reducible refine Steady.snd (by with_reducible assumption) ?_ | with_reducible refine Steady.snd2 (by with_reducible assumption) ?_ | with_reducible refine Steady.fst (by with_reducible assumption) ?_ | dsimp only | split

theorem steady_degrade {ρ : State} (s : State) (hρ : Steady ρ s) : Steady ρ (degrade s) := by
  unfold degrade
  repeat' first | with_reducible assumption | refine fun _ => ?_ | with_reducible apply steady_State_raise | with_reducible apply steady_setPair | with_reducible apply steady_mirrorEnds | with_reducible apply Steady.ite | dsimp only | split

theorem steady_discardSweep {ρ : State} (s : State) (hρ : Steady ρ s) : Steady ρ (discardSweep s) := by
  unfold discardSweep
  repeat' first | with_reducible assumption | refine fun _ => ?_ | with_reducible apply steady_State_raise | with_reducible apply steady_vdtCount | fail_if_no_progress (with_reducible refine Steady.mk' ?_ ?_ ?_ ?_ ?_ ?_ ?_; iterate 6 first | with_reducible rfl | (unfold setTransit; with_reducible rfl) | (split <;> with_reducible rfl) | (dsimp only; split <;> with_reducible rfl) | (focus (simp; done)) | fail) | with_reducible refine Steady.snd (by with_reducible assumption) ?_ | with_reducible refine Steady.snd2 (by with_reducible assumption) ?_ | with_reducible refine Steady.fst (by with_reducible assumption) ?_ | dsimp only | split

theorem steady_pairSilence {ρ : State} (s : State) (hρ : Steady ρ s) : Steady ρ (pairSilence s) := by
  unfold pairSilence
  repeat' first | with_reducible assumption | refine fun _ => ?_ | with_reducible apply steady_degrade | with_reducible apply Steady.ite | dsimp only | split

theorem steady_decideRole {ρ : State} (initiator : Bool) (s : State) (hρ : Steady ρ s) : Steady ρ (decideRole initiator s) := by
  unfold decideRole
  repeat' first | with_reducible assumption | refine fun _ => ?_ | with_reducible apply steady_State_raise | with_reducible apply steady_State_useFree | with_reducible apply steady_retireEffect | with_reducible apply steady_setRole | with_reducible apply Steady.ite | with_reducible apply Steady.each | with_reducible refine Steady.snd (by with_reducible assumption) ?_ | with_reducible refine Steady.snd2 (by with_reducible assumption) ?_ | with_reducible refine Steady.fst (by with_reducible assumption) ?_ | dsimp only | split

theorem steady_setRoot {ρ : State} (root : Bytes) (s : State) (hρ : Steady ρ s) : Steady ρ (setRoot root s) := by
  unfold setRoot
  repeat' first | with_reducible assumption | refine fun _ => ?_ | with_reducible apply Steady.ite | fail_if_no_progress (with_reducible refine Steady.mk' ?_ ?_ ?_ ?_ ?_ ?_ ?_; iterate 6 first | with_reducible rfl | (unfold setTransit; with_reducible rfl) | (split <;> with_reducible rfl) | (dsimp only; split <;> with_reducible rfl) | (focus (simp; done)) | fail) | with_reducible refine Steady.snd (by with_reducible assumption) ?_ | with_reducible refine Steady.snd2 (by with_reducible assumption) ?_ | with_reducible refine Steady.fst (by with_reducible assumption) ?_ | dsimp only | split

theorem steady_importRoot {ρ : State} (s : State) (hρ : Steady ρ s) : Steady ρ (importRoot s) := by
  unfold importRoot
  repeat' first | with_reducible assumption | refine fun _ => ?_ | with_reducible apply steady_State_put | with_reducible apply steady_State_useFree | with_reducible apply steady_setPair | with_reducible apply steady_setRoot | with_reducible refine Steady.snd (by with_reducible assumption) ?_ | with_reducible refine Steady.snd2 (by with_reducible assumption) ?_ | with_reducible refine Steady.fst (by with_reducible assumption) ?_ | dsimp only | split

theorem steady_pairAgreed {ρ : State} (initiator : Bool) (cert : Bytes) (s : State) (hρ : Steady ρ s) : Steady ρ (pairAgreed initiator cert s) := by
  unfold pairAgreed
  repeat' first | with_reducible assumption | refine fun _ => ?_ | with_reducible apply steady_State_put | with_reducible apply steady_State_useFree | with_reducible apply steady_quorumHold | with_reducible apply steady_setPair | with_reducible apply steady_decideRole | with_reducible apply steady_importRoot | with_reducible apply steady_State_wrN | with_reducible apply Steady.ite | fail_if_no_progress (with_reducible refine Steady.mk' ?_ ?_ ?_ ?_ ?_ ?_ ?_; iterate 6 first | with_reducible rfl | (unfold setTransit; with_reducible rfl) | (split <;> with_reducible rfl) | (dsimp only; split <;> with_reducible rfl) | (focus (simp; done)) | fail) | with_reducible refine Steady.snd (by with_reducible assumption) ?_ | with_reducible refine Steady.snd2 (by with_reducible assumption) ?_ | with_reducible refine Steady.fst (by with_reducible assumption) ?_ | with_reducible apply Steady.id' | dsimp only | split

theorem steady_rootQuorumMet {ρ : State} (s : State) (hρ : Steady ρ s) : Steady ρ (rootQuorumMet s) := by
  unfold rootQuorumMet
  repeat' first | with_reducible assumption | refine fun _ => ?_ | with_reducible apply steady_importRoot | with_reducible apply Steady.ite | dsimp only | split

theorem steady_agreementEnded {ρ : State} (site : Nat) (initiator : Bool) (cert : Option Bytes) (s : State) (hρ : Steady ρ s) : Steady ρ (agreementEnded site initiator cert s) := by
  unfold agreementEnded
  repeat' first | with_reducible assumption | refine fun _ => ?_ | with_reducible apply steady_pairAgreed | with_reducible apply Steady.ite | fail_if_no_progress (with_reducible refine Steady.mk' ?_ ?_ ?_ ?_ ?_ ?_ ?_; iterate 6 first | with_reducible rfl | (unfold setTransit; with_reducible rfl) | (split <;> with_reducible rfl) | (dsimp only; split <;> with_reducible rfl) | (focus (simp; done)) | fail) | with_reducible refine Steady.snd (by with_reducible assumption) ?_ | with_reducible refine Steady.snd2 (by with_reducible assumption) ?_ | with_reducible refine Steady.fst (by with_reducible assumption) ?_ | dsimp only | split

theorem steady_agreementMessageTwo {ρ : State} (site : Nat) (m : AgreeMsg) (s : State) (hρ : Steady ρ s) : Steady ρ (agreementMessageTwo site m s) := by
  unfold agreementMessageTwo
  repeat' first | with_reducible assumption | refine fun _ => ?_ | with_reducible apply steady_agreementTwo | with_reducible apply steady_agreementEnded | with_reducible refine Steady.snd (by with_reducible assumption) ?_ | with_reducible refine Steady.snd2 (by with_reducible assumption) ?_ | with_reducible refine Steady.fst (by with_reducible assumption) ?_ | dsimp only | split

theorem steady_agreementMessageThree {ρ : State} (site : Nat) (m : AgreeMsg) (s : State) (hρ : Steady ρ s) : Steady ρ (agreementMessageThree site m s) := by
  unfold agreementMessageThree
  repeat' first | with_reducible assumption | refine fun _ => ?_ | with_reducible apply steady_agreementThree | with_reducible apply steady_agreementEnded | with_reducible refine Steady.snd (by with_reducible assumption) ?_ | with_reducible refine Steady.snd2 (by with_reducible assumption) ?_ | with_reducible refine Steady.fst (by with_reducible assumption) ?_ | dsimp only | split

theorem steady_standbyErase {ρ : State} (s : State) (hρ : Steady ρ s) : Steady ρ (standbyErase s) := by
  unfold standbyErase
  repeat' first | with_reducible assumption | refine fun _ => ?_ | with_reducible apply steady_retireEffect | with_reducible apply steady_closeChannel | fail_if_no_progress (with_reducible refine Steady.mk' ?_ ?_ ?_ ?_ ?_ ?_ ?_; iterate 6 first | with_reducible rfl | (unfold setTransit; with_reducible rfl) | (split <;> with_reducible rfl) | (dsimp only; split <;> with_reducible rfl) | (focus (simp; done)) | fail) | with_reducible apply Steady.each | with_reducible refine Steady.snd (by with_reducible assumption) ?_ | with_reducible refine Steady.snd2 (by with_reducible assumption) ?_ | with_reducible refine Steady.fst (by with_reducible assumption) ?_ | dsimp only | split

theorem steady_startResync {ρ : State} (s : State) (hρ : Steady ρ s) : Steady ρ (startResync s) := by
  unfold startResync
  repeat' first | with_reducible assumption | refine fun _ => ?_ | with_reducible apply steady_sendViaduct | with_reducible apply steady_vdtCount | with_reducible apply steady_setPair | with_reducible apply steady_standbyErase | with_reducible apply Steady.ite | fail_if_no_progress (with_reducible refine Steady.mk' ?_ ?_ ?_ ?_ ?_ ?_ ?_; iterate 6 first | with_reducible rfl | (unfold setTransit; with_reducible rfl) | (split <;> with_reducible rfl) | (dsimp only; split <;> with_reducible rfl) | (focus (simp; done)) | fail) | with_reducible apply Steady.each | with_reducible refine Steady.snd (by with_reducible assumption) ?_ | with_reducible refine Steady.snd2 (by with_reducible assumption) ?_ | with_reducible refine Steady.fst (by with_reducible assumption) ?_ | with_reducible apply SteadyDone.next | with_reducible apply SteadyDone.fault | with_reducible apply SteadyDone.after | with_reducible apply SteadyDone.ite | with_reducible refine SteadyDone.outNext (by with_reducible assumption) ?_ | with_reducible refine SteadyDone.outFault (by with_reducible assumption) ?_ | with_reducible refine SteadyDone.outAfter (by with_reducible assumption) ?_ | dsimp only | split

theorem steady_pairIntact {ρ : State} (s : State) (hρ : Steady ρ s) : Steady ρ (pairIntact s) := by
  unfold pairIntact
  repeat' first | with_reducible assumption | refine fun _ => ?_ | with_reducible apply steady_State_raise | with_reducible apply steady_setPair | fail_if_no_progress (with_reducible refine Steady.mk' ?_ ?_ ?_ ?_ ?_ ?_ ?_; iterate 6 first | with_reducible rfl | (unfold setTransit; with_reducible rfl) | (split <;> with_reducible rfl) | (dsimp only; split <;> with_reducible rfl) | (focus (simp; done)) | fail) | dsimp only | split

theorem steady_resyncWrite {ρ : State} (s : State) (hρ : Steady ρ s) : Steady ρ (resyncWrite s) := by
  unfold resyncWrite
  repeat' first | with_reducible assumption | refine fun _ => ?_ | with_reducible apply steady_startResync | with_reducible apply Steady.ite | dsimp only | split

theorem steady_heartbeatTake {ρ : State} (b : Beat) (s : State) (hρ : Steady ρ s) : Steady ρ (heartbeatTake b s) := by
  unfold heartbeatTake
  repeat' first | with_reducible assumption | refine fun _ => ?_ | with_reducible apply steady_State_put | with_reducible apply steady_vdtCount | with_reducible apply steady_setPair | with_reducible apply steady_discardSweep | with_reducible apply Steady.ite | fail_if_no_progress (with_reducible refine Steady.mk' ?_ ?_ ?_ ?_ ?_ ?_ ?_; iterate 6 first | with_reducible rfl | (unfold setTransit; with_reducible rfl) | (split <;> with_reducible rfl) | (dsimp only; split <;> with_reducible rfl) | (focus (simp; done)) | fail) | with_reducible refine Steady.snd (by with_reducible assumption) ?_ | with_reducible refine Steady.snd2 (by with_reducible assumption) ?_ | with_reducible refine Steady.fst (by with_reducible assumption) ?_ | dsimp only | split

theorem steady_silenceTick {ρ : State} (s : State) (hρ : Steady ρ s) : Steady ρ (silenceTick s) := by
  unfold silenceTick
  repeat' first | with_reducible assumption | refine fun _ => ?_ | with_reducible apply steady_State_bump | with_reducible apply steady_vdtCount | with_reducible apply steady_discardSweep | with_reducible apply Steady.ite | fail_if_no_progress (with_reducible refine Steady.mk' ?_ ?_ ?_ ?_ ?_ ?_ ?_; iterate 6 first | with_reducible rfl | (unfold setTransit; with_reducible rfl) | (split <;> with_reducible rfl) | (dsimp only; split <;> with_reducible rfl) | (focus (simp; done)) | fail) | dsimp only | split

theorem steady_sweepStart {ρ : State} (s : State) (hρ : Steady ρ s) : Steady ρ (sweepStart s) := by
  unfold sweepStart
  repeat' first | with_reducible assumption | refine fun _ => ?_ | with_reducible apply steady_State_put | with_reducible apply Steady.ite | fail_if_no_progress (with_reducible refine Steady.mk' ?_ ?_ ?_ ?_ ?_ ?_ ?_; iterate 6 first | with_reducible rfl | (unfold setTransit; with_reducible rfl) | (split <;> with_reducible rfl) | (dsimp only; split <;> with_reducible rfl) | (focus (simp; done)) | fail) | dsimp only | split

theorem steady_forwardBy {ρ : State} (j : Nat) (s : State) (hρ : Steady ρ s) : Steady ρ (forwardBy j s) := by
  unfold forwardBy
  repeat' first | with_reducible assumption | refine fun _ => ?_ | with_reducible apply steady_State_wr | with_reducible apply steady_stkFwdGo | with_reducible apply steady_State_wrN | dsimp only | split

theorem steady_sweepDone {ρ : State} (s : State) (hρ : Steady ρ s) : Steady ρ (sweepDone s) := by
  unfold sweepDone
  repeat' first | with_reducible assumption | refine fun _ => ?_ | with_reducible apply steady_State_wr | with_reducible apply steady_State_put | with_reducible apply steady_State_raise | with_reducible apply steady_State_flag | with_reducible apply steady_vdtCount | with_reducible apply steady_degrade | with_reducible apply steady_discardSweep | with_reducible apply steady_startResync | with_reducible apply steady_forwardBy | with_reducible apply Steady.ite | fail_if_no_progress (with_reducible refine Steady.mk' ?_ ?_ ?_ ?_ ?_ ?_ ?_; iterate 6 first | with_reducible rfl | (unfold setTransit; with_reducible rfl) | (split <;> with_reducible rfl) | (dsimp only; split <;> with_reducible rfl) | (focus (simp; done)) | fail) | with_reducible apply Steady.onlyIf | with_reducible refine Steady.snd (by with_reducible assumption) ?_ | with_reducible refine Steady.snd2 (by with_reducible assumption) ?_ | with_reducible refine Steady.fst (by with_reducible assumption) ?_ | dsimp only | split

theorem steady_slewStep {ρ : State} (s : State) (hρ : Steady ρ s) : Steady ρ (slewStep s) := by
  unfold slewStep
  repeat' first | with_reducible assumption | refine fun _ => ?_ | with_reducible apply steady_State_wr | with_reducible apply Steady.ite | dsimp only | split

theorem steady_viaductUp {ρ : State} (s : State) (hρ : Steady ρ s) : Steady ρ (viaductUp s) := by
  unfold viaductUp
  repeat' first | with_reducible assumption | refine fun _ => ?_ | with_reducible apply steady_State_put | with_reducible apply steady_State_raise | with_reducible apply Steady.ite | dsimp only | split

theorem steady_viaductDown {ρ : State} (s : State) (hρ : Steady ρ s) : Steady ρ (viaductDown s) := by
  unfold viaductDown
  repeat' first | with_reducible assumption | refine fun _ => ?_ | with_reducible apply steady_State_put | with_reducible apply steady_State_raise | with_reducible apply steady_degrade | with_reducible apply Steady.ite | fail_if_no_progress (with_reducible refine Steady.mk' ?_ ?_ ?_ ?_ ?_ ?_ ?_; iterate 6 first | with_reducible rfl | (unfold setTransit; with_reducible rfl) | (split <;> with_reducible rfl) | (dsimp only; split <;> with_reducible rfl) | (focus (simp; done)) | fail) | with_reducible apply Steady.onlyIf | dsimp only | split

theorem steady_resTake {ρ : State} (p : Nat) (v : Nat) (s : State) (hρ : Steady ρ s) : Steady ρ (resTake p v s) := by
  unfold resTake
  repeat' first | with_reducible assumption | refine fun _ => ?_ | with_reducible apply steady_sendViaduct | with_reducible apply Steady.ite | fail_if_no_progress (with_reducible refine Steady.mk' ?_ ?_ ?_ ?_ ?_ ?_ ?_; iterate 6 first | with_reducible rfl | (unfold setTransit; with_reducible rfl) | (split <;> with_reducible rfl) | (dsimp only; split <;> with_reducible rfl) | (focus (simp; done)) | fail) | dsimp only | split

theorem steady_resAckTake {ρ : State} (p : Nat) (v : Nat) (s : State) (hρ : Steady ρ s) : Steady ρ (resAckTake p v s) := by
  unfold resAckTake
  repeat' first | with_reducible assumption | refine fun _ => ?_ | with_reducible apply steady_writeContent64 | with_reducible apply steady_dirtyPlate | with_reducible apply Steady.ite | fail_if_no_progress (with_reducible refine Steady.mk' ?_ ?_ ?_ ?_ ?_ ?_ ?_; iterate 6 first | with_reducible rfl | (unfold setTransit; with_reducible rfl) | (split <;> with_reducible rfl) | (dsimp only; split <;> with_reducible rfl) | (focus (simp; done)) | fail) | dsimp only | split

theorem steady_markSend {ρ : State} (k : Nat) (s : State) (hρ : Steady ρ s) : Steady ρ (markSend k s) := by
  unfold markSend
  repeat' first | with_reducible assumption | refine fun _ => ?_ | with_reducible apply steady_sendViaduct | with_reducible apply steady_vdtCount | with_reducible apply Steady.ite | fail_if_no_progress (with_reducible refine Steady.mk' ?_ ?_ ?_ ?_ ?_ ?_ ?_; iterate 6 first | with_reducible rfl | (unfold setTransit; with_reducible rfl) | (split <;> with_reducible rfl) | (dsimp only; split <;> with_reducible rfl) | (focus (simp; done)) | fail) | dsimp only | split

theorem steady_markTake {ρ : State} (k : Nat) (l : List (Nat × Nat)) (s : State) (hρ : Steady ρ s) : Steady ρ (markTake k l s) := by
  unfold markTake
  repeat' first | with_reducible assumption | refine fun _ => ?_ | with_reducible apply steady_sendViaduct | with_reducible apply Steady.ite | fail_if_no_progress (with_reducible refine Steady.mk' ?_ ?_ ?_ ?_ ?_ ?_ ?_; iterate 6 first | with_reducible rfl | (unfold setTransit; with_reducible rfl) | (split <;> with_reducible rfl) | (dsimp only; split <;> with_reducible rfl) | (focus (simp; done)) | fail) | with_reducible apply Steady.foldl | with_reducible apply Steady.foldlSnd | dsimp only | split

theorem steady_markAckTake {ρ : State} (k : Nat) (s : State) (hρ : Steady ρ s) : Steady ρ (markAckTake k s) := by
  unfold markAckTake
  repeat' first | with_reducible assumption | refine fun _ => ?_ | with_reducible apply steady_releaseHeld | with_reducible apply Steady.ite | fail_if_no_progress (with_reducible refine Steady.mk' ?_ ?_ ?_ ?_ ?_ ?_ ?_; iterate 6 first | with_reducible rfl | (unfold setTransit; with_reducible rfl) | (split <;> with_reducible rfl) | (dsimp only; split <;> with_reducible rfl) | (focus (simp; done)) | fail) | dsimp only | split

theorem steady_markTimeout {ρ : State} (s : State) (hρ : Steady ρ s) : Steady ρ (markTimeout s) := by
  unfold markTimeout
  repeat' first | with_reducible assumption | refine fun _ => ?_ | with_reducible apply steady_degrade | with_reducible apply Steady.ite | dsimp only | split

theorem steady_placeObject {ρ : State} (o : ObjectImage) (s : State) (hρ : Steady ρ s) : Steady ρ (placeObject o s) := by
  unfold placeObject
  repeat' first | with_reducible assumption | refine fun _ => ?_ | with_reducible apply steady_State_put | with_reducible apply steady_State_setSlot | with_reducible apply steady_slotsTaken | with_reducible apply steady_fillSlots | with_reducible apply steady_resealObject | fail_if_no_progress (with_reducible refine Steady.mk' ?_ ?_ ?_ ?_ ?_ ?_ ?_; iterate 6 first | with_reducible rfl | (unfold setTransit; with_reducible rfl) | (split <;> with_reducible rfl) | (dsimp only; split <;> with_reducible rfl) | (focus (simp; done)) | fail) | with_reducible apply Steady.each | with_reducible apply Steady.onlyIf | with_reducible refine Steady.snd (by with_reducible assumption) ?_ | with_reducible refine Steady.snd2 (by with_reducible assumption) ?_ | with_reducible refine Steady.fst (by with_reducible assumption) ?_ | dsimp only | split

theorem steady_sendSetup {ρ : State} (m : Mirrored) (e : Nat) (slot : Option Nat) (s : State) (hρ : Steady ρ s) : Steady ρ (sendSetup m e slot s) := by
  unfold sendSetup
  repeat' first | with_reducible assumption | refine fun _ => ?_ | with_reducible apply steady_sendViaduct | with_reducible apply steady_vdtCount | fail_if_no_progress (with_reducible refine Steady.mk' ?_ ?_ ?_ ?_ ?_ ?_ ?_; iterate 6 first | with_reducible rfl | (unfold setTransit; with_reducible rfl) | (split <;> with_reducible rfl) | (dsimp only; split <;> with_reducible rfl) | (focus (simp; done)) | fail) | with_reducible refine Steady.snd (by with_reducible assumption) ?_ | with_reducible refine Steady.snd2 (by with_reducible assumption) ?_ | with_reducible refine Steady.fst (by with_reducible assumption) ?_ | with_reducible apply SteadyDone.next | with_reducible apply SteadyDone.fault | with_reducible apply SteadyDone.after | with_reducible apply SteadyDone.ite | with_reducible refine SteadyDone.outNext (by with_reducible assumption) ?_ | with_reducible refine SteadyDone.outFault (by with_reducible assumption) ?_ | with_reducible refine SteadyDone.outAfter (by with_reducible assumption) ?_ | dsimp only | split

theorem steady_mirrorRest {ρ : State} (s : State) (hρ : Steady ρ s) : Steady ρ (mirrorRest s) := by
  unfold mirrorRest
  repeat' first | with_reducible assumption | refine fun _ => ?_ | with_reducible apply steady_sendSetup | with_reducible apply Steady.ite | fail_if_no_progress (with_reducible refine Steady.mk' ?_ ?_ ?_ ?_ ?_ ?_ ?_; iterate 6 first | with_reducible rfl | (unfold setTransit; with_reducible rfl) | (split <;> with_reducible rfl) | (dsimp only; split <;> with_reducible rfl) | (focus (simp; done)) | fail) | with_reducible apply Steady.each | with_reducible apply Steady.onlyIf | dsimp only | split

theorem steady_armTake {ρ : State} (k : Nat) (t : StrokeTime) (kind : Nat) (mask : Nat) (s : State) (hρ : Steady ρ s) : Steady ρ (armTake k t kind mask s) := by
  unfold armTake
  repeat' first | with_reducible assumption | refine fun _ => ?_ | with_reducible apply steady_State_wr | with_reducible apply steady_State_put | with_reducible apply steady_State_wrN | with_reducible apply steady_State_zero | dsimp only | split

theorem steady_planTake {ρ : State} (inForce : Bool) (l : Tab Word) (s : State) (hρ : Steady ρ s) : Steady ρ (planTake inForce l s) := by
  unfold planTake
  repeat' first | with_reducible assumption | refine fun _ => ?_ | with_reducible apply steady_State_put | with_reducible apply Steady.ite | fail_if_no_progress (with_reducible refine Steady.mk' ?_ ?_ ?_ ?_ ?_ ?_ ?_; iterate 6 first | with_reducible rfl | (unfold setTransit; with_reducible rfl) | (split <;> with_reducible rfl) | (dsimp only; split <;> with_reducible rfl) | (focus (simp; done)) | fail) | with_reducible apply Steady.onlyIf | dsimp only | split

theorem steady_mirroredTenant {ρ : State} (t : Nat) (s : State) (hρ : Steady ρ s) : Steady ρ (mirroredTenant t s) := by
  unfold mirroredTenant
  repeat' first | with_reducible assumption | refine fun _ => ?_ | fail_if_no_progress (with_reducible refine Steady.mk' ?_ ?_ ?_ ?_ ?_ ?_ ?_; iterate 6 first | with_reducible rfl | (unfold setTransit; with_reducible rfl) | (split <;> with_reducible rfl) | (dsimp only; split <;> with_reducible rfl) | (focus (simp; done)) | fail) | with_reducible refine Steady.snd (by with_reducible assumption) ?_ | with_reducible refine Steady.snd2 (by with_reducible assumption) ?_ | with_reducible refine Steady.fst (by with_reducible assumption) ?_ | dsimp only | split

theorem steady_changeTake {ρ : State} (c : Pending) (s : State) (hρ : Steady ρ s) : Steady ρ (changeTake c s) := by
  unfold changeTake
  repeat' first | with_reducible assumption | refine fun _ => ?_ | with_reducible apply steady_State_raise | with_reducible apply steady_requestPlate | with_reducible apply steady_mirroredTenant | with_reducible apply Steady.ite | fail_if_no_progress (with_reducible refine Steady.mk' ?_ ?_ ?_ ?_ ?_ ?_ ?_; iterate 6 first | with_reducible rfl | (unfold setTransit; with_reducible rfl) | (split <;> with_reducible rfl) | (dsimp only; split <;> with_reducible rfl) | (focus (simp; done)) | fail) | with_reducible apply Steady.each | with_reducible refine Steady.snd (by with_reducible assumption) ?_ | with_reducible refine Steady.snd2 (by with_reducible assumption) ?_ | with_reducible refine Steady.fst (by with_reducible assumption) ?_ | dsimp only | split

theorem steady_registersTake {ρ : State} (l : List (Nat × Word)) (s : State) (hρ : Steady ρ s) : Steady ρ (registersTake l s) := by
  unfold registersTake
  repeat' first | with_reducible assumption | refine fun _ => ?_ | with_reducible apply steady_State_wr | with_reducible apply steady_plainWrite | with_reducible apply steady_mirroredTenant | with_reducible apply Steady.ite | with_reducible apply Steady.each | with_reducible refine Steady.snd (by with_reducible assumption) ?_ | with_reducible refine Steady.snd2 (by with_reducible assumption) ?_ | with_reducible refine Steady.fst (by with_reducible assumption) ?_ | dsimp only | split

theorem steady_owedAcks {ρ : State} (s : State) (hρ : Steady ρ s) : Steady ρ (owedAcks s) := by
  unfold owedAcks
  repeat' first | with_reducible assumption | refine fun _ => ?_ | with_reducible apply steady_State_raise | with_reducible apply steady_sendViaduct | with_reducible apply Steady.ite | fail_if_no_progress (with_reducible refine Steady.mk' ?_ ?_ ?_ ?_ ?_ ?_ ?_; iterate 6 first | with_reducible rfl | (unfold setTransit; with_reducible rfl) | (split <;> with_reducible rfl) | (dsimp only; split <;> with_reducible rfl) | (focus (simp; done)) | fail) | with_reducible apply Steady.each | with_reducible refine Steady.snd (by with_reducible assumption) ?_ | with_reducible refine Steady.snd2 (by with_reducible assumption) ?_ | with_reducible refine Steady.fst (by with_reducible assumption) ?_ | dsimp only | split

theorem steady_setupTake {ρ : State} (id : Nat) (m : Mirrored) (s : State) (hρ : Steady ρ s) : Steady ρ (setupTake id m s) := by
  unfold setupTake
  repeat' first | with_reducible assumption | refine fun _ => ?_ | with_reducible apply steady_destroyObject | with_reducible apply steady_freeObject | with_reducible apply steady_sendViaduct | with_reducible apply steady_cancelSlot | with_reducible apply steady_pairIntact | with_reducible apply steady_placeObject | with_reducible apply steady_armTake | with_reducible apply steady_planTake | with_reducible apply steady_changeTake | with_reducible apply steady_registersTake | with_reducible apply Steady.ite | fail_if_no_progress (with_reducible refine Steady.mk' ?_ ?_ ?_ ?_ ?_ ?_ ?_; iterate 6 first | with_reducible rfl | (unfold setTransit; with_reducible rfl) | (split <;> with_reducible rfl) | (dsimp only; split <;> with_reducible rfl) | (focus (simp; done)) | fail) | with_reducible refine Steady.snd (by with_reducible assumption) ?_ | with_reducible refine Steady.snd2 (by with_reducible assumption) ?_ | with_reducible refine Steady.fst (by with_reducible assumption) ?_ | with_reducible apply Steady.id' | dsimp only | split

theorem steady_setupAckTake {ρ : State} (id : Nat) (s : State) (hρ : Steady ρ s) : Steady ρ (setupAckTake id s) := by
  unfold setupAckTake
  repeat' first | with_reducible assumption | refine fun _ => ?_ | with_reducible apply steady_pairIntact | with_reducible apply Steady.ite | fail_if_no_progress (with_reducible refine Steady.mk' ?_ ?_ ?_ ?_ ?_ ?_ ?_; iterate 6 first | with_reducible rfl | (unfold setTransit; with_reducible rfl) | (split <;> with_reducible rfl) | (dsimp only; split <;> with_reducible rfl) | (focus (simp; done)) | fail) | with_reducible apply Steady.id' | dsimp only | split

theorem steady_setupAckLate {ρ : State} (id : Nat) (s : State) (hρ : Steady ρ s) : Steady ρ (setupAckLate id s) := by
  unfold setupAckLate
  repeat' first | with_reducible assumption | refine fun _ => ?_ | with_reducible apply steady_degrade | with_reducible apply Steady.ite | with_reducible refine Steady.snd (by with_reducible assumption) ?_ | with_reducible refine Steady.snd2 (by with_reducible assumption) ?_ | with_reducible refine Steady.fst (by with_reducible assumption) ?_ | with_reducible apply Steady.id' | dsimp only | split

theorem steady_ledgerTake {ρ : State} (rows : List (BitVec 168)) (s : State) (hρ : Steady ρ s) : Steady ρ (ledgerTake rows s) := by
  unfold ledgerTake
  repeat' first | with_reducible assumption | refine fun _ => ?_ | with_reducible apply Steady.ite | fail_if_no_progress (with_reducible refine Steady.mk' ?_ ?_ ?_ ?_ ?_ ?_ ?_; iterate 6 first | with_reducible rfl | (unfold setTransit; with_reducible rfl) | (split <;> with_reducible rfl) | (dsimp only; split <;> with_reducible rfl) | (focus (simp; done)) | fail) | dsimp only | split

theorem steady_relinquishTake {ρ : State} (s : State) (hρ : Steady ρ s) : Steady ρ (relinquishTake s) := by
  unfold relinquishTake
  repeat' first | with_reducible assumption | refine fun _ => ?_ | with_reducible apply Steady.ite | fail_if_no_progress (with_reducible refine Steady.mk' ?_ ?_ ?_ ?_ ?_ ?_ ?_; iterate 6 first | with_reducible rfl | (unfold setTransit; with_reducible rfl) | (split <;> with_reducible rfl) | (dsimp only; split <;> with_reducible rfl) | (focus (simp; done)) | fail) | dsimp only | split

theorem steady_usePlateMirror {ρ : State} (s : State) (hρ : Steady ρ s) : Steady ρ (usePlateMirror s) := by
  unfold usePlateMirror
  repeat' first | with_reducible assumption | refine fun _ => ?_ | with_reducible apply steady_writeContent | with_reducible apply steady_writeContent64 | with_reducible apply Steady.ite | with_reducible apply Steady.each | dsimp only | split

theorem steady_becomeActive {ρ : State} (fresh : Bool) (force : Bool) (s : State) (hρ : Steady ρ s) : Steady ρ (becomeActive fresh force s) := by
  unfold becomeActive
  repeat' first | with_reducible assumption | refine fun _ => ?_ | with_reducible apply steady_retireEffect | with_reducible apply steady_cancelSlot | with_reducible apply steady_setRole | with_reducible apply steady_usePlateMirror | with_reducible apply Steady.ite | fail_if_no_progress (with_reducible refine Steady.mk' ?_ ?_ ?_ ?_ ?_ ?_ ?_; iterate 6 first | with_reducible rfl | (unfold setTransit; with_reducible rfl) | (split <;> with_reducible rfl) | (dsimp only; split <;> with_reducible rfl) | (focus (simp; done)) | fail) | with_reducible apply Steady.each | dsimp only | split

theorem steady_takeover {ρ : State} (s : State) (hρ : Steady ρ s) : Steady ρ (takeover s) := by
  unfold takeover
  repeat' first | with_reducible assumption | refine fun _ => ?_ | with_reducible apply steady_State_raise | with_reducible apply steady_vdtCount | with_reducible apply steady_pairDown | with_reducible apply steady_becomeActive | with_reducible apply Steady.ite | dsimp only | split

theorem steady_handoverArm {ρ : State} (s : State) (hρ : Steady ρ s) : Steady ρ (handoverArm s) := by
  unfold handoverArm
  repeat' first | with_reducible assumption | refine fun _ => ?_ | with_reducible apply steady_State_wr | with_reducible apply steady_State_put | with_reducible apply steady_sendViaduct | fail_if_no_progress (with_reducible refine Steady.mk' ?_ ?_ ?_ ?_ ?_ ?_ ?_; iterate 6 first | with_reducible rfl | (unfold setTransit; with_reducible rfl) | (split <;> with_reducible rfl) | (dsimp only; split <;> with_reducible rfl) | (focus (simp; done)) | fail) | with_reducible refine Steady.snd (by with_reducible assumption) ?_ | with_reducible refine Steady.snd2 (by with_reducible assumption) ?_ | with_reducible refine Steady.fst (by with_reducible assumption) ?_ | dsimp only | split

theorem steady_handoverTake {ρ : State} (t : StrokeTime) (s : State) (hρ : Steady ρ s) : Steady ρ (handoverTake t s) := by
  unfold handoverTake
  repeat' first | with_reducible assumption | refine fun _ => ?_ | with_reducible apply steady_sendViaduct | with_reducible apply Steady.ite | fail_if_no_progress (with_reducible refine Steady.mk' ?_ ?_ ?_ ?_ ?_ ?_ ?_; iterate 6 first | with_reducible rfl | (unfold setTransit; with_reducible rfl) | (split <;> with_reducible rfl) | (dsimp only; split <;> with_reducible rfl) | (focus (simp; done)) | fail) | with_reducible refine Steady.snd (by with_reducible assumption) ?_ | with_reducible refine Steady.snd2 (by with_reducible assumption) ?_ | with_reducible refine Steady.fst (by with_reducible assumption) ?_ | dsimp only | split

theorem steady_handoverAckTake {ρ : State} (s : State) (hρ : Steady ρ s) : Steady ρ (handoverAckTake s) := by
  unfold handoverAckTake
  repeat' first | with_reducible assumption | refine fun _ => ?_ | with_reducible apply Steady.ite | fail_if_no_progress (with_reducible refine Steady.mk' ?_ ?_ ?_ ?_ ?_ ?_ ?_; iterate 6 first | with_reducible rfl | (unfold setTransit; with_reducible rfl) | (split <;> with_reducible rfl) | (dsimp only; split <;> with_reducible rfl) | (focus (simp; done)) | fail) | with_reducible refine Steady.snd (by with_reducible assumption) ?_ | with_reducible refine Steady.snd2 (by with_reducible assumption) ?_ | with_reducible refine Steady.fst (by with_reducible assumption) ?_ | dsimp only | split

theorem steady_handoverDecide {ρ : State} (s : State) (hρ : Steady ρ s) : Steady ρ (handoverDecide s) := by
  unfold handoverDecide
  repeat' first | with_reducible assumption | refine fun _ => ?_ | with_reducible apply steady_State_wr | with_reducible apply Steady.ite | dsimp only | split

theorem steady_dropDeck {ρ : State} (cause : State → State) (s : State) (hcause : ∀ x0, Steady ρ x0 → Steady ρ (cause x0)) (hρ : Steady ρ s) : Steady ρ (dropDeck cause s) := by
  unfold dropDeck
  repeat' first | with_reducible assumption | refine fun _ => ?_ | with_reducible apply hcause | with_reducible apply steady_dropBound | with_reducible apply steady_dropUnbound | with_reducible apply Steady.ite | with_reducible apply Steady.each | dsimp only | split

theorem steady_handoverStroke {ρ : State} (s : State) (hρ : Steady ρ s) : Steady ρ (handoverStroke s) := by
  unfold handoverStroke
  repeat' first | with_reducible assumption | refine fun _ => ?_ | with_reducible apply steady_State_put | with_reducible apply steady_State_raise | with_reducible apply steady_vdtCount | with_reducible apply steady_setRole | with_reducible apply steady_mirrorEnds | with_reducible apply steady_becomeActive | with_reducible apply steady_dropDeck | with_reducible apply Steady.ite | dsimp only | split

theorem steady_unpair {ρ : State} (s : State) (hρ : Steady ρ s) : Steady ρ (unpair s) := by
  unfold unpair
  repeat' first | with_reducible assumption | refine fun _ => ?_ | with_reducible apply steady_makeSolo | dsimp only | split

theorem steady_vdtCtlWrite {ρ : State} (w : Word) (s : State) (hρ : Steady ρ s) : Steady ρ (vdtCtlWrite w s) := by
  unfold vdtCtlWrite
  repeat' first | with_reducible assumption | refine fun _ => ?_ | with_reducible apply steady_resyncWrite | with_reducible apply steady_handoverArm | with_reducible apply steady_unpair | with_reducible apply Steady.onlyIf | dsimp only | split

theorem steady_vdtCfgAfter {ρ : State} (s : State) (hρ : Steady ρ s) : Steady ρ (vdtCfgAfter s) := by
  unfold vdtCfgAfter
  repeat' first | with_reducible assumption | refine fun _ => ?_ | with_reducible apply steady_State_put | with_reducible apply steady_makeSolo | with_reducible apply Steady.ite | dsimp only | split

theorem steady_vdtEvtWrite {ρ : State} (w : Word) (s : State) (hρ : Steady ρ s) : Steady ρ (vdtEvtWrite w s) := by
  unfold vdtEvtWrite
  repeat' first | with_reducible assumption | refine fun _ => ?_ | with_reducible apply steady_State_wr | with_reducible apply steady_State_zero | with_reducible apply Steady.onlyIf | dsimp only | split

theorem steady_viaductBoundary {ρ : State} (k : Nat) (s : State) (hρ : Steady ρ s) : Steady ρ (viaductBoundary k s) := by
  unfold viaductBoundary
  repeat' first | with_reducible assumption | refine fun _ => ?_ | with_reducible apply steady_holdShow | with_reducible apply steady_heartbeatSend | with_reducible apply steady_pairSilence | with_reducible apply steady_silenceTick | with_reducible apply steady_sweepStart | with_reducible apply steady_slewStep | with_reducible apply steady_markSend | with_reducible apply steady_markTimeout | with_reducible apply steady_mirrorRest | with_reducible apply steady_owedAcks | with_reducible apply steady_setupAckLate | with_reducible apply steady_takeover | with_reducible apply steady_handoverDecide | with_reducible apply steady_handoverStroke | with_reducible apply Steady.each | dsimp only | split

end Sys2Proof.Machine
end

