-- ==== Sys2Proof/Laws/SteadyBoot.lean ====
section
/-! SUPPORT. What the operations of Machine/Boot.lean keep (`Steady`). -/

namespace Sys2Proof.Machine

theorem steady_bootStep {ρ : State} (k : Nat) (s : State) (hρ : Steady ρ s) : Steady ρ (bootStep k s) := by
  unfold bootStep
  repeat' first | with_reducible assumption | refine fun _ => ?_ | with_reducible apply steady_State_put | dsimp only | split

theorem steady_bootStop {ρ : State} (k : Nat) (s : State) (hρ : Steady ρ s) : Steady ρ (bootStop k s) := by
  unfold bootStop
  repeat' first | with_reducible assumption | refine fun _ => ?_ | with_reducible apply steady_State_put | with_reducible apply steady_setCoreState | with_reducible apply steady_bootStep | dsimp only | split

theorem steady_sdramKeys {ρ : State} (c : Nat) (s : State) (hρ : Steady ρ s) : Steady ρ (sdramKeys c s) := by
  unfold sdramKeys
  repeat' first | with_reducible assumption | refine fun _ => ?_ | with_reducible apply steady_State_useFree | fail_if_no_progress (with_reducible refine Steady.mk' ?_ ?_ ?_ ?_ ?_ ?_ ?_; iterate 6 first | with_reducible rfl | (unfold setTransit; with_reducible rfl) | (split <;> with_reducible rfl) | (dsimp only; split <;> with_reducible rfl) | (focus (simp; done)) | fail) | with_reducible refine Steady.snd (by with_reducible assumption) ?_ | with_reducible refine Steady.snd2 (by with_reducible assumption) ?_ | with_reducible refine Steady.fst (by with_reducible assumption) ?_ | dsimp only | split

theorem steady_bootKeystone {ρ : State} (b : Nat) (env : BootEnv) (s : State) (hρ : Steady ρ s) : Steady ρ (bootKeystone b env s) := by
  unfold bootKeystone
  repeat' first | with_reducible assumption | refine fun _ => ?_ | with_reducible apply steady_State_put | with_reducible apply steady_State_useFree | with_reducible apply steady_katEnd | with_reducible apply steady_setCoreState | with_reducible apply steady_sdramKeys | fail_if_no_progress (with_reducible refine Steady.mk' ?_ ?_ ?_ ?_ ?_ ?_ ?_; iterate 6 first | with_reducible rfl | (unfold setTransit; with_reducible rfl) | (split <;> with_reducible rfl) | (dsimp only; split <;> with_reducible rfl) | (focus (simp; done)) | fail) | with_reducible refine Steady.snd (by with_reducible assumption) ?_ | with_reducible refine Steady.snd2 (by with_reducible assumption) ?_ | with_reducible refine Steady.fst (by with_reducible assumption) ?_ | dsimp only | split

theorem steady_vaultLoad {ρ : State} (v : Vault) (s : State) (hρ : Steady ρ s) : Steady ρ (vaultLoad v s) := by
  unfold vaultLoad
  repeat' first | with_reducible assumption | refine fun _ => ?_ | with_reducible apply steady_State_wr | with_reducible apply steady_State_put | with_reducible apply steady_State_setSlot | with_reducible apply steady_slotsTaken | with_reducible apply steady_keepBlocks | with_reducible apply steady_quorumSizes | with_reducible apply Steady.ite | fail_if_no_progress (with_reducible refine Steady.mk' ?_ ?_ ?_ ?_ ?_ ?_ ?_; iterate 6 first | with_reducible rfl | (unfold setTransit; with_reducible rfl) | (split <;> with_reducible rfl) | (dsimp only; split <;> with_reducible rfl) | (focus (simp; done)) | fail) | with_reducible apply Steady.each | with_reducible refine Steady.snd (by with_reducible assumption) ?_ | with_reducible refine Steady.snd2 (by with_reducible assumption) ?_ | with_reducible refine Steady.fst (by with_reducible assumption) ?_ | dsimp only | split

theorem steady_bootIdentity {ρ : State} (env : BootEnv) (s : State) (hρ : Steady ρ s) : Steady ρ (bootIdentity env s) := by
  unfold bootIdentity
  repeat' first | with_reducible assumption | refine fun _ => ?_ | with_reducible apply steady_State_put | with_reducible apply steady_State_raise | with_reducible apply steady_requestTransition | with_reducible apply steady_vaultLoad | with_reducible apply Steady.ite | fail_if_no_progress (with_reducible refine Steady.mk' ?_ ?_ ?_ ?_ ?_ ?_ ?_; iterate 6 first | with_reducible rfl | (unfold setTransit; with_reducible rfl) | (split <;> with_reducible rfl) | (dsimp only; split <;> with_reducible rfl) | (focus (simp; done)) | fail) | with_reducible refine Steady.snd (by with_reducible assumption) ?_ | with_reducible refine Steady.snd2 (by with_reducible assumption) ?_ | with_reducible refine Steady.fst (by with_reducible assumption) ?_ | with_reducible apply Steady.id' | dsimp only | split

theorem steady_bootSdram {ρ : State} (env : BootEnv) (s : State) (hρ : Steady ρ s) : Steady ρ (bootSdram env s) := by
  unfold bootSdram
  repeat' first | with_reducible assumption | refine fun _ => ?_ | with_reducible apply steady_State_put | with_reducible apply steady_State_raise | with_reducible apply Steady.ite | fail_if_no_progress (with_reducible refine Steady.mk' ?_ ?_ ?_ ?_ ?_ ?_ ?_; iterate 6 first | with_reducible rfl | (unfold setTransit; with_reducible rfl) | (split <;> with_reducible rfl) | (dsimp only; split <;> with_reducible rfl) | (focus (simp; done)) | fail) | with_reducible apply Steady.each | with_reducible refine Steady.snd (by with_reducible assumption) ?_ | with_reducible refine Steady.snd2 (by with_reducible assumption) ?_ | with_reducible refine Steady.fst (by with_reducible assumption) ?_ | dsimp only | split

theorem steady_bootPiers {ρ : State} (s : State) (hρ : Steady ρ s) : Steady ρ (bootPiers s) := by
  unfold bootPiers
  repeat' first | with_reducible assumption | refine fun _ => ?_ | with_reducible apply steady_State_setCore | with_reducible apply Steady.ite | fail_if_no_progress (with_reducible refine Steady.mk' ?_ ?_ ?_ ?_ ?_ ?_ ?_; iterate 6 first | with_reducible rfl | (unfold setTransit; with_reducible rfl) | (split <;> with_reducible rfl) | (dsimp only; split <;> with_reducible rfl) | (focus (simp; done)) | fail) | with_reducible apply Steady.each | dsimp only | split

theorem steady_bootPlan {ρ : State} (s : State) (hρ : Steady ρ s) : Steady ρ (bootPlan s) := by
  unfold bootPlan
  repeat' first | with_reducible assumption | refine fun _ => ?_ | with_reducible apply steady_State_put | with_reducible apply Steady.ite | fail_if_no_progress (with_reducible refine Steady.mk' ?_ ?_ ?_ ?_ ?_ ?_ ?_; iterate 6 first | with_reducible rfl | (unfold setTransit; with_reducible rfl) | (split <;> with_reducible rfl) | (dsimp only; split <;> with_reducible rfl) | (focus (simp; done)) | fail) | with_reducible refine Steady.snd (by with_reducible assumption) ?_ | with_reducible refine Steady.snd2 (by with_reducible assumption) ?_ | with_reducible refine Steady.fst (by with_reducible assumption) ?_ | dsimp only | split

theorem steady_bootChannels {ρ : State} (c : StoredConfig) (s : State) (hρ : Steady ρ s) : Steady ρ (bootChannels c s) := by
  unfold bootChannels
  repeat' first | with_reducible assumption | refine fun _ => ?_ | with_reducible apply steady_setLayout | with_reducible apply steady_openChannel | fail_if_no_progress (with_reducible refine Steady.mk' ?_ ?_ ?_ ?_ ?_ ?_ ?_; iterate 6 first | with_reducible rfl | (unfold setTransit; with_reducible rfl) | (split <;> with_reducible rfl) | (dsimp only; split <;> with_reducible rfl) | (focus (simp; done)) | fail) | with_reducible apply Steady.each | with_reducible refine Steady.snd (by with_reducible assumption) ?_ | with_reducible refine Steady.snd2 (by with_reducible assumption) ?_ | with_reducible refine Steady.fst (by with_reducible assumption) ?_ | dsimp only | split

theorem steady_bootConfig {ρ : State} (s : State) (hρ : Steady ρ s) : Steady ρ (bootConfig s) := by
  unfold bootConfig
  repeat' first | with_reducible assumption | refine fun _ => ?_ | with_reducible apply steady_State_wr | with_reducible apply steady_State_put | with_reducible apply steady_ownDeckLimit | with_reducible apply steady_vdtCfgAfter | with_reducible apply steady_bootChannels | with_reducible apply Steady.ite | fail_if_no_progress (with_reducible refine Steady.mk' ?_ ?_ ?_ ?_ ?_ ?_ ?_; iterate 6 first | with_reducible rfl | (unfold setTransit; with_reducible rfl) | (split <;> with_reducible rfl) | (dsimp only; split <;> with_reducible rfl) | (focus (simp; done)) | fail) | with_reducible apply Steady.each | with_reducible refine Steady.snd (by with_reducible assumption) ?_ | with_reducible refine Steady.snd2 (by with_reducible assumption) ?_ | with_reducible refine Steady.fst (by with_reducible assumption) ?_ | dsimp only | split

theorem steady_dataPlaneReady {ρ : State} (s : State) (hρ : Steady ρ s) : Steady ρ (dataPlaneReady s) := by
  unfold dataPlaneReady
  repeat' first | with_reducible assumption | refine fun _ => ?_ | with_reducible apply steady_State_wr | with_reducible apply steady_State_put | with_reducible apply steady_State_raise | with_reducible apply steady_State_wrN | with_reducible apply Steady.ite | fail_if_no_progress (with_reducible refine Steady.mk' ?_ ?_ ?_ ?_ ?_ ?_ ?_; iterate 6 first | with_reducible rfl | (unfold setTransit; with_reducible rfl) | (split <;> with_reducible rfl) | (dsimp only; split <;> with_reducible rfl) | (focus (simp; done)) | fail) | dsimp only | split

theorem steady_applianceSet {ρ : State} (g : Nat) (m : Nat) (s : State) (hρ : Steady ρ s) : Steady ρ (applianceSet g m s) := by
  unfold applianceSet
  repeat' first | with_reducible assumption | refine fun _ => ?_ | with_reducible apply steady_State_put | dsimp only | split

theorem steady_applianceEntry {ρ : State} (s : State) (hρ : Steady ρ s) : Steady ρ (applianceEntry s) := by
  unfold applianceEntry
  repeat' first | with_reducible assumption | refine fun _ => ?_ | with_reducible apply steady_State_put | with_reducible apply steady_applianceSet | with_reducible apply Steady.ite | fail_if_no_progress (with_reducible refine Steady.mk' ?_ ?_ ?_ ?_ ?_ ?_ ?_; iterate 6 first | with_reducible rfl | (unfold setTransit; with_reducible rfl) | (split <;> with_reducible rfl) | (dsimp only; split <;> with_reducible rfl) | (focus (simp; done)) | fail) | with_reducible apply Steady.each | with_reducible refine Steady.snd (by with_reducible assumption) ?_ | with_reducible refine Steady.snd2 (by with_reducible assumption) ?_ | with_reducible refine Steady.fst (by with_reducible assumption) ?_ | dsimp only | split

theorem steady_applianceEnd {ρ : State} (s : State) (hρ : Steady ρ s) : Steady ρ (applianceEnd s) := by
  unfold applianceEnd
  repeat' first | with_reducible assumption | refine fun _ => ?_ | with_reducible apply steady_State_put | with_reducible apply Steady.ite | fail_if_no_progress (with_reducible refine Steady.mk' ?_ ?_ ?_ ?_ ?_ ?_ ?_; iterate 6 first | with_reducible rfl | (unfold setTransit; with_reducible rfl) | (split <;> with_reducible rfl) | (dsimp only; split <;> with_reducible rfl) | (focus (simp; done)) | fail) | dsimp only | split

theorem steady_applianceTry {ρ : State} (g : Nat) (s : State) (hρ : Steady ρ s) : Steady ρ (applianceTry g s) := by
  unfold applianceTry
  repeat' first | with_reducible assumption | refine fun _ => ?_ | with_reducible apply steady_applianceSet | with_reducible apply Steady.ite | fail_if_no_progress (with_reducible refine Steady.mk' ?_ ?_ ?_ ?_ ?_ ?_ ?_; iterate 6 first | with_reducible rfl | (unfold setTransit; with_reducible rfl) | (split <;> with_reducible rfl) | (dsimp only; split <;> with_reducible rfl) | (focus (simp; done)) | fail) | with_reducible refine Steady.snd (by with_reducible assumption) ?_ | with_reducible refine Steady.snd2 (by with_reducible assumption) ?_ | with_reducible refine Steady.fst (by with_reducible assumption) ?_ | dsimp only | split

theorem steady_applianceFollow {ρ : State} (g : Nat) (s : State) (hρ : Steady ρ s) : Steady ρ (applianceFollow g s) := by
  unfold applianceFollow
  repeat' first | with_reducible assumption | refine fun _ => ?_ | with_reducible apply steady_State_put | with_reducible apply Steady.ite | fail_if_no_progress (with_reducible refine Steady.mk' ?_ ?_ ?_ ?_ ?_ ?_ ?_; iterate 6 first | with_reducible rfl | (unfold setTransit; with_reducible rfl) | (split <;> with_reducible rfl) | (dsimp only; split <;> with_reducible rfl) | (focus (simp; done)) | fail) | dsimp only | split

theorem steady_applianceOpen {ρ : State} (s : State) (hρ : Steady ρ s) : Steady ρ (applianceOpen s) := by
  unfold applianceOpen
  repeat' first | with_reducible assumption | refine fun _ => ?_ | with_reducible apply steady_openChannel | with_reducible apply Steady.ite | with_reducible apply Steady.each | dsimp only | split

theorem steady_applianceKeyed {ρ : State} (s : State) (hρ : Steady ρ s) : Steady ρ (applianceKeyed s) := by
  unfold applianceKeyed
  repeat' first | with_reducible assumption | refine fun _ => ?_ | with_reducible apply steady_State_useFree | with_reducible apply steady_applyChange | with_reducible apply Steady.ite | fail_if_no_progress (with_reducible refine Steady.mk' ?_ ?_ ?_ ?_ ?_ ?_ ?_; iterate 6 first | with_reducible rfl | (unfold setTransit; with_reducible rfl) | (split <;> with_reducible rfl) | (dsimp only; split <;> with_reducible rfl) | (focus (simp; done)) | fail) | with_reducible apply Steady.each | with_reducible refine Steady.snd (by with_reducible assumption) ?_ | with_reducible refine Steady.snd2 (by with_reducible assumption) ?_ | with_reducible refine Steady.fst (by with_reducible assumption) ?_ | dsimp only | split

theorem steady_applianceBoundary {ρ : State} (s : State) (hρ : Steady ρ s) : Steady ρ (applianceBoundary s) := by
  unfold applianceBoundary
  repeat' first | with_reducible assumption | refine fun _ => ?_ | with_reducible apply steady_applianceEntry | with_reducible apply steady_applianceEnd | with_reducible apply steady_applianceTry | with_reducible apply steady_applianceFollow | with_reducible apply steady_applianceOpen | with_reducible apply steady_applianceKeyed | fail_if_no_progress (with_reducible refine Steady.mk' ?_ ?_ ?_ ?_ ?_ ?_ ?_; iterate 6 first | with_reducible rfl | (unfold setTransit; with_reducible rfl) | (split <;> with_reducible rfl) | (dsimp only; split <;> with_reducible rfl) | (focus (simp; done)) | fail) | with_reducible apply Steady.each | with_reducible refine Steady.snd (by with_reducible assumption) ?_ | with_reducible refine Steady.snd2 (by with_reducible assumption) ?_ | with_reducible refine Steady.fst (by with_reducible assumption) ?_ | dsimp only | split

end Sys2Proof.Machine
end

