-- ==== Sys2Proof/Laws/SteadyCards.lean ====
section
/-! SUPPORT. What the operations of Machine/Cards.lean keep (`Steady`). -/

namespace Sys2Proof.Machine

theorem steady_iccCount {ρ : State} (c : Nat) (s : State) (hρ : Steady ρ s) : Steady ρ (iccCount c s) := by
  unfold iccCount
  repeat' first | with_reducible assumption | refine fun _ => ?_ | with_reducible apply steady_State_count | dsimp only | split

theorem steady_iccDeactivate {ρ : State} (s : State) (hρ : Steady ρ s) : Steady ρ (iccDeactivate s) := by
  unfold iccDeactivate
  repeat' first | with_reducible assumption | refine fun _ => ?_ | with_reducible apply steady_State_wr | with_reducible apply steady_State_put | with_reducible apply Steady.ite | dsimp only | split

theorem steady_iccEnd {ρ : State} (r : Nat) (s : State) (hρ : Steady ρ s) : Steady ρ (iccEnd r s) := by
  unfold iccEnd
  repeat' first | with_reducible assumption | refine fun _ => ?_ | with_reducible apply steady_State_wr | with_reducible apply steady_State_put | with_reducible apply steady_State_raise | with_reducible apply Steady.ite | fail_if_no_progress (with_reducible refine Steady.mk' ?_ ?_ ?_ ?_ ?_ ?_ ?_; iterate 6 first | with_reducible rfl | (unfold setTransit; with_reducible rfl) | (split <;> with_reducible rfl) | (dsimp only; split <;> with_reducible rfl) | (focus (simp; done)) | fail) | dsimp only | split

theorem steady_iccCmdWrite {ρ : State} (w : Word) (o : IccOutcome) (s : State) (hρ : Steady ρ s) : Steady ρ (iccCmdWrite w o s) := by
  unfold iccCmdWrite
  repeat' first | with_reducible assumption | refine fun _ => ?_ | with_reducible apply Steady.ite | fail_if_no_progress (with_reducible refine Steady.mk' ?_ ?_ ?_ ?_ ?_ ?_ ?_; iterate 6 first | with_reducible rfl | (unfold setTransit; with_reducible rfl) | (split <;> with_reducible rfl) | (dsimp only; split <;> with_reducible rfl) | (focus (simp; done)) | fail) | with_reducible refine Steady.snd (by with_reducible assumption) ?_ | with_reducible refine Steady.snd2 (by with_reducible assumption) ?_ | with_reducible refine Steady.fst (by with_reducible assumption) ?_ | dsimp only | split

theorem steady_iccTakeOne {ρ : State} (x : IccOp) (s : State) (hρ : Steady ρ s) : Steady ρ (iccTakeOne x s) := by
  unfold iccTakeOne
  repeat' first | with_reducible assumption | refine fun _ => ?_ | with_reducible apply steady_State_put | with_reducible apply steady_iccEnd | with_reducible apply Steady.ite | fail_if_no_progress (with_reducible refine Steady.mk' ?_ ?_ ?_ ?_ ?_ ?_ ?_; iterate 6 first | with_reducible rfl | (unfold setTransit; with_reducible rfl) | (split <;> with_reducible rfl) | (dsimp only; split <;> with_reducible rfl) | (focus (simp; done)) | fail) | with_reducible refine Steady.snd (by with_reducible assumption) ?_ | with_reducible refine Steady.snd2 (by with_reducible assumption) ?_ | with_reducible refine Steady.fst (by with_reducible assumption) ?_ | dsimp only | split

theorem steady_iccTake {ρ : State} (s : State) (hρ : Steady ρ s) : Steady ρ (iccTake s) := by
  unfold iccTake
  repeat' first | with_reducible assumption | refine fun _ => ?_ | with_reducible apply steady_iccTakeOne | fail_if_no_progress (with_reducible refine Steady.mk' ?_ ?_ ?_ ?_ ?_ ?_ ?_; iterate 6 first | with_reducible rfl | (unfold setTransit; with_reducible rfl) | (split <;> with_reducible rfl) | (dsimp only; split <;> with_reducible rfl) | (focus (simp; done)) | fail) | with_reducible apply Steady.each | dsimp only | split

theorem steady_iccAtr {ρ : State} (a : Option Bytes) (s : State) (hρ : Steady ρ s) : Steady ρ (iccAtr a s) := by
  unfold iccAtr
  repeat' first | with_reducible assumption | refine fun _ => ?_ | with_reducible apply steady_State_wr | with_reducible apply steady_State_put | with_reducible apply steady_State_raise | with_reducible apply steady_iccCount | with_reducible apply steady_iccDeactivate | with_reducible apply steady_iccEnd | with_reducible apply Steady.ite | fail_if_no_progress (with_reducible refine Steady.mk' ?_ ?_ ?_ ?_ ?_ ?_ ?_; iterate 6 first | with_reducible rfl | (unfold setTransit; with_reducible rfl) | (split <;> with_reducible rfl) | (dsimp only; split <;> with_reducible rfl) | (focus (simp; done)) | fail) | with_reducible refine Steady.snd (by with_reducible assumption) ?_ | with_reducible refine Steady.snd2 (by with_reducible assumption) ?_ | with_reducible refine Steady.fst (by with_reducible assumption) ?_ | dsimp only | split

theorem steady_iccFail {ρ : State} (s : State) (hρ : Steady ρ s) : Steady ρ (iccFail s) := by
  unfold iccFail
  repeat' first | with_reducible assumption | refine fun _ => ?_ | with_reducible apply steady_State_put | with_reducible apply steady_iccDeactivate | with_reducible apply steady_iccEnd | dsimp only | split

theorem steady_iccResponse {ρ : State} (a : Answer) (s : State) (hρ : Steady ρ s) : Steady ρ (iccResponse a s) := by
  unfold iccResponse
  repeat' first | with_reducible assumption | refine fun _ => ?_ | with_reducible apply steady_State_wr | with_reducible apply steady_State_put | with_reducible apply steady_iccEnd | with_reducible apply steady_iccFail | with_reducible apply Steady.ite | fail_if_no_progress (with_reducible refine Steady.mk' ?_ ?_ ?_ ?_ ?_ ?_ ?_; iterate 6 first | with_reducible rfl | (unfold setTransit; with_reducible rfl) | (split <;> with_reducible rfl) | (dsimp only; split <;> with_reducible rfl) | (focus (simp; done)) | fail) | with_reducible refine Steady.snd (by with_reducible assumption) ?_ | with_reducible refine Steady.snd2 (by with_reducible assumption) ?_ | with_reducible refine Steady.fst (by with_reducible assumption) ?_ | dsimp only | split

theorem steady_iccResynchEnd {ρ : State} (ok : Bool) (s : State) (hρ : Steady ρ s) : Steady ρ (iccResynchEnd ok s) := by
  unfold iccResynchEnd
  repeat' first | with_reducible assumption | refine fun _ => ?_ | with_reducible apply steady_State_put | with_reducible apply steady_iccCount | with_reducible apply steady_iccEnd | with_reducible apply steady_iccFail | with_reducible apply Steady.ite | dsimp only | split

theorem steady_iccFinish {ρ : State} (x : IccOp) (s : State) (hρ : Steady ρ s) : Steady ρ (iccFinish x s) := by
  unfold iccFinish
  repeat' first | with_reducible assumption | refine fun _ => ?_ | with_reducible apply steady_State_put | with_reducible apply steady_State_useFree | with_reducible apply steady_iccDeactivate | with_reducible apply steady_iccEnd | with_reducible apply steady_iccAtr | with_reducible apply steady_iccResponse | with_reducible apply steady_iccResynchEnd | fail_if_no_progress (with_reducible refine Steady.mk' ?_ ?_ ?_ ?_ ?_ ?_ ?_; iterate 6 first | with_reducible rfl | (unfold setTransit; with_reducible rfl) | (split <;> with_reducible rfl) | (dsimp only; split <;> with_reducible rfl) | (focus (simp; done)) | fail) | with_reducible refine Steady.snd (by with_reducible assumption) ?_ | with_reducible refine Steady.snd2 (by with_reducible assumption) ?_ | with_reducible refine Steady.fst (by with_reducible assumption) ?_ | dsimp only | split

theorem steady_iccOpDone {ρ : State} (s : State) (hρ : Steady ρ s) : Steady ρ (iccOpDone s) := by
  unfold iccOpDone
  repeat' first | with_reducible assumption | refine fun _ => ?_ | with_reducible apply steady_State_put | with_reducible apply steady_iccFinish | with_reducible apply Steady.ite | fail_if_no_progress (with_reducible refine Steady.mk' ?_ ?_ ?_ ?_ ?_ ?_ ?_; iterate 6 first | with_reducible rfl | (unfold setTransit; with_reducible rfl) | (split <;> with_reducible rfl) | (dsimp only; split <;> with_reducible rfl) | (focus (simp; done)) | fail) | with_reducible refine Steady.snd (by with_reducible assumption) ?_ | with_reducible refine Steady.snd2 (by with_reducible assumption) ?_ | with_reducible refine Steady.fst (by with_reducible assumption) ?_ | dsimp only | split

theorem steady_iccClassRetry {ρ : State} (a : Option Bytes) (s : State) (hρ : Steady ρ s) : Steady ρ (iccClassRetry a s) := by
  unfold iccClassRetry
  repeat' first | with_reducible assumption | refine fun _ => ?_ | with_reducible apply steady_State_put | with_reducible apply steady_iccAtr | with_reducible apply Steady.ite | fail_if_no_progress (with_reducible refine Steady.mk' ?_ ?_ ?_ ?_ ?_ ?_ ?_; iterate 6 first | with_reducible rfl | (unfold setTransit; with_reducible rfl) | (split <;> with_reducible rfl) | (dsimp only; split <;> with_reducible rfl) | (focus (simp; done)) | fail) | with_reducible refine Steady.snd (by with_reducible assumption) ?_ | with_reducible refine Steady.snd2 (by with_reducible assumption) ?_ | with_reducible refine Steady.fst (by with_reducible assumption) ?_ | dsimp only | split

theorem steady_iccAbortTake {ρ : State} (s : State) (hρ : Steady ρ s) : Steady ρ (iccAbortTake s) := by
  unfold iccAbortTake
  repeat' first | with_reducible assumption | refine fun _ => ?_ | with_reducible apply steady_State_put | with_reducible apply steady_iccDeactivate | with_reducible apply steady_iccEnd | with_reducible apply Steady.ite | fail_if_no_progress (with_reducible refine Steady.mk' ?_ ?_ ?_ ?_ ?_ ?_ ?_; iterate 6 first | with_reducible rfl | (unfold setTransit; with_reducible rfl) | (split <;> with_reducible rfl) | (dsimp only; split <;> with_reducible rfl) | (focus (simp; done)) | fail) | dsimp only | split

theorem steady_iccBlockTimeout {ρ : State} (s : State) (hρ : Steady ρ s) : Steady ρ (iccBlockTimeout s) := by
  unfold iccBlockTimeout
  repeat' first | with_reducible assumption | refine fun _ => ?_ | with_reducible apply steady_State_put | with_reducible apply steady_iccCount | with_reducible apply steady_iccFail | with_reducible apply Steady.ite | fail_if_no_progress (with_reducible refine Steady.mk' ?_ ?_ ?_ ?_ ?_ ?_ ?_; iterate 6 first | with_reducible rfl | (unfold setTransit; with_reducible rfl) | (split <;> with_reducible rfl) | (dsimp only; split <;> with_reducible rfl) | (focus (simp; done)) | fail) | with_reducible refine Steady.snd (by with_reducible assumption) ?_ | with_reducible refine Steady.snd2 (by with_reducible assumption) ?_ | with_reducible refine Steady.fst (by with_reducible assumption) ?_ | dsimp only | split

theorem steady_iccWtx {ρ : State} (m : Nat) (s : State) (hρ : Steady ρ s) : Steady ρ (iccWtx m s) := by
  unfold iccWtx
  repeat' first | with_reducible assumption | refine fun _ => ?_ | with_reducible apply steady_iccCount | with_reducible apply steady_iccBlockTimeout | with_reducible apply Steady.ite | fail_if_no_progress (with_reducible refine Steady.mk' ?_ ?_ ?_ ?_ ?_ ?_ ?_; iterate 6 first | with_reducible rfl | (unfold setTransit; with_reducible rfl) | (split <;> with_reducible rfl) | (dsimp only; split <;> with_reducible rfl) | (focus (simp; done)) | fail) | with_reducible refine Steady.snd (by with_reducible assumption) ?_ | with_reducible refine Steady.snd2 (by with_reducible assumption) ?_ | with_reducible refine Steady.fst (by with_reducible assumption) ?_ | dsimp only | split

theorem steady_iccRemoved {ρ : State} (s : State) (hρ : Steady ρ s) : Steady ρ (iccRemoved s) := by
  unfold iccRemoved
  repeat' first | with_reducible assumption | refine fun _ => ?_ | with_reducible apply steady_State_put | with_reducible apply steady_State_raise | with_reducible apply steady_iccCount | with_reducible apply steady_iccDeactivate | with_reducible apply steady_iccEnd | with_reducible apply Steady.ite | fail_if_no_progress (with_reducible refine Steady.mk' ?_ ?_ ?_ ?_ ?_ ?_ ?_; iterate 6 first | with_reducible rfl | (unfold setTransit; with_reducible rfl) | (split <;> with_reducible rfl) | (dsimp only; split <;> with_reducible rfl) | (focus (simp; done)) | fail) | dsimp only | split

theorem steady_iccInserted {ρ : State} (s : State) (hρ : Steady ρ s) : Steady ρ (iccInserted s) := by
  unfold iccInserted
  repeat' first | with_reducible assumption | refine fun _ => ?_ | with_reducible apply steady_State_put | with_reducible apply steady_State_raise | with_reducible apply Steady.ite | dsimp only | split

theorem steady_iccOvercurrent {ρ : State} (ma : Nat) (s : State) (hρ : Steady ρ s) : Steady ρ (iccOvercurrent ma s) := by
  unfold iccOvercurrent
  repeat' first | with_reducible assumption | refine fun _ => ?_ | with_reducible apply steady_State_put | with_reducible apply steady_State_raise | with_reducible apply steady_iccCount | with_reducible apply steady_iccDeactivate | with_reducible apply steady_iccEnd | with_reducible apply Steady.ite | dsimp only | split

theorem steady_iccFifoWrite {ρ : State} (w : Word) (s : State) (hρ : Steady ρ s) : Steady ρ (iccFifoWrite w s) := by
  unfold iccFifoWrite
  repeat' first | with_reducible assumption | refine fun _ => ?_ | fail_if_no_progress (with_reducible refine Steady.mk' ?_ ?_ ?_ ?_ ?_ ?_ ?_; iterate 6 first | with_reducible rfl | (unfold setTransit; with_reducible rfl) | (split <;> with_reducible rfl) | (dsimp only; split <;> with_reducible rfl) | (focus (simp; done)) | fail) | dsimp only | split

theorem steady_iccFifoRead {ρ : State} (s : State) (hρ : Steady ρ s) : Steady ρ (iccFifoRead s).2 := by
  unfold iccFifoRead
  repeat' first | with_reducible assumption | refine fun _ => ?_ | fail_if_no_progress (with_reducible refine Steady.mk' ?_ ?_ ?_ ?_ ?_ ?_ ?_; iterate 6 first | with_reducible rfl | (unfold setTransit; with_reducible rfl) | (split <;> with_reducible rfl) | (dsimp only; split <;> with_reducible rfl) | (focus (simp; done)) | fail) | dsimp only | split

theorem steady_iccEvtWrite {ρ : State} (w : Word) (s : State) (hρ : Steady ρ s) : Steady ρ (iccEvtWrite w s) := by
  unfold iccEvtWrite
  repeat' first | with_reducible assumption | refine fun _ => ?_ | with_reducible apply steady_State_wr | with_reducible apply steady_State_zero | with_reducible apply Steady.onlyIf | dsimp only | split

theorem steady_iccBoundary {ρ : State} (s : State) (hρ : Steady ρ s) : Steady ρ (iccBoundary s) := by
  unfold iccBoundary
  repeat' first | with_reducible assumption | refine fun _ => ?_ | with_reducible apply steady_iccDeactivate | with_reducible apply steady_iccEnd | with_reducible apply steady_iccTake | with_reducible apply steady_iccAbortTake | with_reducible apply Steady.ite | dsimp only | split

theorem steady_rmcCount {ρ : State} (c : Nat) (s : State) (hρ : Steady ρ s) : Steady ρ (rmcCount c s) := by
  unfold rmcCount
  repeat' first | with_reducible assumption | refine fun _ => ?_ | with_reducible apply steady_State_count | dsimp only | split

theorem steady_rmcPowerOff {ρ : State} (s : State) (hρ : Steady ρ s) : Steady ρ (rmcPowerOff s) := by
  unfold rmcPowerOff
  repeat' first | with_reducible assumption | refine fun _ => ?_ | with_reducible apply steady_State_put | with_reducible apply Steady.ite | dsimp only | split

theorem steady_rmcEnd {ρ : State} (r : Nat) (s : State) (hρ : Steady ρ s) : Steady ρ (rmcEnd r s) := by
  unfold rmcEnd
  repeat' first | with_reducible assumption | refine fun _ => ?_ | with_reducible apply steady_State_wr | with_reducible apply steady_State_put | with_reducible apply steady_State_raise | with_reducible apply Steady.ite | fail_if_no_progress (with_reducible refine Steady.mk' ?_ ?_ ?_ ?_ ?_ ?_ ?_; iterate 6 first | with_reducible rfl | (unfold setTransit; with_reducible rfl) | (split <;> with_reducible rfl) | (dsimp only; split <;> with_reducible rfl) | (focus (simp; done)) | fail) | dsimp only | split

theorem steady_rmcCmdWrite {ρ : State} (w : Word) (o : RmcOutcome) (use : BoxUse) (s : State) (hρ : Steady ρ s) : Steady ρ (rmcCmdWrite w o use s) := by
  unfold rmcCmdWrite
  repeat' first | with_reducible assumption | refine fun _ => ?_ | with_reducible apply Steady.ite | fail_if_no_progress (with_reducible refine Steady.mk' ?_ ?_ ?_ ?_ ?_ ?_ ?_; iterate 6 first | with_reducible rfl | (unfold setTransit; with_reducible rfl) | (split <;> with_reducible rfl) | (dsimp only; split <;> with_reducible rfl) | (focus (simp; done)) | fail) | with_reducible refine Steady.snd (by with_reducible assumption) ?_ | with_reducible refine Steady.snd2 (by with_reducible assumption) ?_ | with_reducible refine Steady.fst (by with_reducible assumption) ?_ | dsimp only | split

theorem steady_rmcTakeOne {ρ : State} (x : RmcOp) (s : State) (hρ : Steady ρ s) : Steady ρ (rmcTakeOne x s) := by
  unfold rmcTakeOne
  repeat' first | with_reducible assumption | refine fun _ => ?_ | with_reducible apply steady_State_wr | with_reducible apply steady_State_put | with_reducible apply steady_rmcPowerOff | with_reducible apply steady_rmcEnd | with_reducible apply Steady.ite | fail_if_no_progress (with_reducible refine Steady.mk' ?_ ?_ ?_ ?_ ?_ ?_ ?_; iterate 6 first | with_reducible rfl | (unfold setTransit; with_reducible rfl) | (split <;> with_reducible rfl) | (dsimp only; split <;> with_reducible rfl) | (focus (simp; done)) | fail) | dsimp only | split

theorem steady_rmcTake {ρ : State} (s : State) (hρ : Steady ρ s) : Steady ρ (rmcTake s) := by
  unfold rmcTake
  repeat' first | with_reducible assumption | refine fun _ => ?_ | with_reducible apply steady_rmcTakeOne | fail_if_no_progress (with_reducible refine Steady.mk' ?_ ?_ ?_ ?_ ?_ ?_ ?_; iterate 6 first | with_reducible rfl | (unfold setTransit; with_reducible rfl) | (split <;> with_reducible rfl) | (dsimp only; split <;> with_reducible rfl) | (focus (simp; done)) | fail) | with_reducible apply Steady.each | dsimp only | split

theorem steady_rmcTune {ρ : State} (taps : Bool) (s : State) (hρ : Steady ρ s) : Steady ρ (rmcTune taps s) := by
  unfold rmcTune
  repeat' first | with_reducible assumption | refine fun _ => ?_ | with_reducible apply steady_State_put | with_reducible apply steady_State_raise | with_reducible apply Steady.ite | fail_if_no_progress (with_reducible refine Steady.mk' ?_ ?_ ?_ ?_ ?_ ?_ ?_; iterate 6 first | with_reducible rfl | (unfold setTransit; with_reducible rfl) | (split <;> with_reducible rfl) | (dsimp only; split <;> with_reducible rfl) | (focus (simp; done)) | fail) | dsimp only | split

theorem steady_rmcInitEnd {ρ : State} (ccs : Bool) (mode : Nat) (blocks : Nat) (tuned : Bool) (s : State) (hρ : Steady ρ s) : Steady ρ (rmcInitEnd ccs mode blocks tuned s) := by
  unfold rmcInitEnd
  repeat' first | with_reducible assumption | refine fun _ => ?_ | with_reducible apply steady_State_put | with_reducible apply steady_State_raise | with_reducible apply steady_State_flag | with_reducible apply steady_rmcPowerOff | with_reducible apply steady_rmcEnd | with_reducible apply steady_rmcTune | with_reducible apply steady_State_wrN | with_reducible apply Steady.ite | dsimp only | split

theorem steady_takeReadBlock {ρ : State} (b : Bytes) (s : State) (hρ : Steady ρ s) : Steady ρ (takeReadBlock b s) := by
  unfold takeReadBlock
  repeat' first | with_reducible assumption | refine fun _ => ?_ | fail_if_no_progress (with_reducible refine Steady.mk' ?_ ?_ ?_ ?_ ?_ ?_ ?_; iterate 6 first | with_reducible rfl | (unfold setTransit; with_reducible rfl) | (split <;> with_reducible rfl) | (dsimp only; split <;> with_reducible rfl) | (focus (simp; done)) | fail) | dsimp only | split

theorem steady_rmcStep {ρ : State} (s : State) (hρ : Steady ρ s) : Steady ρ (rmcStep s) := by
  unfold rmcStep
  repeat' first | with_reducible assumption | refine fun _ => ?_ | with_reducible apply steady_State_wr | with_reducible apply steady_State_useFree | with_reducible apply steady_rmcCount | with_reducible apply steady_takeReadBlock | with_reducible apply Steady.ite | fail_if_no_progress (with_reducible refine Steady.mk' ?_ ?_ ?_ ?_ ?_ ?_ ?_; iterate 6 first | with_reducible rfl | (unfold setTransit; with_reducible rfl) | (split <;> with_reducible rfl) | (dsimp only; split <;> with_reducible rfl) | (focus (simp; done)) | fail) | with_reducible refine Steady.snd (by with_reducible assumption) ?_ | with_reducible refine Steady.snd2 (by with_reducible assumption) ?_ | with_reducible refine Steady.fst (by with_reducible assumption) ?_ | dsimp only | split

theorem steady_rmcFinish {ρ : State} (x : RmcOp) (s : State) (hρ : Steady ρ s) : Steady ρ (rmcFinish x s) := by
  unfold rmcFinish
  repeat' first | with_reducible assumption | refine fun _ => ?_ | with_reducible apply steady_State_useFree | with_reducible apply steady_rmcCount | with_reducible apply steady_rmcEnd | with_reducible apply steady_rmcInitEnd | with_reducible apply Steady.ite | fail_if_no_progress (with_reducible refine Steady.mk' ?_ ?_ ?_ ?_ ?_ ?_ ?_; iterate 6 first | with_reducible rfl | (unfold setTransit; with_reducible rfl) | (split <;> with_reducible rfl) | (dsimp only; split <;> with_reducible rfl) | (focus (simp; done)) | fail) | with_reducible refine Steady.snd (by with_reducible assumption) ?_ | with_reducible refine Steady.snd2 (by with_reducible assumption) ?_ | with_reducible refine Steady.fst (by with_reducible assumption) ?_ | dsimp only | split

theorem steady_rmcOpDone {ρ : State} (s : State) (hρ : Steady ρ s) : Steady ρ (rmcOpDone s) := by
  unfold rmcOpDone
  repeat' first | with_reducible assumption | refine fun _ => ?_ | with_reducible apply steady_State_put | with_reducible apply steady_rmcFinish | with_reducible apply Steady.ite | fail_if_no_progress (with_reducible refine Steady.mk' ?_ ?_ ?_ ?_ ?_ ?_ ?_; iterate 6 first | with_reducible rfl | (unfold setTransit; with_reducible rfl) | (split <;> with_reducible rfl) | (dsimp only; split <;> with_reducible rfl) | (focus (simp; done)) | fail) | with_reducible refine Steady.snd (by with_reducible assumption) ?_ | with_reducible refine Steady.snd2 (by with_reducible assumption) ?_ | with_reducible refine Steady.fst (by with_reducible assumption) ?_ | dsimp only | split

theorem steady_rmcAbortTake {ρ : State} (s : State) (hρ : Steady ρ s) : Steady ρ (rmcAbortTake s) := by
  unfold rmcAbortTake
  repeat' first | with_reducible assumption | refine fun _ => ?_ | with_reducible apply steady_rmcEnd | with_reducible apply Steady.ite | fail_if_no_progress (with_reducible refine Steady.mk' ?_ ?_ ?_ ?_ ?_ ?_ ?_; iterate 6 first | with_reducible rfl | (unfold setTransit; with_reducible rfl) | (split <;> with_reducible rfl) | (dsimp only; split <;> with_reducible rfl) | (focus (simp; done)) | fail) | dsimp only | split

theorem steady_rmcRetune {ρ : State} (taps : Bool) (s : State) (hρ : Steady ρ s) : Steady ρ (rmcRetune taps s) := by
  unfold rmcRetune
  repeat' first | with_reducible assumption | refine fun _ => ?_ | with_reducible apply steady_State_wr | with_reducible apply steady_rmcCount | with_reducible apply steady_rmcTune | with_reducible apply Steady.ite | fail_if_no_progress (with_reducible refine Steady.mk' ?_ ?_ ?_ ?_ ?_ ?_ ?_; iterate 6 first | with_reducible rfl | (unfold setTransit; with_reducible rfl) | (split <;> with_reducible rfl) | (dsimp only; split <;> with_reducible rfl) | (focus (simp; done)) | fail) | with_reducible refine Steady.snd (by with_reducible assumption) ?_ | with_reducible refine Steady.snd2 (by with_reducible assumption) ?_ | with_reducible refine Steady.fst (by with_reducible assumption) ?_ | dsimp only | split

theorem steady_rmcBusyTimeout {ρ : State} (s : State) (hρ : Steady ρ s) : Steady ρ (rmcBusyTimeout s) := by
  unfold rmcBusyTimeout
  repeat' first | with_reducible assumption | refine fun _ => ?_ | with_reducible apply steady_rmcCount | with_reducible apply steady_rmcEnd | fail_if_no_progress (with_reducible refine Steady.mk' ?_ ?_ ?_ ?_ ?_ ?_ ?_; iterate 6 first | with_reducible rfl | (unfold setTransit; with_reducible rfl) | (split <;> with_reducible rfl) | (dsimp only; split <;> with_reducible rfl) | (focus (simp; done)) | fail) | with_reducible refine Steady.snd (by with_reducible assumption) ?_ | with_reducible refine Steady.snd2 (by with_reducible assumption) ?_ | with_reducible refine Steady.fst (by with_reducible assumption) ?_ | dsimp only | split

theorem steady_rmcRemoved {ρ : State} (s : State) (hρ : Steady ρ s) : Steady ρ (rmcRemoved s) := by
  unfold rmcRemoved
  repeat' first | with_reducible assumption | refine fun _ => ?_ | with_reducible apply steady_State_put | with_reducible apply steady_State_raise | with_reducible apply steady_rmcCount | with_reducible apply steady_rmcEnd | with_reducible apply Steady.ite | dsimp only | split

theorem steady_rmcInserted {ρ : State} (s : State) (hρ : Steady ρ s) : Steady ρ (rmcInserted s) := by
  unfold rmcInserted
  repeat' first | with_reducible assumption | refine fun _ => ?_ | with_reducible apply steady_State_put | with_reducible apply steady_State_raise | with_reducible apply Steady.ite | dsimp only | split

theorem steady_rmcFifoWrite {ρ : State} (w : Word) (s : State) (hρ : Steady ρ s) : Steady ρ (rmcFifoWrite w s) := by
  unfold rmcFifoWrite
  repeat' first | with_reducible assumption | refine fun _ => ?_ | fail_if_no_progress (with_reducible refine Steady.mk' ?_ ?_ ?_ ?_ ?_ ?_ ?_; iterate 6 first | with_reducible rfl | (unfold setTransit; with_reducible rfl) | (split <;> with_reducible rfl) | (dsimp only; split <;> with_reducible rfl) | (focus (simp; done)) | fail) | dsimp only | split

theorem steady_rmcFifoRead {ρ : State} (s : State) (hρ : Steady ρ s) : Steady ρ (rmcFifoRead s).2 := by
  unfold rmcFifoRead
  repeat' first | with_reducible assumption | refine fun _ => ?_ | fail_if_no_progress (with_reducible refine Steady.mk' ?_ ?_ ?_ ?_ ?_ ?_ ?_; iterate 6 first | with_reducible rfl | (unfold setTransit; with_reducible rfl) | (split <;> with_reducible rfl) | (dsimp only; split <;> with_reducible rfl) | (focus (simp; done)) | fail) | dsimp only | split

theorem steady_rmcEvtWrite {ρ : State} (w : Word) (s : State) (hρ : Steady ρ s) : Steady ρ (rmcEvtWrite w s) := by
  unfold rmcEvtWrite
  repeat' first | with_reducible assumption | refine fun _ => ?_ | with_reducible apply steady_State_wr | with_reducible apply steady_State_zero | with_reducible apply Steady.onlyIf | dsimp only | split

theorem steady_rmcBoundary {ρ : State} (s : State) (hρ : Steady ρ s) : Steady ρ (rmcBoundary s) := by
  unfold rmcBoundary
  repeat' first | with_reducible assumption | refine fun _ => ?_ | with_reducible apply steady_rmcPowerOff | with_reducible apply steady_rmcEnd | with_reducible apply steady_rmcTake | with_reducible apply steady_rmcStep | with_reducible apply steady_rmcAbortTake | with_reducible apply Steady.ite | dsimp only | split

end Sys2Proof.Machine
end

