-- ==== Sys2Proof/Laws/SteadyContactless.lean ====
section
/-! SUPPORT. What the operations of Machine/Contactless.lean keep (`Steady`). -/

namespace Sys2Proof.Machine

theorem steady_clrCount {ρ : State} (c : Nat) (s : State) (k : Nat) (hρ : Steady ρ s) : Steady ρ (clrCount c s k) := by
  unfold clrCount
  repeat' first | with_reducible assumption | refine fun _ => ?_ | with_reducible apply steady_State_count | dsimp only | split

theorem steady_clrShow {ρ : State} (s : State) (hρ : Steady ρ s) : Steady ρ (clrShow s) := by
  unfold clrShow
  repeat' first | with_reducible assumption | refine fun _ => ?_ | with_reducible apply steady_State_put | with_reducible apply steady_State_flag | dsimp only | split

theorem steady_tokSet {ρ : State} (e : Nat) (st : Nat) (s : State) (hρ : Steady ρ s) : Steady ρ (tokSet e st s) := by
  unfold tokSet
  repeat' first | with_reducible assumption | refine fun _ => ?_ | with_reducible apply steady_State_put | with_reducible apply steady_clrShow | with_reducible apply Steady.onlyIf | dsimp only | split

theorem steady_tokFree {ρ : State} (e : Nat) (s : State) (hρ : Steady ρ s) : Steady ρ (tokFree e s) := by
  unfold tokFree
  repeat' first | with_reducible assumption | refine fun _ => ?_ | with_reducible apply steady_clrShow | with_reducible apply steady_State_zero | fail_if_no_progress (with_reducible refine Steady.mk' ?_ ?_ ?_ ?_ ?_ ?_ ?_; iterate 6 first | with_reducible rfl | (unfold setTransit; with_reducible rfl) | (split <;> with_reducible rfl) | (dsimp only; split <;> with_reducible rfl) | (focus (simp; done)) | fail) | dsimp only | split

theorem steady_fieldOff {ρ : State} (s : State) (hρ : Steady ρ s) : Steady ρ (fieldOff s) := by
  unfold fieldOff
  repeat' first | with_reducible assumption | refine fun _ => ?_ | with_reducible apply steady_State_put | with_reducible apply steady_hold | with_reducible apply steady_tokFree | with_reducible apply Steady.ite | fail_if_no_progress (with_reducible refine Steady.mk' ?_ ?_ ?_ ?_ ?_ ?_ ?_; iterate 6 first | with_reducible rfl | (unfold setTransit; with_reducible rfl) | (split <;> with_reducible rfl) | (dsimp only; split <;> with_reducible rfl) | (focus (simp; done)) | fail) | with_reducible apply Steady.each | with_reducible apply Steady.onlyIf | dsimp only | split

theorem steady_fieldOn {ρ : State} (s : State) (hρ : Steady ρ s) : Steady ρ (fieldOn s) := by
  unfold fieldOn
  repeat' first | with_reducible assumption | refine fun _ => ?_ | with_reducible apply steady_State_put | with_reducible apply Steady.ite | fail_if_no_progress (with_reducible refine Steady.mk' ?_ ?_ ?_ ?_ ?_ ?_ ?_; iterate 6 first | with_reducible rfl | (unfold setTransit; with_reducible rfl) | (split <;> with_reducible rfl) | (dsimp only; split <;> with_reducible rfl) | (focus (simp; done)) | fail) | dsimp only | split

theorem steady_fieldSettled {ρ : State} (s : State) (hρ : Steady ρ s) : Steady ρ (fieldSettled s) := by
  unfold fieldSettled
  repeat' first | with_reducible assumption | refine fun _ => ?_ | with_reducible apply steady_State_put | with_reducible apply Steady.ite | dsimp only | split

theorem steady_clrCfgWrite {ρ : State} (w : Word) (s : State) (hρ : Steady ρ s) : Steady ρ (clrCfgWrite w s) := by
  unfold clrCfgWrite
  repeat' first | with_reducible assumption | refine fun _ => ?_ | with_reducible apply steady_State_wr | with_reducible apply steady_State_put | with_reducible apply steady_hold | with_reducible apply steady_fieldOff | with_reducible apply steady_fieldOn | with_reducible apply Steady.ite | fail_if_no_progress (with_reducible refine Steady.mk' ?_ ?_ ?_ ?_ ?_ ?_ ?_; iterate 6 first | with_reducible rfl | (unfold setTransit; with_reducible rfl) | (split <;> with_reducible rfl) | (dsimp only; split <;> with_reducible rfl) | (focus (simp; done)) | fail) | with_reducible apply SteadyDone.next | with_reducible apply SteadyDone.fault | with_reducible apply SteadyDone.after | with_reducible apply SteadyDone.ite | with_reducible refine SteadyDone.outNext (by with_reducible assumption) ?_ | with_reducible refine SteadyDone.outFault (by with_reducible assumption) ?_ | with_reducible refine SteadyDone.outAfter (by with_reducible assumption) ?_ | dsimp only | split

theorem steady_clrEnd {ρ : State} (r : Nat) (s : State) (hρ : Steady ρ s) : Steady ρ (clrEnd r s) := by
  unfold clrEnd
  repeat' first | with_reducible assumption | refine fun _ => ?_ | with_reducible apply steady_State_wr | with_reducible apply steady_State_put | with_reducible apply steady_State_raise | with_reducible apply Steady.ite | fail_if_no_progress (with_reducible refine Steady.mk' ?_ ?_ ?_ ?_ ?_ ?_ ?_; iterate 6 first | with_reducible rfl | (unfold setTransit; with_reducible rfl) | (split <;> with_reducible rfl) | (dsimp only; split <;> with_reducible rfl) | (focus (simp; done)) | fail) | dsimp only | split

theorem steady_fieldFault {ρ : State} (s : State) (hρ : Steady ρ s) : Steady ρ (fieldFault s) := by
  unfold fieldFault
  repeat' first | with_reducible assumption | refine fun _ => ?_ | with_reducible apply steady_State_put | with_reducible apply steady_State_raise | with_reducible apply steady_fieldOff | with_reducible apply steady_clrEnd | with_reducible apply Steady.ite | fail_if_no_progress (with_reducible refine Steady.mk' ?_ ?_ ?_ ?_ ?_ ?_ ?_; iterate 6 first | with_reducible rfl | (unfold setTransit; with_reducible rfl) | (split <;> with_reducible rfl) | (dsimp only; split <;> with_reducible rfl) | (focus (simp; done)) | fail) | dsimp only | split

theorem steady_clrCmdWrite {ρ : State} (w : Word) (o : ClrOutcome) (acked : Bool) (s : State) (hρ : Steady ρ s) : Steady ρ (clrCmdWrite w o acked s) := by
  unfold clrCmdWrite
  repeat' first | with_reducible assumption | refine fun _ => ?_ | with_reducible apply Steady.ite | fail_if_no_progress (with_reducible refine Steady.mk' ?_ ?_ ?_ ?_ ?_ ?_ ?_; iterate 6 first | with_reducible rfl | (unfold setTransit; with_reducible rfl) | (split <;> with_reducible rfl) | (dsimp only; split <;> with_reducible rfl) | (focus (simp; done)) | fail) | with_reducible refine Steady.snd (by with_reducible assumption) ?_ | with_reducible refine Steady.snd2 (by with_reducible assumption) ?_ | with_reducible refine Steady.fst (by with_reducible assumption) ?_ | dsimp only | split

theorem steady_wrongAdd {ρ : State} (u : Bytes) (s : State) (hρ : Steady ρ s) : Steady ρ (wrongAdd u s) := by
  unfold wrongAdd
  repeat' first | with_reducible assumption | refine fun _ => ?_ | with_reducible apply Steady.ite | fail_if_no_progress (with_reducible refine Steady.mk' ?_ ?_ ?_ ?_ ?_ ?_ ?_; iterate 6 first | with_reducible rfl | (unfold setTransit; with_reducible rfl) | (split <;> with_reducible rfl) | (dsimp only; split <;> with_reducible rfl) | (focus (simp; done)) | fail) | dsimp only | split

theorem steady_clrRefuse {ρ : State} (s : State) (hρ : Steady ρ s) : Steady ρ (clrRefuse s) := by
  unfold clrRefuse
  repeat' first | with_reducible assumption | refine fun _ => ?_ | with_reducible apply steady_State_put | with_reducible apply steady_clrEnd | with_reducible apply Steady.ite | dsimp only | split

theorem steady_quietExpiry {ρ : State} (e : Nat) (s : State) (hρ : Steady ρ s) : Steady ρ (quietExpiry e s) := by
  unfold quietExpiry
  repeat' first | with_reducible assumption | refine fun _ => ?_ | with_reducible apply steady_tokFree | with_reducible apply Steady.ite | dsimp only | split

theorem steady_clrBegin {ρ : State} (x : ClrOp) (s : State) (hρ : Steady ρ s) : Steady ρ (clrBegin x s) := by
  unfold clrBegin
  repeat' first | with_reducible assumption | refine fun _ => ?_ | with_reducible apply steady_State_put | with_reducible apply steady_tokSet | with_reducible apply steady_tokFree | with_reducible apply Steady.ite | fail_if_no_progress (with_reducible refine Steady.mk' ?_ ?_ ?_ ?_ ?_ ?_ ?_; iterate 6 first | with_reducible rfl | (unfold setTransit; with_reducible rfl) | (split <;> with_reducible rfl) | (dsimp only; split <;> with_reducible rfl) | (focus (simp; done)) | fail) | with_reducible apply Steady.each | dsimp only | split

theorem steady_clrTakeOne {ρ : State} (x : ClrOp) (s : State) (hρ : Steady ρ s) : Steady ρ (clrTakeOne x s) := by
  unfold clrTakeOne
  repeat' first | with_reducible assumption | refine fun _ => ?_ | with_reducible apply steady_fieldOff | with_reducible apply steady_clrEnd | with_reducible apply steady_clrRefuse | with_reducible apply steady_clrBegin | with_reducible apply Steady.ite | fail_if_no_progress (with_reducible refine Steady.mk' ?_ ?_ ?_ ?_ ?_ ?_ ?_; iterate 6 first | with_reducible rfl | (unfold setTransit; with_reducible rfl) | (split <;> with_reducible rfl) | (dsimp only; split <;> with_reducible rfl) | (focus (simp; done)) | fail) | dsimp only | split

theorem steady_clrTake {ρ : State} (s : State) (hρ : Steady ρ s) : Steady ρ (clrTake s) := by
  unfold clrTake
  repeat' first | with_reducible assumption | refine fun _ => ?_ | with_reducible apply steady_clrTakeOne | fail_if_no_progress (with_reducible refine Steady.mk' ?_ ?_ ?_ ?_ ?_ ?_ ?_; iterate 6 first | with_reducible rfl | (unfold setTransit; with_reducible rfl) | (split <;> with_reducible rfl) | (dsimp only; split <;> with_reducible rfl) | (focus (simp; done)) | fail) | with_reducible apply Steady.each | dsimp only | split

theorem steady_tokAdd {ρ : State} (t : Token) (s : State) (hρ : Steady ρ s) : Steady ρ (tokAdd t s) := by
  unfold tokAdd
  repeat' first | with_reducible assumption | refine fun _ => ?_ | with_reducible apply steady_State_wr | with_reducible apply steady_State_put | with_reducible apply steady_clrShow | with_reducible apply Steady.ite | fail_if_no_progress (with_reducible refine Steady.mk' ?_ ?_ ?_ ?_ ?_ ?_ ?_; iterate 6 first | with_reducible rfl | (unfold setTransit; with_reducible rfl) | (split <;> with_reducible rfl) | (dsimp only; split <;> with_reducible rfl) | (focus (simp; done)) | fail) | with_reducible apply Steady.each | with_reducible refine Steady.snd (by with_reducible assumption) ?_ | with_reducible refine Steady.snd2 (by with_reducible assumption) ?_ | with_reducible refine Steady.fst (by with_reducible assumption) ?_ | dsimp only | split

theorem steady_searchEnd {ρ : State} (found : List Token) (restarts : Nat) (s : State) (hρ : Steady ρ s) : Steady ρ (searchEnd found restarts s) := by
  unfold searchEnd
  repeat' first | with_reducible assumption | refine fun _ => ?_ | with_reducible apply steady_State_wr | with_reducible apply steady_State_put | with_reducible apply steady_State_raise | with_reducible apply steady_clrCount | with_reducible apply steady_fieldOff | with_reducible apply steady_clrEnd | with_reducible apply steady_tokAdd | with_reducible apply Steady.ite | fail_if_no_progress (with_reducible refine Steady.mk' ?_ ?_ ?_ ?_ ?_ ?_ ?_; iterate 6 first | with_reducible rfl | (unfold setTransit; with_reducible rfl) | (split <;> with_reducible rfl) | (dsimp only; split <;> with_reducible rfl) | (focus (simp; done)) | fail) | with_reducible apply Steady.each | with_reducible apply Steady.onlyIf | dsimp only | split

theorem steady_tokLost {ρ : State} (e : Nat) (s : State) (hρ : Steady ρ s) : Steady ρ (tokLost e s) := by
  unfold tokLost
  repeat' first | with_reducible assumption | refine fun _ => ?_ | with_reducible apply steady_State_raise | with_reducible apply steady_tokSet | with_reducible apply steady_clrEnd | dsimp only | split

theorem steady_answerEnd {ρ : State} (op : Nat) (e : Nat) (a : Answer) (rate : Nat) (s : State) (hρ : Steady ρ s) : Steady ρ (answerEnd op e a rate s) := by
  unfold answerEnd
  repeat' first | with_reducible assumption | refine fun _ => ?_ | with_reducible apply steady_State_wr | with_reducible apply steady_State_put | with_reducible apply steady_clrCount | with_reducible apply steady_tokSet | with_reducible apply steady_clrEnd | with_reducible apply steady_tokLost | with_reducible apply Steady.ite | fail_if_no_progress (with_reducible refine Steady.mk' ?_ ?_ ?_ ?_ ?_ ?_ ?_; iterate 6 first | with_reducible rfl | (unfold setTransit; with_reducible rfl) | (split <;> with_reducible rfl) | (dsimp only; split <;> with_reducible rfl) | (focus (simp; done)) | fail) | with_reducible refine Steady.snd (by with_reducible assumption) ?_ | with_reducible refine Steady.snd2 (by with_reducible assumption) ?_ | with_reducible refine Steady.fst (by with_reducible assumption) ?_ | dsimp only | split

theorem steady_unlockEnd {ρ : State} (e : Nat) (r : Option Byte) (s : State) (hρ : Steady ρ s) : Steady ρ (unlockEnd e r s) := by
  unfold unlockEnd
  repeat' first | with_reducible assumption | refine fun _ => ?_ | with_reducible apply steady_State_put | with_reducible apply steady_clrCount | with_reducible apply steady_clrEnd | with_reducible apply steady_wrongAdd | with_reducible apply steady_tokLost | with_reducible apply Steady.ite | fail_if_no_progress (with_reducible refine Steady.mk' ?_ ?_ ?_ ?_ ?_ ?_ ?_; iterate 6 first | with_reducible rfl | (unfold setTransit; with_reducible rfl) | (split <;> with_reducible rfl) | (dsimp only; split <;> with_reducible rfl) | (focus (simp; done)) | fail) | with_reducible refine Steady.snd (by with_reducible assumption) ?_ | with_reducible refine Steady.snd2 (by with_reducible assumption) ?_ | with_reducible refine Steady.fst (by with_reducible assumption) ?_ | dsimp only | split

theorem steady_quietEnd {ρ : State} (e : Nat) (s : State) (hρ : Steady ρ s) : Steady ρ (quietEnd e s) := by
  unfold quietEnd
  repeat' first | with_reducible assumption | refine fun _ => ?_ | with_reducible apply steady_tokSet | with_reducible apply steady_clrEnd | fail_if_no_progress (with_reducible refine Steady.mk' ?_ ?_ ?_ ?_ ?_ ?_ ?_; iterate 6 first | with_reducible rfl | (unfold setTransit; with_reducible rfl) | (split <;> with_reducible rfl) | (dsimp only; split <;> with_reducible rfl) | (focus (simp; done)) | fail) | dsimp only | split

theorem steady_clrFinish {ρ : State} (x : ClrOp) (s : State) (hρ : Steady ρ s) : Steady ρ (clrFinish x s) := by
  unfold clrFinish
  repeat' first | with_reducible assumption | refine fun _ => ?_ | with_reducible apply steady_State_useFree | with_reducible apply steady_searchEnd | with_reducible apply steady_answerEnd | with_reducible apply steady_unlockEnd | with_reducible apply steady_quietEnd | fail_if_no_progress (with_reducible refine Steady.mk' ?_ ?_ ?_ ?_ ?_ ?_ ?_; iterate 6 first | with_reducible rfl | (unfold setTransit; with_reducible rfl) | (split <;> with_reducible rfl) | (dsimp only; split <;> with_reducible rfl) | (focus (simp; done)) | fail) | with_reducible refine Steady.snd (by with_reducible assumption) ?_ | with_reducible refine Steady.snd2 (by with_reducible assumption) ?_ | with_reducible refine Steady.fst (by with_reducible assumption) ?_ | dsimp only | split

theorem steady_clrOpDone {ρ : State} (s : State) (hρ : Steady ρ s) : Steady ρ (clrOpDone s) := by
  unfold clrOpDone
  repeat' first | with_reducible assumption | refine fun _ => ?_ | with_reducible apply steady_State_put | with_reducible apply steady_clrFinish | with_reducible apply Steady.ite | fail_if_no_progress (with_reducible refine Steady.mk' ?_ ?_ ?_ ?_ ?_ ?_ ?_; iterate 6 first | with_reducible rfl | (unfold setTransit; with_reducible rfl) | (split <;> with_reducible rfl) | (dsimp only; split <;> with_reducible rfl) | (focus (simp; done)) | fail) | with_reducible refine Steady.snd (by with_reducible assumption) ?_ | with_reducible refine Steady.snd2 (by with_reducible assumption) ?_ | with_reducible refine Steady.fst (by with_reducible assumption) ?_ | dsimp only | split

theorem steady_clrAbortTake {ρ : State} (s : State) (hρ : Steady ρ s) : Steady ρ (clrAbortTake s) := by
  unfold clrAbortTake
  repeat' first | with_reducible assumption | refine fun _ => ?_ | with_reducible apply steady_State_raise | with_reducible apply steady_tokSet | with_reducible apply steady_clrEnd | with_reducible apply Steady.ite | fail_if_no_progress (with_reducible refine Steady.mk' ?_ ?_ ?_ ?_ ?_ ?_ ?_; iterate 6 first | with_reducible rfl | (unfold setTransit; with_reducible rfl) | (split <;> with_reducible rfl) | (dsimp only; split <;> with_reducible rfl) | (focus (simp; done)) | fail) | with_reducible apply Steady.onlyIf | with_reducible refine Steady.snd (by with_reducible assumption) ?_ | with_reducible refine Steady.snd2 (by with_reducible assumption) ?_ | with_reducible refine Steady.fst (by with_reducible assumption) ?_ | dsimp only | split

theorem steady_clrBlockTimeout {ρ : State} (badCrc : Bool) (s : State) (hρ : Steady ρ s) : Steady ρ (clrBlockTimeout badCrc s) := by
  unfold clrBlockTimeout
  repeat' first | with_reducible assumption | refine fun _ => ?_ | with_reducible apply steady_clrCount | with_reducible apply steady_clrEnd | with_reducible apply steady_tokLost | with_reducible apply Steady.ite | fail_if_no_progress (with_reducible refine Steady.mk' ?_ ?_ ?_ ?_ ?_ ?_ ?_; iterate 6 first | with_reducible rfl | (unfold setTransit; with_reducible rfl) | (split <;> with_reducible rfl) | (dsimp only; split <;> with_reducible rfl) | (focus (simp; done)) | fail) | with_reducible refine Steady.snd (by with_reducible assumption) ?_ | with_reducible refine Steady.snd2 (by with_reducible assumption) ?_ | with_reducible refine Steady.fst (by with_reducible assumption) ?_ | dsimp only | split

theorem steady_clrWtx {ρ : State} (wtxm : Nat) (s : State) (hρ : Steady ρ s) : Steady ρ (clrWtx wtxm s) := by
  unfold clrWtx
  repeat' first | with_reducible assumption | refine fun _ => ?_ | with_reducible apply steady_clrCount | with_reducible apply steady_clrEnd | with_reducible apply Steady.ite | fail_if_no_progress (with_reducible refine Steady.mk' ?_ ?_ ?_ ?_ ?_ ?_ ?_; iterate 6 first | with_reducible rfl | (unfold setTransit; with_reducible rfl) | (split <;> with_reducible rfl) | (dsimp only; split <;> with_reducible rfl) | (focus (simp; done)) | fail) | with_reducible refine Steady.snd (by with_reducible assumption) ?_ | with_reducible refine Steady.snd2 (by with_reducible assumption) ?_ | with_reducible refine Steady.fst (by with_reducible assumption) ?_ | dsimp only | split

theorem steady_lpcdPing {ρ : State} (amp : Nat) (ph : Nat) (s : State) (hρ : Steady ρ s) : Steady ρ (lpcdPing amp ph s) := by
  unfold lpcdPing
  repeat' first | with_reducible assumption | refine fun _ => ?_ | with_reducible apply steady_State_wr | with_reducible apply steady_State_raise | with_reducible apply steady_hold | with_reducible apply steady_clrCount | with_reducible apply steady_fieldOn | with_reducible apply Steady.ite | fail_if_no_progress (with_reducible refine Steady.mk' ?_ ?_ ?_ ?_ ?_ ?_ ?_; iterate 6 first | with_reducible rfl | (unfold setTransit; with_reducible rfl) | (split <;> with_reducible rfl) | (dsimp only; split <;> with_reducible rfl) | (focus (simp; done)) | fail) | with_reducible refine Steady.snd (by with_reducible assumption) ?_ | with_reducible refine Steady.snd2 (by with_reducible assumption) ?_ | with_reducible refine Steady.fst (by with_reducible assumption) ?_ | dsimp only | split

theorem steady_clrFifoWrite {ρ : State} (w : Word) (s : State) (hρ : Steady ρ s) : Steady ρ (clrFifoWrite w s) := by
  unfold clrFifoWrite
  repeat' first | with_reducible assumption | refine fun _ => ?_ | fail_if_no_progress (with_reducible refine Steady.mk' ?_ ?_ ?_ ?_ ?_ ?_ ?_; iterate 6 first | with_reducible rfl | (unfold setTransit; with_reducible rfl) | (split <;> with_reducible rfl) | (dsimp only; split <;> with_reducible rfl) | (focus (simp; done)) | fail) | dsimp only | split

theorem steady_clrFifoRead {ρ : State} (s : State) (hρ : Steady ρ s) : Steady ρ (clrFifoRead s).2 := by
  unfold clrFifoRead
  repeat' first | with_reducible assumption | refine fun _ => ?_ | fail_if_no_progress (with_reducible refine Steady.mk' ?_ ?_ ?_ ?_ ?_ ?_ ?_; iterate 6 first | with_reducible rfl | (unfold setTransit; with_reducible rfl) | (split <;> with_reducible rfl) | (dsimp only; split <;> with_reducible rfl) | (focus (simp; done)) | fail) | dsimp only | split

theorem steady_clrEvtWrite {ρ : State} (w : Word) (s : State) (hρ : Steady ρ s) : Steady ρ (clrEvtWrite w s) := by
  unfold clrEvtWrite
  repeat' first | with_reducible assumption | refine fun _ => ?_ | with_reducible apply steady_State_wr | with_reducible apply steady_State_zero | with_reducible apply Steady.onlyIf | dsimp only | split

theorem steady_clrBoundary {ρ : State} (s : State) (hρ : Steady ρ s) : Steady ρ (clrBoundary s) := by
  unfold clrBoundary
  repeat' first | with_reducible assumption | refine fun _ => ?_ | with_reducible apply steady_fieldOff | with_reducible apply steady_fieldSettled | with_reducible apply steady_quietExpiry | with_reducible apply steady_clrTake | with_reducible apply steady_clrAbortTake | with_reducible apply Steady.ite | with_reducible apply Steady.each | dsimp only | split

end Sys2Proof.Machine
end

