-- ==== Sys2Proof/Laws/SteadyContainers.lean ====
section
/-! SUPPORT. What the operations of Machine/Containers.lean keep (`Steady`). -/

namespace Sys2Proof.Machine

theorem steady_freshId {ρ : State} (s : State) (hρ : Steady ρ s) : Steady ρ (freshId s).2 := by
  unfold freshId
  repeat' first | with_reducible assumption | refine fun _ => ?_ | with_reducible apply steady_State_useFree | with_reducible refine Steady.snd (by with_reducible assumption) ?_ | with_reducible refine Steady.snd2 (by with_reducible assumption) ?_ | with_reducible refine Steady.fst (by with_reducible assumption) ?_ | dsimp only | split

theorem steady_makeRecord {ρ : State} {s : State} {x : List Bytes} {t : State} (e : makeRecord s = some (x, t)) (hρ : Steady ρ s) :
    Steady ρ t := by
  unfold makeRecord at e
  refine Steady.iteOpt e (fun e => nomatch e) (fun e => ?_)
  have h1 := steady_freshId s hρ
  generalize freshId s = p1 at h1 e
  obtain ⟨id, s1⟩ := p1
  have h2 := steady_createObject 256 0x14 255 0x08 false (Config.keyGen 0x14 255 (Config.freshBlock s1.free)) _
    (steady_State_useFree _ (steady_State_useFree _ h1))
  dsimp only [State.useFree] at e h2
  generalize createObject 256 0x14 255 0x08 false _ _ = p2 at h2 e
  obtain ⟨a, b, s2⟩ := p2
  have h3 := steady_createObject 256 0x20 1024 0x08 false (Config.keyGen 0x20 1024 (Config.freshBlock (s1.free + 1))) _ h2
  dsimp only at e h3
  generalize createObject 256 0x20 1024 0x08 false _ _ = p3 at h3 e
  obtain ⟨c, d, s3⟩ := p3
  dsimp only at e
  refine Steady.iteOpt e (fun e => nomatch e) (fun e => ?_)
  exact Steady.someEq e (Steady.mk' rfl rfl rfl rfl rfl rfl h3)

theorem steady_boxResult {ρ : State} (st : Nat) (bad : Option Nat) (s : State) (hρ : Steady ρ s) : Steady ρ (boxResult st bad s) := by
  unfold boxResult
  repeat' first | with_reducible assumption | refine fun _ => ?_ | fail_if_no_progress (with_reducible refine Steady.mk' ?_ ?_ ?_ ?_ ?_ ?_ ?_; iterate 6 first | with_reducible rfl | (unfold setTransit; with_reducible rfl) | (split <;> with_reducible rfl) | (dsimp only; split <;> with_reducible rfl) | (focus (simp; done)) | fail) | dsimp only | split

theorem steady_makeBackup {ρ : State} (record : List Bytes) (s : State) (hρ : Steady ρ s) : Steady ρ (makeBackup record s) := by
  unfold makeBackup
  repeat' first | with_reducible assumption | refine fun _ => ?_ | with_reducible apply steady_State_useFree | with_reducible apply steady_freshId | with_reducible apply steady_boxResult | with_reducible apply Steady.ite | fail_if_no_progress (with_reducible refine Steady.mk' ?_ ?_ ?_ ?_ ?_ ?_ ?_; iterate 6 first | with_reducible rfl | (unfold setTransit; with_reducible rfl) | (split <;> with_reducible rfl) | (dsimp only; split <;> with_reducible rfl) | (focus (simp; done)) | fail) | with_reducible refine Steady.snd (by with_reducible assumption) ?_ | with_reducible refine Steady.snd2 (by with_reducible assumption) ?_ | with_reducible refine Steady.fst (by with_reducible assumption) ?_ | with_reducible apply Steady.id' | dsimp only | split

theorem steady_makeAudit {ρ : State} {s : State} {x : List Bytes} {t : State} (e : makeAudit s = some (x, t)) (hρ : Steady ρ s) :
    Steady ρ t := by
  unfold makeAudit at e
  refine Steady.iteOpt e (fun e => nomatch e) (fun e => ?_)
  have h1 := steady_freshId s hρ
  generalize freshId s = p1 at h1 e
  obtain ⟨id, s1⟩ := p1
  exact Steady.someEq e h1

theorem steady_restoreObject {ρ : State} (x : Nat × (Nat × Nat × Byte × Bool × List Word)) (s : State) (hρ : Steady ρ s) : Steady ρ (restoreObject x s) := by
  unfold restoreObject
  repeat' first | with_reducible assumption | refine fun _ => ?_ | with_reducible apply steady_createObject | with_reducible apply steady_persistObject | with_reducible apply Steady.ite | fail_if_no_progress (with_reducible refine Steady.mk' ?_ ?_ ?_ ?_ ?_ ?_ ?_; iterate 6 first | with_reducible rfl | (unfold setTransit; with_reducible rfl) | (split <;> with_reducible rfl) | (dsimp only; split <;> with_reducible rfl) | (focus (simp; done)) | fail) | with_reducible refine Steady.snd (by with_reducible assumption) ?_ | with_reducible refine Steady.snd2 (by with_reducible assumption) ?_ | with_reducible refine Steady.fst (by with_reducible assumption) ?_ | dsimp only | split

theorem steady_dropRecipients {ρ : State} (s : State) (hρ : Steady ρ s) : Steady ρ (dropRecipients s) := by
  unfold dropRecipients
  repeat' first | with_reducible assumption | refine fun _ => ?_ | with_reducible apply steady_destroyObject | with_reducible apply Steady.ite | fail_if_no_progress (with_reducible refine Steady.mk' ?_ ?_ ?_ ?_ ?_ ?_ ?_; iterate 6 first | with_reducible rfl | (unfold setTransit; with_reducible rfl) | (split <;> with_reducible rfl) | (dsimp only; split <;> with_reducible rfl) | (focus (simp; done)) | fail) | with_reducible apply Steady.each | dsimp only | split

theorem steady_restoreBackup {ρ : State} (l : List Bytes) (s : State) (hρ : Steady ρ s) : Steady ρ (restoreBackup l s) := by
  unfold restoreBackup
  repeat' first | with_reducible assumption | refine fun _ => ?_ | with_reducible apply steady_setRoot | with_reducible apply steady_boxResult | with_reducible apply steady_restoreObject | with_reducible apply steady_dropRecipients | with_reducible apply Steady.ite | fail_if_no_progress (with_reducible refine Steady.mk' ?_ ?_ ?_ ?_ ?_ ?_ ?_; iterate 6 first | with_reducible rfl | (unfold setTransit; with_reducible rfl) | (split <;> with_reducible rfl) | (dsimp only; split <;> with_reducible rfl) | (focus (simp; done)) | fail) | with_reducible apply Steady.each | with_reducible refine Steady.snd (by with_reducible assumption) ?_ | with_reducible refine Steady.snd2 (by with_reducible assumption) ?_ | with_reducible refine Steady.fst (by with_reducible assumption) ?_ | with_reducible apply Steady.id' | dsimp only | split

theorem steady_containerMake {ρ : State} (s : State) (hρ : Steady ρ s) : Steady ρ (containerMake s) := by
  unfold containerMake
  repeat' first | with_reducible assumption | refine fun _ => ?_ | with_reducible apply steady_rmcEnd | with_reducible refine steady_makeRecord (by with_reducible assumption) ?_ | with_reducible refine steady_makeAudit (by with_reducible assumption) ?_ | with_reducible apply Steady.ite | fail_if_no_progress (with_reducible refine Steady.mk' ?_ ?_ ?_ ?_ ?_ ?_ ?_; iterate 6 first | with_reducible rfl | (unfold setTransit; with_reducible rfl) | (split <;> with_reducible rfl) | (dsimp only; split <;> with_reducible rfl) | (focus (simp; done)) | fail) | with_reducible refine Steady.snd (by with_reducible assumption) ?_ | with_reducible refine Steady.snd2 (by with_reducible assumption) ?_ | with_reducible refine Steady.fst (by with_reducible assumption) ?_ | dsimp only | split

theorem steady_proceed {ρ : State} (x : Nat × Caller × QuorumAct) (s : State) (hρ : Steady ρ s) : Steady ρ (proceed x s) := by
  unfold proceed
  repeat' first | with_reducible assumption | refine fun _ => ?_ | with_reducible apply steady_rootQuorumMet | with_reducible apply steady_tenantErase | with_reducible apply steady_enroll | with_reducible apply steady_custodianEnroll | with_reducible apply steady_custodianRemove | with_reducible apply steady_quorumSet | with_reducible apply steady_lifecycleCommand | with_reducible apply steady_debugCert | with_reducible apply steady_makeBackup | with_reducible apply steady_restoreBackup | fail_if_no_progress (with_reducible refine Steady.mk' ?_ ?_ ?_ ?_ ?_ ?_ ?_; iterate 6 first | with_reducible rfl | (unfold setTransit; with_reducible rfl) | (split <;> with_reducible rfl) | (dsimp only; split <;> with_reducible rfl) | (focus (simp; done)) | fail) | with_reducible refine Steady.snd (by with_reducible assumption) ?_ | with_reducible refine Steady.snd2 (by with_reducible assumption) ?_ | with_reducible refine Steady.fst (by with_reducible assumption) ?_ | dsimp only | split

theorem steady_proceedAll {ρ : State} (s : State) (hρ : Steady ρ s) : Steady ρ (proceedAll s) := by
  unfold proceedAll
  repeat' first | with_reducible assumption | refine fun _ => ?_ | with_reducible apply steady_proceed | fail_if_no_progress (with_reducible refine Steady.mk' ?_ ?_ ?_ ?_ ?_ ?_ ?_; iterate 6 first | with_reducible rfl | (unfold setTransit; with_reducible rfl) | (split <;> with_reducible rfl) | (dsimp only; split <;> with_reducible rfl) | (focus (simp; done)) | fail) | with_reducible apply Steady.each | dsimp only | split

end Sys2Proof.Machine
end

