-- ==== Sys2Proof/Laws/SteadyCounters.lean ====
section
/-! SUPPORT. What the operations of Machine/Counters.lean keep (`Steady`). -/

namespace Sys2Proof.Machine

theorem steady_cntLoad {ρ : State} (n : Nat) (s : State) (hρ : Steady ρ s) : Steady ρ (cntLoad n s) := by
  unfold cntLoad
  repeat' first | with_reducible assumption | refine fun _ => ?_ | with_reducible apply steady_State_wr | fail_if_no_progress (with_reducible refine Steady.mk' ?_ ?_ ?_ ?_ ?_ ?_ ?_; iterate 6 first | with_reducible rfl | (unfold setTransit; with_reducible rfl) | (split <;> with_reducible rfl) | (dsimp only; split <;> with_reducible rfl) | (focus (simp; done)) | fail) | with_reducible refine Steady.snd (by with_reducible assumption) ?_ | with_reducible refine Steady.snd2 (by with_reducible assumption) ?_ | with_reducible refine Steady.fst (by with_reducible assumption) ?_ | dsimp only | split

theorem steady_pmcCount {ρ : State} (n : Nat) (k : Nat) (s : State) (hρ : Steady ρ s) : Steady ρ (pmcCount n k s).1 := by
  unfold pmcCount
  repeat' first | with_reducible assumption | refine fun _ => ?_ | with_reducible apply steady_State_raise | with_reducible apply steady_State_wrN | with_reducible apply Steady.ite | with_reducible apply Steady.onlyIf | dsimp only | split

theorem steady_pmcPair {ρ : State} (i : Nat) (s : State) (hρ : Steady ρ s) : Steady ρ (pmcPair i s) := by
  unfold pmcPair
  repeat' first | with_reducible assumption | refine fun _ => ?_ | with_reducible apply steady_cntLoad | with_reducible apply steady_pmcCount | with_reducible apply Steady.ite | with_reducible refine Steady.snd (by with_reducible assumption) ?_ | with_reducible refine Steady.snd2 (by with_reducible assumption) ?_ | with_reducible refine Steady.fst (by with_reducible assumption) ?_ | dsimp only | split

theorem steady_pmcSaturate {ρ : State} (a : Nat) (n : Nat) (k : Nat) (s : State) (hρ : Steady ρ s) : Steady ρ (pmcSaturate a n k s) := by
  unfold pmcSaturate
  repeat' first | with_reducible assumption | refine fun _ => ?_ | with_reducible apply steady_State_raise | with_reducible apply steady_State_wrN | with_reducible apply Steady.onlyIf | dsimp only | split

theorem steady_pmcMeasure {ρ : State} (h : Nat) (u : Nat) (s : State) (hρ : Steady ρ s) : Steady ρ (pmcMeasure h u s) := by
  unfold pmcMeasure
  repeat' first | with_reducible assumption | refine fun _ => ?_ | with_reducible apply steady_State_wr | with_reducible apply steady_State_raise | with_reducible apply steady_pmcSaturate | with_reducible apply steady_State_wrN | with_reducible apply Steady.onlyIf | dsimp only | split

theorem steady_histZero {ρ : State} (h : Nat) (s : State) (hρ : Steady ρ s) : Steady ρ (histZero h s) := by
  unfold histZero
  repeat' first | with_reducible assumption | refine fun _ => ?_ | with_reducible apply steady_State_zero | dsimp only | split

theorem steady_pmcZeroAll {ρ : State} (s : State) (hρ : Steady ρ s) : Steady ρ (pmcZeroAll s) := by
  unfold pmcZeroAll
  repeat' first | with_reducible assumption | refine fun _ => ?_ | with_reducible apply steady_histZero | with_reducible apply steady_State_zero | fail_if_no_progress (with_reducible refine Steady.mk' ?_ ?_ ?_ ?_ ?_ ?_ ?_; iterate 6 first | with_reducible rfl | (unfold setTransit; with_reducible rfl) | (split <;> with_reducible rfl) | (dsimp only; split <;> with_reducible rfl) | (focus (simp; done)) | fail) | with_reducible apply Steady.each | dsimp only | split

theorem steady_pmcStart {ρ : State} (s : State) (hρ : Steady ρ s) : Steady ρ (pmcStart s) := by
  unfold pmcStart
  repeat' first | with_reducible assumption | refine fun _ => ?_ | with_reducible apply steady_State_put | with_reducible apply steady_State_raise | with_reducible apply Steady.ite | fail_if_no_progress (with_reducible refine Steady.mk' ?_ ?_ ?_ ?_ ?_ ?_ ?_; iterate 6 first | with_reducible rfl | (unfold setTransit; with_reducible rfl) | (split <;> with_reducible rfl) | (dsimp only; split <;> with_reducible rfl) | (focus (simp; done)) | fail) | with_reducible refine Steady.snd (by with_reducible assumption) ?_ | with_reducible refine Steady.snd2 (by with_reducible assumption) ?_ | with_reducible refine Steady.fst (by with_reducible assumption) ?_ | dsimp only | split

theorem steady_pmcBoundary {ρ : State} (s : State) (hρ : Steady ρ s) : Steady ρ (pmcBoundary s) := by
  unfold pmcBoundary
  repeat' first | with_reducible assumption | refine fun _ => ?_ | with_reducible apply steady_State_pmcEvent | with_reducible apply steady_cntLoad | with_reducible apply steady_pmcPair | with_reducible apply steady_pmcMeasure | with_reducible apply steady_histZero | with_reducible apply steady_pmcZeroAll | with_reducible apply steady_pmcStart | with_reducible apply Steady.ite | fail_if_no_progress (with_reducible refine Steady.mk' ?_ ?_ ?_ ?_ ?_ ?_ ?_; iterate 6 first | with_reducible rfl | (unfold setTransit; with_reducible rfl) | (split <;> with_reducible rfl) | (dsimp only; split <;> with_reducible rfl) | (focus (simp; done)) | fail) | with_reducible apply Steady.each | with_reducible refine Steady.snd (by with_reducible assumption) ?_ | with_reducible refine Steady.snd2 (by with_reducible assumption) ?_ | with_reducible refine Steady.fst (by with_reducible assumption) ?_ | dsimp only | split

theorem steady_pmcGctlWrite {ρ : State} (m : Master) (w : Word) (s : State) (hρ : Steady ρ s) : Steady ρ (pmcGctlWrite m w s) := by
  unfold pmcGctlWrite
  repeat' first | with_reducible assumption | refine fun _ => ?_ | with_reducible apply steady_State_put | with_reducible apply Steady.ite | fail_if_no_progress (with_reducible refine Steady.mk' ?_ ?_ ?_ ?_ ?_ ?_ ?_; iterate 6 first | with_reducible rfl | (unfold setTransit; with_reducible rfl) | (split <;> with_reducible rfl) | (dsimp only; split <;> with_reducible rfl) | (focus (simp; done)) | fail) | with_reducible refine Steady.snd (by with_reducible assumption) ?_ | with_reducible refine Steady.snd2 (by with_reducible assumption) ?_ | with_reducible refine Steady.fst (by with_reducible assumption) ?_ | dsimp only | split

theorem steady_pmcCounterWrite {ρ : State} (m : Master) (n : Nat) (o : Nat) (w : Word) (s : State) (hρ : Steady ρ s) : Steady ρ (pmcCounterWrite m n o w s) := by
  unfold pmcCounterWrite
  repeat' first | with_reducible assumption | refine fun _ => ?_ | with_reducible apply steady_State_wr | with_reducible apply steady_State_put | with_reducible apply Steady.ite | fail_if_no_progress (with_reducible refine Steady.mk' ?_ ?_ ?_ ?_ ?_ ?_ ?_; iterate 6 first | with_reducible rfl | (unfold setTransit; with_reducible rfl) | (split <;> with_reducible rfl) | (dsimp only; split <;> with_reducible rfl) | (focus (simp; done)) | fail) | with_reducible apply Steady.onlyIf | with_reducible refine Steady.snd (by with_reducible assumption) ?_ | with_reducible refine Steady.snd2 (by with_reducible assumption) ?_ | with_reducible refine Steady.fst (by with_reducible assumption) ?_ | dsimp only | split

theorem steady_pmcHistWrite {ρ : State} (m : Master) (h : Nat) (o : Nat) (w : Word) (s : State) (hρ : Steady ρ s) : Steady ρ (pmcHistWrite m h o w s) := by
  unfold pmcHistWrite
  repeat' first | with_reducible assumption | refine fun _ => ?_ | with_reducible apply steady_State_wr | with_reducible apply steady_State_put | with_reducible apply Steady.ite | fail_if_no_progress (with_reducible refine Steady.mk' ?_ ?_ ?_ ?_ ?_ ?_ ?_; iterate 6 first | with_reducible rfl | (unfold setTransit; with_reducible rfl) | (split <;> with_reducible rfl) | (dsimp only; split <;> with_reducible rfl) | (focus (simp; done)) | fail) | with_reducible apply Steady.onlyIf | with_reducible refine Steady.snd (by with_reducible assumption) ?_ | with_reducible refine Steady.snd2 (by with_reducible assumption) ?_ | with_reducible refine Steady.fst (by with_reducible assumption) ?_ | dsimp only | split

theorem steady_pmcWrite {ρ : State} (m : Master) (a : Nat) (w : Word) (s : State) (hρ : Steady ρ s) : Steady ρ (pmcWrite m a w s) := by
  unfold pmcWrite
  repeat' first | with_reducible assumption | refine fun _ => ?_ | with_reducible apply steady_State_wr | with_reducible apply steady_pmcGctlWrite | with_reducible apply steady_pmcCounterWrite | with_reducible apply steady_pmcHistWrite | with_reducible apply Steady.ite | fail_if_no_progress (with_reducible refine Steady.mk' ?_ ?_ ?_ ?_ ?_ ?_ ?_; iterate 6 first | with_reducible rfl | (unfold setTransit; with_reducible rfl) | (split <;> with_reducible rfl) | (dsimp only; split <;> with_reducible rfl) | (focus (simp; done)) | fail) | with_reducible refine Steady.snd (by with_reducible assumption) ?_ | with_reducible refine Steady.snd2 (by with_reducible assumption) ?_ | with_reducible refine Steady.fst (by with_reducible assumption) ?_ | dsimp only | split

end Sys2Proof.Machine
end

