-- ==== Sys2Proof/Laws/SteadyLamps.lean ====
section
/-! SUPPORT. What the operations of Machine/Lamps.lean keep (`Steady`). -/

namespace Sys2Proof.Machine

theorem steady_State_setLamp {ρ : State} (s : State) (k : Nat) (l : Lamp) (hρ : Steady ρ s) : Steady ρ (State.setLamp s k l) := by
  unfold State.setLamp
  repeat' first | with_reducible assumption | refine fun _ => ?_ | fail_if_no_progress (with_reducible refine Steady.mk' ?_ ?_ ?_ ?_ ?_ ?_ ?_; iterate 6 first | with_reducible rfl | (unfold setTransit; with_reducible rfl) | (split <;> with_reducible rfl) | (dsimp only; split <;> with_reducible rfl) | (focus (simp; done)) | fail) | dsimp only | split

theorem steady_lampShow {ρ : State} (s : State) (hρ : Steady ρ s) : Steady ρ (lampShow s) := by
  unfold lampShow
  repeat' first | with_reducible assumption | refine fun _ => ?_ | with_reducible apply steady_State_wr | dsimp only | split

theorem steady_lampMeasure {ρ : State} (k : Nat) (current : Nat) (imeas : Byte) (s : State) (hρ : Steady ρ s) : Steady ρ (lampMeasure k current imeas s) := by
  unfold lampMeasure
  repeat' first | with_reducible assumption | refine fun _ => ?_ | with_reducible apply steady_State_put | with_reducible apply steady_State_raise | with_reducible apply steady_State_setLamp | with_reducible apply Steady.ite | fail_if_no_progress (with_reducible refine Steady.mk' ?_ ?_ ?_ ?_ ?_ ?_ ?_; iterate 6 first | with_reducible rfl | (unfold setTransit; with_reducible rfl) | (split <;> with_reducible rfl) | (dsimp only; split <;> with_reducible rfl) | (focus (simp; done)) | fail) | dsimp only | split

theorem steady_lampRetry {ρ : State} (k : Nat) (s : State) (hρ : Steady ρ s) : Steady ρ (lampRetry k s) := by
  unfold lampRetry
  repeat' first | with_reducible assumption | refine fun _ => ?_ | with_reducible apply steady_State_put | with_reducible apply steady_State_setLamp | with_reducible apply Steady.ite | fail_if_no_progress (with_reducible refine Steady.mk' ?_ ?_ ?_ ?_ ?_ ?_ ?_; iterate 6 first | with_reducible rfl | (unfold setTransit; with_reducible rfl) | (split <;> with_reducible rfl) | (dsimp only; split <;> with_reducible rfl) | (focus (simp; done)) | fail) | with_reducible refine Steady.snd (by with_reducible assumption) ?_ | with_reducible refine Steady.snd2 (by with_reducible assumption) ?_ | with_reducible refine Steady.fst (by with_reducible assumption) ?_ | dsimp only | split

theorem steady_lampPulse {ρ : State} (k : Nat) (duty : Nat) (pattern : Nat) (cfg : Word) (imeas : Byte) (s : State) (hρ : Steady ρ s) : Steady ρ (lampPulse k duty pattern cfg imeas s) := by
  unfold lampPulse
  repeat' first | with_reducible assumption | refine fun _ => ?_ | with_reducible apply steady_State_setLamp | with_reducible apply steady_lampMeasure | with_reducible apply Steady.ite | fail_if_no_progress (with_reducible refine Steady.mk' ?_ ?_ ?_ ?_ ?_ ?_ ?_; iterate 6 first | with_reducible rfl | (unfold setTransit; with_reducible rfl) | (split <;> with_reducible rfl) | (dsimp only; split <;> with_reducible rfl) | (focus (simp; done)) | fail) | with_reducible apply Steady.onlyIf | dsimp only | split

theorem steady_lampPeriodStart {ρ : State} (k : Nat) (imeas : Byte) (s : State) (hρ : Steady ρ s) : Steady ρ (lampPeriodStart k imeas s) := by
  unfold lampPeriodStart
  repeat' first | with_reducible assumption | refine fun _ => ?_ | with_reducible apply steady_State_put | with_reducible apply steady_State_flag | with_reducible apply steady_State_setLamp | with_reducible apply steady_lampRetry | with_reducible apply steady_lampPulse | with_reducible apply Steady.ite | fail_if_no_progress (with_reducible refine Steady.mk' ?_ ?_ ?_ ?_ ?_ ?_ ?_; iterate 6 first | with_reducible rfl | (unfold setTransit; with_reducible rfl) | (split <;> with_reducible rfl) | (dsimp only; split <;> with_reducible rfl) | (focus (simp; done)) | fail) | with_reducible refine Steady.snd (by with_reducible assumption) ?_ | with_reducible refine Steady.snd2 (by with_reducible assumption) ?_ | with_reducible refine Steady.fst (by with_reducible assumption) ?_ | dsimp only | split

theorem steady_lampShort {ρ : State} (k : Nat) (s : State) (hρ : Steady ρ s) : Steady ρ (lampShort k s) := by
  unfold lampShort
  repeat' first | with_reducible assumption | refine fun _ => ?_ | with_reducible apply steady_State_wr | with_reducible apply steady_State_put | with_reducible apply steady_State_raise | with_reducible apply steady_State_setLamp | with_reducible apply Steady.ite | fail_if_no_progress (with_reducible refine Steady.mk' ?_ ?_ ?_ ?_ ?_ ?_ ?_; iterate 6 first | with_reducible rfl | (unfold setTransit; with_reducible rfl) | (split <;> with_reducible rfl) | (dsimp only; split <;> with_reducible rfl) | (focus (simp; done)) | fail) | with_reducible refine Steady.snd (by with_reducible assumption) ?_ | with_reducible refine Steady.snd2 (by with_reducible assumption) ?_ | with_reducible refine Steady.fst (by with_reducible assumption) ?_ | dsimp only | split

theorem steady_lampRetriesReset {ρ : State} (k : Nat) (s : State) (hρ : Steady ρ s) : Steady ρ (lampRetriesReset k s) := by
  unfold lampRetriesReset
  repeat' first | with_reducible assumption | refine fun _ => ?_ | with_reducible apply steady_State_put | with_reducible apply Steady.ite | dsimp only | split

theorem steady_clrShort {ρ : State} (k : Nat) (w : Word) (s : State) (hρ : Steady ρ s) : Steady ρ (clrShort k w s) := by
  unfold clrShort
  repeat' first | with_reducible assumption | refine fun _ => ?_ | with_reducible apply steady_State_put | with_reducible apply Steady.ite | with_reducible apply Steady.onlyIf | dsimp only | split

theorem steady_lampBoundary {ρ : State} (s : State) (hρ : Steady ρ s) : Steady ρ (lampBoundary s) := by
  unfold lampBoundary
  repeat' first | with_reducible assumption | refine fun _ => ?_ | with_reducible apply steady_State_useFree | with_reducible apply steady_lampShow | with_reducible apply steady_lampPeriodStart | with_reducible apply steady_lampRetriesReset | with_reducible apply Steady.ite | with_reducible apply Steady.each | with_reducible refine Steady.snd (by with_reducible assumption) ?_ | with_reducible refine Steady.snd2 (by with_reducible assumption) ?_ | with_reducible refine Steady.fst (by with_reducible assumption) ?_ | dsimp only | split

end Sys2Proof.Machine
end

