-- ==== Sys2Proof/Laws/SteadyIoSpace.lean ====
section
/-! SUPPORT. What the operations of Machine/IoSpace.lean keep (`Steady`). -/

namespace Sys2Proof.Machine

theorem steady_setupWrite {ρ : State} (keep : Bool) (kind : Nat) (num : Nat) (regs : List Nat) (a : Nat) (w : Word) (s : State) (hρ : Steady ρ s) : Steady ρ (setupWrite keep kind num regs a w s) := by
  unfold setupWrite
  repeat' first | with_reducible assumption | refine fun _ => ?_ | with_reducible apply steady_State_wr | with_reducible apply steady_writeChange | with_reducible apply Steady.ite | fail_if_no_progress (with_reducible refine Steady.mk' ?_ ?_ ?_ ?_ ?_ ?_ ?_; iterate 6 first | with_reducible rfl | (unfold setTransit; with_reducible rfl) | (split <;> with_reducible rfl) | (dsimp only; split <;> with_reducible rfl) | (focus (simp; done)) | fail) | with_reducible refine Steady.snd (by with_reducible assumption) ?_ | with_reducible refine Steady.snd2 (by with_reducible assumption) ?_ | with_reducible refine Steady.fst (by with_reducible assumption) ?_ | dsimp only | split

theorem steady_limitWrite {ρ : State} (keep : Bool) (a : Nat) (w : Word) (s : State) (hρ : Steady ρ s) : Steady ρ (limitWrite keep a w s) := by
  unfold limitWrite
  repeat' first | with_reducible assumption | refine fun _ => ?_ | with_reducible apply steady_setupWrite | dsimp only | split

theorem steady_ruleWrite {ρ : State} (keep : Bool) (side : Nat) (k : Nat) (a : Nat) (w : Word) (s : State) (hρ : Steady ρ s) : Steady ρ (ruleWrite keep side k a w s) := by
  unfold ruleWrite
  repeat' first | with_reducible assumption | refine fun _ => ?_ | with_reducible apply steady_State_put | with_reducible apply steady_setupWrite | with_reducible apply Steady.ite | dsimp only | split

theorem steady_stkWrite {ρ : State} (m : Master) (a : Nat) (w : Word) (s : State) (hρ : Steady ρ s) : Steady ρ (stkWrite m a w s) := by
  unfold stkWrite
  repeat' first | with_reducible assumption | refine fun _ => ?_ | with_reducible apply steady_plainWrite | with_reducible apply steady_stkFwdGo | with_reducible apply steady_planData | with_reducible apply steady_planCheckGo | with_reducible apply steady_swCtlWrite | with_reducible apply steady_swTimeWrite | with_reducible apply steady_swPartWrite | with_reducible apply steady_swPack | with_reducible apply steady_testRequest | with_reducible apply steady_taskCfgWrite | with_reducible apply steady_stkEvtWrite | with_reducible apply steady_planAddrWrite | with_reducible apply Steady.ite | fail_if_no_progress (with_reducible refine Steady.mk' ?_ ?_ ?_ ?_ ?_ ?_ ?_; iterate 6 first | with_reducible rfl | (unfold setTransit; with_reducible rfl) | (split <;> with_reducible rfl) | (dsimp only; split <;> with_reducible rfl) | (focus (simp; done)) | fail) | with_reducible apply Steady.onlyIf | with_reducible refine Steady.snd (by with_reducible assumption) ?_ | with_reducible refine Steady.snd2 (by with_reducible assumption) ?_ | with_reducible refine Steady.fst (by with_reducible assumption) ?_ | dsimp only | split

theorem steady_prtWrite {ρ : State} (m : Master) (a : Nat) (w : Word) (s : State) (hρ : Steady ρ s) : Steady ρ (prtWrite m a w s) := by
  unfold prtWrite
  repeat' first | with_reducible assumption | refine fun _ => ?_ | with_reducible apply steady_plainWrite | with_reducible apply steady_cqDone | with_reducible apply steady_cqTxData | with_reducible apply steady_cqTxSend | with_reducible apply steady_dckEvtWrite | with_reducible apply steady_prtEvtWrite | with_reducible apply steady_pauseWrite | with_reducible apply steady_limitWrite | with_reducible apply steady_ruleWrite | with_reducible apply Steady.ite | with_reducible apply Steady.onlyIf | with_reducible apply SteadyDone.next | with_reducible apply SteadyDone.fault | with_reducible apply SteadyDone.after | with_reducible apply SteadyDone.ite | with_reducible refine SteadyDone.outNext (by with_reducible assumption) ?_ | with_reducible refine SteadyDone.outFault (by with_reducible assumption) ?_ | with_reducible refine SteadyDone.outAfter (by with_reducible assumption) ?_ | dsimp only | split

theorem steady_spnWrite {ρ : State} (m : Master) (a : Nat) (w : Word) (s : State) (hρ : Steady ρ s) : Steady ρ (spnWrite m a w s) := by
  unfold spnWrite
  repeat' first | with_reducible assumption | refine fun _ => ?_ | with_reducible apply steady_plainWrite | with_reducible apply steady_spnSwapWrite | with_reducible apply steady_pnevPop | with_reducible apply steady_spnEvtWrite | with_reducible apply Steady.ite | with_reducible apply Steady.onlyIf | dsimp only | split

theorem steady_sdcCfgWrite {ρ : State} (keep : Bool) (c : Nat) (w : Word) (s : State) (hρ : Steady ρ s) : Steady ρ (sdcCfgWrite keep c w s) := by
  unfold sdcCfgWrite
  repeat' first | with_reducible assumption | refine fun _ => ?_ | with_reducible apply steady_State_put | with_reducible apply steady_drainStart | with_reducible apply steady_drainReturn | with_reducible apply Steady.ite | with_reducible apply Steady.onlyIf | dsimp only | split

theorem steady_plcWrite {ρ : State} (m : Master) (a : Nat) (w : Word) (s : State) (hρ : Steady ρ s) : Steady ρ (plcWrite m a w s) := by
  unfold plcWrite
  repeat' first | with_reducible assumption | refine fun _ => ?_ | with_reducible apply steady_plainWrite | with_reducible apply steady_snapshotGo | with_reducible apply steady_plcEvtWrite | with_reducible apply steady_sdcEvtWrite | with_reducible apply steady_plcCfgWrite | with_reducible apply steady_limitWrite | with_reducible apply steady_sdcCfgWrite | with_reducible apply Steady.ite | with_reducible apply Steady.onlyIf | dsimp only | split

theorem steady_grvWrite {ρ : State} (m : Master) (a : Nat) (w : Word) (s : State) (hρ : Steady ρ s) : Steady ρ (grvWrite m a w s) := by
  unfold grvWrite
  repeat' first | with_reducible assumption | refine fun _ => ?_ | with_reducible apply steady_plainWrite | with_reducible apply steady_authWrite | with_reducible apply steady_jobAbortWrite | with_reducible apply steady_listDataWrite | with_reducible apply steady_bankDataWrite | with_reducible apply steady_drainWrite | with_reducible apply steady_grvEvtWrite | with_reducible apply Steady.ite | with_reducible apply Steady.onlyIf | dsimp only | split

theorem steady_keyWrite {ρ : State} (m : Master) (a : Nat) (w : Word) (s : State) (hρ : Steady ρ s) : Steady ρ (keyWrite m a w s) := by
  unfold keyWrite
  repeat' first | with_reducible assumption | refine fun _ => ?_ | with_reducible apply steady_plainWrite | with_reducible apply steady_keyEvtWrite | with_reducible apply steady_limitWrite | with_reducible apply Steady.ite | with_reducible apply Steady.onlyIf | dsimp only | split

theorem steady_nvaWrite {ρ : State} (m : Master) (a : Nat) (w : Word) (s : State) (hρ : Steady ρ s) : Steady ρ (nvaWrite m a w s) := by
  unfold nvaWrite
  repeat' first | with_reducible assumption | refine fun _ => ?_ | with_reducible apply steady_plainWrite | with_reducible apply steady_nvaCmdWrite | with_reducible apply steady_radAddrWrite | with_reducible apply steady_swapWrite | with_reducible apply steady_digCtlWrite | with_reducible apply steady_nvaCfgWrite | with_reducible apply steady_minVersionWrite | with_reducible apply steady_nvaEvtWrite | with_reducible apply Steady.ite | with_reducible apply Steady.onlyIf | dsimp only | split

theorem steady_lcsWrite {ρ : State} (m : Master) (a : Nat) (w : Word) (s : State) (hρ : Steady ρ s) : Steady ρ (lcsWrite m a w s) := by
  unfold lcsWrite
  repeat' first | with_reducible assumption | refine fun _ => ?_ | with_reducible apply steady_plainWrite | with_reducible apply steady_lcsNextWrite | with_reducible apply steady_lcsEvtWrite | with_reducible apply steady_dbgEvtWrite | with_reducible apply Steady.ite | with_reducible apply Steady.onlyIf | dsimp only | split

theorem steady_pptWrite {ρ : State} (m : Master) (a : Nat) (w : Word) (s : State) (hρ : Steady ρ s) : Steady ρ (pptWrite m a w s) := by
  unfold pptWrite
  repeat' first | with_reducible assumption | refine fun _ => ?_ | with_reducible apply steady_plainWrite | with_reducible apply steady_guardSeedLoad | with_reducible apply steady_pptClassWrite | with_reducible apply steady_lightEnWrite | with_reducible apply steady_pptCtlWrite | with_reducible apply steady_trecClear | with_reducible apply steady_pptEvtWrite | with_reducible apply Steady.ite | fail_if_no_progress (with_reducible refine Steady.mk' ?_ ?_ ?_ ?_ ?_ ?_ ?_; iterate 6 first | with_reducible rfl | (unfold setTransit; with_reducible rfl) | (split <;> with_reducible rfl) | (dsimp only; split <;> with_reducible rfl) | (focus (simp; done)) | fail) | with_reducible apply Steady.onlyIf | dsimp only | split

theorem steady_entWrite {ρ : State} (m : Master) (a : Nat) (w : Word) (s : State) (hρ : Steady ρ s) : Steady ρ (entWrite m a w s) := by
  unfold entWrite
  repeat' first | with_reducible assumption | refine fun _ => ?_ | with_reducible apply steady_plainWrite | with_reducible apply steady_entCtlWrite | with_reducible apply steady_entEvtWrite | with_reducible apply Steady.ite | with_reducible apply Steady.onlyIf | dsimp only | split

theorem steady_ringWrite {ρ : State} (g : Nat) (o : Nat) (w : Word) (s : State) (hρ : Steady ρ s) : Steady ρ (ringWrite g o w s) := by
  unfold ringWrite
  repeat' first | with_reducible assumption | refine fun _ => ?_ | with_reducible apply steady_State_wr | with_reducible apply steady_doorbellWrite | with_reducible apply steady_ringCtlWrite | with_reducible apply steady_ringBaseWrite | fail_if_no_progress (with_reducible refine Steady.mk' ?_ ?_ ?_ ?_ ?_ ?_ ?_; iterate 6 first | with_reducible rfl | (unfold setTransit; with_reducible rfl) | (split <;> with_reducible rfl) | (dsimp only; split <;> with_reducible rfl) | (focus (simp; done)) | fail) | with_reducible refine Steady.snd (by with_reducible assumption) ?_ | with_reducible refine Steady.snd2 (by with_reducible assumption) ?_ | with_reducible refine Steady.fst (by with_reducible assumption) ?_ | dsimp only | split

theorem steady_hifWrite {ρ : State} (m : Master) (a : Nat) (w : Word) (s : State) (hρ : Steady ρ s) : Steady ρ (hifWrite m a w s) := by
  unfold hifWrite
  repeat' first | with_reducible assumption | refine fun _ => ?_ | with_reducible apply steady_plainWrite | with_reducible apply steady_hifEvtWrite | with_reducible apply steady_ringWrite | with_reducible apply Steady.ite | dsimp only | split

theorem steady_tenantWrite {ρ : State} (a : Nat) (w : Word) (s : State) (hρ : Steady ρ s) : Steady ρ (tenantWrite a w s) := by
  unfold tenantWrite
  repeat' first | with_reducible assumption | refine fun _ => ?_ | with_reducible apply steady_ringWrite | with_reducible apply Steady.ite | dsimp only | split

theorem steady_vdtWrite {ρ : State} (m : Master) (a : Nat) (w : Word) (s : State) (hρ : Steady ρ s) : Steady ρ (vdtWrite m a w s) := by
  unfold vdtWrite
  repeat' first | with_reducible assumption | refine fun _ => ?_ | with_reducible apply steady_plainWrite | with_reducible apply steady_vdtCtlWrite | with_reducible apply steady_vdtCfgAfter | with_reducible apply steady_vdtEvtWrite | with_reducible apply Steady.ite | dsimp only | split

theorem steady_cusWrite {ρ : State} (m : Master) (a : Nat) (w : Word) (s : State) (hρ : Steady ρ s) : Steady ρ (cusWrite m a w s) := by
  unfold cusWrite
  repeat' first | with_reducible assumption | refine fun _ => ?_ | with_reducible apply steady_plainWrite | with_reducible apply steady_clrCfgWrite | with_reducible apply steady_clrCmdWrite | with_reducible apply steady_clrFifoWrite | with_reducible apply steady_clrEvtWrite | with_reducible apply steady_iccCmdWrite | with_reducible apply steady_iccFifoWrite | with_reducible apply steady_iccEvtWrite | with_reducible apply steady_rmcCmdWrite | with_reducible apply steady_rmcFifoWrite | with_reducible apply steady_rmcEvtWrite | fail_if_no_progress (with_reducible refine Steady.mk' ?_ ?_ ?_ ?_ ?_ ?_ ?_; iterate 6 first | with_reducible rfl | (unfold setTransit; with_reducible rfl) | (split <;> with_reducible rfl) | (dsimp only; split <;> with_reducible rfl) | (focus (simp; done)) | fail) | with_reducible refine Steady.snd (by with_reducible assumption) ?_ | with_reducible refine Steady.snd2 (by with_reducible assumption) ?_ | with_reducible refine Steady.fst (by with_reducible assumption) ?_ | dsimp only | split

theorem steady_lgrWrite {ρ : State} (m : Master) (a : Nat) (w : Word) (s : State) (hρ : Steady ρ s) : Steady ρ (lgrWrite m a w s) := by
  unfold lgrWrite
  repeat' first | with_reducible assumption | refine fun _ => ?_ | with_reducible apply steady_plainWrite | with_reducible apply steady_snapRelease | with_reducible apply steady_lgrSetGo | with_reducible apply steady_lgrCfgWrite | with_reducible apply steady_lgrEvtWrite | with_reducible apply Steady.ite | with_reducible apply Steady.onlyIf | dsimp only | split

theorem steady_lmpWrite {ρ : State} (m : Master) (a : Nat) (w : Word) (s : State) (hρ : Steady ρ s) : Steady ρ (lmpWrite m a w s) := by
  unfold lmpWrite
  repeat' first | with_reducible assumption | refine fun _ => ?_ | with_reducible apply steady_plainWrite | with_reducible apply steady_clrShort | with_reducible apply Steady.ite | dsimp only | split

theorem steady_wdogWrite {ρ : State} (w : Word) (s : State) (hρ : Steady ρ s) : Steady ρ (wdogWrite w s) := by
  unfold wdogWrite
  repeat' first | with_reducible assumption | refine fun _ => ?_ | with_reducible apply Steady.ite | fail_if_no_progress (with_reducible refine Steady.mk' ?_ ?_ ?_ ?_ ?_ ?_ ?_; iterate 6 first | with_reducible rfl | (unfold setTransit; with_reducible rfl) | (split <;> with_reducible rfl) | (dsimp only; split <;> with_reducible rfl) | (focus (simp; done)) | fail) | dsimp only | split

theorem steady_pwrCtlWrite {ρ : State} (keep : Bool) (w : Word) (s : State) (hρ : Steady ρ s) : Steady ρ (pwrCtlWrite keep w s) := by
  unfold pwrCtlWrite
  repeat' first | with_reducible assumption | refine fun _ => ?_ | with_reducible apply Steady.ite | fail_if_no_progress (with_reducible refine Steady.mk' ?_ ?_ ?_ ?_ ?_ ?_ ?_; iterate 6 first | with_reducible rfl | (unfold setTransit; with_reducible rfl) | (split <;> with_reducible rfl) | (dsimp only; split <;> with_reducible rfl) | (focus (simp; done)) | fail) | dsimp only | split

theorem steady_pwrWrite {ρ : State} (m : Master) (a : Nat) (w : Word) (s : State) (hρ : Steady ρ s) : Steady ρ (pwrWrite m a w s) := by
  unfold pwrWrite
  repeat' first | with_reducible assumption | refine fun _ => ?_ | with_reducible apply steady_plainWrite | with_reducible apply steady_wdogWrite | with_reducible apply steady_pwrCtlWrite | with_reducible apply Steady.ite | with_reducible apply Steady.onlyIf | dsimp only | split

theorem steady_coreWrite {ρ : State} (m : Master) (a : Nat) (w : Word) (s : State) (hρ : Steady ρ s) : Steady ρ (coreWrite m a w s) := by
  unfold coreWrite
  repeat' first | with_reducible assumption | refine fun _ => ?_ | with_reducible apply steady_State_wr | with_reducible apply steady_plainWrite | with_reducible apply steady_coreCtlWrite | with_reducible apply steady_pldWrite | with_reducible apply steady_kdoneWrite | with_reducible apply steady_ddataWrite | with_reducible apply Steady.ite | with_reducible apply Steady.onlyIf | dsimp only | split

theorem steady_ioWrite {ρ : State} (m : Master) (a : Nat) (w : Word) (s : State) (hρ : Steady ρ s) : Steady ρ (ioWrite m a w s) := by
  unfold ioWrite
  repeat' first | with_reducible assumption | refine fun _ => ?_ | with_reducible apply steady_pmcWrite | with_reducible apply steady_stkWrite | with_reducible apply steady_prtWrite | with_reducible apply steady_spnWrite | with_reducible apply steady_plcWrite | with_reducible apply steady_grvWrite | with_reducible apply steady_keyWrite | with_reducible apply steady_nvaWrite | with_reducible apply steady_lcsWrite | with_reducible apply steady_pptWrite | with_reducible apply steady_entWrite | with_reducible apply steady_hifWrite | with_reducible apply steady_tenantWrite | with_reducible apply steady_vdtWrite | with_reducible apply steady_cusWrite | with_reducible apply steady_lgrWrite | with_reducible apply steady_lmpWrite | with_reducible apply steady_pwrWrite | with_reducible apply steady_coreWrite | with_reducible apply Steady.ite | fail_if_no_progress (with_reducible refine Steady.mk' ?_ ?_ ?_ ?_ ?_ ?_ ?_; iterate 6 first | with_reducible rfl | (unfold setTransit; with_reducible rfl) | (split <;> with_reducible rfl) | (dsimp only; split <;> with_reducible rfl) | (focus (simp; done)) | fail) | with_reducible refine Steady.snd (by with_reducible assumption) ?_ | with_reducible refine Steady.snd2 (by with_reducible assumption) ?_ | with_reducible refine Steady.fst (by with_reducible assumption) ?_ | dsimp only | split

theorem steady_latchUpper {ρ : State} (m : Master) (a : Nat) (s : State) (hρ : Steady ρ s) : Steady ρ (latchUpper m a s) := by
  unfold latchUpper
  repeat' first | with_reducible assumption | refine fun _ => ?_ | fail_if_no_progress (with_reducible refine Steady.mk' ?_ ?_ ?_ ?_ ?_ ?_ ?_; iterate 6 first | with_reducible rfl | (unfold setTransit; with_reducible rfl) | (split <;> with_reducible rfl) | (dsimp only; split <;> with_reducible rfl) | (focus (simp; done)) | fail) | with_reducible apply Steady.each | dsimp only | split

theorem steady_sideRead {ρ : State} {m : Master} {a : Nat} {s : State} {x : Word} {t : State} (e : sideRead m a s = some (x, t))
    (hρ : Steady ρ s) : Steady ρ t := by
  unfold sideRead at e
  dsimp only at e
  repeat' with_reducible refine Steady.iteOpt e ?_ ?_ <;> clear e <;> intro e
  all_goals first | cases e; done | skip
  all_goals with_reducible refine Steady.someEq e ?_
  all_goals first | exact hρ | exact steady_cqDescRead _ _ hρ | exact steady_cqDataRead _ _ hρ | exact steady_pnevRead _ hρ | exact steady_listDataRead _ _ _ hρ | exact steady_bankDataRead _ _ _ hρ | exact steady_entDataTake _ _ hρ | exact steady_entStatTake _ _ hρ | exact steady_clrFifoRead _ hρ | exact steady_iccFifoRead _ hρ | exact steady_rmcFifoRead _ hρ | exact steady_State_wr _ _ _ hρ | exact steady_ddataRead _ _ hρ | exact steady_State_useFree _ hρ

theorem steady_ioRead {ρ : State} (m : Master) (a : Nat) (s : State) (hρ : Steady ρ s) : Steady ρ (ioRead m a s).2 := by
  unfold ioRead
  repeat' first | with_reducible assumption | refine fun _ => ?_ | with_reducible apply steady_latchUpper | with_reducible refine steady_sideRead (by with_reducible assumption) ?_ | with_reducible apply Steady.ite | fail_if_no_progress (with_reducible refine Steady.mk' ?_ ?_ ?_ ?_ ?_ ?_ ?_; iterate 6 first | with_reducible rfl | (unfold setTransit; with_reducible rfl) | (split <;> with_reducible rfl) | (dsimp only; split <;> with_reducible rfl) | (focus (simp; done)) | fail) | with_reducible refine Steady.snd (by with_reducible assumption) ?_ | with_reducible refine Steady.snd2 (by with_reducible assumption) ?_ | with_reducible refine Steady.fst (by with_reducible assumption) ?_ | dsimp only | split

end Sys2Proof.Machine
end

