-- ==== Sys2Proof/Laws/SteadyKonus.lean ====
section
/-! SUPPORT. What the operations of Machine/Konus.lean keep (`Steady`). -/

namespace Sys2Proof.Machine

theorem steady_drainEntry {ρ : State} (n : Nat) (e : StbEntry) (s : State) (hρ : Steady ρ s) : Steady ρ (drainEntry n e s) := by
  unfold drainEntry
  repeat' first | with_reducible assumption | refine fun _ => ?_ | with_reducible apply steady_State_setCore | with_reducible apply steady_ioWrite | with_reducible apply Steady.ite | fail_if_no_progress (with_reducible refine Steady.mk' ?_ ?_ ?_ ?_ ?_ ?_ ?_; iterate 6 first | with_reducible rfl | (unfold setTransit; with_reducible rfl) | (split <;> with_reducible rfl) | (dsimp only; split <;> with_reducible rfl) | (focus (simp; done)) | fail) | with_reducible refine Steady.snd (by with_reducible assumption) ?_ | with_reducible refine Steady.snd2 (by with_reducible assumption) ?_ | with_reducible refine Steady.fst (by with_reducible assumption) ?_ | dsimp only | split

theorem steady_drainCore {ρ : State} (n : Nat) (s : State) (hρ : Steady ρ s) : Steady ρ (drainCore n s) := by
  unfold drainCore
  repeat' first | with_reducible assumption | refine fun _ => ?_ | with_reducible apply steady_State_setCore | with_reducible apply steady_drainEntry | fail_if_no_progress (with_reducible refine Steady.mk' ?_ ?_ ?_ ?_ ?_ ?_ ?_; iterate 6 first | with_reducible rfl | (unfold setTransit; with_reducible rfl) | (split <;> with_reducible rfl) | (dsimp only; split <;> with_reducible rfl) | (focus (simp; done)) | fail) | with_reducible apply Steady.each | dsimp only | split

theorem steady_windowCount {ρ : State} (n : Nat) (fill : Bool) (k : Nat) (priv : Nat) (s : State) (hρ : Steady ρ s) : Steady ρ (windowCount n fill k priv s) := by
  unfold windowCount
  repeat' first | with_reducible assumption | refine fun _ => ?_ | with_reducible apply steady_State_wr | with_reducible apply steady_State_pmcEvent | with_reducible apply Steady.ite | dsimp only | split

theorem steady_useCycles {ρ : State} (n : Nat) (k : Nat) (s : State) (hρ : Steady ρ s) : Steady ρ (useCycles n k s) := by
  unfold useCycles
  repeat' first | with_reducible assumption | refine fun _ => ?_ | with_reducible apply steady_State_pmcEvent | with_reducible apply steady_State_setCore | fail_if_no_progress (with_reducible refine Steady.mk' ?_ ?_ ?_ ?_ ?_ ?_ ?_; iterate 6 first | with_reducible rfl | (unfold setTransit; with_reducible rfl) | (split <;> with_reducible rfl) | (dsimp only; split <;> with_reducible rfl) | (focus (simp; done)) | fail) | dsimp only | split

theorem steady_drainOne {ρ : State} (n : Nat) (s : State) (hρ : Steady ρ s) : Steady ρ (drainOne n s) := by
  unfold drainOne
  repeat' first | with_reducible assumption | refine fun _ => ?_ | with_reducible apply steady_State_setCore | with_reducible apply steady_drainEntry | fail_if_no_progress (with_reducible refine Steady.mk' ?_ ?_ ?_ ?_ ?_ ?_ ?_; iterate 6 first | with_reducible rfl | (unfold setTransit; with_reducible rfl) | (split <;> with_reducible rfl) | (dsimp only; split <;> with_reducible rfl) | (focus (simp; done)) | fail) | with_reducible refine Steady.snd (by with_reducible assumption) ?_ | with_reducible refine Steady.snd2 (by with_reducible assumption) ?_ | with_reducible refine Steady.fst (by with_reducible assumption) ?_ | dsimp only | split

theorem steady_drainTry {ρ : State} (n : Nat) (s : State) (hρ : Steady ρ s) : Steady ρ (drainTry n s).2 := by
  unfold drainTry
  repeat' first | with_reducible assumption | refine fun _ => ?_ | with_reducible apply steady_State_useFree | with_reducible apply steady_drainOne | with_reducible apply Steady.ite | fail_if_no_progress (with_reducible refine Steady.mk' ?_ ?_ ?_ ?_ ?_ ?_ ?_; iterate 6 first | with_reducible rfl | (unfold setTransit; with_reducible rfl) | (split <;> with_reducible rfl) | (dsimp only; split <;> with_reducible rfl) | (focus (simp; done)) | fail) | with_reducible refine Steady.snd (by with_reducible assumption) ?_ | with_reducible refine Steady.snd2 (by with_reducible assumption) ?_ | with_reducible refine Steady.fst (by with_reducible assumption) ?_ | dsimp only | split

theorem steady_drainCycles {ρ : State} (n k old : Nat) (s : State) (hρ : Steady ρ s) : Steady ρ (drainCycles n k old s) := by
  induction k generalizing old s with
  | zero => exact hρ
  | succ k ih =>
    cases old with
    | zero => exact hρ
    | succ old =>
      have h := steady_drainTry n s hρ
      unfold drainCycles
      split <;> rename_i e <;> rw [e] at h
      · exact ih _ _ h
      · exact ih _ _ h

theorem steady_drainWait {ρ : State} (n k : Nat) (s : State) (hρ : Steady ρ s) : Steady ρ (drainWait n k s).2 := by
  induction k generalizing s with
  | zero => exact hρ
  | succ k ih =>
    unfold drainWait
    split
    · exact hρ
    · exact ih _ (steady_drainOne n s hρ)
    · exact ih _ (steady_drainOne n _ (steady_State_useFree s hρ))

theorem steady_stbStall {ρ : State} (n : Nat) (w : StbWait) (s : State) (hρ : Steady ρ s) : Steady ρ (stbStall n w s) := by
  unfold stbStall
  repeat' first | with_reducible assumption | refine fun _ => ?_ | with_reducible apply steady_State_pmcEvent | with_reducible apply steady_useCycles | with_reducible apply steady_drainWait | with_reducible apply Steady.ite | with_reducible refine Steady.snd (by with_reducible assumption) ?_ | with_reducible refine Steady.snd2 (by with_reducible assumption) ?_ | with_reducible refine Steady.fst (by with_reducible assumption) ?_ | dsimp only | split

theorem steady_drainFirst {ρ : State} (n : Nat) (s : State) (hρ : Steady ρ s) : Steady ρ (drainFirst n s) := by
  unfold drainFirst
  repeat' first | with_reducible assumption | refine fun _ => ?_ | with_reducible apply steady_useCycles | with_reducible apply steady_drainWait | with_reducible apply Steady.ite | with_reducible refine Steady.snd (by with_reducible assumption) ?_ | with_reducible refine Steady.snd2 (by with_reducible assumption) ?_ | with_reducible refine Steady.fst (by with_reducible assumption) ?_ | dsimp only | split

theorem steady_fetchSeq {ρ : State} (n : Nat) (len : Nat) (k : Nat) (s : State) (hρ : Steady ρ s) : Steady ρ (fetchSeq n len k s) := by
  unfold fetchSeq
  repeat' first | with_reducible assumption | refine fun _ => ?_ | with_reducible apply steady_State_pmcEvent | with_reducible apply steady_useCycles | with_reducible apply Steady.ite | fail_if_no_progress (with_reducible refine Steady.mk' ?_ ?_ ?_ ?_ ?_ ?_ ?_; iterate 6 first | with_reducible rfl | (unfold setTransit; with_reducible rfl) | (split <;> with_reducible rfl) | (dsimp only; split <;> with_reducible rfl) | (focus (simp; done)) | fail) | dsimp only | split

theorem steady_fetchIdle {ρ : State} (n : Nat) (k : Nat) (s : State) (hρ : Steady ρ s) : Steady ρ (fetchIdle n k s) := by
  unfold fetchIdle
  repeat' first | with_reducible assumption | refine fun _ => ?_ | with_reducible apply Steady.ite | fail_if_no_progress (with_reducible refine Steady.mk' ?_ ?_ ?_ ?_ ?_ ?_ ?_; iterate 6 first | with_reducible rfl | (unfold setTransit; with_reducible rfl) | (split <;> with_reducible rfl) | (dsimp only; split <;> with_reducible rfl) | (focus (simp; done)) | fail) | dsimp only | split

theorem steady_fetchCost {ρ : State} (n : Nat) (s : State) (hρ : Steady ρ s) : Steady ρ (fetchCost n s) := by
  unfold fetchCost
  repeat' first | with_reducible assumption | refine fun _ => ?_ | with_reducible apply steady_State_pmcEvent | with_reducible apply steady_useCycles | with_reducible apply Steady.ite | fail_if_no_progress (with_reducible refine Steady.mk' ?_ ?_ ?_ ?_ ?_ ?_ ?_; iterate 6 first | with_reducible rfl | (unfold setTransit; with_reducible rfl) | (split <;> with_reducible rfl) | (dsimp only; split <;> with_reducible rfl) | (focus (simp; done)) | fail) | with_reducible refine Steady.snd (by with_reducible assumption) ?_ | with_reducible refine Steady.snd2 (by with_reducible assumption) ?_ | with_reducible refine Steady.fst (by with_reducible assumption) ?_ | dsimp only | split

theorem steady_overflow {ρ : State} (n : Nat) (v : Nat) (s : State) (hρ : Steady ρ s) : Steady ρ (overflow n v s) := by
  unfold overflow
  repeat' first | with_reducible assumption | refine fun _ => ?_ | with_reducible apply steady_State_wr | with_reducible apply steady_swLoseAck | with_reducible apply steady_setCoreState | with_reducible apply Steady.ite | fail_if_no_progress (with_reducible refine Steady.mk' ?_ ?_ ?_ ?_ ?_ ?_ ?_; iterate 6 first | with_reducible rfl | (unfold setTransit; with_reducible rfl) | (split <;> with_reducible rfl) | (dsimp only; split <;> with_reducible rfl) | (focus (simp; done)) | fail) | (with_reducible apply Steady.due'; all_goals first | with_reducible rfl | skip) | (unfold legalCause; decide) | dsimp only | split

theorem steady_enter {ρ : State} (n : Nat) (v : Nat) (low : Nat) (eval : Nat) (resume : Word) (s : State) (hρ : Steady ρ s) : Steady ρ (enter n v low eval resume s) := by
  unfold enter
  repeat' first | with_reducible assumption | refine fun _ => ?_ | with_reducible apply steady_State_pmcEvent | with_reducible apply steady_State_setCore | with_reducible apply steady_windowCount | with_reducible apply steady_useCycles | with_reducible apply steady_drainFirst | with_reducible apply steady_fetchCost | with_reducible apply steady_overflow | with_reducible apply Steady.ite | fail_if_no_progress (with_reducible refine Steady.mk' ?_ ?_ ?_ ?_ ?_ ?_ ?_; iterate 6 first | with_reducible rfl | (unfold setTransit; with_reducible rfl) | (split <;> with_reducible rfl) | (dsimp only; split <;> with_reducible rfl) | (focus (simp; done)) | fail) | with_reducible refine Steady.snd (by with_reducible assumption) ?_ | with_reducible refine Steady.snd2 (by with_reducible assumption) ?_ | with_reducible refine Steady.fst (by with_reducible assumption) ?_ | (with_reducible apply Steady.due'; all_goals first | with_reducible rfl | skip) | (unfold legalCause; decide) | dsimp only | split

theorem steady_traceFetch {ρ : State} (n : Nat) (pc : Word) (s : State) (hρ : Steady ρ s) : Steady ρ (traceFetch n pc s) := by
  unfold traceFetch
  repeat' first | with_reducible assumption | refine fun _ => ?_ | with_reducible apply Steady.ite | fail_if_no_progress (with_reducible refine Steady.mk' ?_ ?_ ?_ ?_ ?_ ?_ ?_; iterate 6 first | with_reducible rfl | (unfold setTransit; with_reducible rfl) | (split <;> with_reducible rfl) | (dsimp only; split <;> with_reducible rfl) | (focus (simp; done)) | fail) | dsimp only | split

theorem steady_instructionAt {ρ : State} (w : StbWait) (n : Nat) (len : Nat) (body : CoreState → State → Done) (s : State) (hbody : ∀ x0 x1, Steady ρ x1 → SteadyDone ρ (body x0 x1)) (hρ : Steady ρ s) : Steady ρ (instructionAt w n len body s) := by
  unfold instructionAt
  repeat' first | with_reducible assumption | refine fun _ => ?_ | with_reducible apply hbody | with_reducible apply steady_State_pmcEvent | with_reducible apply steady_useCycles | with_reducible apply steady_stbStall | with_reducible apply steady_fetchSeq | with_reducible apply steady_fetchIdle | with_reducible apply steady_fetchCost | with_reducible apply steady_enter | with_reducible apply steady_traceFetch | with_reducible apply steady_drainCycles | with_reducible apply Steady.ite | fail_if_no_progress (with_reducible refine Steady.mk' ?_ ?_ ?_ ?_ ?_ ?_ ?_; iterate 6 first | with_reducible rfl | (unfold setTransit; with_reducible rfl) | (split <;> with_reducible rfl) | (dsimp only; split <;> with_reducible rfl) | (focus (simp; done)) | fail) | with_reducible refine Steady.snd (by with_reducible assumption) ?_ | with_reducible refine Steady.snd2 (by with_reducible assumption) ?_ | with_reducible refine Steady.fst (by with_reducible assumption) ?_ | with_reducible apply SteadyDone.next | with_reducible apply SteadyDone.fault | with_reducible apply SteadyDone.after | with_reducible apply SteadyDone.ite | with_reducible refine SteadyDone.outNext (by with_reducible assumption) ?_ | with_reducible refine SteadyDone.outFault (by with_reducible assumption) ?_ | with_reducible refine SteadyDone.outAfter (by with_reducible assumption) ?_ | dsimp only | split

theorem steady_instruction {ρ : State} (n : Nat) (len : Nat) (body : CoreState → State → Done) (s : State) (hbody : ∀ x0 x1, Steady ρ x1 → SteadyDone ρ (body x0 x1)) (hρ : Steady ρ s) : Steady ρ (instruction n len body s) := by
  unfold instruction
  repeat' first | with_reducible assumption | refine fun _ => ?_ | with_reducible apply hbody | with_reducible apply steady_instructionAt | dsimp only | split

theorem steady_coreOnly {ρ : State} (n : Nat) (cycles : Nat) (f : CoreState → CoreState) (c : CoreState) (s : State) (hρ : Steady ρ s) : SteadyDone ρ (coreOnly n cycles f c s) := by
  unfold coreOnly
  repeat' first | with_reducible assumption | refine fun _ => ?_ | with_reducible apply steady_State_setCore | with_reducible apply SteadyDone.next | with_reducible apply SteadyDone.fault | with_reducible apply SteadyDone.after | with_reducible apply SteadyDone.ite | with_reducible refine SteadyDone.outNext (by with_reducible assumption) ?_ | with_reducible refine SteadyDone.outFault (by with_reducible assumption) ?_ | with_reducible refine SteadyDone.outAfter (by with_reducible assumption) ?_ | dsimp only | split

theorem steady_callOp {ρ : State} (n : Nat) (target : Word) (c : CoreState) (s : State) (hρ : Steady ρ s) : SteadyDone ρ (callOp n target c s) := by
  unfold callOp
  repeat' first | with_reducible assumption | refine fun _ => ?_ | with_reducible apply steady_State_setCore | with_reducible apply steady_windowCount | with_reducible apply Steady.ite | fail_if_no_progress (with_reducible refine Steady.mk' ?_ ?_ ?_ ?_ ?_ ?_ ?_; iterate 6 first | with_reducible rfl | (unfold setTransit; with_reducible rfl) | (split <;> with_reducible rfl) | (dsimp only; split <;> with_reducible rfl) | (focus (simp; done)) | fail) | with_reducible refine Steady.snd (by with_reducible assumption) ?_ | with_reducible refine Steady.snd2 (by with_reducible assumption) ?_ | with_reducible refine Steady.fst (by with_reducible assumption) ?_ | with_reducible apply SteadyDone.next | with_reducible apply SteadyDone.fault | with_reducible apply SteadyDone.after | with_reducible apply SteadyDone.ite | with_reducible refine SteadyDone.outNext (by with_reducible assumption) ?_ | with_reducible refine SteadyDone.outFault (by with_reducible assumption) ?_ | with_reducible refine SteadyDone.outAfter (by with_reducible assumption) ?_ | dsimp only | split

theorem steady_readFault {ρ : State} {n : Nat} {c : CoreState} {l : List Nat} {s : State} {d : Done}
    (e : readFault n c l s = some d) (hρ : Steady ρ s) : SteadyDone ρ d := by
  unfold readFault at e
  obtain ⟨a, _, ha⟩ := List.exists_of_findSome?_eq_some e
  obtain ⟨v, _, rfl⟩ := Option.map_eq_some_iff.mp ha
  exact hρ

theorem steady_readMark {ρ : State} {n : Nat} {c : CoreState} {bad : Option Word} {l m : List Nat} {s : State} {d : Done}
    (e : (readFault n c l s <|> markFault c bad m s) = some d) (hρ : Steady ρ s) : SteadyDone ρ d := by
  cases h : readFault n c l s with
  | some x =>
    rw [h] at e
    cases e
    exact steady_readFault h hρ
  | none =>
    rw [h] at e
    change markFault c bad m s = some d at e
    unfold markFault at e
    dsimp only at e
    generalize (List.filter _ _ : List Nat) = reads at e
    cases bad with
    | none => cases e
    | some a =>
      by_cases ha : a.toNat ∈ reads
      · simp only [ha, if_true, Option.some.injEq] at e
        exact e ▸ SteadyDone.fault (steady_markMismatch s hρ)
      · simp [ha] at e

theorem steady_retOp {ρ : State} (n : Nat) (bad : Option Word) (c : CoreState) (s : State) (hρ : Steady ρ s) : SteadyDone ρ (retOp n bad c s) := by
  unfold retOp
  repeat' first | with_reducible assumption | refine fun _ => ?_ | with_reducible apply steady_State_setCore | with_reducible apply steady_windowCount | with_reducible refine steady_readFault (by with_reducible assumption) ?_ | with_reducible refine steady_readMark (by with_reducible assumption) ?_ | with_reducible apply Steady.ite | fail_if_no_progress (with_reducible refine Steady.mk' ?_ ?_ ?_ ?_ ?_ ?_ ?_; iterate 6 first | with_reducible rfl | (unfold setTransit; with_reducible rfl) | (split <;> with_reducible rfl) | (dsimp only; split <;> with_reducible rfl) | (focus (simp; done)) | fail) | with_reducible refine Steady.snd (by with_reducible assumption) ?_ | with_reducible refine Steady.snd2 (by with_reducible assumption) ?_ | with_reducible refine Steady.fst (by with_reducible assumption) ?_ | with_reducible apply SteadyDone.next | with_reducible apply SteadyDone.fault | with_reducible apply SteadyDone.after | with_reducible apply SteadyDone.ite | with_reducible refine SteadyDone.outNext (by with_reducible assumption) ?_ | with_reducible refine SteadyDone.outFault (by with_reducible assumption) ?_ | with_reducible refine SteadyDone.outAfter (by with_reducible assumption) ?_ | dsimp only | split

theorem steady_eretOp {ρ : State} (n : Nat) (bad : Option Word) (c : CoreState) (s : State) (hρ : Steady ρ s) : SteadyDone ρ (eretOp n bad c s) := by
  unfold eretOp
  repeat' first | with_reducible assumption | refine fun _ => ?_ | with_reducible apply steady_State_put | with_reducible apply steady_State_setCore | with_reducible apply steady_windowCount | with_reducible refine steady_readFault (by with_reducible assumption) ?_ | with_reducible refine steady_readMark (by with_reducible assumption) ?_ | with_reducible apply Steady.ite | fail_if_no_progress (with_reducible refine Steady.mk' ?_ ?_ ?_ ?_ ?_ ?_ ?_; iterate 6 first | with_reducible rfl | (unfold setTransit; with_reducible rfl) | (split <;> with_reducible rfl) | (dsimp only; split <;> with_reducible rfl) | (focus (simp; done)) | fail) | with_reducible refine Steady.snd (by with_reducible assumption) ?_ | with_reducible refine Steady.snd2 (by with_reducible assumption) ?_ | with_reducible refine Steady.fst (by with_reducible assumption) ?_ | with_reducible apply SteadyDone.next | with_reducible apply SteadyDone.fault | with_reducible apply SteadyDone.after | with_reducible apply SteadyDone.ite | with_reducible refine SteadyDone.outNext (by with_reducible assumption) ?_ | with_reducible refine SteadyDone.outFault (by with_reducible assumption) ?_ | with_reducible refine SteadyDone.outAfter (by with_reducible assumption) ?_ | dsimp only | split

theorem steady_flushOp {ρ : State} (n : Nat) (c : CoreState) (s : State) (hρ : Steady ρ s) : SteadyDone ρ (flushOp n c s) := by
  unfold flushOp
  repeat' first | with_reducible assumption | refine fun _ => ?_ | with_reducible apply steady_State_setCore | with_reducible apply steady_windowCount | with_reducible apply Steady.ite | with_reducible apply Steady.foldl | with_reducible apply Steady.foldlSnd | with_reducible refine Steady.snd (by with_reducible assumption) ?_ | with_reducible refine Steady.snd2 (by with_reducible assumption) ?_ | with_reducible refine Steady.fst (by with_reducible assumption) ?_ | with_reducible apply SteadyDone.next | with_reducible apply SteadyDone.fault | with_reducible apply SteadyDone.after | with_reducible apply SteadyDone.ite | with_reducible refine SteadyDone.outNext (by with_reducible assumption) ?_ | with_reducible refine SteadyDone.outFault (by with_reducible assumption) ?_ | with_reducible refine SteadyDone.outAfter (by with_reducible assumption) ?_ | dsimp only | split

theorem steady_takeInterrupt {ρ : State} (n : Nat) (s : State) (hρ : Steady ρ s) : Steady ρ (takeInterrupt n s) := by
  unfold takeInterrupt
  repeat' first | with_reducible assumption | refine fun _ => ?_ | with_reducible apply steady_State_setCore | with_reducible apply steady_enter | with_reducible apply Steady.ite | fail_if_no_progress (with_reducible refine Steady.mk' ?_ ?_ ?_ ?_ ?_ ?_ ?_; iterate 6 first | with_reducible rfl | (unfold setTransit; with_reducible rfl) | (split <;> with_reducible rfl) | (dsimp only; split <;> with_reducible rfl) | (focus (simp; done)) | fail) | with_reducible apply Steady.id' | dsimp only | split

end Sys2Proof.Machine
end

