-- ==== Sys2Proof/Laws/SteadyKonusInstr.lean ====
section
/-! SUPPORT. What the operations of Machine/KonusInstr.lean keep (`Steady`). -/

namespace Sys2Proof.Machine

theorem steady_opMov {ρ : State} (n : Nat) (d : Fin 32) (r : Fin 32) (c9 : CoreState) (s9 : State) (hρ : Steady ρ s9) : SteadyDone ρ (opMov n d r c9 s9) := by
  unfold opMov
  repeat' first | with_reducible assumption | refine fun _ => ?_ | with_reducible apply steady_coreOnly | with_reducible apply SteadyDone.next | with_reducible apply SteadyDone.fault | with_reducible apply SteadyDone.after | with_reducible apply SteadyDone.ite | with_reducible refine SteadyDone.outNext (by with_reducible assumption) ?_ | with_reducible refine SteadyDone.outFault (by with_reducible assumption) ?_ | with_reducible refine SteadyDone.outAfter (by with_reducible assumption) ?_ | dsimp only | split

theorem steady_opAdd {ρ : State} (n : Nat) (d : Fin 32) (r : Fin 32) (c9 : CoreState) (s9 : State) (hρ : Steady ρ s9) : SteadyDone ρ (opAdd n d r c9 s9) := by
  unfold opAdd
  repeat' first | with_reducible assumption | refine fun _ => ?_ | with_reducible apply steady_coreOnly | with_reducible apply SteadyDone.next | with_reducible apply SteadyDone.fault | with_reducible apply SteadyDone.after | with_reducible apply SteadyDone.ite | with_reducible refine SteadyDone.outNext (by with_reducible assumption) ?_ | with_reducible refine SteadyDone.outFault (by with_reducible assumption) ?_ | with_reducible refine SteadyDone.outAfter (by with_reducible assumption) ?_ | dsimp only | split

theorem steady_opSub {ρ : State} (n : Nat) (d : Fin 32) (r : Fin 32) (c9 : CoreState) (s9 : State) (hρ : Steady ρ s9) : SteadyDone ρ (opSub n d r c9 s9) := by
  unfold opSub
  repeat' first | with_reducible assumption | refine fun _ => ?_ | with_reducible apply steady_coreOnly | with_reducible apply SteadyDone.next | with_reducible apply SteadyDone.fault | with_reducible apply SteadyDone.after | with_reducible apply SteadyDone.ite | with_reducible refine SteadyDone.outNext (by with_reducible assumption) ?_ | with_reducible refine SteadyDone.outFault (by with_reducible assumption) ?_ | with_reducible refine SteadyDone.outAfter (by with_reducible assumption) ?_ | dsimp only | split

theorem steady_opCmp {ρ : State} (n : Nat) (d : Fin 32) (r : Fin 32) (c9 : CoreState) (s9 : State) (hρ : Steady ρ s9) : SteadyDone ρ (opCmp n d r c9 s9) := by
  unfold opCmp
  repeat' first | with_reducible assumption | refine fun _ => ?_ | with_reducible apply steady_coreOnly | with_reducible apply SteadyDone.next | with_reducible apply SteadyDone.fault | with_reducible apply SteadyDone.after | with_reducible apply SteadyDone.ite | with_reducible refine SteadyDone.outNext (by with_reducible assumption) ?_ | with_reducible refine SteadyDone.outFault (by with_reducible assumption) ?_ | with_reducible refine SteadyDone.outAfter (by with_reducible assumption) ?_ | dsimp only | split

theorem steady_opAnd {ρ : State} (n : Nat) (d : Fin 32) (r : Fin 32) (c9 : CoreState) (s9 : State) (hρ : Steady ρ s9) : SteadyDone ρ (opAnd n d r c9 s9) := by
  unfold opAnd
  repeat' first | with_reducible assumption | refine fun _ => ?_ | with_reducible apply steady_coreOnly | with_reducible apply SteadyDone.next | with_reducible apply SteadyDone.fault | with_reducible apply SteadyDone.after | with_reducible apply SteadyDone.ite | with_reducible refine SteadyDone.outNext (by with_reducible assumption) ?_ | with_reducible refine SteadyDone.outFault (by with_reducible assumption) ?_ | with_reducible refine SteadyDone.outAfter (by with_reducible assumption) ?_ | dsimp only | split

theorem steady_opOr {ρ : State} (n : Nat) (d : Fin 32) (r : Fin 32) (c9 : CoreState) (s9 : State) (hρ : Steady ρ s9) : SteadyDone ρ (opOr n d r c9 s9) := by
  unfold opOr
  repeat' first | with_reducible assumption | refine fun _ => ?_ | with_reducible apply steady_coreOnly | with_reducible apply SteadyDone.next | with_reducible apply SteadyDone.fault | with_reducible apply SteadyDone.after | with_reducible apply SteadyDone.ite | with_reducible refine SteadyDone.outNext (by with_reducible assumption) ?_ | with_reducible refine SteadyDone.outFault (by with_reducible assumption) ?_ | with_reducible refine SteadyDone.outAfter (by with_reducible assumption) ?_ | dsimp only | split

theorem steady_opXor {ρ : State} (n : Nat) (d : Fin 32) (r : Fin 32) (c9 : CoreState) (s9 : State) (hρ : Steady ρ s9) : SteadyDone ρ (opXor n d r c9 s9) := by
  unfold opXor
  repeat' first | with_reducible assumption | refine fun _ => ?_ | with_reducible apply steady_coreOnly | with_reducible apply SteadyDone.next | with_reducible apply SteadyDone.fault | with_reducible apply SteadyDone.after | with_reducible apply SteadyDone.ite | with_reducible refine SteadyDone.outNext (by with_reducible assumption) ?_ | with_reducible refine SteadyDone.outFault (by with_reducible assumption) ?_ | with_reducible refine SteadyDone.outAfter (by with_reducible assumption) ?_ | dsimp only | split

theorem steady_opAddq {ρ : State} (n : Nat) (d : Fin 32) (i : BitVec 5) (c9 : CoreState) (s9 : State) (hρ : Steady ρ s9) : SteadyDone ρ (opAddq n d i c9 s9) := by
  unfold opAddq
  repeat' first | with_reducible assumption | refine fun _ => ?_ | with_reducible apply steady_coreOnly | with_reducible apply SteadyDone.next | with_reducible apply SteadyDone.fault | with_reducible apply SteadyDone.after | with_reducible apply SteadyDone.ite | with_reducible refine SteadyDone.outNext (by with_reducible assumption) ?_ | with_reducible refine SteadyDone.outFault (by with_reducible assumption) ?_ | with_reducible refine SteadyDone.outAfter (by with_reducible assumption) ?_ | dsimp only | split

theorem steady_opMovq {ρ : State} (n : Nat) (d : Fin 32) (i : BitVec 5) (c9 : CoreState) (s9 : State) (hρ : Steady ρ s9) : SteadyDone ρ (opMovq n d i c9 s9) := by
  unfold opMovq
  repeat' first | with_reducible assumption | refine fun _ => ?_ | with_reducible apply steady_coreOnly | with_reducible apply SteadyDone.next | with_reducible apply SteadyDone.fault | with_reducible apply SteadyDone.after | with_reducible apply SteadyDone.ite | with_reducible refine SteadyDone.outNext (by with_reducible assumption) ?_ | with_reducible refine SteadyDone.outFault (by with_reducible assumption) ?_ | with_reducible refine SteadyDone.outAfter (by with_reducible assumption) ?_ | dsimp only | split

theorem steady_opShli {ρ : State} (n : Nat) (d : Fin 32) (k : Fin 24) (c9 : CoreState) (s9 : State) (hρ : Steady ρ s9) : SteadyDone ρ (opShli n d k c9 s9) := by
  unfold opShli
  repeat' first | with_reducible assumption | refine fun _ => ?_ | with_reducible apply steady_coreOnly | with_reducible apply SteadyDone.next | with_reducible apply SteadyDone.fault | with_reducible apply SteadyDone.after | with_reducible apply SteadyDone.ite | with_reducible refine SteadyDone.outNext (by with_reducible assumption) ?_ | with_reducible refine SteadyDone.outFault (by with_reducible assumption) ?_ | with_reducible refine SteadyDone.outAfter (by with_reducible assumption) ?_ | dsimp only | split

theorem steady_opShri {ρ : State} (n : Nat) (d : Fin 32) (k : Fin 24) (c9 : CoreState) (s9 : State) (hρ : Steady ρ s9) : SteadyDone ρ (opShri n d k c9 s9) := by
  unfold opShri
  repeat' first | with_reducible assumption | refine fun _ => ?_ | with_reducible apply steady_coreOnly | with_reducible apply SteadyDone.next | with_reducible apply SteadyDone.fault | with_reducible apply SteadyDone.after | with_reducible apply SteadyDone.ite | with_reducible refine SteadyDone.outNext (by with_reducible assumption) ?_ | with_reducible refine SteadyDone.outFault (by with_reducible assumption) ?_ | with_reducible refine SteadyDone.outAfter (by with_reducible assumption) ?_ | dsimp only | split

theorem steady_opAsri {ρ : State} (n : Nat) (d : Fin 32) (k : Fin 24) (c9 : CoreState) (s9 : State) (hρ : Steady ρ s9) : SteadyDone ρ (opAsri n d k c9 s9) := by
  unfold opAsri
  repeat' first | with_reducible assumption | refine fun _ => ?_ | with_reducible apply steady_coreOnly | with_reducible apply SteadyDone.next | with_reducible apply SteadyDone.fault | with_reducible apply SteadyDone.after | with_reducible apply SteadyDone.ite | with_reducible refine SteadyDone.outNext (by with_reducible assumption) ?_ | with_reducible refine SteadyDone.outFault (by with_reducible assumption) ?_ | with_reducible refine SteadyDone.outAfter (by with_reducible assumption) ?_ | dsimp only | split

theorem steady_opBcc {ρ : State} (n : Nat) (cc : Fin 15) (long : Bool) (o : BitVec 18) (c9 : CoreState) (s9 : State) (hρ : Steady ρ s9) : SteadyDone ρ (opBcc n cc long o c9 s9) := by
  unfold opBcc
  repeat' first | with_reducible assumption | refine fun _ => ?_ | with_reducible apply steady_State_setCore | with_reducible apply Steady.ite | fail_if_no_progress (with_reducible refine Steady.mk' ?_ ?_ ?_ ?_ ?_ ?_ ?_; iterate 6 first | with_reducible rfl | (unfold setTransit; with_reducible rfl) | (split <;> with_reducible rfl) | (dsimp only; split <;> with_reducible rfl) | (focus (simp; done)) | fail) | with_reducible apply SteadyDone.next | with_reducible apply SteadyDone.fault | with_reducible apply SteadyDone.after | with_reducible apply SteadyDone.ite | with_reducible refine SteadyDone.outNext (by with_reducible assumption) ?_ | with_reducible refine SteadyDone.outFault (by with_reducible assumption) ?_ | with_reducible refine SteadyDone.outAfter (by with_reducible assumption) ?_ | dsimp only | split

theorem steady_opCall {ρ : State} (n : Nat) (o : BitVec 21) (c9 : CoreState) (s9 : State) (hρ : Steady ρ s9) : SteadyDone ρ (opCall n o c9 s9) := by
  unfold opCall
  repeat' first | with_reducible assumption | refine fun _ => ?_ | with_reducible apply steady_callOp | dsimp only | split

theorem steady_opNot {ρ : State} (n : Nat) (d : Fin 32) (c9 : CoreState) (s9 : State) (hρ : Steady ρ s9) : SteadyDone ρ (opNot n d c9 s9) := by
  unfold opNot
  repeat' first | with_reducible assumption | refine fun _ => ?_ | with_reducible apply steady_coreOnly | with_reducible apply SteadyDone.next | with_reducible apply SteadyDone.fault | with_reducible apply SteadyDone.after | with_reducible apply SteadyDone.ite | with_reducible refine SteadyDone.outNext (by with_reducible assumption) ?_ | with_reducible refine SteadyDone.outFault (by with_reducible assumption) ?_ | with_reducible refine SteadyDone.outAfter (by with_reducible assumption) ?_ | dsimp only | split

theorem steady_opNeg {ρ : State} (n : Nat) (d : Fin 32) (c9 : CoreState) (s9 : State) (hρ : Steady ρ s9) : SteadyDone ρ (opNeg n d c9 s9) := by
  unfold opNeg
  repeat' first | with_reducible assumption | refine fun _ => ?_ | with_reducible apply steady_coreOnly | with_reducible apply SteadyDone.next | with_reducible apply SteadyDone.fault | with_reducible apply SteadyDone.after | with_reducible apply SteadyDone.ite | with_reducible refine SteadyDone.outNext (by with_reducible assumption) ?_ | with_reducible refine SteadyDone.outFault (by with_reducible assumption) ?_ | with_reducible refine SteadyDone.outAfter (by with_reducible assumption) ?_ | dsimp only | split

theorem steady_opJmp {ρ : State} (n : Nat) (r : Fin 32) (c9 : CoreState) (s9 : State) (hρ : Steady ρ s9) : SteadyDone ρ (opJmp n r c9 s9) := by
  unfold opJmp
  repeat' first | with_reducible assumption | refine fun _ => ?_ | with_reducible apply steady_State_setCore | fail_if_no_progress (with_reducible refine Steady.mk' ?_ ?_ ?_ ?_ ?_ ?_ ?_; iterate 6 first | with_reducible rfl | (unfold setTransit; with_reducible rfl) | (split <;> with_reducible rfl) | (dsimp only; split <;> with_reducible rfl) | (focus (simp; done)) | fail) | with_reducible apply SteadyDone.next | with_reducible apply SteadyDone.fault | with_reducible apply SteadyDone.after | with_reducible apply SteadyDone.ite | with_reducible refine SteadyDone.outNext (by with_reducible assumption) ?_ | with_reducible refine SteadyDone.outFault (by with_reducible assumption) ?_ | with_reducible refine SteadyDone.outAfter (by with_reducible assumption) ?_ | dsimp only | split

theorem steady_opCallr {ρ : State} (n : Nat) (r : Fin 32) (c9 : CoreState) (s9 : State) (hρ : Steady ρ s9) : SteadyDone ρ (opCallr n r c9 s9) := by
  unfold opCallr
  repeat' first | with_reducible assumption | refine fun _ => ?_ | with_reducible apply steady_callOp | dsimp only | split

theorem steady_opRet {ρ : State} (n : Nat) (bad : Option Word) (c9 : CoreState) (s9 : State) (hρ : Steady ρ s9) : SteadyDone ρ (opRet n bad c9 s9) := by
  unfold opRet
  repeat' first | with_reducible assumption | refine fun _ => ?_ | with_reducible apply steady_retOp | dsimp only | split

theorem steady_opCoreNop {ρ : State} (n : Nat) (c9 : CoreState) (s9 : State) (hρ : Steady ρ s9) : SteadyDone ρ (opCoreNop n c9 s9) := by
  unfold opCoreNop
  repeat' first | with_reducible assumption | refine fun _ => ?_ | with_reducible apply steady_coreOnly | with_reducible apply SteadyDone.next | with_reducible apply SteadyDone.fault | with_reducible apply SteadyDone.after | with_reducible apply SteadyDone.ite | with_reducible refine SteadyDone.outNext (by with_reducible assumption) ?_ | with_reducible refine SteadyDone.outFault (by with_reducible assumption) ?_ | with_reducible refine SteadyDone.outAfter (by with_reducible assumption) ?_ | dsimp only | split

theorem steady_opPush {ρ : State} (n : Nat) (r : Fin 32) (c9 : CoreState) (s9 : State) (hρ : Steady ρ s9) : SteadyDone ρ (opPush n r c9 s9) := by
  unfold opPush
  repeat' first | with_reducible assumption | refine fun _ => ?_ | with_reducible apply steady_State_setCore | with_reducible apply Steady.ite | fail_if_no_progress (with_reducible refine Steady.mk' ?_ ?_ ?_ ?_ ?_ ?_ ?_; iterate 6 first | with_reducible rfl | (unfold setTransit; with_reducible rfl) | (split <;> with_reducible rfl) | (dsimp only; split <;> with_reducible rfl) | (focus (simp; done)) | fail) | with_reducible refine Steady.snd (by with_reducible assumption) ?_ | with_reducible refine Steady.snd2 (by with_reducible assumption) ?_ | with_reducible refine Steady.fst (by with_reducible assumption) ?_ | with_reducible apply SteadyDone.next | with_reducible apply SteadyDone.fault | with_reducible apply SteadyDone.after | with_reducible apply SteadyDone.ite | with_reducible refine SteadyDone.outNext (by with_reducible assumption) ?_ | with_reducible refine SteadyDone.outFault (by with_reducible assumption) ?_ | with_reducible refine SteadyDone.outAfter (by with_reducible assumption) ?_ | dsimp only | split

theorem steady_opPop {ρ : State} (n : Nat) (d : Fin 32) (markOk : Bool) (c9 : CoreState) (s9 : State) (hρ : Steady ρ s9) : SteadyDone ρ (opPop n d markOk c9 s9) := by
  unfold opPop
  repeat' first | with_reducible assumption | refine fun _ => ?_ | with_reducible apply steady_markMismatch | with_reducible apply steady_State_setCore | with_reducible apply Steady.ite | fail_if_no_progress (with_reducible refine Steady.mk' ?_ ?_ ?_ ?_ ?_ ?_ ?_; iterate 6 first | with_reducible rfl | (unfold setTransit; with_reducible rfl) | (split <;> with_reducible rfl) | (dsimp only; split <;> with_reducible rfl) | (focus (simp; done)) | fail) | with_reducible refine Steady.snd (by with_reducible assumption) ?_ | with_reducible refine Steady.snd2 (by with_reducible assumption) ?_ | with_reducible refine Steady.fst (by with_reducible assumption) ?_ | with_reducible apply SteadyDone.next | with_reducible apply SteadyDone.fault | with_reducible apply SteadyDone.after | with_reducible apply SteadyDone.ite | with_reducible refine SteadyDone.outNext (by with_reducible assumption) ?_ | with_reducible refine SteadyDone.outFault (by with_reducible assumption) ?_ | with_reducible refine SteadyDone.outAfter (by with_reducible assumption) ?_ | dsimp only | split

theorem steady_opLdi {ρ : State} (n : Nat) (d : Fin 32) (i : BitVec 16) (c9 : CoreState) (s9 : State) (hρ : Steady ρ s9) : SteadyDone ρ (opLdi n d i c9 s9) := by
  unfold opLdi
  repeat' first | with_reducible assumption | refine fun _ => ?_ | with_reducible apply steady_coreOnly | with_reducible apply SteadyDone.next | with_reducible apply SteadyDone.fault | with_reducible apply SteadyDone.after | with_reducible apply SteadyDone.ite | with_reducible refine SteadyDone.outNext (by with_reducible assumption) ?_ | with_reducible refine SteadyDone.outFault (by with_reducible assumption) ?_ | with_reducible refine SteadyDone.outAfter (by with_reducible assumption) ?_ | dsimp only | split

theorem steady_opLdh {ρ : State} (n : Nat) (d : Fin 32) (i : BitVec 16) (c9 : CoreState) (s9 : State) (hρ : Steady ρ s9) : SteadyDone ρ (opLdh n d i c9 s9) := by
  unfold opLdh
  repeat' first | with_reducible assumption | refine fun _ => ?_ | with_reducible apply steady_coreOnly | with_reducible apply SteadyDone.next | with_reducible apply SteadyDone.fault | with_reducible apply SteadyDone.after | with_reducible apply SteadyDone.ite | with_reducible refine SteadyDone.outNext (by with_reducible assumption) ?_ | with_reducible refine SteadyDone.outFault (by with_reducible assumption) ?_ | with_reducible refine SteadyDone.outAfter (by with_reducible assumption) ?_ | dsimp only | split

theorem steady_opAddi {ρ : State} (n : Nat) (d : Fin 32) (i : BitVec 16) (c9 : CoreState) (s9 : State) (hρ : Steady ρ s9) : SteadyDone ρ (opAddi n d i c9 s9) := by
  unfold opAddi
  repeat' first | with_reducible assumption | refine fun _ => ?_ | with_reducible apply steady_coreOnly | with_reducible apply SteadyDone.next | with_reducible apply SteadyDone.fault | with_reducible apply SteadyDone.after | with_reducible apply SteadyDone.ite | with_reducible refine SteadyDone.outNext (by with_reducible assumption) ?_ | with_reducible refine SteadyDone.outFault (by with_reducible assumption) ?_ | with_reducible refine SteadyDone.outAfter (by with_reducible assumption) ?_ | dsimp only | split

theorem steady_opAndi {ρ : State} (n : Nat) (d : Fin 32) (i : BitVec 16) (c9 : CoreState) (s9 : State) (hρ : Steady ρ s9) : SteadyDone ρ (opAndi n d i c9 s9) := by
  unfold opAndi
  repeat' first | with_reducible assumption | refine fun _ => ?_ | with_reducible apply steady_coreOnly | with_reducible apply SteadyDone.next | with_reducible apply SteadyDone.fault | with_reducible apply SteadyDone.after | with_reducible apply SteadyDone.ite | with_reducible refine SteadyDone.outNext (by with_reducible assumption) ?_ | with_reducible refine SteadyDone.outFault (by with_reducible assumption) ?_ | with_reducible refine SteadyDone.outAfter (by with_reducible assumption) ?_ | dsimp only | split

theorem steady_opOri {ρ : State} (n : Nat) (d : Fin 32) (i : BitVec 16) (c9 : CoreState) (s9 : State) (hρ : Steady ρ s9) : SteadyDone ρ (opOri n d i c9 s9) := by
  unfold opOri
  repeat' first | with_reducible assumption | refine fun _ => ?_ | with_reducible apply steady_coreOnly | with_reducible apply SteadyDone.next | with_reducible apply SteadyDone.fault | with_reducible apply SteadyDone.after | with_reducible apply SteadyDone.ite | with_reducible refine SteadyDone.outNext (by with_reducible assumption) ?_ | with_reducible refine SteadyDone.outFault (by with_reducible assumption) ?_ | with_reducible refine SteadyDone.outAfter (by with_reducible assumption) ?_ | dsimp only | split

theorem steady_opXori {ρ : State} (n : Nat) (d : Fin 32) (i : BitVec 16) (c9 : CoreState) (s9 : State) (hρ : Steady ρ s9) : SteadyDone ρ (opXori n d i c9 s9) := by
  unfold opXori
  repeat' first | with_reducible assumption | refine fun _ => ?_ | with_reducible apply steady_coreOnly | with_reducible apply SteadyDone.next | with_reducible apply SteadyDone.fault | with_reducible apply SteadyDone.after | with_reducible apply SteadyDone.ite | with_reducible refine SteadyDone.outNext (by with_reducible assumption) ?_ | with_reducible refine SteadyDone.outFault (by with_reducible assumption) ?_ | with_reducible refine SteadyDone.outAfter (by with_reducible assumption) ?_ | dsimp only | split

theorem steady_opCmpi {ρ : State} (n : Nat) (d : Fin 32) (i : BitVec 16) (c9 : CoreState) (s9 : State) (hρ : Steady ρ s9) : SteadyDone ρ (opCmpi n d i c9 s9) := by
  unfold opCmpi
  repeat' first | with_reducible assumption | refine fun _ => ?_ | with_reducible apply steady_coreOnly | with_reducible apply SteadyDone.next | with_reducible apply SteadyDone.fault | with_reducible apply SteadyDone.after | with_reducible apply SteadyDone.ite | with_reducible refine SteadyDone.outNext (by with_reducible assumption) ?_ | with_reducible refine SteadyDone.outFault (by with_reducible assumption) ?_ | with_reducible refine SteadyDone.outAfter (by with_reducible assumption) ?_ | dsimp only | split

theorem steady_opTsti {ρ : State} (n : Nat) (d : Fin 32) (i : BitVec 16) (c9 : CoreState) (s9 : State) (hρ : Steady ρ s9) : SteadyDone ρ (opTsti n d i c9 s9) := by
  unfold opTsti
  repeat' first | with_reducible assumption | refine fun _ => ?_ | with_reducible apply steady_coreOnly | with_reducible apply SteadyDone.next | with_reducible apply SteadyDone.fault | with_reducible apply SteadyDone.after | with_reducible apply SteadyDone.ite | with_reducible refine SteadyDone.outNext (by with_reducible assumption) ?_ | with_reducible refine SteadyDone.outFault (by with_reducible assumption) ?_ | with_reducible refine SteadyDone.outAfter (by with_reducible assumption) ?_ | dsimp only | split

theorem steady_opLd {ρ : State} (n : Nat) (d : Fin 32) (b : Fin 32) (o : BitVec 10) (markOk : Bool) (c9 : CoreState) (s9 : State) (hρ : Steady ρ s9) : SteadyDone ρ (opLd n d b o markOk c9 s9) := by
  unfold opLd
  repeat' first | with_reducible assumption | refine fun _ => ?_ | with_reducible apply steady_State_pmcEvent | with_reducible apply steady_markMismatch | with_reducible apply steady_State_setCore | with_reducible apply Steady.ite | fail_if_no_progress (with_reducible refine Steady.mk' ?_ ?_ ?_ ?_ ?_ ?_ ?_; iterate 6 first | with_reducible rfl | (unfold setTransit; with_reducible rfl) | (split <;> with_reducible rfl) | (dsimp only; split <;> with_reducible rfl) | (focus (simp; done)) | fail) | with_reducible refine Steady.snd (by with_reducible assumption) ?_ | with_reducible refine Steady.snd2 (by with_reducible assumption) ?_ | with_reducible refine Steady.fst (by with_reducible assumption) ?_ | with_reducible apply SteadyDone.next | with_reducible apply SteadyDone.fault | with_reducible apply SteadyDone.after | with_reducible apply SteadyDone.ite | with_reducible refine SteadyDone.outNext (by with_reducible assumption) ?_ | with_reducible refine SteadyDone.outFault (by with_reducible assumption) ?_ | with_reducible refine SteadyDone.outAfter (by with_reducible assumption) ?_ | dsimp only | split

theorem steady_opSt {ρ : State} (n : Nat) (r : Fin 32) (b : Fin 32) (o : BitVec 10) (c9 : CoreState) (s9 : State) (hρ : Steady ρ s9) : SteadyDone ρ (opSt n r b o c9 s9) := by
  unfold opSt
  repeat' first | with_reducible assumption | refine fun _ => ?_ | with_reducible apply steady_State_pmcEvent | with_reducible apply steady_State_setCore | fail_if_no_progress (with_reducible refine Steady.mk' ?_ ?_ ?_ ?_ ?_ ?_ ?_; iterate 6 first | with_reducible rfl | (unfold setTransit; with_reducible rfl) | (split <;> with_reducible rfl) | (dsimp only; split <;> with_reducible rfl) | (focus (simp; done)) | fail) | with_reducible refine Steady.snd (by with_reducible assumption) ?_ | with_reducible refine Steady.snd2 (by with_reducible assumption) ?_ | with_reducible refine Steady.fst (by with_reducible assumption) ?_ | with_reducible apply SteadyDone.next | with_reducible apply SteadyDone.fault | with_reducible apply SteadyDone.after | with_reducible apply SteadyDone.ite | with_reducible refine SteadyDone.outNext (by with_reducible assumption) ?_ | with_reducible refine SteadyDone.outFault (by with_reducible assumption) ?_ | with_reducible refine SteadyDone.outAfter (by with_reducible assumption) ?_ | dsimp only | split

theorem steady_opInp {ρ : State} (n : Nat) (d : Fin 32) (b : Fin 32) (o : BitVec 10) (markOk : Bool) (c9 : CoreState) (s9 : State) (hρ : Steady ρ s9) : SteadyDone ρ (opInp n d b o markOk c9 s9) := by
  unfold opInp
  repeat' first | with_reducible assumption | refine fun _ => ?_ | with_reducible apply steady_State_useFree | with_reducible apply steady_State_pmcEvent | with_reducible apply steady_markMismatch | with_reducible apply steady_State_setCore | with_reducible apply steady_ioRead | with_reducible apply Steady.ite | fail_if_no_progress (with_reducible refine Steady.mk' ?_ ?_ ?_ ?_ ?_ ?_ ?_; iterate 6 first | with_reducible rfl | (unfold setTransit; with_reducible rfl) | (split <;> with_reducible rfl) | (dsimp only; split <;> with_reducible rfl) | (focus (simp; done)) | fail) | with_reducible refine Steady.snd (by with_reducible assumption) ?_ | with_reducible refine Steady.snd2 (by with_reducible assumption) ?_ | with_reducible refine Steady.fst (by with_reducible assumption) ?_ | with_reducible apply SteadyDone.next | with_reducible apply SteadyDone.fault | with_reducible apply SteadyDone.after | with_reducible apply SteadyDone.ite | with_reducible refine SteadyDone.outNext (by with_reducible assumption) ?_ | with_reducible refine SteadyDone.outFault (by with_reducible assumption) ?_ | with_reducible refine SteadyDone.outAfter (by with_reducible assumption) ?_ | dsimp only | split

theorem steady_opOut {ρ : State} (n : Nat) (r : Fin 32) (b : Fin 32) (o : BitVec 10) (c9 : CoreState) (s9 : State) (hρ : Steady ρ s9) : SteadyDone ρ (opOut n r b o c9 s9) := by
  unfold opOut
  repeat' first | with_reducible assumption | refine fun _ => ?_ | with_reducible apply steady_State_pmcEvent | with_reducible apply steady_State_setCore | with_reducible apply Steady.ite | fail_if_no_progress (with_reducible refine Steady.mk' ?_ ?_ ?_ ?_ ?_ ?_ ?_; iterate 6 first | with_reducible rfl | (unfold setTransit; with_reducible rfl) | (split <;> with_reducible rfl) | (dsimp only; split <;> with_reducible rfl) | (focus (simp; done)) | fail) | with_reducible apply SteadyDone.next | with_reducible apply SteadyDone.fault | with_reducible apply SteadyDone.after | with_reducible apply SteadyDone.ite | with_reducible refine SteadyDone.outNext (by with_reducible assumption) ?_ | with_reducible refine SteadyDone.outFault (by with_reducible assumption) ?_ | with_reducible refine SteadyDone.outAfter (by with_reducible assumption) ?_ | dsimp only | split

theorem steady_opAdc {ρ : State} (n : Nat) (d : Fin 32) (r : Fin 32) (c9 : CoreState) (s9 : State) (hρ : Steady ρ s9) : SteadyDone ρ (opAdc n d r c9 s9) := by
  unfold opAdc
  repeat' first | with_reducible assumption | refine fun _ => ?_ | with_reducible apply steady_coreOnly | with_reducible apply SteadyDone.next | with_reducible apply SteadyDone.fault | with_reducible apply SteadyDone.after | with_reducible apply SteadyDone.ite | with_reducible refine SteadyDone.outNext (by with_reducible assumption) ?_ | with_reducible refine SteadyDone.outFault (by with_reducible assumption) ?_ | with_reducible refine SteadyDone.outAfter (by with_reducible assumption) ?_ | dsimp only | split

theorem steady_opSbc {ρ : State} (n : Nat) (d : Fin 32) (r : Fin 32) (c9 : CoreState) (s9 : State) (hρ : Steady ρ s9) : SteadyDone ρ (opSbc n d r c9 s9) := by
  unfold opSbc
  repeat' first | with_reducible assumption | refine fun _ => ?_ | with_reducible apply steady_coreOnly | with_reducible apply SteadyDone.next | with_reducible apply SteadyDone.fault | with_reducible apply SteadyDone.after | with_reducible apply SteadyDone.ite | with_reducible refine SteadyDone.outNext (by with_reducible assumption) ?_ | with_reducible refine SteadyDone.outFault (by with_reducible assumption) ?_ | with_reducible refine SteadyDone.outAfter (by with_reducible assumption) ?_ | dsimp only | split

theorem steady_opTst {ρ : State} (n : Nat) (d : Fin 32) (r : Fin 32) (c9 : CoreState) (s9 : State) (hρ : Steady ρ s9) : SteadyDone ρ (opTst n d r c9 s9) := by
  unfold opTst
  repeat' first | with_reducible assumption | refine fun _ => ?_ | with_reducible apply steady_coreOnly | with_reducible apply SteadyDone.next | with_reducible apply SteadyDone.fault | with_reducible apply SteadyDone.after | with_reducible apply SteadyDone.ite | with_reducible refine SteadyDone.outNext (by with_reducible assumption) ?_ | with_reducible refine SteadyDone.outFault (by with_reducible assumption) ?_ | with_reducible refine SteadyDone.outAfter (by with_reducible assumption) ?_ | dsimp only | split

theorem steady_opMul {ρ : State} (n : Nat) (d : Fin 32) (r : Fin 32) (c9 : CoreState) (s9 : State) (hρ : Steady ρ s9) : SteadyDone ρ (opMul n d r c9 s9) := by
  unfold opMul
  repeat' first | with_reducible assumption | refine fun _ => ?_ | with_reducible apply steady_coreOnly | with_reducible apply SteadyDone.next | with_reducible apply SteadyDone.fault | with_reducible apply SteadyDone.after | with_reducible apply SteadyDone.ite | with_reducible refine SteadyDone.outNext (by with_reducible assumption) ?_ | with_reducible refine SteadyDone.outFault (by with_reducible assumption) ?_ | with_reducible refine SteadyDone.outAfter (by with_reducible assumption) ?_ | dsimp only | split

theorem steady_opMulhu {ρ : State} (n : Nat) (d : Fin 32) (r : Fin 32) (c9 : CoreState) (s9 : State) (hρ : Steady ρ s9) : SteadyDone ρ (opMulhu n d r c9 s9) := by
  unfold opMulhu
  repeat' first | with_reducible assumption | refine fun _ => ?_ | with_reducible apply steady_coreOnly | with_reducible apply SteadyDone.next | with_reducible apply SteadyDone.fault | with_reducible apply SteadyDone.after | with_reducible apply SteadyDone.ite | with_reducible refine SteadyDone.outNext (by with_reducible assumption) ?_ | with_reducible refine SteadyDone.outFault (by with_reducible assumption) ?_ | with_reducible refine SteadyDone.outAfter (by with_reducible assumption) ?_ | dsimp only | split

theorem steady_opMulhs {ρ : State} (n : Nat) (d : Fin 32) (r : Fin 32) (c9 : CoreState) (s9 : State) (hρ : Steady ρ s9) : SteadyDone ρ (opMulhs n d r c9 s9) := by
  unfold opMulhs
  repeat' first | with_reducible assumption | refine fun _ => ?_ | with_reducible apply steady_coreOnly | with_reducible apply SteadyDone.next | with_reducible apply SteadyDone.fault | with_reducible apply SteadyDone.after | with_reducible apply SteadyDone.ite | with_reducible refine SteadyDone.outNext (by with_reducible assumption) ?_ | with_reducible refine SteadyDone.outFault (by with_reducible assumption) ?_ | with_reducible refine SteadyDone.outAfter (by with_reducible assumption) ?_ | dsimp only | split

theorem steady_opDivu {ρ : State} (n : Nat) (d : Fin 32) (r : Fin 32) (c9 : CoreState) (s9 : State) (hρ : Steady ρ s9) : SteadyDone ρ (opDivu n d r c9 s9) := by
  unfold opDivu
  repeat' first | with_reducible assumption | refine fun _ => ?_ | with_reducible apply steady_coreOnly | with_reducible apply Steady.ite | with_reducible apply SteadyDone.next | with_reducible apply SteadyDone.fault | with_reducible apply SteadyDone.after | with_reducible apply SteadyDone.ite | with_reducible refine SteadyDone.outNext (by with_reducible assumption) ?_ | with_reducible refine SteadyDone.outFault (by with_reducible assumption) ?_ | with_reducible refine SteadyDone.outAfter (by with_reducible assumption) ?_ | dsimp only | split

theorem steady_opRemu {ρ : State} (n : Nat) (d : Fin 32) (r : Fin 32) (c9 : CoreState) (s9 : State) (hρ : Steady ρ s9) : SteadyDone ρ (opRemu n d r c9 s9) := by
  unfold opRemu
  repeat' first | with_reducible assumption | refine fun _ => ?_ | with_reducible apply steady_coreOnly | with_reducible apply Steady.ite | with_reducible apply SteadyDone.next | with_reducible apply SteadyDone.fault | with_reducible apply SteadyDone.after | with_reducible apply SteadyDone.ite | with_reducible refine SteadyDone.outNext (by with_reducible assumption) ?_ | with_reducible refine SteadyDone.outFault (by with_reducible assumption) ?_ | with_reducible refine SteadyDone.outAfter (by with_reducible assumption) ?_ | dsimp only | split

theorem steady_opShlv {ρ : State} (n : Nat) (d : Fin 32) (r : Fin 32) (c9 : CoreState) (s9 : State) (hρ : Steady ρ s9) : SteadyDone ρ (opShlv n d r c9 s9) := by
  unfold opShlv
  repeat' first | with_reducible assumption | refine fun _ => ?_ | with_reducible apply steady_coreOnly | with_reducible apply SteadyDone.next | with_reducible apply SteadyDone.fault | with_reducible apply SteadyDone.after | with_reducible apply SteadyDone.ite | with_reducible refine SteadyDone.outNext (by with_reducible assumption) ?_ | with_reducible refine SteadyDone.outFault (by with_reducible assumption) ?_ | with_reducible refine SteadyDone.outAfter (by with_reducible assumption) ?_ | dsimp only | split

theorem steady_opShrv {ρ : State} (n : Nat) (d : Fin 32) (r : Fin 32) (c9 : CoreState) (s9 : State) (hρ : Steady ρ s9) : SteadyDone ρ (opShrv n d r c9 s9) := by
  unfold opShrv
  repeat' first | with_reducible assumption | refine fun _ => ?_ | with_reducible apply steady_coreOnly | with_reducible apply SteadyDone.next | with_reducible apply SteadyDone.fault | with_reducible apply SteadyDone.after | with_reducible apply SteadyDone.ite | with_reducible refine SteadyDone.outNext (by with_reducible assumption) ?_ | with_reducible refine SteadyDone.outFault (by with_reducible assumption) ?_ | with_reducible refine SteadyDone.outAfter (by with_reducible assumption) ?_ | dsimp only | split

theorem steady_opAsrv {ρ : State} (n : Nat) (d : Fin 32) (r : Fin 32) (c9 : CoreState) (s9 : State) (hρ : Steady ρ s9) : SteadyDone ρ (opAsrv n d r c9 s9) := by
  unfold opAsrv
  repeat' first | with_reducible assumption | refine fun _ => ?_ | with_reducible apply steady_coreOnly | with_reducible apply SteadyDone.next | with_reducible apply SteadyDone.fault | with_reducible apply SteadyDone.after | with_reducible apply SteadyDone.ite | with_reducible refine SteadyDone.outNext (by with_reducible assumption) ?_ | with_reducible refine SteadyDone.outFault (by with_reducible assumption) ?_ | with_reducible refine SteadyDone.outAfter (by with_reducible assumption) ?_ | dsimp only | split

theorem steady_opRori {ρ : State} (n : Nat) (d : Fin 32) (k : Fin 24) (c9 : CoreState) (s9 : State) (hρ : Steady ρ s9) : SteadyDone ρ (opRori n d k c9 s9) := by
  unfold opRori
  repeat' first | with_reducible assumption | refine fun _ => ?_ | with_reducible apply steady_coreOnly | with_reducible apply SteadyDone.next | with_reducible apply SteadyDone.fault | with_reducible apply SteadyDone.after | with_reducible apply SteadyDone.ite | with_reducible refine SteadyDone.outNext (by with_reducible assumption) ?_ | with_reducible refine SteadyDone.outFault (by with_reducible assumption) ?_ | with_reducible refine SteadyDone.outAfter (by with_reducible assumption) ?_ | dsimp only | split

theorem steady_opClz {ρ : State} (n : Nat) (d : Fin 32) (r : Fin 32) (c9 : CoreState) (s9 : State) (hρ : Steady ρ s9) : SteadyDone ρ (opClz n d r c9 s9) := by
  unfold opClz
  repeat' first | with_reducible assumption | refine fun _ => ?_ | with_reducible apply steady_coreOnly | fail_if_no_progress (with_reducible refine Steady.mk' ?_ ?_ ?_ ?_ ?_ ?_ ?_; iterate 6 first | with_reducible rfl | (unfold setTransit; with_reducible rfl) | (split <;> with_reducible rfl) | (dsimp only; split <;> with_reducible rfl) | (focus (simp; done)) | fail) | with_reducible apply SteadyDone.next | with_reducible apply SteadyDone.fault | with_reducible apply SteadyDone.after | with_reducible apply SteadyDone.ite | with_reducible refine SteadyDone.outNext (by with_reducible assumption) ?_ | with_reducible refine SteadyDone.outFault (by with_reducible assumption) ?_ | with_reducible refine SteadyDone.outAfter (by with_reducible assumption) ?_ | dsimp only | split

theorem steady_opMovc {ρ : State} (n : Nat) (d : Fin 32) (r : Fin 32) (cc : Fin 15) (c9 : CoreState) (s9 : State) (hρ : Steady ρ s9) : SteadyDone ρ (opMovc n d r cc c9 s9) := by
  unfold opMovc
  repeat' first | with_reducible assumption | refine fun _ => ?_ | with_reducible apply steady_coreOnly | with_reducible apply Steady.ite | with_reducible apply SteadyDone.next | with_reducible apply SteadyDone.fault | with_reducible apply SteadyDone.after | with_reducible apply SteadyDone.ite | with_reducible refine SteadyDone.outNext (by with_reducible assumption) ?_ | with_reducible refine SteadyDone.outFault (by with_reducible assumption) ?_ | with_reducible refine SteadyDone.outAfter (by with_reducible assumption) ?_ | dsimp only | split

theorem steady_opMfs {ρ : State} (n : Nat) (d : Fin 32) (sr : Fin 32) (c9 : CoreState) (s9 : State) (hρ : Steady ρ s9) : SteadyDone ρ (opMfs n d sr c9 s9) := by
  unfold opMfs
  repeat' first | with_reducible assumption | refine fun _ => ?_ | with_reducible apply steady_State_setCore | with_reducible apply steady_latchUpper | with_reducible apply Steady.ite | fail_if_no_progress (with_reducible refine Steady.mk' ?_ ?_ ?_ ?_ ?_ ?_ ?_; iterate 6 first | with_reducible rfl | (unfold setTransit; with_reducible rfl) | (split <;> with_reducible rfl) | (dsimp only; split <;> with_reducible rfl) | (focus (simp; done)) | fail) | with_reducible refine Steady.snd (by with_reducible assumption) ?_ | with_reducible refine Steady.snd2 (by with_reducible assumption) ?_ | with_reducible refine Steady.fst (by with_reducible assumption) ?_ | with_reducible apply SteadyDone.next | with_reducible apply SteadyDone.fault | with_reducible apply SteadyDone.after | with_reducible apply SteadyDone.ite | with_reducible refine SteadyDone.outNext (by with_reducible assumption) ?_ | with_reducible refine SteadyDone.outFault (by with_reducible assumption) ?_ | with_reducible refine SteadyDone.outAfter (by with_reducible assumption) ?_ | dsimp only | split

theorem steady_opMts {ρ : State} (n : Nat) (sr : Fin 32) (r : Fin 32) (c9 : CoreState) (s9 : State) (hρ : Steady ρ s9) : SteadyDone ρ (opMts n sr r c9 s9) := by
  unfold opMts
  repeat' first | with_reducible assumption | refine fun _ => ?_ | with_reducible apply steady_State_setCore | fail_if_no_progress (with_reducible refine Steady.mk' ?_ ?_ ?_ ?_ ?_ ?_ ?_; iterate 6 first | with_reducible rfl | (unfold setTransit; with_reducible rfl) | (split <;> with_reducible rfl) | (dsimp only; split <;> with_reducible rfl) | (focus (simp; done)) | fail) | with_reducible refine Steady.snd (by with_reducible assumption) ?_ | with_reducible refine Steady.snd2 (by with_reducible assumption) ?_ | with_reducible refine Steady.fst (by with_reducible assumption) ?_ | with_reducible apply SteadyDone.next | with_reducible apply SteadyDone.fault | with_reducible apply SteadyDone.after | with_reducible apply SteadyDone.ite | with_reducible refine SteadyDone.outNext (by with_reducible assumption) ?_ | with_reducible refine SteadyDone.outFault (by with_reducible assumption) ?_ | with_reducible refine SteadyDone.outAfter (by with_reducible assumption) ?_ | dsimp only | split

theorem steady_opTrap {ρ : State} (n : Nat) (num : Fin 128) (c9 : CoreState) (s9 : State) (hρ : Steady ρ s9) : SteadyDone ρ (opTrap n num c9 s9) := by
  unfold opTrap
  repeat' first | with_reducible assumption | refine fun _ => ?_ | with_reducible apply steady_State_setCore | with_reducible apply steady_callPost | with_reducible apply Steady.ite | with_reducible apply SteadyDone.next | with_reducible apply SteadyDone.fault | with_reducible apply SteadyDone.after | with_reducible apply SteadyDone.ite | with_reducible refine SteadyDone.outNext (by with_reducible assumption) ?_ | with_reducible refine SteadyDone.outFault (by with_reducible assumption) ?_ | with_reducible refine SteadyDone.outAfter (by with_reducible assumption) ?_ | dsimp only | split

theorem steady_opEret {ρ : State} (n : Nat) (bad : Option Word) (c9 : CoreState) (s9 : State) (hρ : Steady ρ s9) : SteadyDone ρ (opEret n bad c9 s9) := by
  unfold opEret
  repeat' first | with_reducible assumption | refine fun _ => ?_ | with_reducible apply steady_eretOp | dsimp only | split

theorem steady_opWait {ρ : State} (n : Nat) (c9 : CoreState) (s9 : State) (hρ : Steady ρ s9) : SteadyDone ρ (opWait n c9 s9) := by
  unfold opWait
  repeat' first | with_reducible assumption | refine fun _ => ?_ | with_reducible apply steady_State_setCore | fail_if_no_progress (with_reducible refine Steady.mk' ?_ ?_ ?_ ?_ ?_ ?_ ?_; iterate 6 first | with_reducible rfl | (unfold setTransit; with_reducible rfl) | (split <;> with_reducible rfl) | (dsimp only; split <;> with_reducible rfl) | (focus (simp; done)) | fail) | with_reducible apply SteadyDone.next | with_reducible apply SteadyDone.fault | with_reducible apply SteadyDone.after | with_reducible apply SteadyDone.ite | with_reducible refine SteadyDone.outNext (by with_reducible assumption) ?_ | with_reducible refine SteadyDone.outFault (by with_reducible assumption) ?_ | with_reducible refine SteadyDone.outAfter (by with_reducible assumption) ?_ | with_reducible apply Steady.id' | dsimp only | split

theorem steady_opFence {ρ : State} (n : Nat) (c9 : CoreState) (s9 : State) (hρ : Steady ρ s9) : SteadyDone ρ (opFence n c9 s9) := by
  unfold opFence
  repeat' first | with_reducible assumption | refine fun _ => ?_ | with_reducible apply steady_coreOnly | with_reducible apply SteadyDone.next | with_reducible apply SteadyDone.fault | with_reducible apply SteadyDone.after | with_reducible apply SteadyDone.ite | with_reducible refine SteadyDone.outNext (by with_reducible assumption) ?_ | with_reducible refine SteadyDone.outFault (by with_reducible assumption) ?_ | with_reducible refine SteadyDone.outAfter (by with_reducible assumption) ?_ | dsimp only | split

theorem steady_opFlush {ρ : State} (n : Nat) (c9 : CoreState) (s9 : State) (hρ : Steady ρ s9) : SteadyDone ρ (opFlush n c9 s9) := by
  unfold opFlush
  repeat' first | with_reducible assumption | refine fun _ => ?_ | with_reducible apply steady_flushOp | dsimp only | split

theorem steady_opBkpt {ρ : State} (n : Nat) (c9 : CoreState) (s9 : State) (hρ : Steady ρ s9) : SteadyDone ρ (opBkpt n c9 s9) := by
  unfold opBkpt
  repeat' first | with_reducible assumption | refine fun _ => ?_ | with_reducible apply steady_State_setCore | with_reducible apply SteadyDone.next | with_reducible apply SteadyDone.fault | with_reducible apply SteadyDone.after | with_reducible apply SteadyDone.ite | with_reducible refine SteadyDone.outNext (by with_reducible assumption) ?_ | with_reducible refine SteadyDone.outFault (by with_reducible assumption) ?_ | with_reducible refine SteadyDone.outAfter (by with_reducible assumption) ?_ | dsimp only | split

theorem steady_coreStep {ρ : State} (i : Instr) (s : State) (hρ : Steady ρ s) : Steady ρ (coreStep i s) := by
  unfold coreStep
  repeat' first | with_reducible assumption | refine fun _ => ?_ | with_reducible apply steady_instructionAt | with_reducible apply steady_instruction | with_reducible apply steady_opMov | with_reducible apply steady_opAdd | with_reducible apply steady_opSub | with_reducible apply steady_opCmp | with_reducible apply steady_opAnd | with_reducible apply steady_opOr | with_reducible apply steady_opXor | with_reducible apply steady_opAddq | with_reducible apply steady_opMovq | with_reducible apply steady_opShli | with_reducible apply steady_opShri | with_reducible apply steady_opAsri | with_reducible apply steady_opBcc | with_reducible apply steady_opCall | with_reducible apply steady_opNot | with_reducible apply steady_opNeg | with_reducible apply steady_opJmp | with_reducible apply steady_opCallr | with_reducible apply steady_opRet | with_reducible apply steady_opCoreNop | with_reducible apply steady_opPush | with_reducible apply steady_opPop | with_reducible apply steady_opLdi | with_reducible apply steady_opLdh | with_reducible apply steady_opAddi | with_reducible apply steady_opAndi | with_reducible apply steady_opOri | with_reducible apply steady_opXori | with_reducible apply steady_opCmpi | with_reducible apply steady_opTsti | with_reducible apply steady_opLd | with_reducible apply steady_opSt | with_reducible apply steady_opInp | with_reducible apply steady_opOut | with_reducible apply steady_opAdc | with_reducible apply steady_opSbc | with_reducible apply steady_opTst | with_reducible apply steady_opMul | with_reducible apply steady_opMulhu | with_reducible apply steady_opMulhs | with_reducible apply steady_opDivu | with_reducible apply steady_opRemu | with_reducible apply steady_opShlv | with_reducible apply steady_opShrv | with_reducible apply steady_opAsrv | with_reducible apply steady_opRori | with_reducible apply steady_opClz | with_reducible apply steady_opMovc | with_reducible apply steady_opMfs | with_reducible apply steady_opMts | with_reducible apply steady_opTrap | with_reducible apply steady_opEret | with_reducible apply steady_opWait | with_reducible apply steady_opFence | with_reducible apply steady_opFlush | with_reducible apply steady_opBkpt | with_reducible apply Steady.ite | fail_if_no_progress (with_reducible refine Steady.mk' ?_ ?_ ?_ ?_ ?_ ?_ ?_; iterate 6 first | with_reducible rfl | (unfold setTransit; with_reducible rfl) | (split <;> with_reducible rfl) | (dsimp only; split <;> with_reducible rfl) | (focus (simp; done)) | fail) | with_reducible refine Steady.snd (by with_reducible assumption) ?_ | with_reducible refine Steady.snd2 (by with_reducible assumption) ?_ | with_reducible refine Steady.fst (by with_reducible assumption) ?_ | dsimp only | split

theorem steady_runParcels {ρ : State} (n : Fin 67) (p : BitVec 14) (q : BitVec 14) (s : State) (hρ : Steady ρ s) : Steady ρ (runParcels n p q s) := by
  unfold runParcels
  repeat' first | with_reducible assumption | refine fun _ => ?_ | with_reducible apply steady_instruction | with_reducible apply steady_coreStep | with_reducible apply Steady.ite | fail_if_no_progress (with_reducible refine Steady.mk' ?_ ?_ ?_ ?_ ?_ ?_ ?_; iterate 6 first | with_reducible rfl | (unfold setTransit; with_reducible rfl) | (split <;> with_reducible rfl) | (dsimp only; split <;> with_reducible rfl) | (focus (simp; done)) | fail) | with_reducible refine Steady.snd (by with_reducible assumption) ?_ | with_reducible refine Steady.snd2 (by with_reducible assumption) ?_ | with_reducible refine Steady.fst (by with_reducible assumption) ?_ | with_reducible apply SteadyDone.next | with_reducible apply SteadyDone.fault | with_reducible apply SteadyDone.after | with_reducible apply SteadyDone.ite | with_reducible refine SteadyDone.outNext (by with_reducible assumption) ?_ | with_reducible refine SteadyDone.outFault (by with_reducible assumption) ?_ | with_reducible refine SteadyDone.outAfter (by with_reducible assumption) ?_ | dsimp only | split

theorem steady_fetchRowFail {ρ : State} (n : Nat) (a : Nat) (s : State) (hρ : Steady ρ s) : Steady ρ (fetchRowFail n a s) := by
  unfold fetchRowFail
  repeat' first | with_reducible assumption | refine fun _ => ?_ | with_reducible apply steady_State_useFree | with_reducible apply steady_readRow | with_reducible apply Steady.ite | with_reducible refine Steady.snd (by with_reducible assumption) ?_ | with_reducible refine Steady.snd2 (by with_reducible assumption) ?_ | with_reducible refine Steady.fst (by with_reducible assumption) ?_ | dsimp only | split

theorem steady_fetchMarkFail {ρ : State} (n : Nat) (i : Nat) (s : State) (hρ : Steady ρ s) : Steady ρ (fetchMarkFail n i s) := by
  unfold fetchMarkFail
  repeat' first | with_reducible assumption | refine fun _ => ?_ | with_reducible apply steady_enter | with_reducible apply steady_traceFetch | with_reducible apply steady_fetchRowFail | with_reducible apply Steady.ite | fail_if_no_progress (with_reducible refine Steady.mk' ?_ ?_ ?_ ?_ ?_ ?_ ?_; iterate 6 first | with_reducible rfl | (unfold setTransit; with_reducible rfl) | (split <;> with_reducible rfl) | (dsimp only; split <;> with_reducible rfl) | (focus (simp; done)) | fail) | with_reducible refine Steady.snd (by with_reducible assumption) ?_ | with_reducible refine Steady.snd2 (by with_reducible assumption) ?_ | with_reducible refine Steady.fst (by with_reducible assumption) ?_ | dsimp only | split

theorem steady_fetchParcel {ρ : State} (n : Nat) (a : Nat) (s : State) (hρ : Steady ρ s) : Steady ρ (fetchParcel n a s).2 := by
  unfold fetchParcel
  repeat' first | with_reducible assumption | refine fun _ => ?_ | with_reducible apply steady_State_useFree | with_reducible apply Steady.ite | with_reducible refine Steady.snd (by with_reducible assumption) ?_ | with_reducible refine Steady.snd2 (by with_reducible assumption) ?_ | with_reducible refine Steady.fst (by with_reducible assumption) ?_ | dsimp only | split

theorem steady_stepCore {ρ : State} (n : Fin 67) (s : State) (hρ : Steady ρ s) : Steady ρ (stepCore n s) := by
  unfold stepCore
  repeat' first | with_reducible assumption | refine fun _ => ?_ | with_reducible apply steady_runParcels | with_reducible apply steady_fetchParcel | with_reducible refine Steady.snd (by with_reducible assumption) ?_ | with_reducible refine Steady.snd2 (by with_reducible assumption) ?_ | with_reducible refine Steady.fst (by with_reducible assumption) ?_ | dsimp only | split

end Sys2Proof.Machine
end

