-- ==== Sys2Proof/Laws/SteadyDebug.lean ====
section
/-! SUPPORT. What the operations of Machine/Debug.lean keep (`Steady`). -/

namespace Sys2Proof.Machine

theorem steady_debugFail {ρ : State} (s : State) (hρ : Steady ρ s) : Steady ρ (debugFail s) := by
  unfold debugFail
  repeat' first | with_reducible assumption | refine fun _ => ?_ | with_reducible apply steady_State_raise | dsimp only | split

theorem steady_haltedShow {ρ : State} (s : State) (hρ : Steady ρ s) : Steady ρ (haltedShow s) := by
  unfold haltedShow
  repeat' first | with_reducible assumption | refine fun _ => ?_ | with_reducible apply steady_State_flag | dsimp only | split

theorem steady_debugStop {ρ : State} (n : Nat) (s : State) (hρ : Steady ρ s) : Steady ρ (debugStop n s) := by
  unfold debugStop
  repeat' first | with_reducible assumption | refine fun _ => ?_ | with_reducible apply steady_drainCore | with_reducible apply steady_haltedShow | fail_if_no_progress (with_reducible refine Steady.mk' ?_ ?_ ?_ ?_ ?_ ?_ ?_; iterate 6 first | with_reducible rfl | (unfold setTransit; with_reducible rfl) | (split <;> with_reducible rfl) | (dsimp only; split <;> with_reducible rfl) | (focus (simp; done)) | fail) | dsimp only | split

theorem steady_debugHalt {ρ : State} (n : Nat) (s : State) (hρ : Steady ρ s) : Steady ρ (debugHalt n s) := by
  unfold debugHalt
  repeat' first | with_reducible assumption | refine fun _ => ?_ | with_reducible apply steady_swLoseAck | with_reducible apply steady_spareTakes | with_reducible apply steady_debugFail | with_reducible apply steady_debugStop | with_reducible apply Steady.ite | fail_if_no_progress (with_reducible refine Steady.mk' ?_ ?_ ?_ ?_ ?_ ?_ ?_; iterate 6 first | with_reducible rfl | (unfold setTransit; with_reducible rfl) | (split <;> with_reducible rfl) | (dsimp only; split <;> with_reducible rfl) | (focus (simp; done)) | fail) | with_reducible apply Steady.onlyIf | with_reducible refine Steady.snd (by with_reducible assumption) ?_ | with_reducible refine Steady.snd2 (by with_reducible assumption) ?_ | with_reducible refine Steady.fst (by with_reducible assumption) ?_ | dsimp only | split

theorem steady_debugStep {ρ : State} (n : Fin 67) (s : State) (hρ : Steady ρ s) : Steady ρ (debugStep n s) := by
  unfold debugStep
  repeat' first | with_reducible assumption | refine fun _ => ?_ | with_reducible apply steady_stepCore | with_reducible apply steady_debugFail | with_reducible apply steady_debugStop | with_reducible apply Steady.ite | fail_if_no_progress (with_reducible refine Steady.mk' ?_ ?_ ?_ ?_ ?_ ?_ ?_; iterate 6 first | with_reducible rfl | (unfold setTransit; with_reducible rfl) | (split <;> with_reducible rfl) | (dsimp only; split <;> with_reducible rfl) | (focus (simp; done)) | fail) | dsimp only | split

theorem steady_debugResume {ρ : State} (n : Nat) (s : State) (hρ : Steady ρ s) : Steady ρ (debugResume n s) := by
  unfold debugResume
  repeat' first | with_reducible assumption | refine fun _ => ?_ | with_reducible apply steady_debugFail | with_reducible apply steady_haltedShow | with_reducible apply Steady.ite | fail_if_no_progress (with_reducible refine Steady.mk' ?_ ?_ ?_ ?_ ?_ ?_ ?_; iterate 6 first | with_reducible rfl | (unfold setTransit; with_reducible rfl) | (split <;> with_reducible rfl) | (dsimp only; split <;> with_reducible rfl) | (focus (simp; done)) | fail) | dsimp only | split

theorem steady_debugGot {ρ : State} (markOk : Bool) (w : Word) (s : State) (hρ : Steady ρ s) : Steady ρ (debugGot markOk w s) := by
  unfold debugGot
  repeat' first | with_reducible assumption | refine fun _ => ?_ | with_reducible apply steady_State_wr | with_reducible apply steady_markMismatch | with_reducible apply steady_debugFail | with_reducible apply Steady.ite | fail_if_no_progress (with_reducible refine Steady.mk' ?_ ?_ ?_ ?_ ?_ ?_ ?_; iterate 6 first | with_reducible rfl | (unfold setTransit; with_reducible rfl) | (split <;> with_reducible rfl) | (dsimp only; split <;> with_reducible rfl) | (focus (simp; done)) | fail) | with_reducible refine Steady.snd (by with_reducible assumption) ?_ | with_reducible refine Steady.snd2 (by with_reducible assumption) ?_ | with_reducible refine Steady.fst (by with_reducible assumption) ?_ | dsimp only | split

theorem steady_debugRead {ρ : State} (n : Nat) (space : Nat) (markOk : Bool) (s : State) (hρ : Steady ρ s) : Steady ρ (debugRead n space markOk s) := by
  unfold debugRead
  repeat' first | with_reducible assumption | refine fun _ => ?_ | with_reducible apply steady_ioRead | with_reducible apply steady_debugFail | with_reducible apply steady_debugGot | with_reducible apply Steady.ite | fail_if_no_progress (with_reducible refine Steady.mk' ?_ ?_ ?_ ?_ ?_ ?_ ?_; iterate 6 first | with_reducible rfl | (unfold setTransit; with_reducible rfl) | (split <;> with_reducible rfl) | (dsimp only; split <;> with_reducible rfl) | (focus (simp; done)) | fail) | with_reducible refine Steady.snd (by with_reducible assumption) ?_ | with_reducible refine Steady.snd2 (by with_reducible assumption) ?_ | with_reducible refine Steady.fst (by with_reducible assumption) ?_ | dsimp only | split

theorem steady_debugWrite {ρ : State} (n : Nat) (space : Nat) (w : Word) (s : State) (hρ : Steady ρ s) : Steady ρ (debugWrite n space w s) := by
  unfold debugWrite
  repeat' first | with_reducible assumption | refine fun _ => ?_ | with_reducible apply steady_State_setCore | with_reducible apply steady_ioWrite | with_reducible apply steady_debugFail | with_reducible apply Steady.ite | fail_if_no_progress (with_reducible refine Steady.mk' ?_ ?_ ?_ ?_ ?_ ?_ ?_; iterate 6 first | with_reducible rfl | (unfold setTransit; with_reducible rfl) | (split <;> with_reducible rfl) | (dsimp only; split <;> with_reducible rfl) | (focus (simp; done)) | fail) | with_reducible refine Steady.snd (by with_reducible assumption) ?_ | with_reducible refine Steady.snd2 (by with_reducible assumption) ?_ | with_reducible refine Steady.fst (by with_reducible assumption) ?_ | dsimp only | split

theorem steady_debugTrace {ρ : State} (n : Nat) (s : State) (hρ : Steady ρ s) : Steady ρ (debugTrace n s) := by
  unfold debugTrace
  repeat' first | with_reducible assumption | refine fun _ => ?_ | with_reducible apply steady_debugFail | with_reducible apply Steady.ite | fail_if_no_progress (with_reducible refine Steady.mk' ?_ ?_ ?_ ?_ ?_ ?_ ?_; iterate 6 first | with_reducible rfl | (unfold setTransit; with_reducible rfl) | (split <;> with_reducible rfl) | (dsimp only; split <;> with_reducible rfl) | (focus (simp; done)) | fail) | dsimp only | split

theorem steady_debugUntrace {ρ : State} (n : Nat) (s : State) (hρ : Steady ρ s) : Steady ρ (debugUntrace n s) := by
  unfold debugUntrace
  repeat' first | with_reducible assumption | refine fun _ => ?_ | with_reducible apply steady_debugFail | with_reducible apply Steady.ite | fail_if_no_progress (with_reducible refine Steady.mk' ?_ ?_ ?_ ?_ ?_ ?_ ?_; iterate 6 first | with_reducible rfl | (unfold setTransit; with_reducible rfl) | (split <;> with_reducible rfl) | (dsimp only; split <;> with_reducible rfl) | (focus (simp; done)) | fail) | dsimp only | split

theorem steady_debugOp {ρ : State} (op : Nat) (space : Nat) (core : Nat) (markOk : Bool) (s : State) (hρ : Steady ρ s) : Steady ρ (debugOp op space core markOk s) := by
  unfold debugOp
  repeat' first | with_reducible assumption | refine fun _ => ?_ | with_reducible apply steady_State_wr | with_reducible apply steady_debugHalt | with_reducible apply steady_debugStep | with_reducible apply steady_debugResume | with_reducible apply steady_debugRead | with_reducible apply steady_debugWrite | with_reducible apply steady_debugTrace | with_reducible apply steady_debugUntrace | with_reducible apply Steady.ite | fail_if_no_progress (with_reducible refine Steady.mk' ?_ ?_ ?_ ?_ ?_ ?_ ?_; iterate 6 first | with_reducible rfl | (unfold setTransit; with_reducible rfl) | (split <;> with_reducible rfl) | (dsimp only; split <;> with_reducible rfl) | (focus (simp; done)) | fail) | with_reducible refine Steady.snd (by with_reducible assumption) ?_ | with_reducible refine Steady.snd2 (by with_reducible assumption) ?_ | with_reducible refine Steady.fst (by with_reducible assumption) ?_ | dsimp only | split

theorem steady_debugAddrStep {ρ : State} (s : State) (hρ : Steady ρ s) : Steady ρ (debugAddrStep s) := by
  unfold debugAddrStep
  repeat' first | with_reducible assumption | refine fun _ => ?_ | with_reducible apply steady_State_wr | dsimp only | split

theorem steady_debugData {ρ : State} (w : Option Word) (s : State) (hρ : Steady ρ s) : Steady ρ (debugData w s) := by
  unfold debugData
  repeat' first | with_reducible assumption | refine fun _ => ?_ | with_reducible apply steady_State_wr | with_reducible apply steady_debugAddrStep | with_reducible apply Steady.ite | fail_if_no_progress (with_reducible refine Steady.mk' ?_ ?_ ?_ ?_ ?_ ?_ ?_; iterate 6 first | with_reducible rfl | (unfold setTransit; with_reducible rfl) | (split <;> with_reducible rfl) | (dsimp only; split <;> with_reducible rfl) | (focus (simp; done)) | fail) | with_reducible refine Steady.snd (by with_reducible assumption) ?_ | with_reducible refine Steady.snd2 (by with_reducible assumption) ?_ | with_reducible refine Steady.fst (by with_reducible assumption) ?_ | dsimp only | split

theorem steady_debugAccess {ρ : State} (reg : Nat) (w : Option Word) (s : State) (hρ : Steady ρ s) : Steady ρ (debugAccess reg w s) := by
  unfold debugAccess
  apply Steady.ite hρ
  have h : Steady ρ { s with lcy := { s.lcy with tap := 2 } } := Steady.mk' rfl rfl rfl rfl rfl rfl hρ
  generalize { s with lcy := { s.lcy with tap := 2 } } = t at h
  match reg, w with
  | 0, some v => exact steady_debugOp _ _ _ _ _ h
  | 1, some v => exact steady_State_wr _ _ _ h
  | 0, none => exact Steady.mk' rfl rfl rfl rfl rfl rfl h
  | 1, none => exact Steady.mk' rfl rfl rfl rfl rfl rfl h
  | _ + 2, x => exact steady_debugData _ _ h


theorem steady_certStop {ρ : State} (s : State) (hρ : Steady ρ s) : Steady ρ (certStop s) := by
  unfold certStop
  repeat' first | with_reducible assumption | refine fun _ => ?_ | with_reducible apply steady_State_put | with_reducible apply steady_State_raise | with_reducible apply steady_State_setCore | with_reducible apply steady_coreReset | with_reducible apply steady_haltedShow | with_reducible apply steady_State_zero | with_reducible apply Steady.ite | fail_if_no_progress (with_reducible refine Steady.mk' ?_ ?_ ?_ ?_ ?_ ?_ ?_; iterate 6 first | with_reducible rfl | (unfold setTransit; with_reducible rfl) | (split <;> with_reducible rfl) | (dsimp only; split <;> with_reducible rfl) | (focus (simp; done)) | fail) | with_reducible apply Steady.each | dsimp only | split

theorem steady_certExpiry {ρ : State} (s : State) (hρ : Steady ρ s) : Steady ρ (certExpiry s) := by
  unfold certExpiry
  repeat' first | with_reducible assumption | refine fun _ => ?_ | with_reducible apply steady_certStop | with_reducible apply Steady.ite | dsimp only | split

theorem steady_certBoundary {ρ : State} (s : State) (hρ : Steady ρ s) : Steady ρ (certBoundary s) := by
  unfold certBoundary
  repeat' first | with_reducible assumption | refine fun _ => ?_ | with_reducible apply steady_certOn | with_reducible apply steady_certStop | with_reducible apply steady_certExpiry | with_reducible apply Steady.ite | dsimp only | split

end Sys2Proof.Machine
end

