-- ==== Sys2Proof/Laws/SteadyEvents.lean ====
section
/-! SUPPORT. What the operations of Machine/Events.lean keep (`Steady`). -/

namespace Sys2Proof.Machine

theorem steady_quotaRebalance {ρ : State} (s : State) (hρ : Steady ρ s) : Steady ρ (quotaRebalance s) := by
  unfold quotaRebalance
  repeat' first | with_reducible assumption | refine fun _ => ?_ | with_reducible apply steady_taskItem | with_reducible apply Steady.ite | dsimp only | split

theorem steady_graverWipe {ρ : State} (n : Nat) (s : State) (hρ : Steady ρ s) : Steady ρ (graverWipe n s) := by
  unfold graverWipe
  repeat' first | with_reducible assumption | refine fun _ => ?_ | with_reducible apply steady_wipe | with_reducible apply Steady.ite | dsimp only | split

theorem steady_loseStroke {ρ : State} (s : State) (hρ : Steady ρ s) : Steady ρ (loseStroke s) := by
  unfold loseStroke
  repeat' first | with_reducible assumption | refine fun _ => ?_ | fail_if_no_progress (with_reducible refine Steady.mk' ?_ ?_ ?_ ?_ ?_ ?_ ?_; iterate 6 first | with_reducible rfl | (unfold setTransit; with_reducible rfl) | (split <;> with_reducible rfl) | (dsimp only; split <;> with_reducible rfl) | (focus (simp; done)) | fail) | dsimp only | split

theorem steady_conditionCleared {ρ : State} (src : Nat) (s : State) (hρ : Steady ρ s) : Steady ρ (conditionCleared src s) := by
  unfold conditionCleared
  repeat' first | with_reducible assumption | refine fun _ => ?_ | with_reducible apply steady_pptClear | with_reducible apply Steady.ite | fail_if_no_progress (with_reducible refine Steady.mk' ?_ ?_ ?_ ?_ ?_ ?_ ?_; iterate 6 first | with_reducible rfl | (unfold setTransit; with_reducible rfl) | (split <;> with_reducible rfl) | (dsimp only; split <;> with_reducible rfl) | (focus (simp; done)) | fail) | dsimp only | split

theorem steady_temperature {ρ : State} (q0 : Byte) (q1 : Byte) (q2 : Byte) (q3 : Byte) (s : State) (hρ : Steady ρ s) : Steady ρ (temperature q0 q1 q2 q3 s) := by
  unfold temperature
  repeat' first | with_reducible assumption | refine fun _ => ?_ | with_reducible apply steady_State_wr | with_reducible apply steady_pptClear | with_reducible apply steady_pptBegin | with_reducible apply Steady.ite | with_reducible apply Steady.each | with_reducible refine Steady.snd (by with_reducible assumption) ?_ | with_reducible refine Steady.snd2 (by with_reducible assumption) ?_ | with_reducible refine Steady.fst (by with_reducible assumption) ?_ | dsimp only | split

theorem steady_pcieLost {ρ : State} (e : Nat) (s : State) (hρ : Steady ρ s) : Steady ρ (pcieLost e s) := by
  unfold pcieLost
  repeat' first | with_reducible assumption | refine fun _ => ?_ | with_reducible apply steady_State_wr | with_reducible apply steady_hifEvent | with_reducible apply steady_flrReceive | dsimp only | split

theorem steady_pcieUp {ρ : State} (speed : Nat) (width : Nat) (s : State) (hρ : Steady ρ s) : Steady ρ (pcieUp speed width s) := by
  unfold pcieUp
  repeat' first | with_reducible assumption | refine fun _ => ?_ | with_reducible apply steady_State_wr | with_reducible apply steady_State_useFree | with_reducible apply Steady.ite | with_reducible refine Steady.snd (by with_reducible assumption) ?_ | with_reducible refine Steady.snd2 (by with_reducible assumption) ?_ | with_reducible refine Steady.fst (by with_reducible assumption) ?_ | dsimp only | split

theorem steady_counterWrap {ρ : State} (n : Nat) (s : State) (hρ : Steady ρ s) : Steady ρ (counterWrap n s) := by
  unfold counterWrap
  repeat' first | with_reducible assumption | refine fun _ => ?_ | with_reducible apply steady_pmcPair | with_reducible apply Steady.ite | fail_if_no_progress (with_reducible refine Steady.mk' ?_ ?_ ?_ ?_ ?_ ?_ ?_; iterate 6 first | with_reducible rfl | (unfold setTransit; with_reducible rfl) | (split <;> with_reducible rfl) | (dsimp only; split <;> with_reducible rfl) | (focus (simp; done)) | fail) | dsimp only | split

end Sys2Proof.Machine
end

