-- ==== Sys2Proof/Laws/SteadyPorts.lean ====
section
/-! SUPPORT. What the operations of Machine/Ports.lean keep (`Steady`). -/

namespace Sys2Proof.Machine

theorem steady_groupShow {ρ : State} (g : Nat) (s : State) (hρ : Steady ρ s) : Steady ρ (groupShow g s) := by
  unfold groupShow
  repeat' first | with_reducible assumption | refine fun _ => ?_ | with_reducible apply steady_State_wr | with_reducible apply Steady.foldl | with_reducible apply Steady.foldlSnd | dsimp only | split

theorem steady_setPort {ρ : State} (port : Nat) (st : Nat) (s : State) (hρ : Steady ρ s) : Steady ρ (setPort port st s) := by
  unfold setPort
  repeat' first | with_reducible assumption | refine fun _ => ?_ | with_reducible apply steady_State_put | with_reducible apply steady_groupShow | fail_if_no_progress (with_reducible refine Steady.mk' ?_ ?_ ?_ ?_ ?_ ?_ ?_; iterate 6 first | with_reducible rfl | (unfold setTransit; with_reducible rfl) | (split <;> with_reducible rfl) | (dsimp only; split <;> with_reducible rfl) | (focus (simp; done)) | fail) | dsimp only | split

theorem steady_portFrames {ρ : State} (port : Nat) (s : State) (hρ : Steady ρ s) : Steady ρ (portFrames port s) := by
  unfold portFrames
  repeat' first | with_reducible assumption | refine fun _ => ?_ | with_reducible apply steady_portCount | with_reducible apply steady_dropUnbound | with_reducible apply steady_dropAwaiting | fail_if_no_progress (with_reducible refine Steady.mk' ?_ ?_ ?_ ?_ ?_ ?_ ?_; iterate 6 first | with_reducible rfl | (unfold setTransit; with_reducible rfl) | (split <;> with_reducible rfl) | (dsimp only; split <;> with_reducible rfl) | (focus (simp; done)) | fail) | with_reducible apply Steady.each | with_reducible refine Steady.snd (by with_reducible assumption) ?_ | with_reducible refine Steady.snd2 (by with_reducible assumption) ?_ | with_reducible refine Steady.fst (by with_reducible assumption) ?_ | dsimp only | split

theorem steady_portLeaves {ρ : State} (port : Nat) (s : State) (hρ : Steady ρ s) : Steady ρ (portLeaves port s) := by
  unfold portLeaves
  repeat' first | with_reducible assumption | refine fun _ => ?_ | with_reducible apply steady_State_raise | with_reducible apply steady_portFrames | with_reducible apply Steady.onlyIf | dsimp only | split

theorem steady_portStart {ρ : State} (port : Nat) (s : State) (hρ : Steady ρ s) : Steady ρ (portStart port s) := by
  unfold portStart
  repeat' first | with_reducible assumption | refine fun _ => ?_ | with_reducible apply steady_setPort | with_reducible apply Steady.ite | dsimp only | split

theorem steady_groupModeChange {ρ : State} (g : Nat) (s : State) (hρ : Steady ρ s) : Steady ρ (groupModeChange g s) := by
  unfold groupModeChange
  repeat' first | with_reducible assumption | refine fun _ => ?_ | with_reducible apply steady_State_put | with_reducible apply steady_groupShow | with_reducible apply steady_setPort | with_reducible apply steady_portLeaves | with_reducible apply steady_portStart | with_reducible apply Steady.ite | fail_if_no_progress (with_reducible refine Steady.mk' ?_ ?_ ?_ ?_ ?_ ?_ ?_; iterate 6 first | with_reducible rfl | (unfold setTransit; with_reducible rfl) | (split <;> with_reducible rfl) | (dsimp only; split <;> with_reducible rfl) | (focus (simp; done)) | fail) | with_reducible apply Steady.each | dsimp only | split

theorem steady_portDisable {ρ : State} (port : Nat) (s : State) (hρ : Steady ρ s) : Steady ρ (portDisable port s) := by
  unfold portDisable
  repeat' first | with_reducible assumption | refine fun _ => ?_ | with_reducible apply steady_setPort | with_reducible apply steady_portLeaves | with_reducible apply Steady.ite | dsimp only | split

theorem steady_bringupTimeout {ρ : State} (port : Nat) (s : State) (hρ : Steady ρ s) : Steady ρ (bringupTimeout port s) := by
  unfold bringupTimeout
  repeat' first | with_reducible assumption | refine fun _ => ?_ | with_reducible apply steady_State_bump | with_reducible apply steady_setPort | with_reducible apply Steady.ite | dsimp only | split

theorem steady_anComplete {ρ : State} (port : Nat) (s : State) (hρ : Steady ρ s) : Steady ρ (anComplete port s) := by
  unfold anComplete
  repeat' first | with_reducible assumption | refine fun _ => ?_ | with_reducible apply steady_setPort | with_reducible apply Steady.ite | dsimp only | split

theorem steady_trainingComplete {ρ : State} (port : Nat) (s : State) (hρ : Steady ρ s) : Steady ρ (trainingComplete port s) := by
  unfold trainingComplete
  repeat' first | with_reducible assumption | refine fun _ => ?_ | with_reducible apply steady_setPort | with_reducible apply Steady.ite | dsimp only | split

theorem steady_portEnterUp {ρ : State} (port : Nat) (s : State) (hρ : Steady ρ s) : Steady ρ (portEnterUp port s) := by
  unfold portEnterUp
  repeat' first | with_reducible assumption | refine fun _ => ?_ | with_reducible apply steady_State_raise | with_reducible apply steady_setPort | with_reducible apply Steady.ite | dsimp only | split

theorem steady_portLinkDown {ρ : State} (port : Nat) (s : State) (hρ : Steady ρ s) : Steady ρ (portLinkDown port s) := by
  unfold portLinkDown
  repeat' first | with_reducible assumption | refine fun _ => ?_ | with_reducible apply steady_setPort | with_reducible apply steady_portLeaves | with_reducible apply Steady.ite | dsimp only | split

theorem steady_laneLock {ρ : State} (lane : Nat) (locked : Bool) (s : State) (hρ : Steady ρ s) : Steady ρ (laneLock lane locked s) := by
  unfold laneLock
  repeat' first | with_reducible assumption | refine fun _ => ?_ | with_reducible apply steady_State_flag | with_reducible apply steady_groupShow | with_reducible apply Steady.ite | dsimp only | split

theorem steady_portFaults {ρ : State} (lane : Nat) (localFault : Bool) (remoteFault : Bool) (s : State) (hρ : Steady ρ s) : Steady ρ (portFaults lane localFault remoteFault s) := by
  unfold portFaults
  repeat' first | with_reducible assumption | refine fun _ => ?_ | with_reducible apply steady_State_flag | dsimp only | split

theorem steady_marginRecal {ρ : State} (lane : Nat) (margin : Nat) (s : State) (hρ : Steady ρ s) : Steady ρ (marginRecal lane margin s) := by
  unfold marginRecal
  repeat' first | with_reducible assumption | refine fun _ => ?_ | with_reducible apply steady_State_put | with_reducible apply steady_testRequest | with_reducible apply Steady.ite | dsimp only | split

theorem steady_sendLookAhead {ρ : State} (port : Nat) (b : Bytes) (s : State) (hρ : Steady ρ s) : Steady ρ (sendLookAhead port b s) := by
  unfold sendLookAhead
  repeat' first | with_reducible assumption | refine fun _ => ?_ | with_reducible apply steady_lookAhead | fail_if_no_progress (with_reducible refine Steady.mk' ?_ ?_ ?_ ?_ ?_ ?_ ?_; iterate 6 first | with_reducible rfl | (unfold setTransit; with_reducible rfl) | (split <;> with_reducible rfl) | (dsimp only; split <;> with_reducible rfl) | (focus (simp; done)) | fail) | with_reducible refine Steady.snd (by with_reducible assumption) ?_ | with_reducible refine Steady.snd2 (by with_reducible assumption) ?_ | with_reducible refine Steady.fst (by with_reducible assumption) ?_ | dsimp only | split

theorem steady_cellTake {ρ : State} (port : Nat) (b : Bytes) (s : State) (hρ : Steady ρ s) : Steady ρ (cellTake port b s) := by
  unfold cellTake
  repeat' first | with_reducible assumption | refine fun _ => ?_ | with_reducible apply steady_pauseCheck | with_reducible apply steady_setFrame | with_reducible apply steady_sendLookAhead | with_reducible apply steady_takeCells | with_reducible apply Steady.ite | fail_if_no_progress (with_reducible refine Steady.mk' ?_ ?_ ?_ ?_ ?_ ?_ ?_; iterate 6 first | with_reducible rfl | (unfold setTransit; with_reducible rfl) | (split <;> with_reducible rfl) | (dsimp only; split <;> with_reducible rfl) | (focus (simp; done)) | fail) | with_reducible refine Steady.snd (by with_reducible assumption) ?_ | with_reducible refine Steady.snd2 (by with_reducible assumption) ?_ | with_reducible refine Steady.fst (by with_reducible assumption) ?_ | with_reducible apply SteadyDone.next | with_reducible apply SteadyDone.fault | with_reducible apply SteadyDone.after | with_reducible apply SteadyDone.ite | with_reducible refine SteadyDone.outNext (by with_reducible assumption) ?_ | with_reducible refine SteadyDone.outFault (by with_reducible assumption) ?_ | with_reducible refine SteadyDone.outAfter (by with_reducible assumption) ?_ | with_reducible apply Steady.id' | dsimp only | split

theorem steady_bindClear {ρ : State} (f : Frame) (act : Nat) (s : State) (hρ : Steady ρ s) : Steady ρ (bindClear f act s) := by
  unfold bindClear
  repeat' first | with_reducible assumption | refine fun _ => ?_ | with_reducible apply steady_deckDrop | with_reducible apply steady_domAdd | with_reducible apply steady_setFrame | with_reducible apply steady_dropUnbound | with_reducible apply steady_makeReady | with_reducible apply steady_cqReceive | with_reducible apply Steady.ite | fail_if_no_progress (with_reducible refine Steady.mk' ?_ ?_ ?_ ?_ ?_ ?_ ?_; iterate 6 first | with_reducible rfl | (unfold setTransit; with_reducible rfl) | (split <;> with_reducible rfl) | (dsimp only; split <;> with_reducible rfl) | (focus (simp; done)) | fail) | dsimp only | split

theorem steady_bindChannel {ρ : State} (f : Frame) (c : Nat) (p : Nat) (tags : Nat) (r : Chan) (s : State) (hρ : Steady ρ s) : Steady ρ (bindChannel f c p tags r s) := by
  unfold bindChannel
  repeat' first | with_reducible assumption | refine fun _ => ?_ | with_reducible apply steady_State_pmcEvent | with_reducible apply steady_addRef | with_reducible apply steady_deckDrop | with_reducible apply steady_domAdd | with_reducible apply steady_setFrame | with_reducible apply steady_dropBound | with_reducible apply steady_dropUnbound | with_reducible apply steady_unitCount | with_reducible apply Steady.ite | fail_if_no_progress (with_reducible refine Steady.mk' ?_ ?_ ?_ ?_ ?_ ?_ ?_; iterate 6 first | with_reducible rfl | (unfold setTransit; with_reducible rfl) | (split <;> with_reducible rfl) | (dsimp only; split <;> with_reducible rfl) | (focus (simp; done)) | fail) | with_reducible refine Steady.snd (by with_reducible assumption) ?_ | with_reducible refine Steady.snd2 (by with_reducible assumption) ?_ | with_reducible refine Steady.fst (by with_reducible assumption) ?_ | dsimp only | split

theorem steady_macControl {ρ : State} (f : Frame) (s : State) (hρ : Steady ρ s) : Steady ρ (macControl f s) := by
  unfold macControl
  repeat' first | with_reducible assumption | refine fun _ => ?_ | with_reducible apply steady_portCount | with_reducible apply steady_dropUnbound | with_reducible apply Steady.ite | fail_if_no_progress (with_reducible refine Steady.mk' ?_ ?_ ?_ ?_ ?_ ?_ ?_; iterate 6 first | with_reducible rfl | (unfold setTransit; with_reducible rfl) | (split <;> with_reducible rfl) | (dsimp only; split <;> with_reducible rfl) | (focus (simp; done)) | fail) | dsimp only | split

theorem steady_pauseExpiry {ρ : State} (port : Nat) (s : State) (hρ : Steady ρ s) : Steady ρ (pauseExpiry port s) := by
  unfold pauseExpiry
  repeat' first | with_reducible assumption | refine fun _ => ?_ | with_reducible apply Steady.ite | fail_if_no_progress (with_reducible refine Steady.mk' ?_ ?_ ?_ ?_ ?_ ?_ ?_; iterate 6 first | with_reducible rfl | (unfold setTransit; with_reducible rfl) | (split <;> with_reducible rfl) | (dsimp only; split <;> with_reducible rfl) | (focus (simp; done)) | fail) | dsimp only | split

theorem steady_frameBind {ρ : State} (port : Nat) (fcsOk : Bool) (fecCorr : Nat) (fecUnc : Nat) (s : State) (hρ : Steady ρ s) : Steady ρ (frameBind port fcsOk fecCorr fecUnc s) := by
  unfold frameBind
  repeat' first | with_reducible assumption | refine fun _ => ?_ | with_reducible apply steady_State_count | with_reducible apply steady_portCount | with_reducible apply steady_deckDrop | with_reducible apply steady_dropUnbound | with_reducible apply steady_bindClear | with_reducible apply steady_bindChannel | with_reducible apply steady_macControl | with_reducible apply Steady.ite | fail_if_no_progress (with_reducible refine Steady.mk' ?_ ?_ ?_ ?_ ?_ ?_ ?_; iterate 6 first | with_reducible rfl | (unfold setTransit; with_reducible rfl) | (split <;> with_reducible rfl) | (dsimp only; split <;> with_reducible rfl) | (focus (simp; done)) | fail) | with_reducible refine Steady.snd (by with_reducible assumption) ?_ | with_reducible refine Steady.snd2 (by with_reducible assumption) ?_ | with_reducible refine Steady.fst (by with_reducible assumption) ?_ | with_reducible apply Steady.id' | dsimp only | split

end Sys2Proof.Machine
end

