-- ==== Sys2Proof/Laws/SteadyResponse.lean ====
section
/-! SUPPORT. What the operations of Machine/Response.lean keep (`Steady`). -/

namespace Sys2Proof.Machine

theorem steady_holdPier {ρ : State} (n : Nat) (s : State) (hρ : Steady ρ s) : Steady ρ (holdPier n s) := by
  unfold holdPier
  repeat' first | with_reducible assumption | refine fun _ => ?_ | with_reducible apply steady_State_put | with_reducible apply steady_State_setCore | with_reducible apply steady_setCoreState | with_reducible apply steady_drainCore | with_reducible apply Steady.ite | fail_if_no_progress (with_reducible refine Steady.mk' ?_ ?_ ?_ ?_ ?_ ?_ ?_; iterate 6 first | with_reducible rfl | (unfold setTransit; with_reducible rfl) | (split <;> with_reducible rfl) | (dsimp only; split <;> with_reducible rfl) | (focus (simp; done)) | fail) | with_reducible apply Steady.id' | dsimp only | split

theorem steady_holdPiers {ρ : State} (s : State) (hρ : Steady ρ s) : Steady ρ (holdPiers s) := by
  unfold holdPiers
  repeat' first | with_reducible assumption | refine fun _ => ?_ | with_reducible apply steady_holdPier | with_reducible apply Steady.each | dsimp only | split

theorem steady_faultJobs {ρ : State} (s : State) (hρ : Steady ρ s) : Steady ρ (faultJobs s) := by
  unfold faultJobs
  repeat' first | with_reducible assumption | refine fun _ => ?_ | with_reducible apply steady_jobStop | with_reducible apply Steady.each | dsimp only | split

theorem steady_haltFlights {ρ : State} (s : State) (hρ : Steady ρ s) : Steady ρ (haltFlights s) := by
  unfold haltFlights
  repeat' first | with_reducible assumption | refine fun _ => ?_ | with_reducible apply steady_completeHost | with_reducible apply Steady.each | dsimp only | split

theorem steady_dropFrames {ρ : State} (s : State) (hρ : Steady ρ s) : Steady ρ (dropFrames s) := by
  unfold dropFrames
  repeat' first | with_reducible assumption | refine fun _ => ?_ | with_reducible apply steady_dropDeck | with_reducible apply Steady.id' | dsimp only | split

theorem steady_stopService {ρ : State} (s : State) (hρ : Steady ρ s) : Steady ρ (stopService s) := by
  unfold stopService
  repeat' first | with_reducible assumption | refine fun _ => ?_ | with_reducible apply steady_keyOpsFault | with_reducible apply steady_holdShow | with_reducible apply steady_faultJobs | with_reducible apply steady_haltFlights | with_reducible apply steady_dropFrames | dsimp only | split

theorem steady_vaultSync {ρ : State} (s : State) (hρ : Steady ρ s) : Steady ρ (vaultSync s) := by
  unfold vaultSync
  repeat' first | with_reducible assumption | refine fun _ => ?_ | with_reducible apply Steady.ite | fail_if_no_progress (with_reducible refine Steady.mk' ?_ ?_ ?_ ?_ ?_ ?_ ?_; iterate 6 first | with_reducible rfl | (unfold setTransit; with_reducible rfl) | (split <;> with_reducible rfl) | (dsimp only; split <;> with_reducible rfl) | (focus (simp; done)) | fail) | with_reducible refine Steady.snd (by with_reducible assumption) ?_ | with_reducible refine Steady.snd2 (by with_reducible assumption) ?_ | with_reducible refine Steady.fst (by with_reducible assumption) ?_ | dsimp only | split

theorem steady_zeroKeys {ρ : State} (s : State) (hρ : Steady ρ s) : Steady ρ (zeroKeys s) := by
  unfold zeroKeys
  repeat' first | with_reducible assumption | refine fun _ => ?_ | with_reducible apply steady_State_wr | with_reducible apply steady_State_put | with_reducible apply steady_keyOpsFault | fail_if_no_progress (with_reducible refine Steady.mk' ?_ ?_ ?_ ?_ ?_ ?_ ?_; iterate 6 first | with_reducible rfl | (unfold setTransit; with_reducible rfl) | (split <;> with_reducible rfl) | (dsimp only; split <;> with_reducible rfl) | (focus (simp; done)) | fail) | with_reducible apply Steady.each | with_reducible refine Steady.snd (by with_reducible assumption) ?_ | with_reducible refine Steady.snd2 (by with_reducible assumption) ?_ | with_reducible refine Steady.fst (by with_reducible assumption) ?_ | with_reducible apply Steady.id' | dsimp only | split

theorem steady_zeroPlates {ρ : State} (s : State) (hρ : Steady ρ s) : Steady ρ (zeroPlates s) := by
  unfold zeroPlates
  repeat' first | with_reducible assumption | refine fun _ => ?_ | with_reducible apply steady_State_setPlate | with_reducible apply steady_changePlate | fail_if_no_progress (with_reducible refine Steady.mk' ?_ ?_ ?_ ?_ ?_ ?_ ?_; iterate 6 first | with_reducible rfl | (unfold setTransit; with_reducible rfl) | (split <;> with_reducible rfl) | (dsimp only; split <;> with_reducible rfl) | (focus (simp; done)) | fail) | with_reducible apply Steady.each | dsimp only | split

theorem steady_zeroGravers {ρ : State} (s : State) (hρ : Steady ρ s) : Steady ρ (zeroGravers s) := by
  unfold zeroGravers
  repeat' first | with_reducible assumption | refine fun _ => ?_ | with_reducible apply steady_State_wr | with_reducible apply steady_State_put | with_reducible apply steady_State_updGrv | fail_if_no_progress (with_reducible refine Steady.mk' ?_ ?_ ?_ ?_ ?_ ?_ ?_; iterate 6 first | with_reducible rfl | (unfold setTransit; with_reducible rfl) | (split <;> with_reducible rfl) | (dsimp only; split <;> with_reducible rfl) | (focus (simp; done)) | fail) | with_reducible apply Steady.each | dsimp only | split

theorem steady_zeroStores {ρ : State} (s : State) (hρ : Steady ρ s) : Steady ρ (zeroStores s) := by
  unfold zeroStores
  repeat' first | with_reducible assumption | refine fun _ => ?_ | with_reducible apply steady_zeroDeck | with_reducible apply steady_dropFrames | with_reducible apply steady_zeroKeys | with_reducible apply steady_zeroPlates | with_reducible apply steady_zeroGravers | dsimp only | split

theorem steady_enterLockdown {ρ : State} (src : Nat) (s : State) (hρ : Steady ρ s) : Steady ρ (enterLockdown src s) := by
  unfold enterLockdown
  repeat' first | with_reducible assumption | refine fun _ => ?_ | with_reducible apply steady_State_raise | with_reducible apply steady_stopService | with_reducible apply Steady.ite | fail_if_no_progress (with_reducible refine Steady.mk' ?_ ?_ ?_ ?_ ?_ ?_ ?_; iterate 6 first | with_reducible rfl | (unfold setTransit; with_reducible rfl) | (split <;> with_reducible rfl) | (dsimp only; split <;> with_reducible rfl) | (focus (simp; done)) | fail) | dsimp only | split

theorem steady_enterErased {ρ : State} (src : Nat) (s : State) (hρ : Steady ρ s) : Steady ρ (enterErased src s) := by
  unfold enterErased
  split
  · exact hρ
  · rename_i hn
    have hn' : s.ppt.erased.isSome = false := by simpa using hn
    have hu : Steady s (faultJobs (enterLockdown src s)) := steady_faultJobs _ (steady_enterLockdown _ _ (Steady.refl s))
    apply steady_certStop
    apply steady_holdShow
    apply steady_entRestart
    apply steady_zeroStores
    refine Steady.each ?_ fun b t h => ?_
    · exact steady_State_raise _ _ _ (Steady.newErased hρ hn' hu rfl rfl rfl)
    · split
      · exact steady_nvaErr _ _ _ (steady_abandon _ _ h)
      · exact steady_nvaErr _ _ _ (steady_abandon _ _ h)
      · exact h


theorem steady_eraseDone {ρ : State} (s : State) (hρ : Steady ρ s) : Steady ρ (eraseDone s) := by
  unfold eraseDone
  repeat' first | with_reducible assumption | refine fun _ => ?_ | with_reducible apply steady_State_put | with_reducible apply Steady.ite | fail_if_no_progress (with_reducible refine Steady.mk' ?_ ?_ ?_ ?_ ?_ ?_ ?_; iterate 6 first | with_reducible rfl | (unfold setTransit; with_reducible rfl) | (split <;> with_reducible rfl) | (dsimp only; split <;> with_reducible rfl) | (focus (simp; done)) | fail) | dsimp only | split

theorem steady_eraseTick {ρ : State} (s : State) (hρ : Steady ρ s) : Steady ρ (eraseTick s) := by
  unfold eraseTick
  repeat' first | with_reducible assumption | refine fun _ => ?_ | with_reducible apply steady_eraseDone | with_reducible apply Steady.ite | fail_if_no_progress (with_reducible refine Steady.mk' ?_ ?_ ?_ ?_ ?_ ?_ ?_; iterate 6 first | with_reducible rfl | (unfold setTransit; with_reducible rfl) | (split <;> with_reducible rfl) | (dsimp only; split <;> with_reducible rfl) | (focus (simp; done)) | fail) | with_reducible refine Steady.snd (by with_reducible assumption) ?_ | with_reducible refine Steady.snd2 (by with_reducible assumption) ?_ | with_reducible refine Steady.fst (by with_reducible assumption) ?_ | with_reducible apply SteadyDone.next | with_reducible apply SteadyDone.fault | with_reducible apply SteadyDone.after | with_reducible apply SteadyDone.ite | with_reducible refine SteadyDone.outNext (by with_reducible assumption) ?_ | with_reducible refine SteadyDone.outFault (by with_reducible assumption) ?_ | with_reducible refine SteadyDone.outAfter (by with_reducible assumption) ?_ | dsimp only | split

theorem steady_parapetResponse {ρ : State} (s : State) (hρ : Steady ρ s) : Steady ρ (parapetResponse s) := by
  unfold parapetResponse
  repeat' first | with_reducible assumption | refine fun _ => ?_ | with_reducible apply steady_State_raise | with_reducible apply steady_pptShow | with_reducible apply steady_trecTake | with_reducible apply steady_pptCountLatch | with_reducible apply steady_enterLockdown | with_reducible apply steady_enterErased | with_reducible apply Steady.ite | fail_if_no_progress (with_reducible refine Steady.mk' ?_ ?_ ?_ ?_ ?_ ?_ ?_; iterate 6 first | with_reducible rfl | (unfold setTransit; with_reducible rfl) | (split <;> with_reducible rfl) | (dsimp only; split <;> with_reducible rfl) | (focus (simp; done)) | fail) | with_reducible apply Steady.each | with_reducible refine Steady.snd (by with_reducible assumption) ?_ | with_reducible refine Steady.snd2 (by with_reducible assumption) ?_ | with_reducible refine Steady.fst (by with_reducible assumption) ?_ | dsimp only | split

theorem steady_safeHold {ρ : State} (s : State) (hρ : Steady ρ s) : Steady ρ (safeHold s) := by
  unfold safeHold
  split
  · rename_i c hd hn
    apply steady_pptShow
    apply steady_pptFire
    apply steady_reserveRecord
    apply steady_stopService
    apply steady_holdPiers
    apply steady_setCoreState
    apply steady_drainCore
    exact Steady.newHold hρ hd hn rfl rfl rfl rfl rfl rfl rfl
  · exact Steady.dropDue hρ rfl rfl rfl rfl rfl rfl rfl
  · exact hρ


end Sys2Proof.Machine
end

