-- ==== Sys2Proof/Laws/SteadyTestPlan.lean ====
section
/-! SUPPORT. What the operations of Machine/TestPlan.lean keep (`Steady`). -/

namespace Sys2Proof.Machine

theorem steady_testDefer {ρ : State} (s : State) (hρ : Steady ρ s) : Steady ρ (testDefer s) := by
  unfold testDefer
  repeat' first | with_reducible assumption | refine fun _ => ?_ | with_reducible apply steady_State_bump | dsimp only | split

theorem steady_testCell {ρ : State} (c : Nat) (s : State) (hρ : Steady ρ s) : Steady ρ (testCell c s) := by
  unfold testCell
  repeat' first | with_reducible assumption | refine fun _ => ?_ | with_reducible apply steady_State_pmcEvent | with_reducible apply Steady.ite | dsimp only | split

theorem steady_setProgress {ρ : State} (c : Nat) (k : Nat) (p : Nat) (s : State) (hρ : Steady ρ s) : Steady ρ (setProgress c k p s) := by
  unfold setProgress
  repeat' first | with_reducible assumption | refine fun _ => ?_ | fail_if_no_progress (with_reducible refine Steady.mk' ?_ ?_ ?_ ?_ ?_ ?_ ?_; iterate 6 first | with_reducible rfl | (unfold setTransit; with_reducible rfl) | (split <;> with_reducible rfl) | (dsimp only; split <;> with_reducible rfl) | (focus (simp; done)) | fail) | dsimp only | split

theorem steady_clearProgress {ρ : State} (c : Nat) (s : State) (hρ : Steady ρ s) : Steady ρ (clearProgress c s) := by
  unfold clearProgress
  repeat' first | with_reducible assumption | refine fun _ => ?_ | fail_if_no_progress (with_reducible refine Steady.mk' ?_ ?_ ?_ ?_ ?_ ?_ ?_; iterate 6 first | with_reducible rfl | (unfold setTransit; with_reducible rfl) | (split <;> with_reducible rfl) | (dsimp only; split <;> with_reducible rfl) | (focus (simp; done)) | fail) | dsimp only | split

theorem steady_stepOf {ρ : State} (c : Nat) (k : Nat) (pass : Bool) (ends : Bool → State → State) (s : State) (hends : ∀ x0 x1, Steady ρ x1 → Steady ρ (ends x0 x1)) (hρ : Steady ρ s) : Steady ρ (stepOf c k pass ends s) := by
  unfold stepOf
  repeat' first | with_reducible assumption | refine fun _ => ?_ | with_reducible apply hends | with_reducible apply steady_testDone | with_reducible apply steady_setProgress | with_reducible apply steady_clearProgress | with_reducible apply Steady.ite | fail_if_no_progress (with_reducible refine Steady.mk' ?_ ?_ ?_ ?_ ?_ ?_ ?_; iterate 6 first | with_reducible rfl | (unfold setTransit; with_reducible rfl) | (split <;> with_reducible rfl) | (dsimp only; split <;> with_reducible rfl) | (focus (simp; done)) | fail) | with_reducible refine Steady.snd (by with_reducible assumption) ?_ | with_reducible refine Steady.snd2 (by with_reducible assumption) ?_ | with_reducible refine Steady.fst (by with_reducible assumption) ?_ | with_reducible apply SteadyDone.next | with_reducible apply SteadyDone.fault | with_reducible apply SteadyDone.after | with_reducible apply SteadyDone.ite | with_reducible refine SteadyDone.outNext (by with_reducible assumption) ?_ | with_reducible refine SteadyDone.outFault (by with_reducible assumption) ?_ | with_reducible refine SteadyDone.outAfter (by with_reducible assumption) ?_ | dsimp only | split

theorem steady_spanTestCover {ρ : State} (n : Nat) (s : State) (hρ : Steady ρ s) : Steady ρ (spanTestCover n s) := by
  unfold spanTestCover
  repeat' first | with_reducible assumption | refine fun _ => ?_ | with_reducible apply steady_State_raise | with_reducible apply steady_swLoseAck | with_reducible apply steady_coverSpan | with_reducible apply Steady.ite | dsimp only | split

theorem steady_spanTestStep {ρ : State} (n : Nat) (k : Nat) (pass : Bool) (s : State) (hρ : Steady ρ s) : Steady ρ (spanTestStep n k pass s) := by
  unfold spanTestStep
  repeat' first | with_reducible assumption | refine fun _ => ?_ | with_reducible apply steady_testDefer | with_reducible apply steady_stepOf | with_reducible apply Steady.ite | fail_if_no_progress (with_reducible refine Steady.mk' ?_ ?_ ?_ ?_ ?_ ?_ ?_; iterate 6 first | with_reducible rfl | (unfold setTransit; with_reducible rfl) | (split <;> with_reducible rfl) | (dsimp only; split <;> with_reducible rfl) | (focus (simp; done)) | fail) | dsimp only | split

theorem steady_graverTestStep {ρ : State} (n : Nat) (k : Nat) (pass : Bool) (s : State) (hρ : Steady ρ s) : Steady ρ (graverTestStep n k pass s) := by
  unfold graverTestStep
  repeat' first | with_reducible assumption | refine fun _ => ?_ | with_reducible apply steady_testDone | with_reducible apply steady_jobStop | with_reducible apply steady_drainGraver | with_reducible apply steady_grvTestEnd | with_reducible apply Steady.ite | with_reducible apply SteadyDone.next | with_reducible apply SteadyDone.fault | with_reducible apply SteadyDone.after | with_reducible apply SteadyDone.ite | with_reducible refine SteadyDone.outNext (by with_reducible assumption) ?_ | with_reducible refine SteadyDone.outFault (by with_reducible assumption) ?_ | with_reducible refine SteadyDone.outAfter (by with_reducible assumption) ?_ | dsimp only | split

theorem steady_pierOut {ρ : State} (n : Nat) (p : Nat) (s : State) (hρ : Steady ρ s) : Steady ρ (pierOut n p s) := by
  unfold pierOut
  repeat' first | with_reducible assumption | refine fun _ => ?_ | with_reducible apply steady_callWithdraw | with_reducible apply steady_spareTakes | with_reducible apply steady_holdPier | dsimp only | split

theorem steady_pierTested {ρ : State} (n : Nat) (pass : Bool) (s : State) (hρ : Steady ρ s) : Steady ρ (pierTested n pass s) := by
  unfold pierTested
  repeat' first | with_reducible assumption | refine fun _ => ?_ | with_reducible apply steady_State_setCore | with_reducible apply steady_setCoreState | with_reducible apply Steady.ite | fail_if_no_progress (with_reducible refine Steady.mk' ?_ ?_ ?_ ?_ ?_ ?_ ?_; iterate 6 first | with_reducible rfl | (unfold setTransit; with_reducible rfl) | (split <;> with_reducible rfl) | (dsimp only; split <;> with_reducible rfl) | (focus (simp; done)) | fail) | dsimp only | split

theorem steady_pierTestStep {ρ : State} (n : Nat) (k : Nat) (pass : Bool) (s : State) (hρ : Steady ρ s) : Steady ρ (pierTestStep n k pass s) := by
  unfold pierTestStep
  repeat' first | with_reducible assumption | refine fun _ => ?_ | with_reducible apply steady_swLoseAck | with_reducible apply steady_testDefer | with_reducible apply steady_stepOf | with_reducible apply steady_pierOut | with_reducible apply steady_pierTested | with_reducible apply Steady.ite | fail_if_no_progress (with_reducible refine Steady.mk' ?_ ?_ ?_ ?_ ?_ ?_ ?_; iterate 6 first | with_reducible rfl | (unfold setTransit; with_reducible rfl) | (split <;> with_reducible rfl) | (dsimp only; split <;> with_reducible rfl) | (focus (simp; done)) | fail) | with_reducible refine Steady.snd (by with_reducible assumption) ?_ | with_reducible refine Steady.snd2 (by with_reducible assumption) ?_ | with_reducible refine Steady.fst (by with_reducible assumption) ?_ | dsimp only | split

theorem steady_sdcTestStep {ρ : State} (c : Nat) (k : Nat) (pass : Bool) (s : State) (hρ : Steady ρ s) : Steady ρ (sdcTestStep c k pass s) := by
  unfold sdcTestStep
  repeat' first | with_reducible assumption | refine fun _ => ?_ | with_reducible apply steady_State_put | with_reducible apply steady_State_raise | with_reducible apply steady_testDone | with_reducible apply steady_setProgress | with_reducible apply Steady.ite | with_reducible apply Steady.onlyIf | with_reducible apply SteadyDone.next | with_reducible apply SteadyDone.fault | with_reducible apply SteadyDone.after | with_reducible apply SteadyDone.ite | with_reducible refine SteadyDone.outNext (by with_reducible assumption) ?_ | with_reducible refine SteadyDone.outFault (by with_reducible assumption) ?_ | with_reducible refine SteadyDone.outAfter (by with_reducible assumption) ?_ | dsimp only | split

theorem steady_sdcRetrainDone {ρ : State} (c : Nat) (pass : Bool) (s : State) (hρ : Steady ρ s) : Steady ρ (sdcRetrainDone c pass s) := by
  unfold sdcRetrainDone
  repeat' first | with_reducible assumption | refine fun _ => ?_ | with_reducible apply steady_State_put | with_reducible apply steady_State_raise | with_reducible apply steady_clearProgress | with_reducible apply Steady.ite | fail_if_no_progress (with_reducible refine Steady.mk' ?_ ?_ ?_ ?_ ?_ ?_ ?_; iterate 6 first | with_reducible rfl | (unfold setTransit; with_reducible rfl) | (split <;> with_reducible rfl) | (dsimp only; split <;> with_reducible rfl) | (focus (simp; done)) | fail) | with_reducible refine Steady.snd (by with_reducible assumption) ?_ | with_reducible refine Steady.snd2 (by with_reducible assumption) ?_ | with_reducible refine Steady.fst (by with_reducible assumption) ?_ | dsimp only | split

theorem steady_nvaTestStep {ρ : State} (b : Nat) (k : Nat) (s : State) (hρ : Steady ρ s) : Steady ρ (nvaTestStep b k s) := by
  unfold nvaTestStep
  repeat' first | with_reducible assumption | refine fun _ => ?_ | with_reducible apply steady_testDone | with_reducible apply steady_testDefer | with_reducible apply Steady.ite | with_reducible apply SteadyDone.next | with_reducible apply SteadyDone.fault | with_reducible apply SteadyDone.after | with_reducible apply SteadyDone.ite | with_reducible refine SteadyDone.outNext (by with_reducible assumption) ?_ | with_reducible refine SteadyDone.outFault (by with_reducible assumption) ?_ | with_reducible refine SteadyDone.outAfter (by with_reducible assumption) ?_ | dsimp only | split

theorem steady_laneCal {ρ : State} (l : Nat) (on : Bool) (s : State) (hρ : Steady ρ s) : Steady ρ (laneCal l on s) := by
  unfold laneCal
  repeat' first | with_reducible assumption | refine fun _ => ?_ | with_reducible apply steady_State_flag | with_reducible apply Steady.ite | dsimp only | split

theorem steady_deviceTestStep {ρ : State} (k : Nat) (pass : Bool) (s : State) (hρ : Steady ρ s) : Steady ρ (deviceTestStep k pass s) := by
  unfold deviceTestStep
  repeat' first | with_reducible assumption | refine fun _ => ?_ | with_reducible apply steady_State_raise | with_reducible apply steady_testDone | with_reducible apply steady_sourceTestBegin | with_reducible apply steady_katEnd | with_reducible apply steady_testDefer | with_reducible apply steady_laneCal | with_reducible apply Steady.ite | fail_if_no_progress (with_reducible refine Steady.mk' ?_ ?_ ?_ ?_ ?_ ?_ ?_; iterate 6 first | with_reducible rfl | (unfold setTransit; with_reducible rfl) | (split <;> with_reducible rfl) | (dsimp only; split <;> with_reducible rfl) | (focus (simp; done)) | fail) | with_reducible apply SteadyDone.next | with_reducible apply SteadyDone.fault | with_reducible apply SteadyDone.after | with_reducible apply SteadyDone.ite | with_reducible refine SteadyDone.outNext (by with_reducible assumption) ?_ | with_reducible refine SteadyDone.outFault (by with_reducible assumption) ?_ | with_reducible refine SteadyDone.outAfter (by with_reducible assumption) ?_ | dsimp only | split

theorem steady_testStep {ρ : State} (c : Nat) (pass : Bool) (s : State) (hρ : Steady ρ s) : Steady ρ (testStep c pass s) := by
  unfold testStep
  repeat' first | with_reducible assumption | refine fun _ => ?_ | with_reducible apply steady_testCell | with_reducible apply steady_spanTestStep | with_reducible apply steady_graverTestStep | with_reducible apply steady_pierTestStep | with_reducible apply steady_sdcTestStep | with_reducible apply steady_nvaTestStep | with_reducible apply steady_deviceTestStep | with_reducible apply Steady.ite | fail_if_no_progress (with_reducible refine Steady.mk' ?_ ?_ ?_ ?_ ?_ ?_ ?_; iterate 6 first | with_reducible rfl | (unfold setTransit; with_reducible rfl) | (split <;> with_reducible rfl) | (dsimp only; split <;> with_reducible rfl) | (focus (simp; done)) | fail) | with_reducible refine Steady.snd (by with_reducible assumption) ?_ | with_reducible refine Steady.snd2 (by with_reducible assumption) ?_ | with_reducible refine Steady.fst (by with_reducible assumption) ?_ | dsimp only | split

theorem steady_testBoundary {ρ : State} (s : State) (hρ : Steady ρ s) : Steady ρ (testBoundary s) := by
  unfold testBoundary
  repeat' first | with_reducible assumption | refine fun _ => ?_ | with_reducible apply steady_laneCal | fail_if_no_progress (with_reducible refine Steady.mk' ?_ ?_ ?_ ?_ ?_ ?_ ?_; iterate 6 first | with_reducible rfl | (unfold setTransit; with_reducible rfl) | (split <;> with_reducible rfl) | (dsimp only; split <;> with_reducible rfl) | (focus (simp; done)) | fail) | with_reducible apply Steady.each | dsimp only | split

theorem steady_sdcCalibration {ρ : State} (c : Nat) (s : State) (hρ : Steady ρ s) : Steady ρ (sdcCalibration c s) := by
  unfold sdcCalibration
  repeat' first | with_reducible assumption | refine fun _ => ?_ | with_reducible apply steady_testRequest | with_reducible apply Steady.ite | fail_if_no_progress (with_reducible refine Steady.mk' ?_ ?_ ?_ ?_ ?_ ?_ ?_; iterate 6 first | with_reducible rfl | (unfold setTransit; with_reducible rfl) | (split <;> with_reducible rfl) | (dsimp only; split <;> with_reducible rfl) | (focus (simp; done)) | fail) | dsimp only | split

end Sys2Proof.Machine
end

