-- ==== Sys2Proof/Laws/SteadyTransit.lean ====
section
/-! SUPPORT. What the operations of Machine/Transit.lean keep (`Steady`). -/

namespace Sys2Proof.Machine

theorem steady_stepBegins {ρ : State} (k : Nat) (s : State) (hρ : Steady ρ s) : Steady ρ (stepBegins k s) := by
  unfold stepBegins
  repeat' first | with_reducible assumption | refine fun _ => ?_ | with_reducible apply steady_stepOne | with_reducible apply steady_zeroStores | fail_if_no_progress (with_reducible refine Steady.mk' ?_ ?_ ?_ ?_ ?_ ?_ ?_; iterate 6 first | with_reducible rfl | (unfold setTransit; with_reducible rfl) | (split <;> with_reducible rfl) | (dsimp only; split <;> with_reducible rfl) | (focus (simp; done)) | fail) | with_reducible refine Steady.snd (by with_reducible assumption) ?_ | with_reducible refine Steady.snd2 (by with_reducible assumption) ?_ | with_reducible refine Steady.fst (by with_reducible assumption) ?_ | dsimp only | split

theorem steady_stepEnds {ρ : State} (k : Nat) (s : State) (hρ : Steady ρ s) : Steady ρ (stepEnds k s) := by
  unfold stepEnds
  repeat' first | with_reducible assumption | refine fun _ => ?_ | with_reducible apply steady_stepOne | with_reducible apply steady_eraseClass | fail_if_no_progress (with_reducible refine Steady.mk' ?_ ?_ ?_ ?_ ?_ ?_ ?_; iterate 6 first | with_reducible rfl | (unfold setTransit; with_reducible rfl) | (split <;> with_reducible rfl) | (dsimp only; split <;> with_reducible rfl) | (focus (simp; done)) | fail) | with_reducible refine Steady.snd (by with_reducible assumption) ?_ | with_reducible refine Steady.snd2 (by with_reducible assumption) ?_ | with_reducible refine Steady.fst (by with_reducible assumption) ?_ | dsimp only | split

theorem steady_markStep {ρ : State} (r : Nat) (k : Nat) (s : State) (hρ : Steady ρ s) : Steady ρ (markStep r k s) := by
  unfold markStep
  repeat' first | with_reducible assumption | refine fun _ => ?_ | with_reducible apply steady_State_put | with_reducible apply steady_logBoth | dsimp only | split

theorem steady_setTransit {ρ : State} (t : Transit) (s : State) (hρ : Steady ρ s) : Steady ρ (setTransit t s) := by
  unfold setTransit
  repeat' first | with_reducible assumption | refine fun _ => ?_ | fail_if_no_progress (with_reducible refine Steady.mk' ?_ ?_ ?_ ?_ ?_ ?_ ?_; iterate 6 first | with_reducible rfl | (unfold setTransit; with_reducible rfl) | (split <;> with_reducible rfl) | (dsimp only; split <;> with_reducible rfl) | (focus (simp; done)) | fail) | dsimp only | split

theorem steady_provisionKeys {ρ : State} (s : State) (hρ : Steady ρ s) : Steady ρ (provisionKeys s) := by
  unfold provisionKeys
  repeat' first | with_reducible assumption | refine fun _ => ?_ | with_reducible apply steady_State_useFree | with_reducible apply steady_enroll | fail_if_no_progress (with_reducible refine Steady.mk' ?_ ?_ ?_ ?_ ?_ ?_ ?_; iterate 6 first | with_reducible rfl | (unfold setTransit; with_reducible rfl) | (split <;> with_reducible rfl) | (dsimp only; split <;> with_reducible rfl) | (focus (simp; done)) | fail) | with_reducible apply Steady.each | with_reducible refine Steady.snd (by with_reducible assumption) ?_ | with_reducible refine Steady.snd2 (by with_reducible assumption) ?_ | with_reducible refine Steady.fst (by with_reducible assumption) ?_ | dsimp only | split

theorem steady_transitNext {ρ : State} (t : Transit) (s : State) (hρ : Steady ρ s) : Steady ρ (transitNext t s) := by
  unfold transitNext
  repeat' first | with_reducible assumption | refine fun _ => ?_ | with_reducible apply steady_State_raise | with_reducible apply steady_stepBegins | with_reducible apply steady_setTransit | with_reducible apply steady_provisionKeys | with_reducible apply Steady.ite | fail_if_no_progress (with_reducible refine Steady.mk' ?_ ?_ ?_ ?_ ?_ ?_ ?_; iterate 6 first | with_reducible rfl | (unfold setTransit; with_reducible rfl) | (split <;> with_reducible rfl) | (dsimp only; split <;> with_reducible rfl) | (focus (simp; done)) | fail) | with_reducible refine Steady.snd (by with_reducible assumption) ?_ | with_reducible refine Steady.snd2 (by with_reducible assumption) ?_ | with_reducible refine Steady.fst (by with_reducible assumption) ?_ | dsimp only | split

theorem steady_writeDeviceId {ρ : State} (s : State) (hρ : Steady ρ s) : Steady ρ (writeDeviceId s) := by
  unfold writeDeviceId
  repeat' first | with_reducible assumption | refine fun _ => ?_ | with_reducible apply steady_State_wr | with_reducible apply steady_State_useFree | with_reducible apply Steady.each | with_reducible refine Steady.snd (by with_reducible assumption) ?_ | with_reducible refine Steady.snd2 (by with_reducible assumption) ?_ | with_reducible refine Steady.fst (by with_reducible assumption) ?_ | dsimp only | split

theorem steady_transitStep {ρ : State} (s : State) (hρ : Steady ρ s) : Steady ρ (transitStep s) := by
  unfold transitStep
  repeat' first | with_reducible assumption | refine fun _ => ?_ | with_reducible apply steady_logBoth | with_reducible apply steady_programCopies | with_reducible apply steady_stepEnds | with_reducible apply steady_markStep | with_reducible apply steady_setTransit | with_reducible apply steady_transitNext | with_reducible apply steady_writeDeviceId | with_reducible apply Steady.ite | fail_if_no_progress (with_reducible refine Steady.mk' ?_ ?_ ?_ ?_ ?_ ?_ ?_; iterate 6 first | with_reducible rfl | (unfold setTransit; with_reducible rfl) | (split <;> with_reducible rfl) | (dsimp only; split <;> with_reducible rfl) | (focus (simp; done)) | fail) | with_reducible refine Steady.snd (by with_reducible assumption) ?_ | with_reducible refine Steady.snd2 (by with_reducible assumption) ?_ | with_reducible refine Steady.fst (by with_reducible assumption) ?_ | dsimp only | split

theorem steady_provisionTimeout {ρ : State} (s : State) (hρ : Steady ρ s) : Steady ρ (provisionTimeout s) := by
  unfold provisionTimeout
  repeat' first | with_reducible assumption | refine fun _ => ?_ | with_reducible apply steady_abandon | with_reducible apply steady_stepOne | with_reducible apply steady_setTransit | with_reducible apply Steady.ite | fail_if_no_progress (with_reducible refine Steady.mk' ?_ ?_ ?_ ?_ ?_ ?_ ?_; iterate 6 first | with_reducible rfl | (unfold setTransit; with_reducible rfl) | (split <;> with_reducible rfl) | (dsimp only; split <;> with_reducible rfl) | (focus (simp; done)) | fail) | with_reducible refine Steady.snd (by with_reducible assumption) ?_ | with_reducible refine Steady.snd2 (by with_reducible assumption) ?_ | with_reducible refine Steady.fst (by with_reducible assumption) ?_ | dsimp only | split

theorem steady_transitionMode {ρ : State} (s : State) (hρ : Steady ρ s) : Steady ρ (transitionMode s) := by
  unfold transitionMode
  repeat' first | with_reducible assumption | refine fun _ => ?_ | with_reducible apply steady_State_raise | with_reducible apply steady_abandon | with_reducible apply steady_certStop | with_reducible apply steady_holdPiers | with_reducible apply steady_stopService | with_reducible apply steady_setTransit | fail_if_no_progress (with_reducible refine Steady.mk' ?_ ?_ ?_ ?_ ?_ ?_ ?_; iterate 6 first | with_reducible rfl | (unfold setTransit; with_reducible rfl) | (split <;> with_reducible rfl) | (dsimp only; split <;> with_reducible rfl) | (focus (simp; done)) | fail) | with_reducible apply Steady.each | with_reducible refine Steady.snd (by with_reducible assumption) ?_ | with_reducible refine Steady.snd2 (by with_reducible assumption) ?_ | with_reducible refine Steady.fst (by with_reducible assumption) ?_ | dsimp only | split

theorem steady_resumeStep {ρ : State} (r : Nat) (k : Nat) (s : State) (hρ : Steady ρ s) : Steady ρ (resumeStep r k s) := by
  unfold resumeStep
  repeat' first | with_reducible assumption | refine fun _ => ?_ | with_reducible apply steady_stepBegins | with_reducible apply steady_stepEnds | with_reducible apply steady_markStep | with_reducible apply Steady.ite | dsimp only | split

theorem steady_resumeTransition {ρ : State} (r : Nat) (s : State) (hρ : Steady ρ s) : Steady ρ (resumeTransition r s) := by
  unfold resumeTransition
  repeat' first | with_reducible assumption | refine fun _ => ?_ | with_reducible apply steady_programCopies | with_reducible apply steady_stepBegins | with_reducible apply steady_stepEnds | with_reducible apply steady_markStep | with_reducible apply steady_resumeStep | with_reducible apply Steady.ite | fail_if_no_progress (with_reducible refine Steady.mk' ?_ ?_ ?_ ?_ ?_ ?_ ?_; iterate 6 first | with_reducible rfl | (unfold setTransit; with_reducible rfl) | (split <;> with_reducible rfl) | (dsimp only; split <;> with_reducible rfl) | (focus (simp; done)) | fail) | with_reducible apply Steady.each | with_reducible refine Steady.snd (by with_reducible assumption) ?_ | with_reducible refine Steady.snd2 (by with_reducible assumption) ?_ | with_reducible refine Steady.fst (by with_reducible assumption) ?_ | dsimp only | split

end Sys2Proof.Machine
end

