-- ==== Sys2Proof/Laws/SteadyBoundary.lean ====
section
/-! SUPPORT. What the operations of Machine/Boundary.lean keep (`Steady`). -/

namespace Sys2Proof.Machine

theorem steady_boundaryClear {ρ : State} (s : State) (hρ : Steady ρ s) : Steady ρ (boundaryClear s) := by
  unfold boundaryClear
  repeat' first | with_reducible assumption | refine fun _ => ?_ | with_reducible apply steady_testBoundary | with_reducible apply Steady.ite | fail_if_no_progress (with_reducible refine Steady.mk' ?_ ?_ ?_ ?_ ?_ ?_ ?_; iterate 6 first | with_reducible rfl | (unfold setTransit; with_reducible rfl) | (split <;> with_reducible rfl) | (dsimp only; split <;> with_reducible rfl) | (focus (simp; done)) | fail) | dsimp only | split

theorem steady_coreBoundary {ρ : State} (n : Nat) (s : State) (hρ : Steady ρ s) : Steady ρ (coreBoundary n s) := by
  unfold coreBoundary
  repeat' first | with_reducible assumption | refine fun _ => ?_ | with_reducible apply steady_State_setCore | with_reducible apply steady_coreHold | with_reducible apply steady_drainCore | fail_if_no_progress (with_reducible refine Steady.mk' ?_ ?_ ?_ ?_ ?_ ?_ ?_; iterate 6 first | with_reducible rfl | (unfold setTransit; with_reducible rfl) | (split <;> with_reducible rfl) | (dsimp only; split <;> with_reducible rfl) | (focus (simp; done)) | fail) | with_reducible apply Steady.id' | dsimp only | split

theorem steady_boundaryGuard {ρ : State} (s : State) (hρ : Steady ρ s) : Steady ρ (boundaryGuard s) := by
  unfold boundaryGuard
  repeat' first | with_reducible assumption | refine fun _ => ?_ | with_reducible apply steady_pptRelease | with_reducible apply steady_certBoundary | with_reducible apply steady_eraseTick | with_reducible apply steady_parapetResponse | with_reducible apply steady_safeHold | with_reducible apply steady_transitStep | with_reducible apply steady_provisionTimeout | with_reducible apply steady_transitionMode | dsimp only | split

theorem steady_checkTick {ρ : State} (s : State) (hρ : Steady ρ s) : Steady ρ (checkTick s) := by
  unfold checkTick
  repeat' first | with_reducible assumption | refine fun _ => ?_ | with_reducible apply steady_planCheckEnd | with_reducible apply Steady.ite | fail_if_no_progress (with_reducible refine Steady.mk' ?_ ?_ ?_ ?_ ?_ ?_ ?_; iterate 6 first | with_reducible rfl | (unfold setTransit; with_reducible rfl) | (split <;> with_reducible rfl) | (dsimp only; split <;> with_reducible rfl) | (focus (simp; done)) | fail) | with_reducible refine Steady.snd (by with_reducible assumption) ?_ | with_reducible refine Steady.snd2 (by with_reducible assumption) ?_ | with_reducible refine Steady.fst (by with_reducible assumption) ?_ | dsimp only | split

theorem steady_keptOnly {ρ : State} (s : State) (hρ : Steady ρ s) : Steady ρ (keptOnly s) := by
  unfold keptOnly
  repeat' first | with_reducible assumption | refine fun _ => ?_ | fail_if_no_progress (with_reducible refine Steady.mk' ?_ ?_ ?_ ?_ ?_ ?_ ?_; iterate 6 first | with_reducible rfl | (unfold setTransit; with_reducible rfl) | (split <;> with_reducible rfl) | (dsimp only; split <;> with_reducible rfl) | (focus (simp; done)) | fail) | dsimp only | split

theorem steady_boundaryEnds {ρ : State} (k : Nat) (s : State) (hρ : Steady ρ s) : Steady ρ (boundaryEnds k s) := by
  unfold boundaryEnds
  repeat' first | with_reducible assumption | refine fun _ => ?_ | with_reducible apply steady_freeObject | with_reducible apply steady_jobFinish | with_reducible apply steady_missLate | with_reducible apply steady_recycleComplete | with_reducible apply steady_snapshotTake | with_reducible apply steady_drainDone | with_reducible apply steady_trussFree | with_reducible apply steady_spanTestReturn | with_reducible apply steady_batchRelease | with_reducible apply steady_nvaEnds | with_reducible apply steady_agreementRetry | with_reducible apply steady_viaductBoundary | with_reducible apply steady_ledgerBoundary | with_reducible apply steady_keyBoundary | with_reducible apply steady_tenantEraseComplete | with_reducible apply steady_proceedAll | with_reducible apply steady_coreResetDone | with_reducible apply steady_pclrDone | with_reducible apply steady_digDone | with_reducible apply steady_kcallRelease | with_reducible apply steady_coreBoundary | with_reducible apply steady_checkTick | with_reducible apply steady_keptOnly | with_reducible apply steady_ledgerFollows | with_reducible apply Steady.each | with_reducible apply SteadyDone.next | with_reducible apply SteadyDone.fault | with_reducible apply SteadyDone.after | with_reducible apply SteadyDone.ite | with_reducible refine SteadyDone.outNext (by with_reducible assumption) ?_ | with_reducible refine SteadyDone.outFault (by with_reducible assumption) ?_ | with_reducible refine SteadyDone.outAfter (by with_reducible assumption) ?_ | dsimp only | split

theorem steady_boundaryAborts {ρ : State} (s : State) (hρ : Steady ρ s) : Steady ρ (boundaryAborts s) := by
  unfold boundaryAborts
  repeat' first | with_reducible assumption | refine fun _ => ?_ | with_reducible apply steady_quorumExpire | with_reducible apply steady_jobAbortNow | with_reducible apply steady_clrBoundary | with_reducible apply steady_iccBoundary | with_reducible apply steady_rmcBoundary | with_reducible apply steady_abortsDecide | with_reducible apply steady_containerMake | with_reducible apply steady_flrTake | with_reducible apply Steady.each | dsimp only | split

theorem steady_boundarySwitches {ρ : State} (s : State) (hρ : Steady ρ s) : Steady ρ (boundarySwitches s) := by
  unfold boundarySwitches
  repeat' first | with_reducible assumption | refine fun _ => ?_ | with_reducible apply steady_State_put | with_reducible apply steady_cancelSlot | with_reducible apply steady_switchDecision | with_reducible apply Steady.ite | fail_if_no_progress (with_reducible refine Steady.mk' ?_ ?_ ?_ ?_ ?_ ?_ ?_; iterate 6 first | with_reducible rfl | (unfold setTransit; with_reducible rfl) | (split <;> with_reducible rfl) | (dsimp only; split <;> with_reducible rfl) | (focus (simp; done)) | fail) | with_reducible apply Steady.each | dsimp only | split

theorem steady_boundaryContent {ρ : State} (s : State) (hρ : Steady ρ s) : Steady ρ (boundaryContent s) := by
  unfold boundaryContent
  repeat' first | with_reducible assumption | refine fun _ => ?_ | with_reducible apply steady_leavePinned | with_reducible apply steady_spanFaultCover | with_reducible apply steady_spnSwapEffect | with_reducible apply steady_portStart | with_reducible apply steady_groupModeChange | with_reducible apply steady_portDisable | with_reducible apply steady_bringupTimeout | with_reducible apply steady_contentEffect | with_reducible apply steady_spanTestCover | with_reducible apply steady_applianceBoundary | with_reducible apply Steady.each | with_reducible apply SteadyDone.next | with_reducible apply SteadyDone.fault | with_reducible apply SteadyDone.after | with_reducible apply SteadyDone.ite | with_reducible refine SteadyDone.outNext (by with_reducible assumption) ?_ | with_reducible refine SteadyDone.outFault (by with_reducible assumption) ?_ | with_reducible refine SteadyDone.outAfter (by with_reducible assumption) ?_ | dsimp only | split

theorem steady_boundaryCells {ρ : State} (s : State) (hρ : Steady ρ s) : Steady ρ (boundaryCells s) := by
  unfold boundaryCells
  repeat' first | with_reducible assumption | refine fun _ => ?_ | with_reducible apply steady_taskPromote | with_reducible apply steady_scoreHalving | with_reducible apply steady_pauseRepeat | with_reducible apply steady_ageOut | with_reducible apply steady_pauseExpiry | with_reducible apply steady_entBoundary | with_reducible apply steady_lampBoundary | with_reducible apply steady_sdcCalibration | with_reducible apply Steady.each | dsimp only | split

theorem steady_fetchCells {ρ : State} (c : Nat) (s : State) (hρ : Steady ρ s) : Steady ρ (fetchCells c s) := by
  unfold fetchCells
  repeat' first | with_reducible assumption | refine fun _ => ?_ | with_reducible apply steady_plateFetch | with_reducible apply Steady.ite | with_reducible apply Steady.each | dsimp only | split

theorem steady_boundaryStarts {ρ : State} (s : State) (hρ : Steady ρ s) : Steady ρ (boundaryStarts s) := by
  unfold boundaryStarts
  repeat' first | with_reducible assumption | refine fun _ => ?_ | with_reducible apply steady_commitAll | with_reducible apply steady_jobBegin | with_reducible apply steady_drainMove | with_reducible apply steady_returnMove | with_reducible apply steady_dispatch | with_reducible apply steady_nvaBoundary | with_reducible apply steady_checkpointStart | with_reducible apply steady_imageStart | with_reducible apply steady_graverStage | with_reducible apply steady_ipendBoundary | with_reducible apply steady_pierReplace | with_reducible apply steady_graverWipe | with_reducible apply steady_fetchCells | with_reducible apply Steady.ite | with_reducible apply Steady.each | dsimp only | split

end Sys2Proof.Machine
end

