-- ==== Sys2Proof/Laws/SteadyPower.lean ====
section
/-! SUPPORT. What the operations of Machine/Power.lean keep (`Steady`). -/

namespace Sys2Proof.Machine

theorem steady_linesIdle {ρ : State} (s : State) (hρ : Steady ρ s) : Steady ρ (linesIdle s) := by
  unfold linesIdle
  repeat' first | with_reducible assumption | refine fun _ => ?_ | with_reducible apply steady_State_put | with_reducible apply steady_setPort | with_reducible apply Steady.each | dsimp only | split

theorem steady_pinsRest {ρ : State} (s : State) (hρ : Steady ρ s) : Steady ρ (pinsRest s) := by
  unfold pinsRest
  repeat' first | with_reducible assumption | refine fun _ => ?_ | with_reducible apply steady_State_wr | with_reducible apply steady_State_put | with_reducible apply steady_setPort | with_reducible apply steady_fieldOff | with_reducible apply steady_iccDeactivate | with_reducible apply steady_rmcPowerOff | with_reducible apply steady_State_setLamp | with_reducible apply steady_linesIdle | with_reducible apply Steady.each | dsimp only | split

theorem steady_askReset {ρ : State} (c : Nat) (s : State) (hρ : Steady ρ s) : Steady ρ (askReset c s) := by
  unfold askReset
  repeat' first | with_reducible assumption | refine fun _ => ?_ | fail_if_no_progress (with_reducible refine Steady.mk' ?_ ?_ ?_ ?_ ?_ ?_ ?_; iterate 6 first | with_reducible rfl | (unfold setTransit; with_reducible rfl) | (split <;> with_reducible rfl) | (dsimp only; split <;> with_reducible rfl) | (focus (simp; done)) | fail) | dsimp only | split

theorem steady_nvaShow {ρ : State} (s : State) (hρ : Steady ρ s) : Steady ρ (nvaShow s) := by
  unfold nvaShow
  repeat' first | with_reducible assumption | refine fun _ => ?_ | with_reducible apply steady_State_wr | with_reducible apply steady_State_put | with_reducible apply steady_resShow | with_reducible apply Steady.each | dsimp only | split

theorem steady_wdogWarn {ρ : State} (s : State) (hρ : Steady ρ s) : Steady ρ (wdogWarn s) := by
  unfold wdogWarn
  repeat' first | with_reducible assumption | refine fun _ => ?_ | with_reducible apply steady_State_raise | with_reducible apply Steady.ite | dsimp only | split

theorem steady_powerTick {ρ : State} (s : State) (hρ : Steady ρ s) : Steady ρ (powerTick s) := by
  unfold powerTick
  repeat' first | with_reducible assumption | refine fun _ => ?_ | with_reducible apply Steady.ite | fail_if_no_progress (with_reducible refine Steady.mk' ?_ ?_ ?_ ?_ ?_ ?_ ?_; iterate 6 first | with_reducible rfl | (unfold setTransit; with_reducible rfl) | (split <;> with_reducible rfl) | (dsimp only; split <;> with_reducible rfl) | (focus (simp; done)) | fail) | dsimp only | split

theorem steady_backupPowerOn {ρ : State} (s : State) (hρ : Steady ρ s) : Steady ρ (backupPowerOn s) := by
  unfold backupPowerOn
  have h := steady_State_raise _ 0x080041 20 (steady_State_wr _ 0x080041 (ioReset 0x080041) (steady_State_zero _ 0x080100 32
    (steady_State_zero _ 0x080042 0xBE (steady_State_wr _ 0x080004 0 (steady_stepOne s hρ)))))
  dsimp only
  generalize State.raise _ _ _ = t at h
  exact Steady.clearLatched h rfl rfl rfl rfl rfl rfl rfl


theorem steady_backupTick {ρ : State} (csw : BitVec 8) (loops : BitVec 16) (s : State) (hρ : Steady ρ s) : Steady ρ (backupTick csw loops s) := by
  unfold backupTick
  repeat' first | with_reducible assumption | refine fun _ => ?_ | with_reducible apply steady_switchSample | with_reducible apply steady_loopSample | with_reducible apply steady_State_wrN | with_reducible apply Steady.ite | fail_if_no_progress (with_reducible refine Steady.mk' ?_ ?_ ?_ ?_ ?_ ?_ ?_; iterate 6 first | with_reducible rfl | (unfold setTransit; with_reducible rfl) | (split <;> with_reducible rfl) | (dsimp only; split <;> with_reducible rfl) | (focus (simp; done)) | fail) | with_reducible apply Steady.each | dsimp only | split

end Sys2Proof.Machine
end

