-- ==== Sys2Proof/Laws/Goes.lean ====
section
/-! SUPPORT. `Goes`: what the operations that end a stroke or the device's run keep, and what each of them does to stroke time and
to what holds the device. -/

namespace Sys2Proof.Machine

theorem Steady.goes {s t : State} (h : Steady s t) : Goes s t := ⟨h.queue, h.inv⟩

theorem Goes.refl (s : State) : Goes s s := ⟨rfl, id⟩

theorem Goes.trans {r s t : State} (h : Goes r s) (g : Goes s t) : Goes r t := ⟨g.queue.trans h.queue, fun i => g.inv (h.inv i)⟩

theorem Goes.and {r s t : State} (h : Goes r s) (g : Steady s t) : Goes r t := h.trans g.goes

/-- An update that touches none of the fields of the invariant. -/
theorem Goes.keep {r s t : State} (hq : t.pending = s.pending) (hh : t.pwr.safeHold = s.pwr.safeHold)
    (hd : t.pwr.safeHoldDue = s.pwr.safeHoldDue) (hc : t.pwr.heldCause = s.pwr.heldCause) (h : Goes r s) : Goes r t :=
  h.trans ⟨hq, fun i => ⟨by rw [hh]; exact i.held, by rw [hd]; exact i.due, by rw [hc]; exact i.latched⟩⟩

/-- A new power state with the same SAFE-HOLD fields. -/
theorem Goes.power {r s : State} (p : Pwr) (hh : p.safeHold = s.pwr.safeHold) (hd : p.safeHoldDue = s.pwr.safeHoldDue)
    (hc : p.heldCause = s.pwr.heldCause) (h : Goes r s) : Goes r { s with pwr := p } :=
  Goes.keep (s := s) rfl hh hd hc h

theorem Goes.ite {s a b : State} {c : Prop} [Decidable c] (ha : Goes s a) (hb : Goes s b) : Goes s (if c then a else b) := by
  split
  · exact ha
  · exact hb

/-! ### Time -/

theorem goes_moveTime (d : Nat) (s : State) : Goes s (moveTime d s) := by
  unfold moveTime
  dsimp only
  apply Goes.ite
  · refine Goes.and ?_ (steady_strokeWrapEvents _ _ _ (Steady.refl _))
    exact Goes.keep (s := s) rfl rfl rfl rfl (Goes.refl s)
  · exact Goes.keep (s := s) rfl rfl rfl rfl (Goes.refl s)

theorem strokeWrapEvents_time (old new : StrokeTime) (s : State) : (strokeWrapEvents old new s).stk.time = s.stk.time :=
  (steady_strokeWrapEvents old new s (Steady.refl s)).time

theorem strokeWrapEvents_phase (old new : StrokeTime) (s : State) : (strokeWrapEvents old new s).pwr.phase = s.pwr.phase :=
  (steady_strokeWrapEvents old new s (Steady.refl s)).phase

theorem moveTime_time (d : Nat) (s : State) : (moveTime d s).stk.time = strokeAdd s.stk.time d := by
  unfold moveTime
  dsimp only
  split
  · rw [strokeWrapEvents_time]
  · rfl

theorem moveTime_phase (d : Nat) (s : State) : (moveTime d s).pwr.phase = s.pwr.phase := by
  unfold moveTime
  dsimp only
  split
  · rw [strokeWrapEvents_phase]
  · rfl

theorem goes_forwardEffect (s : State) : Goes s (forwardEffect s) := by
  unfold forwardEffect
  split
  · exact Goes.refl s
  · dsimp only
    refine Goes.and (Goes.trans ?_ (goes_moveTime _ _)) (steady_State_raise _ _ _ (steady_State_put _ _ _ _ _ (Steady.refl _)))
    exact Goes.keep (s := s) rfl rfl rfl rfl (Goes.refl s)

theorem goes_boundaryTime (s : State) : Goes s (boundaryTime s) := by
  unfold boundaryTime
  apply Goes.ite
  · exact (goes_forwardEffect s).and (steady_ledgerForward _ _ (Steady.refl _))
  · exact goes_moveTime 1 s

/-! ### The device reset and what leads to it -/

theorem inv_reset : Inv State.reset := ⟨nofun, nofun, Nat.zero_le 4⟩

theorem steady_deviceReset (c : Nat) (s : State) : Steady (resetKeeping s) (deviceReset c s) := by
  unfold deviceReset
  dsimp only
  exact Steady.mk' rfl rfl rfl rfl rfl rfl (steady_lifeCycleRead _ (steady_nvaShow _ (steady_State_put _ _ _ _ _
    (steady_State_wr _ _ _ (steady_State_wr _ _ _ (Steady.refl _))))))

theorem goes_deviceReset (c : Nat) (s : State) : Goes s (deviceReset c s) := by
  have h := steady_deviceReset c s
  exact ⟨h.queue, fun _ => h.inv ⟨inv_reset.held, inv_reset.due, inv_reset.latched⟩⟩

theorem resetKeeping_stk (s : State) : (resetKeeping s).stk = State.reset.stk := rfl

theorem resetKeeping_pwr (s : State) : (resetKeeping s).pwr = State.reset.pwr := rfl

theorem deviceReset_time (c : Nat) (s : State) : (deviceReset c s).stk.time = ⟨0, 0⟩ := by
  rw [(steady_deviceReset c s).time, resetKeeping_stk]
  rfl

theorem deviceReset_phase (c : Nat) (s : State) : (deviceReset c s).pwr.phase = .run := by
  rw [(steady_deviceReset c s).phase, resetKeeping_pwr]
  rfl

theorem goes_dutiesBegin (s : State) : Goes s (dutiesBegin s) := by
  unfold dutiesBegin
  dsimp only
  refine Goes.and ?_ (steady_linesIdle _ <| steady_holdShow _ _ (steady_zeroStores _ (steady_faultJobs _ (steady_reserveRecord _ _ _ (Steady.refl _)))))
  refine Goes.keep (s := setCoreState 0 0 (holdPiers (drainCore 0 (vaultSync s)))) rfl rfl rfl rfl ?_
  exact (steady_setCoreState _ _ _ (steady_holdPiers _ (steady_drainCore _ _ (steady_vaultSync _ (Steady.refl s))))).goes

theorem goes_resetDuties (s : State) : Goes s (resetDuties s) := Goes.ite (goes_dutiesBegin s) (Goes.refl s)

theorem goes_askReset (c : Nat) (s : State) : Goes s (askReset c s) := (steady_askReset c s (Steady.refl s)).goes

theorem goes_powerFailWarning (pin : Bool) (mv ns : Nat) (s : State) : Goes s (powerFailWarning pin mv ns s) := by
  unfold powerFailWarning
  have h : Goes s (s.put 0x100000 15 15 1) := (steady_State_put _ _ _ _ _ (Steady.refl s)).goes
  have g := goes_dutiesBegin s
  exact Goes.ite (Goes.refl s) (Goes.ite (Goes.ite (Goes.refl s) (Goes.ite
    (g.and (steady_State_put _ _ _ _ _ (Steady.refl _))) h)) (Goes.ite g (Goes.refl s)))

theorem goes_pinsRest {r s : State} (h : Goes r s) : Goes r (pinsRest s) := h.and (steady_pinsRest s (Steady.refl s))

theorem goes_powerFailHold (s : State) : Goes s (powerFailHold s) :=
  Goes.ite (goes_pinsRest (Goes.keep (s := s) rfl rfl rfl rfl (Goes.refl s))) (Goes.refl s)

theorem goes_deviceResetDue (s : State) : Goes s (deviceResetDue s) := by
  unfold deviceResetDue
  split
  · refine Goes.ite (Goes.trans ?_ (goes_deviceReset _ _)) (goes_resetDuties s)
    exact Goes.keep (s := s) rfl rfl rfl rfl (Goes.refl s)
  · exact Goes.refl s

theorem goes_mainPowerOn (us : Nat) (s : State) : Goes s (mainPowerOn us s) :=
  Goes.ite (Goes.refl s) ((steady_vaultSync s (Steady.refl s)).goes.trans (goes_deviceReset _ _))

theorem goes_rstN (ns : Nat) (s : State) : Goes s (rstN ns s) :=
  Goes.ite (Goes.refl s) (Goes.ite (goes_deviceReset 1 s)
    (Goes.ite ((goes_askReset 1 s).trans (goes_resetDuties _)) (Goes.refl s)))

theorem goes_powerReturn (ticks mv : Nat) (s : State) : Goes s (powerReturn ticks mv s) := Goes.ite (goes_deviceReset 6 s) (Goes.refl s)

theorem goes_watchdogExpiry (s : State) : Goes s (watchdogExpiry s) :=
  Goes.ite ((goes_askReset 3 s).trans (goes_resetDuties _)) (Goes.refl s)

theorem goes_safeHoldTimer (s : State) : Goes s (safeHoldTimer s) :=
  Goes.ite ((goes_askReset 4 s).trans (goes_resetDuties _)) (Goes.refl s)

theorem vaultSync_pwr (s : State) : (vaultSync s).pwr = s.pwr := by
  unfold vaultSync
  split
  · split <;> rfl
  · rfl

theorem goes_vbatSwitch (mv : Nat) (s : State) : Goes s (vbatSwitch mv s) := by
  unfold vbatSwitch
  refine Goes.ite ?_ (Goes.ite (steady_State_put _ _ _ _ _ (Steady.refl s)).goes (Goes.refl s))
  apply goes_pinsRest
  have h := (steady_State_raise _ 0x080041 21 (steady_vaultSync s (Steady.refl s))).goes
  have e : ((vaultSync s).raise 0x080041 21).pwr = s.pwr := (State.raise_pwr _ _ _).trans (vaultSync_pwr s)
  generalize (vaultSync s).raise 0x080041 21 = t at h e
  exact Goes.power _ (by rw [e]) (by rw [e]) (by rw [e]) h

/-- The device is held in reset for want of its fabric PLL. -/
theorem goes_noPll (s : State) : Goes s (pinsRest { s.put 0x100000 22 22 1 with pwr := { s.pwr with phase := .reset } }) := by
  apply goes_pinsRest
  have h := (steady_State_put s 0x100000 22 22 1 (Steady.refl s)).goes
  have e : (s.put 0x100000 22 22 1).pwr = s.pwr := State.put_pwr _ _ _ _ _
  generalize s.put 0x100000 22 22 1 = t at h e
  exact Goes.power _ (by rw [e]) (by rw [e]) (by rw [e]) h

theorem goes_pllLockTimeout (pll : Nat) (s : State) : Goes s (pllLockTimeout pll s) := by
  unfold pllLockTimeout
  refine Goes.ite (Goes.refl s) ?_
  have h (n : Nat) (t : State) (g : Goes s t) :
      Goes s (if pll = 0 ∧ n = 3 then pinsRest { t.put 0x100000 22 22 1 with pwr := { t.pwr with phase := .reset } } else t) :=
    Goes.ite (g.trans (goes_noPll t)) g
  exact h _ _ (Goes.power _ rfl rfl rfl (Goes.refl s))

/-! ### Boot -/

theorem goes_bootZero (s : State) : Goes s (bootZero s) := by
  unfold bootZero
  dsimp only
  refine Goes.ite ?_ (steady_State_put _ _ _ _ _ (steady_State_put _ _ _ _ _ (Steady.refl s))).goes
  have h : Goes s (zeroStores (((s.put 0x100000 17 17 1).put 0x100000 14 8 0x7F).put 0x080041 23 23 0)) :=
    (steady_zeroStores _ (steady_State_put _ _ _ _ _ (steady_State_put _ _ _ _ _ (steady_State_put _ _ _ _ _
      (Steady.refl s))))).goes
  generalize zeroStores (((s.put 0x100000 17 17 1).put 0x100000 14 8 0x7F).put 0x080041 23 23 0) = t at h
  refine Goes.and ?_ (steady_pptShow _ (steady_State_raise _ _ _ (steady_State_raise _ _ _ (Steady.refl _))))
  exact Goes.keep (s := t) rfl rfl rfl rfl h

theorem goes_resumeTime (t : StrokeTime) (s : State) : Goes s (resumeTime t s) := Goes.keep (s := s) rfl rfl rfl rfl (Goes.refl s)

theorem goes_bootResume (o : Option NvaRecord) (s : State) : Goes s (bootResume o s) := by
  unfold bootResume
  split
  · exact Goes.refl s
  · exact (steady_State_wrN _ _ _ _ (steady_repairInterrupted _ _ (Steady.refl s))).goes.trans (goes_resumeTime _ _)

theorem goes_bootRecover (s : State) : Goes s (bootRecover s) :=
  (goes_bootResume _ s).and (steady_entRestart _ (steady_resShow _ (Steady.each (Steady.refl _) fun _ _ h =>
    steady_readySlot _ _ h)))

theorem goes_bootTakes (n : Nat) (s : State) : Goes s (bootTakes n s) := Goes.keep (s := s) rfl rfl rfl rfl (Goes.refl s)

theorem goes_bootEnds (env : BootEnv) (s : State) : Goes s (bootEnds env s) :=
  ((steady_bootConfig _ (steady_bootPlan _ (steady_bootPiers s (Steady.refl s)))).goes.trans (goes_bootTakes _ _)).and
    (steady_bootStep _ _ (steady_ledgerRestore _ (Steady.refl _)))

theorem goes_bootServe (b : Nat) (env : BootEnv) (s : State) : Goes s (bootServe b env s) := by
  unfold bootServe
  have h := (steady_bootSdram env _ (steady_bootIdentity env _ (steady_bootKeystone b env s (Steady.refl s)))).goes
  exact Goes.ite (h.and (steady_bootStop _ _ (Steady.refl _))) (h.trans (goes_bootEnds _ _))

theorem goes_boot (env : BootEnv) (s : State) : Goes s (boot env s) := by
  unfold boot
  refine Goes.ite (Goes.refl s) (Goes.ite ?_ ?_)
  · exact goes_noPll s
  · dsimp only
    split
    · exact (goes_bootZero s).and (steady_askReset _ _ (steady_State_raise _ _ _ (steady_State_raise _ _ _
        (steady_lifeCycleRead _ (steady_resumeTransition _ _ (Steady.refl _))))))
    · have h : Goes s (levelShow (lifeCycleRead (bootZero s))) :=
        (goes_bootZero s).and (steady_levelShow _ (steady_lifeCycleRead _ (Steady.refl _)))
      generalize levelShow (lifeCycleRead (bootZero s)) = t at h
      refine Goes.ite (h.and (steady_bootStop _ _ (Steady.refl _))) ?_
      split
      · exact (h.trans (goes_bootRecover t)).and (steady_bootStop _ _ (Steady.refl _))
      · exact (h.trans (goes_bootRecover t)).trans (goes_bootServe _ _ _)

/-! ### The boundary -/

theorem goes_boundaryPower (s : State) : Goes s (boundaryPower s) :=
  (((steady_wdogWarn s (Steady.refl s)).goes.trans (goes_watchdogExpiry _)).trans (goes_safeHoldTimer _)).trans
    (goes_deviceResetDue _)

theorem goes_strokeBoundary (s : State) : Goes s (strokeBoundary s) := by
  unfold strokeBoundary
  refine Goes.ite (Goes.refl s) ?_
  dsimp only
  have h := (goes_boundaryTime s).and (steady_boundaryClear _ (steady_powerTick _ (Steady.refl _)))
  generalize boundaryClear (powerTick (boundaryTime s)) = t at h
  refine Goes.ite ((h.trans (goes_deviceResetDue t)).trans (goes_powerFailHold _)) ?_
  refine Goes.trans ?_ (goes_boundaryPower _)
  exact h.and (steady_boundaryStarts _ (steady_boundaryCells _ (steady_boundaryContent _ (steady_boundarySwitches _
    (steady_boundaryAborts _ (steady_boundaryEnds _ _ (steady_boundaryGuard _ (steady_pmcBoundary _ (Steady.refl _)))))))))

end Sys2Proof.Machine
end

