-- ==== Sys2Proof/Laws/Tab.lean ====
section
/-! SUPPORT. The laws of the sparse tables: a read after a write, and the canonical form. -/

namespace Sys2Proof.Machine

variable {α : Type}

theorem Tab.get_drop (d : α) (t : Tab α) (k j : Nat) : Tab.get d (Tab.drop t k) j = if j = k then d else Tab.get d t j := by
  induction t with
  | nil => simp [Tab.drop, Tab.get]
  | cons x t ih =>
    obtain ⟨i, v⟩ := x
    by_cases h : i = k
    · subst h
      simp only [Tab.drop, if_true, ih, Tab.get]
      by_cases g : j = i
      · simp [g]
      · have g' : ¬ i = j := fun e => g e.symm
        simp [g, g']
    · simp only [Tab.drop, if_neg h, Tab.get, ih]
      by_cases g : i = j
      · subst g
        simp [h]
      · simp [g]

theorem Tab.get_insert (d : α) (t : Tab α) (k j : Nat) (v : α) (hk : ∀ x ∈ t, x.1 ≠ k) :
    Tab.get d (Tab.insert t k v) j = if j = k then v else Tab.get d t j := by
  induction t with
  | nil =>
    by_cases g : k = j
    · simp [Tab.insert, Tab.get, g]
    · have g' : ¬ j = k := fun e => g e.symm
      simp [Tab.insert, Tab.get, g, g']
  | cons x t ih =>
    obtain ⟨i, u⟩ := x
    have hi : i ≠ k := hk (i, u) (List.mem_cons_self ..)
    unfold Tab.insert
    split
    · by_cases g : k = j
      · simp [Tab.get, g]
      · have g' : ¬ j = k := fun e => g e.symm
        simp [Tab.get, g, g']
    · simp only [Tab.get, ih fun y hy => hk y (List.mem_cons_of_mem _ hy)]
      by_cases g : i = j
      · subst g
        simp [hi]
      · simp [g]

theorem Tab.mem_drop {t : Tab α} {k : Nat} {x : Nat × α} (h : x ∈ Tab.drop t k) : x ∈ t ∧ x.1 ≠ k := by
  induction t with
  | nil => cases h
  | cons y t ih =>
    obtain ⟨i, v⟩ := y
    by_cases g : i = k
    · simp only [Tab.drop, if_pos g] at h
      exact ⟨List.mem_cons_of_mem _ (ih h).1, (ih h).2⟩
    · simp only [Tab.drop, if_neg g, List.mem_cons] at h
      rcases h with rfl | h
      · exact ⟨List.mem_cons_self .., g⟩
      · exact ⟨List.mem_cons_of_mem _ (ih h).1, (ih h).2⟩

/-- A read after a write. -/
theorem Tab.get_set [DecidableEq α] (d : α) (t : Tab α) (k j : Nat) (v : α) :
    Tab.get d (Tab.set d t k v) j = if j = k then v else Tab.get d t j := by
  unfold Tab.set
  split
  · rename_i h
    rw [Tab.get_drop, h]
  · rw [Tab.get_insert d _ _ _ _ fun x hx => (Tab.mem_drop hx).2, Tab.get_drop]
    split <;> rfl

/-- A write leaves every other key alone, whatever value its key reads as when unlisted. -/
theorem Tab.get_set_ne [DecidableEq α] (d e : α) (t : Tab α) {k j : Nat} (v : α) (h : j ≠ k) :
    Tab.get e (Tab.set d t k v) j = Tab.get e t j := by
  unfold Tab.set
  split
  · rw [Tab.get_drop, if_neg h]
  · rw [Tab.get_insert e _ _ _ _ fun x hx => (Tab.mem_drop hx).2, Tab.get_drop, if_neg h, if_neg h]

/-! ### The canonical form -/

theorem Tab.rising_cons {x : Nat × α} {t : Tab α} : Tab.rising (x :: t) = true ↔ (∀ y ∈ t, x.1 < y.1) ∧ Tab.rising t = true := by
  induction t generalizing x with
  | nil => simp [Tab.rising]
  | cons y t ih =>
    obtain ⟨j, v⟩ := y
    obtain ⟨i, u⟩ := x
    simp only [Tab.rising, Bool.and_eq_true, decide_eq_true_eq, List.mem_cons]
    constructor
    · rintro ⟨h, g⟩
      refine ⟨?_, g⟩
      rintro y (rfl | hy)
      · exact h
      · exact Nat.lt_trans h ((ih.mp g).1 y hy)
    · rintro ⟨h, g⟩
      exact ⟨h (j, v) (Or.inl rfl), g⟩

theorem Tab.rising_drop {t : Tab α} (k : Nat) (h : Tab.rising t = true) : Tab.rising (Tab.drop t k) = true := by
  induction t with
  | nil => exact h
  | cons x t ih =>
    obtain ⟨i, v⟩ := x
    have hc := Tab.rising_cons.mp h
    by_cases g : i = k
    · simp only [Tab.drop, if_pos g]
      exact ih hc.2
    · simp only [Tab.drop, if_neg g]
      exact Tab.rising_cons.mpr ⟨fun y hy => hc.1 y (Tab.mem_drop hy).1, ih hc.2⟩

theorem Tab.mem_insert {t : Tab α} {k : Nat} {v : α} {x : Nat × α} (h : x ∈ Tab.insert t k v) : x = (k, v) ∨ x ∈ t := by
  induction t with
  | nil => exact Or.inl (List.mem_singleton.mp h)
  | cons y t ih =>
    obtain ⟨i, u⟩ := y
    unfold Tab.insert at h
    split at h
    · rcases List.mem_cons.mp h with h | h
      · exact Or.inl h
      · exact Or.inr h
    · rcases List.mem_cons.mp h with h | h
      · exact Or.inr (h ▸ List.mem_cons_self ..)
      · rcases ih h with h | h
        · exact Or.inl h
        · exact Or.inr (List.mem_cons_of_mem _ h)

theorem Tab.rising_insert {t : Tab α} {k : Nat} (v : α) (h : Tab.rising t = true) (hk : ∀ x ∈ t, x.1 ≠ k) :
    Tab.rising (Tab.insert t k v) = true := by
  induction t with
  | nil => rfl
  | cons x t ih =>
    obtain ⟨i, u⟩ := x
    have hc := Tab.rising_cons.mp h
    unfold Tab.insert
    split
    · rename_i g
      refine Tab.rising_cons.mpr ⟨fun y hy => ?_, h⟩
      rcases List.mem_cons.mp hy with rfl | hy
      · exact g
      · exact Nat.lt_trans g (hc.1 y hy)
    · rename_i g
      have hi : i ≠ k := hk (i, u) (List.mem_cons_self ..)
      refine Tab.rising_cons.mpr ⟨fun y hy => ?_, ih hc.2 fun y hy => hk y (List.mem_cons_of_mem _ hy)⟩
      rcases Tab.mem_insert hy with rfl | hy
      · exact Nat.lt_of_le_of_ne (Nat.le_of_not_lt g) hi
      · exact hc.1 y hy

/-- A write keeps the canonical form. -/
theorem Tab.wf_set [DecidableEq α] (d : Nat → α) (t : Tab α) (k : Nat) (v : α) (h : Tab.wf d t = true) :
    Tab.wf d (Tab.set (d k) t k v) = true := by
  simp only [Tab.wf, Bool.and_eq_true, Tab.lean, List.all_eq_true, decide_eq_true_eq] at h ⊢
  unfold Tab.set
  split
  · exact ⟨Tab.rising_drop k h.1, fun x hx => h.2 x (Tab.mem_drop hx).1⟩
  · rename_i g
    refine ⟨Tab.rising_insert v (Tab.rising_drop k h.1) fun x hx => (Tab.mem_drop hx).2, fun x hx => ?_⟩
    rcases Tab.mem_insert hx with rfl | hx
    · exact g
    · exact h.2 x (Tab.mem_drop hx).1

theorem Tab.rising_filter {t : Tab α} (p : Nat × α → Bool) (h : Tab.rising t = true) : Tab.rising (t.filter p) = true := by
  induction t with
  | nil => rfl
  | cons x t ih =>
    have hc := Tab.rising_cons.mp h
    rw [List.filter_cons]
    split
    · exact Tab.rising_cons.mpr ⟨fun y hy => hc.1 y (List.mem_filter.mp hy).1, ih hc.2⟩
    · exact ih hc.2

/-- Clearing keys keeps the canonical form. -/
theorem Tab.wf_clear [DecidableEq α] (d : Nat → α) (p : Nat → Bool) (t : Tab α) (h : Tab.wf d t = true) :
    Tab.wf d (Tab.clear p t) = true := by
  simp only [Tab.wf, Bool.and_eq_true, Tab.lean, List.all_eq_true, decide_eq_true_eq] at h ⊢
  exact ⟨Tab.rising_filter _ h.1, fun x hx => h.2 x (List.mem_filter.mp hx).1⟩

theorem Tab.rising_map {t : Tab α} (g : α → α) (h : Tab.rising t = true) :
    Tab.rising (t.map fun x => (x.1, g x.2)) = true := by
  induction t with
  | nil => rfl
  | cons x t ih =>
    have hc := Tab.rising_cons.mp h
    refine Tab.rising_cons.mpr ⟨fun y hy => ?_, ih hc.2⟩
    obtain ⟨z, hz, rfl⟩ := List.mem_map.mp hy
    exact hc.1 z hz

/-- A change of every listed value keeps the canonical form. -/
theorem Tab.wf_update [DecidableEq α] (d : α) (g : α → α) (t : Tab α) (h : Tab.wf (fun _ => d) t = true) :
    Tab.wf (fun _ => d) (Tab.update d g t) = true := by
  simp only [Tab.wf, Bool.and_eq_true, Tab.lean, List.all_eq_true, decide_eq_true_eq] at h ⊢
  exact ⟨Tab.rising_filter _ (Tab.rising_map g h.1), fun x hx => of_decide_eq_true (List.mem_filter.mp hx).2⟩

end Sys2Proof.Machine
end

