-- ==== Sys2Proof/Laws/Word.lean ====
section
/-! SUPPORT. Bit fields: reading a field that has been written, and the fields beside it. -/

namespace Sys2Proof

theorem Word.slice_lt (w : Word) (hi lo : Nat) : Word.slice w hi lo < 2 ^ (hi + 1 - lo) := Nat.mod_lt _ (Nat.two_pow_pos _)

/-- A word as what is above a field, the field and what is below it. -/
theorem Word.split_field (w : Word) (hi lo : Nat) (h : lo ≤ hi) :
    w.toNat = w.toNat / 2 ^ (hi + 1) * 2 ^ (hi + 1) + Word.slice w hi lo * 2 ^ lo + w.toNat % 2 ^ lo := by
  have key : ∀ x : Nat, x = x / 2 ^ (hi + 1) * 2 ^ (hi + 1) + x / 2 ^ lo % 2 ^ (hi + 1 - lo) * 2 ^ lo + x % 2 ^ lo := by
    intro x
    have e : 2 ^ (hi + 1) = 2 ^ lo * 2 ^ (hi + 1 - lo) := by rw [← pow_add]; congr 1; omega
    have h1 := Nat.div_add_mod x (2 ^ lo)
    have h2 := Nat.div_add_mod (x / 2 ^ lo) (2 ^ (hi + 1 - lo))
    rw [Nat.div_div_eq_div_mul, ← e] at h2
    have h3 : x / 2 ^ (hi + 1) * 2 ^ (hi + 1) + x / 2 ^ lo % 2 ^ (hi + 1 - lo) * 2 ^ lo = 2 ^ lo * (x / 2 ^ lo) := by
      conv => rhs; rw [← h2]
      rw [e]
      ring
    omega
  exact key w.toNat

theorem Word.toNat_put (w : Word) (hi lo v : Nat) (h : lo ≤ hi) (hh : hi < 24) :
    (Word.put w hi lo v).toNat = w.toNat / 2 ^ (hi + 1) * 2 ^ (hi + 1) + v % 2 ^ (hi + 1 - lo) * 2 ^ lo + w.toNat % 2 ^ lo := by
  have hs := Word.split_field w hi lo h
  have e : w.toNat - Word.slice w hi lo * 2 ^ lo + v % 2 ^ (hi + 1 - lo) * 2 ^ lo
      = w.toNat / 2 ^ (hi + 1) * 2 ^ (hi + 1) + v % 2 ^ (hi + 1 - lo) * 2 ^ lo + w.toNat % 2 ^ lo := by omega
  unfold Word.put
  rw [e, BitVec.toNat_ofNat]
  apply Nat.mod_eq_of_lt
  have hv : v % 2 ^ (hi + 1 - lo) + 1 ≤ 2 ^ (hi + 1 - lo) := Nat.mod_lt _ (Nat.two_pow_pos _)
  have hr : w.toNat % 2 ^ lo < 2 ^ lo := Nat.mod_lt _ (Nat.two_pow_pos _)
  have e2 : 2 ^ (hi + 1) = 2 ^ (hi + 1 - lo) * 2 ^ lo := by rw [← pow_add]; congr 1; omega
  have e3 : 2 ^ 24 = 2 ^ (24 - (hi + 1)) * 2 ^ (hi + 1) := by rw [← pow_add]; congr 1; omega
  have hq : w.toNat / 2 ^ (hi + 1) + 1 ≤ 2 ^ (24 - (hi + 1)) := by
    have : w.toNat / 2 ^ (hi + 1) < 2 ^ (24 - (hi + 1)) := Nat.div_lt_of_lt_mul (by rw [Nat.mul_comm, ← e3]; exact w.isLt)
    omega
  have m1 := Nat.mul_le_mul_right (2 ^ lo) hv
  have m2 := Nat.mul_le_mul_right (2 ^ (hi + 1)) hq
  rw [← e3] at m2
  rw [← e2] at m1
  rw [Nat.add_mul] at m1 m2
  omega

/-- A field that has been written reads as what was written, cut to its width. -/
@[simp] theorem Word.slice_put (w : Word) (hi lo v : Nat) (h : lo ≤ hi) (hh : hi < 24) :
    Word.slice (Word.put w hi lo v) hi lo = v % 2 ^ (hi + 1 - lo) := by
  have hr : w.toNat % 2 ^ lo < 2 ^ lo := Nat.mod_lt _ (Nat.two_pow_pos _)
  have e2 : 2 ^ (hi + 1) = 2 ^ (hi + 1 - lo) * 2 ^ lo := by rw [← pow_add]; congr 1; omega
  unfold Word.slice
  rw [Word.toNat_put w hi lo v h hh, e2, ← Nat.mul_assoc, ← Nat.add_mul, Nat.add_comm, Nat.add_mul_div_right _ _ (Nat.two_pow_pos lo),
    Nat.div_eq_of_lt hr, Nat.zero_add, Nat.mul_add_mod', Nat.mod_mod]

/-- A field below the one that has been written is unchanged. -/
theorem Word.slice_put_below (w : Word) (hi lo v i j : Nat) (h : lo ≤ hi) (hh : hi < 24) (hj : j ≤ i) (hi' : i < lo) :
    Word.slice (Word.put w hi lo v) i j = Word.slice w i j := by
  have key : (Word.put w hi lo v).toNat % 2 ^ lo = w.toNat % 2 ^ lo := by
    rw [Word.toNat_put w hi lo v h hh]
    have e2 : 2 ^ (hi + 1) = 2 ^ (hi + 1 - lo) * 2 ^ lo := by rw [← pow_add]; congr 1; omega
    rw [e2, ← Nat.mul_assoc, ← Nat.add_mul, Nat.mul_add_mod', Nat.mod_mod]
  have cut : ∀ x : Nat, x / 2 ^ j % 2 ^ (i + 1 - j) = x % 2 ^ lo / 2 ^ j % 2 ^ (i + 1 - j) := by
    intro x
    have e : 2 ^ lo = 2 ^ j * 2 ^ (lo - j) := by rw [← pow_add]; congr 1; omega
    rw [e, Nat.mod_mul_right_div_self, Nat.mod_mod_of_dvd]
    exact pow_dvd_pow 2 (by omega)
  unfold Word.slice
  rw [cut, key, ← cut]

/-- A field above the one that has been written is unchanged. -/
theorem Word.slice_put_above (w : Word) (hi lo v i j : Nat) (h : lo ≤ hi) (hh : hi < 24) (hj : hi < j) :
    Word.slice (Word.put w hi lo v) i j = Word.slice w i j := by
  have key : (Word.put w hi lo v).toNat / 2 ^ (hi + 1) = w.toNat / 2 ^ (hi + 1) := by
    have hs := Word.split_field (Word.put w hi lo v) hi lo h
    rw [Word.toNat_put w hi lo v h hh]
    have hr : w.toNat % 2 ^ lo < 2 ^ lo := Nat.mod_lt _ (Nat.two_pow_pos _)
    have hv : v % 2 ^ (hi + 1 - lo) + 1 ≤ 2 ^ (hi + 1 - lo) := Nat.mod_lt _ (Nat.two_pow_pos _)
    have e2 : 2 ^ (hi + 1) = 2 ^ (hi + 1 - lo) * 2 ^ lo := by rw [← pow_add]; congr 1; omega
    have m1 := Nat.mul_le_mul_right (2 ^ lo) hv
    rw [← e2, Nat.add_mul] at m1
    rw [Nat.add_assoc, Nat.add_comm, Nat.add_mul_div_right _ _ (Nat.two_pow_pos _), Nat.div_eq_of_lt (by omega), Nat.zero_add]
  have cut : ∀ x : Nat, x / 2 ^ j = x / 2 ^ (hi + 1) / 2 ^ (j - (hi + 1)) := by
    intro x
    rw [Nat.div_div_eq_div_mul, ← pow_add]
    congr 2
    omega
  unfold Word.slice
  rw [cut, key, ← cut]

/-- A bit is the field of one bit. -/
theorem Word.bit_eq (w : Word) (i : Nat) : Word.bit w i = (Word.slice w i i == 1) := by
  unfold Word.bit Word.slice
  rw [Nat.add_sub_cancel_left, pow_one]

/-- A bit that has been written. -/
@[simp] theorem Word.bit_put (w : Word) (i v : Nat) (hh : i < 24) : Word.bit (Word.put w i i v) i = (v % 2 == 1) := by
  rw [Word.bit_eq, Word.slice_put w i i v (Nat.le_refl i) hh, Nat.add_sub_cancel_left, pow_one]

end Sys2Proof
end

