-- ==== Sys2Proof/Laws/Ops.lean ====
section
/-! SUPPORT. What each register operation does to each register, and that it keeps the canonical form of the register table. -/

namespace Sys2Proof.Machine

theorem State.rd_congr {s t : State} (h : t.io = s.io) (a : Nat) : t.rd a = s.rd a := by unfold State.rd; rw [h]

/-- A register after a write. -/
theorem State.rd_wr (s : State) (a : Nat) (w : Word) (b : Nat) : (s.wr a w).rd b = if b = a then w else s.rd b := by
  unfold State.rd State.wr
  by_cases h : b = a
  · subst h
    simp [Tab.get_set]
  · rw [Tab.get_set_ne _ _ _ _ h, if_neg h]

@[simp] theorem State.rd_wr_self (s : State) (a : Nat) (w : Word) : (s.wr a w).rd a = w := by rw [State.rd_wr, if_pos rfl]

theorem State.rd_wr_ne (s : State) {a b : Nat} (w : Word) (h : b ≠ a) : (s.wr a w).rd b = s.rd b := by rw [State.rd_wr, if_neg h]

/-- A register after a write of a field. -/
theorem State.rd_put (s : State) (a hi lo v b : Nat) :
    (s.put a hi lo v).rd b = if b = a then Word.put (s.rd a) hi lo v else s.rd b := State.rd_wr ..

@[simp] theorem State.rd_put_self (s : State) (a hi lo v : Nat) : (s.put a hi lo v).rd a = Word.put (s.rd a) hi lo v :=
  State.rd_wr_self ..

theorem State.rd_put_ne (s : State) {a b : Nat} (hi lo v : Nat) (h : b ≠ a) : (s.put a hi lo v).rd b = s.rd b :=
  State.rd_wr_ne s _ h

theorem State.rd_raise (s : State) (a i b : Nat) : (s.raise a i).rd b = if b = a then Word.put (s.rd a) i i 1 else s.rd b :=
  State.rd_put ..

theorem State.rd_flag (s : State) (a i : Nat) (x : Bool) (b : Nat) :
    (s.flag a i x).rd b = if b = a then Word.put (s.rd a) i i (if x then 1 else 0) else s.rd b := State.rd_put ..

/-- Registers after `zero`: a block of them reads 0. -/
theorem State.rd_zero (s : State) (a n b : Nat) : (s.zero a n).rd b = if a ≤ b ∧ b < a + n then 0 else s.rd b := by
  induction n generalizing s a with
  | zero =>
    rw [if_neg (by omega)]
    rfl
  | succ n ih =>
    unfold State.zero
    rw [ih, State.rd_wr]
    by_cases h : b = a
    · rw [if_neg (by omega), if_pos h, if_pos (by omega)]
    · by_cases g : a + 1 ≤ b ∧ b < a + 1 + n
      · rw [if_pos g, if_pos (by omega)]
      · rw [if_neg g, if_neg h, if_neg (by omega)]

/-- Registers after a write of a number over several of them, least significant word first. -/
theorem State.rd_wrN (s : State) (a n v b : Nat) :
    (s.wrN a n v).rd b = if a ≤ b ∧ b < a + n then BitVec.ofNat 24 (v / 2 ^ (24 * (b - a))) else s.rd b := by
  induction n generalizing s a v with
  | zero =>
    rw [if_neg (by omega)]
    rfl
  | succ n ih =>
    unfold State.wrN
    rw [ih, State.rd_wr]
    by_cases h : b = a
    · subst h
      rw [if_neg (by omega), if_pos rfl, if_pos (by omega), Nat.sub_self, Nat.mul_zero, pow_zero, Nat.div_one]
    · by_cases g : a + 1 ≤ b ∧ b < a + 1 + n
      · rw [if_pos g, if_pos (by omega), Nat.div_div_eq_div_mul, ← pow_add]
        congr 3
        omega
      · rw [if_neg g, if_neg h, if_neg (by omega)]

/-- The number that several registers hold depends on those registers only. -/
theorem State.rdN_congr {s t : State} {a n : Nat} (h : ∀ b, a ≤ b → b < a + n → t.rd b = s.rd b) : t.rdN a n = s.rdN a n := by
  induction n generalizing a with
  | zero => rfl
  | succ n ih =>
    unfold State.rdN
    rw [h a (Nat.le_refl a) (by omega), ih fun b h1 h2 => h b (by omega) (by omega)]

/-- A number that has been written over several registers, cut to their width. -/
theorem State.rdN_wrN (s : State) (a n v : Nat) : (s.wrN a n v).rdN a n = v % 2 ^ (24 * n) := by
  induction n generalizing s a v with
  | zero => rw [Nat.mul_zero, pow_zero, Nat.mod_one]; rfl
  | succ n ih =>
    unfold State.wrN State.rdN
    rw [ih, State.rd_wrN, if_neg (by omega), State.rd_wr_self, BitVec.toNat_ofNat]
    have e : 2 ^ (24 * (n + 1)) = 2 ^ 24 * 2 ^ (24 * n) := by rw [← pow_add]; congr 1; omega
    rw [e, Nat.mod_mul]

/-- A counter after a count: it stops at its last value. -/
theorem State.rdN_count (s : State) (a k : Nat) : (s.count a k).rdN a 2 = min (s.rdN a 2 + k) (2 ^ 48 - 1) := by
  unfold State.count
  rw [State.rdN_wrN, Nat.mod_eq_of_lt]
  exact Nat.lt_of_le_of_lt (Nat.min_le_right _ _) (by norm_num)

theorem State.rd_count_ne (s : State) {a b : Nat} (k : Nat) (h : b ≠ a) (g : b ≠ a + 1) : (s.count a k).rd b = s.rd b := by
  unfold State.count
  rw [State.rd_wrN, if_neg (by omega)]

/-! ### The canonical form of the register table -/

/-- The register table is in canonical form. -/
def State.regsWf (s : State) : Bool := Tab.wf ioReset s.io

theorem State.regsWf_wr (s : State) (a : Nat) (w : Word) (h : s.regsWf = true) : (s.wr a w).regsWf = true :=
  Tab.wf_set ioReset s.io a w h

theorem State.regsWf_put (s : State) (a hi lo v : Nat) (h : s.regsWf = true) : (s.put a hi lo v).regsWf = true :=
  State.regsWf_wr _ _ _ h

theorem State.regsWf_wrN (s : State) (a n v : Nat) (h : s.regsWf = true) : (s.wrN a n v).regsWf = true := by
  induction n generalizing s a v with
  | zero => exact h
  | succ n ih => exact ih _ _ _ (State.regsWf_wr _ _ _ h)

theorem State.regsWf_zero (s : State) (a n : Nat) (h : s.regsWf = true) : (s.zero a n).regsWf = true := by
  induction n generalizing s a with
  | zero => exact h
  | succ n ih => exact ih _ _ (State.regsWf_wr _ _ _ h)

theorem State.regsWf_each {α : Type} (s : State) (l : List α) (f : α → State → State)
    (hf : ∀ i t, t.regsWf = true → (f i t).regsWf = true) (h : s.regsWf = true) : (s.each l f).regsWf = true := by
  unfold State.each
  induction l generalizing s with
  | nil => exact h
  | cons a l ih => exact ih _ (hf a s h)

end Sys2Proof.Machine
end

