-- ==== Sys2Proof/Laws/SteadyCalls.lean ====
section
/-! SUPPORT. What the operations of Machine/Calls.lean keep (`Steady`). -/

namespace Sys2Proof.Machine

theorem steady_trussPin {ρ : State} (c : Caller) (e : Effective) (n : Nat) (target : Nat) (s : State) (hρ : Steady ρ s) : Steady ρ (trussPin c e n target s) := by
  unfold trussPin
  repeat' first | with_reducible assumption | refine fun _ => ?_ | with_reducible apply steady_finish | with_reducible apply steady_chanCommand | fail_if_no_progress (with_reducible refine Steady.mk' ?_ ?_ ?_ ?_ ?_ ?_ ?_; iterate 6 first | with_reducible rfl | (unfold setTransit; with_reducible rfl) | (split <;> with_reducible rfl) | (dsimp only; split <;> with_reducible rfl) | (focus (simp; done)) | fail) | with_reducible refine Steady.snd (by with_reducible assumption) ?_ | with_reducible refine Steady.snd2 (by with_reducible assumption) ?_ | with_reducible refine Steady.fst (by with_reducible assumption) ?_ | dsimp only | split

end Sys2Proof.Machine
end

