-- ==== Sys2Proof/Laws/SteadyFlags.lean ====
section
/-! SUPPORT. What the operations of Machine/Flags.lean keep (`Steady`). -/

namespace Sys2Proof.Machine


end Sys2Proof.Machine
end

