-- ==== Sys2Proof/Laws/SteadyOperands.lean ====
section
/-! SUPPORT. What the operations of Machine/Operands.lean keep (`Steady`). -/

namespace Sys2Proof.Machine


end Sys2Proof.Machine
end

