-- ==== Sys2Proof/Laws/SteadyRows.lean ====
section
/-! SUPPORT. What the operations of Machine/Rows.lean keep (`Steady`). -/

namespace Sys2Proof.Machine

theorem steady_live {ρ : State} (f : State → State) (s : State) (hf : ∀ x0, Steady ρ x0 → Steady ρ (f x0)) (hρ : Steady ρ s) : Steady ρ (live f s) := by
  unfold live
  repeat' first | with_reducible assumption | refine fun _ => ?_ | with_reducible apply hf | with_reducible apply Steady.ite | dsimp only | split

theorem steady_accessRefused {ρ : State} (m : Master) (a : Nat) (s : State) (hρ : Steady ρ s) : Steady ρ (accessRefused m a s) := by
  unfold accessRefused
  repeat' first | with_reducible assumption | refine fun _ => ?_ | with_reducible apply steady_hifCount | with_reducible apply steady_enter | with_reducible apply Steady.ite | fail_if_no_progress (with_reducible refine Steady.mk' ?_ ?_ ?_ ?_ ?_ ?_ ?_; iterate 6 first | with_reducible rfl | (unfold setTransit; with_reducible rfl) | (split <;> with_reducible rfl) | (dsimp only; split <;> with_reducible rfl) | (focus (simp; done)) | fail) | with_reducible refine Steady.snd (by with_reducible assumption) ?_ | with_reducible refine Steady.snd2 (by with_reducible assumption) ?_ | with_reducible refine Steady.fst (by with_reducible assumption) ?_ | dsimp only | split

theorem steady_regWrite {ρ : State} (m : Master) (a : Nat) (w : Word) (s : State) (hρ : Steady ρ s) : Steady ρ (regWrite m a w s) := by
  unfold regWrite
  repeat' first | with_reducible assumption | refine fun _ => ?_ | with_reducible apply steady_ioWrite | with_reducible apply steady_accessRefused | with_reducible apply Steady.ite | dsimp only | split

theorem steady_readMarkFail {ρ : State} (m : Master) (a : Nat) (s : State) (hρ : Steady ρ s) : Steady ρ (readMarkFail m a s) := by
  unfold readMarkFail
  repeat' first | with_reducible assumption | refine fun _ => ?_ | with_reducible apply steady_markMismatch | with_reducible apply steady_hifCount | with_reducible apply steady_enter | with_reducible apply Steady.ite | fail_if_no_progress (with_reducible refine Steady.mk' ?_ ?_ ?_ ?_ ?_ ?_ ?_; iterate 6 first | with_reducible rfl | (unfold setTransit; with_reducible rfl) | (split <;> with_reducible rfl) | (dsimp only; split <;> with_reducible rfl) | (focus (simp; done)) | fail) | with_reducible refine Steady.snd (by with_reducible assumption) ?_ | with_reducible refine Steady.snd2 (by with_reducible assumption) ?_ | with_reducible refine Steady.fst (by with_reducible assumption) ?_ | dsimp only | split

theorem steady_regRead {ρ : State} (m : Master) (a : Nat) (markOk : Bool) (s : State) (hρ : Steady ρ s) : Steady ρ (regRead m a markOk s) := by
  unfold regRead
  repeat' first | with_reducible assumption | refine fun _ => ?_ | with_reducible apply steady_ioRead | with_reducible apply steady_accessRefused | with_reducible apply steady_readMarkFail | with_reducible apply Steady.ite | fail_if_no_progress (with_reducible refine Steady.mk' ?_ ?_ ?_ ?_ ?_ ?_ ?_; iterate 6 first | with_reducible rfl | (unfold setTransit; with_reducible rfl) | (split <;> with_reducible rfl) | (dsimp only; split <;> with_reducible rfl) | (focus (simp; done)) | fail) | dsimp only | split

theorem steady_coreCtl {ρ : State} (m : Master) (n : Nat) (w : Word) (s : State) (hρ : Steady ρ s) : Steady ρ (coreCtl m n w s) := by
  unfold coreCtl
  repeat' first | with_reducible assumption | refine fun _ => ?_ | with_reducible apply steady_coreHold | with_reducible apply steady_drainCore | with_reducible apply steady_regWrite | with_reducible apply Steady.ite | dsimp only | split

theorem steady_nvaGo {ρ : State} (m : Master) (b : Nat) (op : Nat) (w : Word) (s : State) (hρ : Steady ρ s) : Steady ρ (nvaGo m b op w s) := by
  unfold nvaGo
  repeat' first | with_reducible assumption | refine fun _ => ?_ | with_reducible apply steady_State_put | with_reducible apply steady_regWrite | dsimp only | split

theorem steady_guarded {ρ : State} (m : Master) (a : Nat) (f : State → State) (s : State) (hf : ∀ x0, Steady ρ x0 → Steady ρ (f x0)) (hρ : Steady ρ s) : Steady ρ (guarded m a f s) := by
  unfold guarded
  repeat' first | with_reducible assumption | refine fun _ => ?_ | with_reducible apply hf | with_reducible apply steady_accessRefused | with_reducible apply Steady.ite | dsimp only | split

theorem steady_clrOp {ρ : State} (m : Master) (op : Nat) (w : Word) (o : ClrOutcome) (acked : Bool) (s : State) (hρ : Steady ρ s) : Steady ρ (clrOp m op w o acked s) := by
  unfold clrOp
  repeat' first | with_reducible assumption | refine fun _ => ?_ | with_reducible apply steady_State_put | with_reducible apply steady_clrCmdWrite | with_reducible apply steady_guarded | dsimp only | split

theorem steady_iccOp {ρ : State} (m : Master) (op : Nat) (w : Word) (o : IccOutcome) (s : State) (hρ : Steady ρ s) : Steady ρ (iccOp m op w o s) := by
  unfold iccOp
  repeat' first | with_reducible assumption | refine fun _ => ?_ | with_reducible apply steady_State_put | with_reducible apply steady_iccCmdWrite | with_reducible apply steady_guarded | dsimp only | split

theorem steady_rmcOp {ρ : State} (m : Master) (op : Nat) (w : Word) (o : RmcOutcome) (s : State) (use : BoxUse) (hρ : Steady ρ s) : Steady ρ (rmcOp m op w o s use) := by
  unfold rmcOp
  repeat' first | with_reducible assumption | refine fun _ => ?_ | with_reducible apply steady_State_put | with_reducible apply steady_rmcCmdWrite | with_reducible apply steady_guarded | dsimp only | split

theorem steady_namedWrite {ρ : State} (m : Master) (k : Nat) (a : Nat) (w : Word) (s : State) (hρ : Steady ρ s) : Steady ρ (namedWrite m k a w s) := by
  unfold namedWrite
  repeat' first | with_reducible assumption | refine fun _ => ?_ | with_reducible apply steady_writeChange | with_reducible apply steady_accessRefused | with_reducible apply Steady.ite | fail_if_no_progress (with_reducible refine Steady.mk' ?_ ?_ ?_ ?_ ?_ ?_ ?_; iterate 6 first | with_reducible rfl | (unfold setTransit; with_reducible rfl) | (split <;> with_reducible rfl) | (dsimp only; split <;> with_reducible rfl) | (focus (simp; done)) | fail) | with_reducible refine Steady.snd (by with_reducible assumption) ?_ | with_reducible refine Steady.snd2 (by with_reducible assumption) ?_ | with_reducible refine Steady.fst (by with_reducible assumption) ?_ | dsimp only | split

end Sys2Proof.Machine
end

