-- ==== Sys2Proof/WellFormed.lean ====
section
/-! DEFINITION. The commands that the outside can send: operands whose size the manual fixes have that size. The meaning of a
command does not ask for it (a wrong size ends with the status or the effect that the manual gives); it says which terms stand
for a command of the machine at all. -/

namespace Sys2Proof

/-- A UID of ISO/IEC 14443-3 is 4, 7 or 10 bytes, a serial of an Utvetos token 7 (R374, R378). -/
def Token.wf (t : Token) : Bool :=
  if t.utvetos then t.uid.length == 7 else t.uid.length == 4 || t.uid.length == 7 || t.uid.length == 10

/-- A caller: an index within the largest ring (R319), a domain of R190. -/
def Caller.wf : Caller → Bool
  | .host _ _ idx => decide (idx < 4096)
  | .pier _ dom => decide (dom ≤ 256)

/-- The fields of CHANNEL_OPEN's buffer have the widths of R332. -/
def ChannelExtra.wf (e : ChannelExtra) : Bool :=
  decide (e.minLen < 2 ^ 16 ∧ e.group < 2 ^ 16 ∧ e.size < 2 ^ 16 ∧ e.count < 2 ^ 8 ∧ e.plog < 2 ^ 8 ∧ e.phase < 2 ^ 16 ∧ e.burst < 2 ^ 8)

/-- The fields of CHANNEL_OPEN have the widths of R332. -/
def ChannelArgs.wf (a : ChannelArgs) : Bool :=
  decide (a.offset < 256 ∧ a.sciMode < 4 ∧ a.clearTags < 4 ∧ a.suite < 8 ∧ a.window < 256 ∧ a.clientPort < 256 ∧ a.linePort < 256
    ∧ a.rate < 2 ^ 32) && (match a.extra with | some e => e.wf | none => true)

/-- GRAVER_JOB names four handles, 0 for one that is not used, and a 15-bit size (R331, R152). -/
def GraverArgs.wf (a : GraverArgs) : Bool := a.handles.length == 4 && decide (a.size < 2 ^ 15)

/-- The seven quotas are values of 24 bits (R192). -/
def Quotas.wf (q : Quotas) : Bool :=
  [q.slots, q.pslots, q.chans, q.plates, q.deck, q.share, q.graver].all fun v => decide (v < 2 ^ 24)

/-- The byte offset of a dword in a function's BAR0 (R3). -/
def barWf (fn : Fin 257) (off : BitVec 26) : Bool := off.toNat % 4 == 0 && (fn.val == 0 || decide (off.toNat < 2 ^ 17))

/-- A command that the machine can be sent. -/
def Instr.wf : Instr → Bool
  -- Deck: a cell holds at most 256 bytes (03_ports_and_deck.md).
  | .cellTake _ bytes => decide (1 ≤ bytes.length ∧ bytes.length ≤ 256)
  -- A walk fails at a level of the tree (R127).
  | .plateFetchDone _ (.treeFail level _) => decide (level < 9)
  -- Reads and writes through BAR0: a dword of the function's BAR, a VF's of 128 KiB (R3).
  | .registerWrite (.bar fn off _) _ | .hostRegisterRead fn off _ => barWf fn off
  -- NVA: the sectors of a bank (R250, R251).
  | .nvaWearLevelling _ sector => decide (sector < 1920)
  -- Konus: the short branch takes a 6-bit offset (R217).
  | .bcc _ _ long o => long || o == (o.setWidth 6).signExtend 18
  -- Quorums: a digest of SHA-384 (R199).
  | .quorumRequest c _ d => c.wf && d.length == 48
  | .quorumApprove c _ _ _ => c.wf
  -- Host interface: a descriptor is 64 bytes (14_host_interface.md).
  | .descriptorFetch _ desc _ => desc.length == 64
  | .nop c | .cmdAbort c _ | .cmdLost c | .channelClose c _ _ | .trussPin c _ _ _ | .plateInstall c _ _ | .plateRetire c _ _
  | .plateRecycle c _ _ | .platePin c _ _ | .plateUnpin c _ _ | .plateRead c _ | .keyDerive c _ _ _ _ _ _ _ | .keyWrap c _ _ _
  | .keyUnwrap c _ _ _ _ _ _ | .keyMac c _ _ _ | .keyRestrict c _ _ _ | .keyPersist c _ | .keyDestroy c _ | .keyInfo c _
  | .switchArm c _ _ | .switchCancel c _ | .readOpenPeriod c | .readRecords c _ | .setClock c _ | .setPeriod c _
  | .tenantSuspend c _ | .tenantResume c _ | .tenantErase c _ _ | .clearClassSet c _ _ _ _ _ _ | .configStore c | .configErase c
  | .custodianEnroll c _ _ | .custodianRemove c _ | .lifecycle c _ _ | .debugCert c _ | .debugCertEnd c | .graverClaim c _
  | .graverRelease c _ | .plateKeyInstall c _ _ | .ledgerSign c _ | .planLoad c _ => c.wf
  | .channelOpen c _ a => c.wf && a.wf
  | .channelRate c _ _ rate => c.wf && decide (rate < 2 ^ 32)
  | .graverJob c a => c.wf && a.wf
  | .graverCommit c _ dur => c.wf && decide (dur < 2 ^ 24)
  | .keyGenerate c _ _ _ size => c.wf && decide (size < 2 ^ 16)
  | .tenantCreate c _ q | .tenantQuota c _ q => c.wf && q.wf
  | .quorumSet c _ size => c.wf && decide (size < 2 ^ 8)
  -- Viaduct: a heartbeat shows a role of R341; marks name plates; a ledger image is rows of 168 bits (R261, R345).
  | .heartbeat b => decide (b.role.toNat < 3) && decide (b.cycle.toNat < 1000) && decide (b.arrival.toNat < 1000)
      && (match b.echo with | some (x, y) => decide (x.cycle.toNat < 1000 ∧ y.cycle.toNat < 1000) | none => true)
  | .mark _ marks => marks.all fun (p, _) => decide (p < 2 ^ 24)
  | .ledger image => image.all fun w => decide (w < 2 ^ 168)
  -- Cards and tokens.
  | .clrSearch _ _ found _ => found.all Token.wf
  | .iccActivate _ _ (some atr) | .iccClassRetry (some atr) => decide (atr.length ≤ 33)
  | .rmcRead _ _ data _ _ _ _ => data.all fun b => b.length == 512
  -- Entropy: a window of the proportion test is 1,024 raw bits (R306); the conditioner takes 1,536 for a block (R307).
  | .healthTestFail _ _ bits => decide (bits.length ≤ 1024)
  | .conditionedBlock raw => raw.length == 1536
  -- Boot: a size code of R444.
  | .boot env => decide (env.sdramSize ≤ 5)
  -- The operands of every other row have their ranges from their types.
  | _ => true

end Sys2Proof
end

