-- ==== Sys2Proof/Tests/Slice0.lean ====
section
/-! SUPPORT. Tests of the model, and for every clause of a statement that has hypotheses one concrete state and operands that
meet them all together. -/

set_option maxRecDepth 20000
set_option linter.unusedTactic false
set_option linter.unreachableTactic false

namespace Sys2Proof.Tests

open Sys2Proof Sys2Proof.Machine

/-- The machine after reset with some registers written. -/
def st (l : List (Nat × Word)) : State := l.foldl (fun s x => s.wr x.1 x.2) State.reset

/-- The machine at a stroke of era 0. -/
def tick (n : Nat) (s : State) : State := { s with stk := { s.stk with time := ⟨0, BitVec.ofNat 48 n⟩, ticks := n } }

/-- Gives a cell of the present row of plan A a code. -/
def cellAs (col code : Nat) (s : State) : State :=
  let a := 15 * (s.now % 4096) + col / 8
  { s with stk := { s.stk with planA := Tab.set 0 s.stk.planA a (Word.put (Tab.get 0 s.stk.planA a) (3 * (col % 8) + 2) (3 * (col % 8)) code) } }

/-- A transmit channel of OWN from client port 0 to line port 16 on plate 5. -/
def clientChan : Chan :=
  ⟨256, false, true, false, 0, 0, 0, 3, 0, 0, 16, 0, 0, 100, 64, 0, 0, 0, 0, 0, 0, 0, 0, [some 5, none, none, none], some 0⟩

/-- A whole untagged frame of 64 bytes, arriving on port 0. -/
def clientFrame : Frame :=
  { Frame.blank with bytes := List.replicate 12 0 ++ [8, 0] ++ List.replicate 50 0, dom := 256, cells := 1, stage := .arriving false }

/-- Channel 9 open with its plate in use, and a frame for it that arrives. -/
def boundState : State :=
  { (st [(0x070000, 0x000502), (0x100000, 0x800000), (domReg 256 0, 1)]) with
    dck := { State.reset.dck with frames := [clientFrame], chans := [(9, some clientChan)], vids := [(0, 10)] }
    plc := { State.reset.plc with words := [(320, 0x200000)] } }

theorem plateChannel_or (s : State) (p : Nat) : plateChannel s p = 0 ∨ plateChannel s p = 1 := by
  unfold plateChannel
  split <;> omega

theorem plateChannel_lt (s : State) (p : Nat) : plateChannel s p < 2 := by
  rcases plateChannel_or s p with h | h <;> omega

theorem cell_either (s : State) (t p : Nat) (h : taskCell s t 110 = true) (k : taskCell s t 111 = true) :
    taskCell s t (110 + plateChannel s p) = true := by
  rcases plateChannel_or s p with e | e <;> rw [e] <;> assumption

/-- A host command of opcode `op`, first entry of the first ring of the PF. -/
def fl (op : Nat) : Flight := ⟨0, 0, 0, op, 7, false, 0, ⟨0, 0⟩, 0, 4096, false, none, []⟩

/-- With that command in flight. -/
def flying (op : Nat) (s : State) : State := { s with hif := { s.hif with flights := [fl op] } }

/-- With graver 15 in a state, with its list's first entry of an opcode, and a length. -/
def graver (state op len : Nat) (w1 w2 w3 : Word) : State :=
  { (st [(grvReg 15 0, BitVec.ofNat 24 (state * 2 ^ 21 + 256))]) with
    gravers := [(15, { GraverState.init with
      list := [(0, BitVec.ofNat 24 (op * 2 ^ 19 + len)), (1, w1), (2, w2), (3, w3)] })] }

/-- A key object of OWN in slot 64,511: type, usage. -/
def keyObject (ty : Nat) (usage : BitVec 8) : Slot := ⟨0, true, false, true, .inUse, 256, ty, usage, 1, 32, 0, []⟩

/-- With that object in the key store. -/
def keyed (x : Slot) (s : State) : State := { s with key := { s.key with slots := [(64511, x)] } }

/-- Pier 66 waits in call `num` under OWN, with its buffers in place. -/
def calling (num : Nat) (l : List (Nat × Word)) : State :=
  st ([(coreReg 66 0x40, BitVec.ofNat 24 (2 ^ 23 + num)), (coreReg 66 0x48, 0xFFFFFF), (coreReg 66 6, 256),
    (coreReg 66 0x4C, 64)] ++ l)

/-- With a symmetric key in the job's first handle, and the job of a kind that takes it. -/
def withKey (s : State) : State := keyed { keyObject 0x10 0xFF with size := 2 } ((s.wr (grvReg 15 0x0A) 64511).wr (grvReg 15 4) 2)

/-- An expander instance is ready. -/
def expander (i : Nat) (s : State) : State := s.wr (drbgReg i 1) 0x800000

/-- With graver 15 stalled. -/
def stall (s : State) : State := s.updGrv 15 fun g => { g with stalled := some 0 }

/-- With word 0 of bank `b` of graver 15. -/
def bankWord (b : Nat) (w : Word) (s : State) : State := s.updGrv 15 fun g => { g with mem := [(1024 * b, w)] }

/-- With graver 15 in a loop that runs once more. -/
def looping (s : State) : State := s.updGrv 15 fun g => { g with loops := [(1, 1)] }

/-- With what an agreement of appliance mode needs. -/
def agreeing : State :=
  { (st [(drbgReg 0 1, 0x800000), (portReg 16 1, 4), (portReg 31 1, 4), (0x0B0000, 0x400000), (0x0B0001, 0x040000)]) with
    key := { State.reset.key with identity := [1], ownerCert := [1], activated := true }
    stk := { State.reset.stk with appliance := true } }

/-- With channel 9 open. -/
def chanOpen (s : State) : State := { s with dck := { s.dck with chans := [(9, some clientChan)] } }

/-- Pier 66 runs, its core changed by `f`. -/
def pier (f : CoreState → CoreState) : State :=
  { (st [(coreReg 66 0, 0x800000), (coreReg 66 1, 0x200000)]) with cores := [(66, f (CoreState.init 66))] }

/-- Pier 66 runs with its stack below the shadow region and no shadow entry left to spare but one. -/
def stacked : CoreState → CoreState := fun c => { c with g := [(7, 0x7800)], ssp := 0x7802, rp := 0x7000 }

/-- The keystone runs, its core changed by `f`. -/
def keystone (f : CoreState → CoreState) : State :=
  { (st [(coreReg 0 1, 0x200000)]) with cores := [(0, f (CoreState.init 0))], kfetch := { State.reset.kfetch with row := some 0 } }

/-- Pier 66 runs with interrupts enabled and source 3 pending. -/
def intPending : State :=
  { (st [(coreReg 66 0, 0x800000), (coreReg 66 1, 0x200000), (coreReg 66 5, 0xFFFFFF)]) with
    cores := [(66, { stacked (CoreState.init 66) with psr := 0x060000, ipend := 8 })]
    spn := { State.reset.spn with events := [(0, 0)] } }

/-- With bank 1 of the array changed. -/
def nvaAs (f : NvaBank → NvaBank) (s : State) : State := { s with nva := { s.nva with banks := [(1, f NvaBank.init)] } }

/-- With a transition at a step. -/
def transit (target : Word) (step : TransitStep) (todo : List Nat) (s : State) : State :=
  { s with lcy := { s.lcy with transit := some ⟨target, 0x0F0F0F, 2, 1, step, 0, todo, false⟩ } }

/-- Pier 66 halted at a debug level, its core changed by `f`. -/
def halted (level : Nat) (l : List (Nat × Word)) (f : CoreState → CoreState) : State :=
  { (st ([(coreReg 66 0, 0x800000), (coreReg 66 1, 0x200000), (0x078000, BitVec.ofNat 24 (level * 2 ^ 22))] ++ l)) with
    cores := [(66, f (CoreState.init 66))]
    lcy := { State.reset.lcy with halted := [66] } }

/-- A viaduct of a role and a pair state: enabled, its link up, its pair keyed. -/
def paired (role pair : Nat) (l : List (Nat × Word)) : State :=
  { (st ([(0x0B0000, 0x400000), (0x0B0001, BitVec.ofNat 24 (role * 2 ^ 22 + pair * 2 ^ 19 + 2 ^ 18))] ++ l)) with
    key := { State.reset.key with agreed := [(4, [1])] } }

/-- With the next RESERVE slot of bank 1 still written. -/
def slotHeld (s : State) : State :=
  { s with nva := { s.nva with rows := [(rowKey s 1 (slotRow (s.bank 1).slot), some 0)] } }


/-! ### The queue and the words of the table -/

theorem test_reset_queue : State.reset.pending = [] := rfl

theorem test_reset_zero_register : State.reset.rd 0x000008 = 0 := by decide

theorem test_no_word_spells_a_command : Sys2Proof.decodeTableWord 24 0x3C88 = none := rfl

theorem test_withFetchWord_reset : State.reset.withFetchWord 24 0x3C88 = State.reset := rfl

theorem test_step_idle : step State.reset = .next State.reset := rfl

theorem test_step_front :
    step { State.reset with pending := [.freeze .keep 7, .hifCntClr .keep 0] }
      = exec (.freeze .keep 7) { State.reset with pending := [.hifCntClr .keep 0] } := rfl

/-! ### Parcels of the Konus-24, written out from 08_cores.md -/

/-- `in w0, [w8 + 0x08]`: group 1111, k = 00, pp = 10, o[9] = 0, d = 8; b = 16, o[8:0] = 8. -/
theorem test_decode_in : decodeParcels 66 0b11_1100_1000_1000 0b10_0000_0000_1000 = some (.inp 66 8 16 8 true) := by decide

/-- `b.pl` with cc = 5 and an offset of 10. -/
theorem test_decode_bpl : decodeParcels 66 0b11_0001_0100_1010 0 = some (.bcc 66 5 false 10) := by decide

/-- `b.al` with cc = 14 and an offset of −12. -/
theorem test_decode_bal : decodeParcels 66 0b11_0011_1011_0100 0 = some (.bcc 66 14 false (-12)) := by decide

/-! ### Well-formedness: an ill-formed term for each check -/

theorem test_wf_nop : (Instr.nop (.host 256 519 4095)).wf = true := by decide
theorem test_wf_host_index : (Instr.nop (.host 0 0 4096)).wf = false := by decide
theorem test_wf_pier_domain : (Instr.plateRetire (.pier 1 257) .none 0).wf = false := by decide
theorem test_wf_cell_empty : (Instr.cellTake 0 []).wf = false := by decide
theorem test_wf_cell_long : (Instr.cellTake 0 (List.replicate 257 0)).wf = false := by decide
theorem test_wf_fetch_level : (Instr.plateFetchDone 0 (.treeFail 9 false)).wf = false := by decide
theorem test_wf_bar_dword : (Instr.registerWrite (.bar 0 2 15) 0).wf = false := by decide
theorem test_wf_bar_window : (Instr.hostRegisterRead 256 (2 ^ 17) true).wf = false := by decide
theorem test_wf_window_bits : (Instr.healthTestFail 0 true (List.replicate 1025 true)).wf = false := by decide
theorem test_wf_sector : (Instr.nvaWearLevelling 0 1920).wf = false := by decide
theorem test_wf_short_branch : (Instr.bcc 1 0 false 32).wf = false := by decide
theorem test_wf_long_branch : (Instr.bcc 1 0 true 32).wf = true := by decide
theorem test_wf_digest : (Instr.quorumRequest (.pier 1 0) 0 []).wf = false := by decide
theorem test_wf_descriptor : (Instr.descriptorFetch 0 [0] true).wf = false := by decide
theorem test_wf_channel_port :
    (Instr.channelOpen (.pier 1 0) .none ⟨false, false, false, 0, 0, 0, 0, false, 0, 256, 16, 0, 0, 0, none⟩).wf = false := by decide
theorem test_wf_channel_extra :
    (Instr.channelOpen (.pier 1 0) .none
      ⟨false, false, false, 0, 0, 0, 0, false, 0, 0, 16, 0, 0, 0, some ⟨2 ^ 16, 0, 0, 0, 0, 0, 0, 0, 0⟩⟩).wf = false := by decide
theorem test_wf_channel_rate : (Instr.channelRate (.pier 1 0) .none 0 (2 ^ 32)).wf = false := by decide
theorem test_wf_job_handles : (Instr.graverJob (.pier 1 0) ⟨0, false, false, 0, [1], []⟩).wf = false := by decide
theorem test_wf_commit : (Instr.graverCommit (.pier 1 0) 0 (2 ^ 24)).wf = false := by decide
theorem test_wf_key_size : (Instr.keyGenerate (.pier 1 0) 0 0 0 (2 ^ 16)).wf = false := by decide
theorem test_wf_quota : (Instr.tenantCreate (.pier 1 0) 0 ⟨2 ^ 24, 0, 0, 0, 0, 0, 0⟩).wf = false := by decide
theorem test_wf_quorum_size : (Instr.quorumSet (.pier 1 0) 0 256).wf = false := by decide
theorem test_wf_beat_role : (Instr.heartbeat ⟨⟨0, 0⟩, 0, none, 0, 3, 0, false, true⟩).wf = false := by decide
theorem test_wf_beat_echo :
    (Instr.heartbeat ⟨⟨0, 0⟩, 0, some (⟨⟨0, 0⟩, 1000⟩, ⟨⟨0, 0⟩, 0⟩), 0, 0, 0, false, true⟩).wf = false := by decide
theorem test_wf_mark_plate : (Instr.mark ⟨0, 0⟩ [(2 ^ 24, 0)]).wf = false := by decide
theorem test_wf_ledger_row : (Instr.ledger [2 ^ 168]).wf = false := by decide
theorem test_wf_token : (Instr.clrSearch .keep 0 [⟨true, [1, 2, 3, 4], 0⟩] 0).wf = false := by decide
theorem test_wf_atr : (Instr.iccActivate .keep 0 (some (List.replicate 34 0))).wf = false := by decide
theorem test_wf_block : (Instr.rmcRead .keep 0 [[0]] true true true .raw).wf = false := by decide
theorem test_wf_raw_bits : (Instr.conditionedBlock [true]).wf = false := by decide
theorem test_wf_sdram : (Instr.boot ⟨true, true, true, 6, true, true, true, true, true, 0⟩).wf = false := by decide

/-! ### Every statement's hypotheses are met: one state and operands for each clause -/

theorem some_pair {α β : Type} (o : Option (α × β)) (a : α) (b : β) (h : o.map (·.1) = some a) :
    o = some (a, (o.map (·.2)).getD b) := by
  cases o with
  | none => cases h
  | some x => cases h; rfl

/-- A stipple channel whose phase falls in every stroke. -/
def stippleChan : Chan := { clientChan with stipple := true, count := 1, plog := 0, phase := 0 }

/-- That channel open, in the plan of span 3. -/
def stippleState : State :=
  { (st [(0x070000, 0x000502), (0x100000, 0x800000), (domReg 256 0, 1)]) with
    dck := { State.reset.dck with chans := [(9, some stippleChan)] }
    spn := { State.reset.spn with layout := { State.reset.spn.layout with homes := [(9, 3)], groupOf := [(9, 1)] } }
    plc := { State.reset.plc with words := [(320, 0x200000)] } }

/-- Its frame at the start of its emission. -/
def stippleFrame : Frame :=
  { Frame.blank with
    port := 128, dom := 256, chan := some 9, plate := 5, record := some stippleChan, egress := stippleChan.line, seen := true
    levels := (chanLevels stippleState.spn.layout 9).1, trusses := (chanLevels stippleState.spn.layout 9).2, stipple := true }

/-- The machine that gives it a packet number. -/
def stippleBound : State :=
  addRef 5 (plateGen stippleState 5) { stippleState with
    stk := { stippleState.stk with done := 25 :: stippleState.stk.done }
    dck := { stippleState.dck with frames := stippleState.dck.frames ++ [stippleFrame], nextId := 1 } }

theorem test_meets_BatchesOfSpans_1 :
    ∃ v, powered stippleState = true ∧ Tab.get none stippleState.dck.chans 9 = some stippleChan
      ∧ stippleState.stk.done.contains 25 = false ∧ (stippleState.now + 1) % 2 ^ stippleChan.plog = stippleChan.phase
      ∧ stippleState.dataPlane = true ∧ currentPlate stippleChan = some 5
      ∧ givePn stippleFrame stippleBound = some (some { stippleFrame with pn := some 0 }, v)
      ∧ spanFor v { stippleFrame with pn := some 0 } (spanCost { stippleFrame with pn := some 0 }) = some 3 :=
  ⟨_, by decide, by decide, by decide, by decide, by decide, by decide,
    some_pair _ _ stippleBound (by decide), by decide⟩

/-- A frame bound on channel 9, in a batch of span 27, that leaves as long as it arrived. -/
def batchFrame : Frame :=
  { Frame.blank with record := some clientChan, pn := some 0, egress := 16, stage := .batch 27 0 false }

/-- With cells enough for what it leaves as. -/
def batchFrameHeld : Frame := { batchFrame with extra := cellsOf (protect batchFrame clientChan (List.replicate 64 0) 0).1.length }

theorem test_meets_BatchesOfSpans_2 :
    ∃ s : State, powered s = true ∧ s.dck.frames = [batchFrameHeld] ∧ batchFrameHeld.stage = .batch 27 0 false ∧ 0 < s.now
      ∧ batchFrameHeld.record = some clientChan ∧ clientChan.rx = false ∧ batchFrameHeld.port < 16 ∧ portUp s 16 = true
      ∧ plateContent s batchFrameHeld.plate batchFrameHeld.gen = List.replicate 64 0
      ∧ cellsOf (protect batchFrameHeld clientChan (List.replicate 64 0) 0).1.length ≤ batchFrameHeld.cells + batchFrameHeld.extra :=
  ⟨tick 1 { (st [(portReg 16 1, 4)]) with dck := { State.reset.dck with frames := [batchFrameHeld] } },
    by decide, rfl, rfl, by decide, rfl, rfl, by decide, by decide, by decide,
    Nat.le_add_left _ _⟩

/-- The arguments of a client channel without extra ones. -/
def clientArgs : ChannelArgs := ⟨false, true, false, 0, 0, 0, 0, false, 0, 0, 16, 0, 0, 100, none⟩

theorem spans_of_one (n : Nat) (l : Layout) (h : l.groupOf = [(n, 1)]) (k : l.loads = [(n, chanLoad (chanOf 256 clientArgs))]) :
    spansNeeded (l, [(n, some (chanOf 256 clientArgs))]) 0 = 1 := by
  have e : planChans (l, [(n, some (chanOf 256 clientArgs))]) 0 = [n] := by simp [planChans, h]
  simp only [spansNeeded, e, planTotal, k, List.map_cons, List.map_nil, Tab.get, if_pos]
  rfl

theorem fit_of_one (n : Nat) (l : Layout) (h : l.groupOf = [(n, 1)]) (k : l.loads = [(n, chanLoad (chanOf 256 clientArgs))]) :
    fitGroup true 0 (l, [(n, some (chanOf 256 clientArgs))])
      = (growGroup true 0 1 28 l).map fun l => shrinkGroup 0 1 (l, [(n, some (chanOf 256 clientArgs))]) := by
  simp only [fitGroup, spans_of_one n l h k]

theorem plan_of_one (n : Nat) : (planOpen true n (chanOf 256 clientArgs) (State.reset.spn.layout, [])).isSome = true := by
  change ((fitGroup true 0 ({ State.reset.spn.layout with loads := [(n, chanLoad (chanOf 256 clientArgs))], groupOf := [(n, 1)] },
    [(n, some (chanOf 256 clientArgs))])).bind _).isSome = true
  rw [fit_of_one n _ rfl rfl]
  rfl

theorem open_of_one (n : Nat) : openStatus (flying 0x10 State.reset) 256 clientArgs .none n = stOK := by
  have p : planFits (flying 0x10 State.reset) ⟨1, n, .openChan n (chanOf 256 clientArgs), (effectiveStroke .none 256 (flying 0x10 State.reset)).1⟩ = true := by
    simp only [planFits, pinEverywhere, planMakes, Bool.true_and]
    have q := plan_of_one n
    revert q
    generalize hx : planOpen true n (chanOf 256 clientArgs) (State.reset.spn.layout, []) = x
    intro q
    show (layoutsOf [_] _).all _ = true
    unfold layoutsOf
    rw [show planChange true (.openChan n (chanOf 256 clientArgs)) (planNow (flying 0x10 State.reset)) = x from hx]
    cases x with
    | none => cases q
    | some x => rfl
  unfold openStatus
  simp only [p]
  rfl

theorem test_meets_ChannelCommands_1 :
    ∃ (fn : Fin 257) (g : Fin 520) (idx : Nat) (f : Flight) (s : State) (e : Effective) (a : ChannelArgs) (n : Nat),
      Takes s 0x10 fn g idx f ∧ n = chooseChannel s s.free ∧ openStatus s (fnDom fn) a e n = stOK :=
  ⟨0, 0, 0, fl 0x10, flying 0x10 State.reset, .none, clientArgs, _, by constructor <;> decide, rfl, open_of_one _⟩

theorem test_meets_StepTakesTheFrontCommand_2 :
    (fun (s : State) => (s.pending = []))
      (State.reset) := by beta_reduce; decide

theorem test_meets_EveryStepKeepsTheInvariant_1 :
    (fun (s : State) (t : State) => (Inv s) ∧ (step s = .next t))
      (State.reset) (State.reset) := ⟨⟨nofun, nofun, by decide⟩, rfl⟩

theorem test_meets_RunGoesOn_1 :
    (fun (c : Instr) (s : State) (t : State) => (movesTime c = false) ∧ (exec c s = .next t))
      (.hifCntClr .keep 0) (State.reset) (State.reset) := by beta_reduce; refine ⟨?_, ?_⟩ <;> rfl

theorem test_meets_BoundaryCountsTheStroke_1 :
    (fun (s : State) => (s.pwr.phase = .run) ∧ (s.stk.forward = none))
      (State.reset) := by beta_reduce; refine ⟨?_, ?_⟩ <;> decide

theorem test_meets_BoundaryCountsTheStroke_2 :
    (fun (s : State) => (s.pwr.phase = .run) ∧ (s.stk.forward = none) ∧ (s.stk.time.num = 0xFFFFFFFFFFFF))
      ({ State.reset with stk := { State.reset.stk with time := ⟨0xFF, 0xFFFFFFFFFFFF⟩ } }) := by beta_reduce; refine ⟨?_, ?_, ?_⟩ <;> decide

theorem test_meets_BoundaryCountsTheStroke_3 :
    (fun (s : State) (u : StrokeTime) (d : Nat) => (s.pwr.phase = .run) ∧ (s.stk.forward = some u) ∧ (aheadBy s u = some d))
      ({ State.reset with stk := { State.reset.stk with forward := some ⟨0, 0x400000000000⟩ } }) (⟨0, 0x400000000000⟩) (2 ^ 46) := by beta_reduce; refine ⟨?_, ?_, ?_⟩ <;> decide

theorem test_meets_StrokeSetup_1 :
    (fun (m : Master) (s : State) (d : Nat) => (Reaches m 0x00000B s) ∧ (s.stk.forward = none) ∧ (aheadBy s (timeAt s 0x000008) = some d) ∧ (1 ≤ d) ∧ (d ≤ 2 ^ 46) ∧ ((∀ k < 4, swState s k ≠ 1 ∧ swState s k ≠ 2)))
      (.keep) (st [(0x000009, 0x400000)]) (2 ^ 46) := by beta_reduce; refine ⟨?_, ?_, ?_, ?_, ?_, ?_⟩ <;> decide

theorem test_meets_StrokeSetup_2 :
    (fun (s : State) => (powered s = true) ∧ ((s.rd 0x000010).toNat < 61440))
      (st [(0x000010, 61439)]) := by beta_reduce; refine ⟨?_, ?_⟩ <;> decide

theorem test_meets_StrokeSetup_3 :
    (fun (m : Master) (s : State) => (Reaches m 0x000012 s) ∧ (s.bit 0x000013 20 = false))
      (.keep) (State.reset) := by beta_reduce; refine ⟨?_, ?_⟩ <;> decide

theorem test_meets_StrokeSetup_4 :
    (fun (s : State) (n : Nat) (p : Tab Word) => (powered s = true) ∧ (s.stk.check = some (n, p, false)))
      ({ State.reset with stk := { State.reset.stk with check := some (64, [], false) } }) (64) ([]) := by beta_reduce; refine ⟨?_, ?_⟩ <;> decide

theorem test_meets_StrokeSetup_5 :
    (fun (s : State) (kind : Nat) (num : Nat) (a : Nat) (n : Nat) (v : Word) => (powered s = true) ∧ (s.spn.pausedUntil ≤ s.now) ∧ (s.setup = [⟨kind, num, .regs [(a, v)], .stroke n⟩]) ∧ (n ≤ s.now))
      ({ State.reset with setup := [⟨2, 0, .regs [(0x010000, 1)], .stroke 0⟩] }) (2) (0) (0x010000) (0) (1) := by beta_reduce; refine ⟨?_, ?_, ?_, ?_⟩ <;> decide

theorem test_meets_StrokeSetup_6 :
    (fun (s : State) (kind : Nat) (num : Nat) (a : Nat) (n : Nat) (k : Nat) (v : Word) (w : Word) => (powered s = true) ∧ (s.spn.pausedUntil ≤ s.now) ∧ (s.setup = [⟨kind, num, .regs [(a, v)], .stroke n⟩, ⟨kind, num, .regs [(a, w)], .stroke k⟩]) ∧ (n ≤ s.now) ∧ (k ≤ s.now))
      ({ State.reset with setup := [⟨2, 0, .regs [(0x010000, 1)], .stroke 0⟩, ⟨2, 0, .regs [(0x010000, 2)], .stroke 0⟩] }) (2) (0) (0x010000) (0) (0) (1) (2) := by beta_reduce; refine ⟨?_, ?_, ?_, ?_, ?_⟩ <;> decide

theorem test_meets_StrokeSetup_7 :
    (fun (s : State) (kind : Nat) (num : Nat) (n : Nat) (k : Nat) (c : Change) (d : Change) => (powered s = true) ∧ (s.setup = [⟨kind, num, c, .stroke n⟩, ⟨kind, num, d, .slot k⟩]) ∧ (s.now < n))
      ({ State.reset with setup := [⟨1, 5, .closeChan 5, .stroke 1⟩, ⟨1, 5, .rateChan 5 100, .slot 3⟩] }) (1) (5) (1) (3) (.closeChan 5) (.rateChan 5 100) := by beta_reduce; refine ⟨?_, ?_, ?_⟩ <;> decide

theorem test_meets_StrokeSetup_8 :
    (fun (s : State) => (powered s = true) ∧ (s.now < s.spn.pausedUntil))
      ({ State.reset with spn := { State.reset.spn with pausedUntil := 1 } }) := by beta_reduce; refine ⟨?_, ?_⟩ <;> decide

theorem test_meets_SwitchSlots_1 :
    (fun (k : Fin 4) (w : Word) (s : State) => (powered s = true) ∧ (Word.slice w 9 8 = s.fld (swReg k 0) 9 8) ∧ (Word.slice w 9 8 ≤ 1) ∧ (armCause s k = 0))
      (3) (0) (st [(swReg 3 2, 16)]) := by beta_reduce; refine ⟨?_, ?_, ?_, ?_⟩ <;> decide

theorem test_meets_SwitchSlots_2 :
    (fun (k : Fin 4) (s : State) => (powered s = true) ∧ (swState s k = 1))
      (0) (st [(swReg 0 1, 1)]) := by beta_reduce; refine ⟨?_, ?_⟩ <;> decide

theorem test_meets_SwitchSlots_3 :
    (fun (k : Fin 4) (s : State) => (powered s = true) ∧ (swState s k ≠ 1) ∧ (swState s k ≠ 2))
      (0) (State.reset) := by beta_reduce; refine ⟨?_, ?_, ?_⟩ <;> decide

theorem test_meets_SwitchSlots_4 :
    (fun (n : Fin 67) (w : Word) (s : State) => (powered s = true) ∧ (Word.slice w 6 0 = 60 + n.val) ∧ (Word.slice w 17 16 < 4) ∧ (swState s (Word.slice w 17 16) = 1) ∧ (ackInTime s (Word.slice w 17 16) = true))
      (66) (0x03007E) (st [(swReg 3 1, 1), (swReg 3 2, 4)]) := by beta_reduce; refine ⟨?_, ?_, ?_, ?_, ?_⟩ <;> decide

theorem test_meets_SwitchSlots_5 :
    (fun (k : Fin 4) (i : Fin 60) (s : State) => (powered s = true) ∧ (swState s k = 1) ∧ (ackInTime s k = true) ∧ (i.val ≠ 53) ∧ (i.val = 58 → mirroring s = true → ∀ x ∈ s.vdt.slotWait, x.1 ≠ k.val))
      (3) (58) (st [(swReg 3 1, 1), (swReg 3 2, 4)]) := by beta_reduce; refine ⟨?_, ?_, ?_, ?_, ?_⟩ <;> decide

theorem test_meets_SwitchSlots_6 :
    (fun (k : Fin 4) (s : State) => (powered s = true) ∧ (swState s k = 1) ∧ (aheadBy s (timeAt s (swReg k 2)) = some 2) ∧ (s.fld (swReg k 0) 9 8 = 0) ∧ (maskAt s (swReg k 8) ≠ 0) ∧ ((maskAt s (swReg k 8) &&& maskAt s (swReg k 0x10)) = maskAt s (swReg k 8)))
      (3) (st [(swReg 3 1, 1), (swReg 3 2, 2), (swReg 3 8, 1), (swReg 3 0x10, 1)]) := by beta_reduce; refine ⟨?_, ?_, ?_, ?_, ?_, ?_⟩ <;> decide

theorem test_meets_SwitchSlots_7 :
    (fun (k : Fin 4) (s : State) => (powered s = true) ∧ (swState s k = 1) ∧ (aheadBy s (timeAt s (swReg k 2)) = some 2) ∧ (s.fld (swReg k 0) 9 8 = 0) ∧ (maskAt s (swReg k 8) ≠ 0) ∧ ((maskAt s (swReg k 8) &&& maskAt s (swReg k 0x10)) ≠ maskAt s (swReg k 8)))
      (3) (st [(swReg 3 1, 1), (swReg 3 2, 2), (swReg 3 8, 3), (swReg 3 0x10, 1)]) := by beta_reduce; refine ⟨?_, ?_, ?_, ?_, ?_, ?_⟩ <;> decide

theorem test_meets_SwitchSlots_8 :
    (fun (k : Fin 4) (s : State) => (powered s = true) ∧ (swState s k = 2) ∧ (timeAt s (swReg k 2) = s.stk.time) ∧ (s.fld (swReg k 0) 9 8 = 1))
      (0) (st [(swReg 0 1, 2), (swReg 0 0, 0x100)]) := by beta_reduce; refine ⟨?_, ?_, ?_, ?_⟩ <;> decide

theorem test_meets_TestsAndTasks_1 :
    (fun (m : Master) (w : Word) (s : State) => (Reaches m 0x000130 s) ∧ (Word.slice w 6 0 ≤ 114) ∧ (testKindOk (Word.slice w 6 0) (Word.slice w 15 8) = true) ∧ ((∀ r ∈ s.stk.tests, ¬ (r.col = Word.slice w 6 0 ∧ r.kind = Word.slice w 15 8))))
      (.keep) (0x000100) (State.reset) := by beta_reduce; refine ⟨?_, ?_, ?_, ?_⟩ <;> decide

theorem test_meets_TestsAndTasks_2 :
    (fun (c : Fin 115) (s : State) (r : TestReq) => (powered s = true) ∧ (112 ≤ c.val) ∧ (c.val < 114) ∧ (s.cell c = 2) ∧ (c.val ∉ s.stk.served) ∧ (testHead s c = some r) ∧ ((s.bank (c.val - 112)).job = none))
      (113) (cellAs 113 2 (tick 1 { State.reset with stk := { State.reset.stk with tests := [⟨113, 1, 0⟩] } })) (⟨113, 1, 0⟩) := by beta_reduce; refine ⟨?_, ?_, ?_, ?_, ?_, ?_, ?_⟩ <;> decide

theorem test_meets_TestsAndTasks_3 :
    (fun (t : Fin 8) (s : State) => (powered s = true) ∧ (2 ^ s.fld (taskReg t) 5 0 < Tab.get 0 s.stk.ages t) ∧ (t.val ∉ s.stk.urgent))
      (7) ({ State.reset with stk := { State.reset.stk with ages := [(7, 2 ^ 30)] } }) := by beta_reduce; refine ⟨?_, ?_, ?_⟩ <;> decide

theorem test_meets_TestsAndTasks_4 :
    (fun (s : State) => (powered s = true))
      (State.reset) := by beta_reduce; decide

theorem test_meets_CntClrClearsItsCounters_1 :
    (fun (m : Master) (s : State) => (Reaches m 0x000005 s))
      (.keep) (State.reset) := by beta_reduce; decide

theorem test_meets_CntClrClearsItsCounters_2 :
    (fun (m : Master) (s : State) (g : Fin 8) => (Reaches m (grpReg g 2) s))
      (.keep) (State.reset) (0) := by beta_reduce; decide

theorem test_meets_CntClrClearsItsCounters_3 :
    (fun (m : Master) (s : State) => (Reaches m 0x018003 s))
      (.keep) (State.reset) := by beta_reduce; decide

theorem test_meets_CntClrClearsItsCounters_4 :
    (fun (m : Master) (s : State) => (Reaches m 0x021C01 s))
      (.keep) (State.reset) := by beta_reduce; decide

theorem test_meets_CntClrClearsItsCounters_5 :
    (fun (m : Master) (s : State) => (Reaches m 0x030002 s))
      (.keep) (State.reset) := by beta_reduce; decide

theorem test_meets_CntClrClearsItsCounters_6 :
    (fun (m : Master) (s : State) (c : Fin 2) => (Reaches m (sdcReg c 2) s))
      (.keep) (State.reset) (0) := by beta_reduce; decide

theorem test_meets_CntClrClearsItsCounters_7 :
    (fun (m : Master) (s : State) => (Reaches m 0x041002 s))
      (.keep) (State.reset) := by beta_reduce; decide

theorem test_meets_CntClrClearsItsCounters_8 :
    (fun (m : Master) (s : State) => (Reaches m 0x050002 s))
      (.keep) (State.reset) := by beta_reduce; decide

theorem test_meets_CntClrClearsItsCounters_9 :
    (fun (m : Master) (s : State) => (Reaches m 0x060002 s))
      (.keep) (State.reset) := by beta_reduce; decide

theorem test_meets_CntClrClearsItsCounters_10 :
    (fun (m : Master) (s : State) => (Reaches m 0x080002 s))
      (.keep) (State.reset) := by beta_reduce; decide

theorem test_meets_CntClrClearsItsCounters_11 :
    (fun (m : Master) (s : State) => (Reaches m 0x090002 s))
      (.keep) (State.reset) := by beta_reduce; decide

theorem test_meets_CntClrClearsItsCounters_12 :
    (fun (m : Master) (s : State) => (Reaches m 0x0A0001 s))
      (.keep) (State.reset) := by beta_reduce; decide

theorem test_meets_CntClrClearsItsCounters_13 :
    (fun (m : Master) (s : State) => (Reaches m 0x0B0002 s))
      (.keep) (State.reset) := by beta_reduce; decide

theorem test_meets_CntClrClearsItsCounters_14 :
    (fun (m : Master) (s : State) => (Reaches m 0x0C0002 s))
      (.keep) (State.reset) := by beta_reduce; decide

theorem test_meets_CntClrClearsItsCounters_15 :
    (fun (m : Master) (s : State) => (Reaches m 0x0C1002 s))
      (.keep) (State.reset) := by beta_reduce; decide

theorem test_meets_CntClrClearsItsCounters_16 :
    (fun (m : Master) (s : State) => (Reaches m 0x0C2002 s))
      (.keep) (State.reset) := by beta_reduce; decide

theorem test_meets_BackgroundTaskVisits_1 :
    (fun (c : Fin 2) (s : State) => (powered s = true) ∧ (taskCell s 0 (110 + c) = true))
      (1) (cellAs 111 3 State.reset) := by beta_reduce; refine ⟨?_, ?_⟩ <;> decide

theorem test_meets_BackgroundTaskVisits_2 :
    (fun (p : BitVec 24) (l : Line) (s : State) => (powered s = true) ∧ (Tab.get none s.plc.cache p.toNat = some l) ∧ (l.dirty = true) ∧ (taskCell s 1 (110 + plateChannel s p.toNat) = true))
      (0) (⟨false, 0, true⟩) (cellAs 111 3 (cellAs 110 3 { State.reset with plc := { State.reset.plc with cache := [(0, some ⟨false, 0, true⟩)] } })) := by beta_reduce; refine ⟨?_, ?_, ?_, ?_⟩ <;> first | decide | exact cell_either _ _ _ (by decide) (by decide)

theorem test_meets_BackgroundTaskVisits_3 :
    (fun (c : Fin 2) (s : State) => (powered s = true) ∧ (taskCell s 2 (110 + c) = true))
      (1) (cellAs 111 3 State.reset) := by beta_reduce; refine ⟨?_, ?_⟩ <;> decide

theorem test_meets_BackgroundTaskVisits_4 :
    (fun (s : State) => (powered s = true) ∧ (taskCell s 3 110 = true ∨ taskCell s 3 111 = true))
      (cellAs 110 4 State.reset) := by beta_reduce; refine ⟨?_, ?_⟩ <;> decide

theorem test_meets_BackgroundTaskVisits_5 :
    (fun (i : Fin 66) (s : State) => (powered s = true) ∧ (taskCell s 4 (44 + i) = true))
      (65) (cellAs 109 3 State.reset) := by beta_reduce; refine ⟨?_, ?_⟩ <;> decide

theorem test_meets_BackgroundTaskVisits_6 :
    (fun (i : Fin 66) (s : State) => (powered s = true) ∧ (taskCell s 7 (44 + i) = true))
      (65) (cellAs 109 3 State.reset) := by beta_reduce; refine ⟨?_, ?_⟩ <;> decide

theorem test_meets_BackgroundTaskVisits_7 :
    (fun (s : State) => (powered s = true) ∧ (s.stk.time.num.toNat % 2 ^ s.fld 0x030000 15 11 = 0) ∧ (s.stk.done.contains 0 = false) ∧ (Tab.rising s.plc.cache = true))
      (State.reset) := by beta_reduce; refine ⟨?_, ?_, ?_, ?_⟩ <;> decide

theorem test_meets_BackgroundTaskVisits_8 :
    (fun (c : Fin 2) (s : State) => (powered s = true) ∧ (s.now % 2 ^ 20 = 0) ∧ (s.fld (sdcReg c 0) 15 12 ≠ 0) ∧ (s.stk.done.contains (c + 1) = false) ∧ ((∀ r ∈ s.stk.tests, ¬(r.col = 110 + c.val ∧ r.kind = 1))))
      (1) (st [(sdcReg 1 0, 0x1000)]) := by beta_reduce; refine ⟨?_, ?_, ?_, ?_, ?_⟩ <;> decide

theorem test_meets_BackgroundTaskVisits_9 :
    (fun (c : Fin 2) (s : State) => (powered s = true) ∧ (testProgress s (110 + c) ≠ none))
      (1) ({ State.reset with stk := { State.reset.stk with underTest := [(111, 2, 1)] } }) := by beta_reduce; refine ⟨?_, ?_⟩ <;> decide

theorem test_meets_PortsAndLanes_1 :
    (fun (g : Fin 8) (p : Fin 4) (s : State) => (powered s = true) ∧ (portState s (4 * g + p) = 1))
      (7) (3) (st [(portReg 31 1, 1)]) := by beta_reduce; refine ⟨?_, ?_⟩ <;> decide

theorem test_meets_PortsAndLanes_2 :
    (fun (g : Fin 8) (p : Fin 4) (s : State) => (powered s = true) ∧ (portState s (4 * g + p) = 2))
      (7) (3) (st [(portReg 31 1, 2)]) := by beta_reduce; refine ⟨?_, ?_⟩ <;> decide

theorem test_meets_PortsAndLanes_3 :
    (fun (g : Fin 8) (p : Fin 4) (s : State) => (powered s = true) ∧ (portState s (4 * g + p) = 1 ∨ portState s (4 * g + p) = 2) ∧ (Tab.get 0 s.dck.since (4 * g + p) + 2 ^ s.fld (grpReg g 0) 4 0 ≤ s.tick))
      (7) (3) (tick (2 ^ 22) (st [(portReg 31 1, 2)])) := by beta_reduce; refine ⟨?_, ?_, ?_⟩ <;> decide

theorem test_meets_PortsAndLanes_4 :
    (fun (g : Fin 8) (p : Fin 4) (s : State) => (powered s = true) ∧ (portState s (4 * g + p) = 3) ∧ ((∀ l ∈ portLanes s (4 * g + p), s.bit (laneReg l 1) 23 = true)))
      (7) (3) (st [(portReg 31 1, 3), (laneReg 31 1, 0x800000)]) := by beta_reduce; refine ⟨?_, ?_, ?_⟩ <;> decide

theorem test_meets_PortsAndLanes_5 :
    (fun (g : Fin 8) (p : Fin 4) (s : State) => (powered s = true) ∧ (portState s (4 * g + p) = 4) ∧ ((∀ f ∈ s.dck.frames, f.port ≠ 4 * g + p ∧ f.egress ≠ 4 * g + p)))
      (7) (3) (st [(portReg 31 1, 4)]) := by beta_reduce; refine ⟨?_, ?_, ?_⟩ <;> decide

theorem test_meets_PortsAndLanes_6 :
    (fun (g : Fin 8) (p : Fin 4) (s : State) => (powered s = true) ∧ (portState s (4 * g + p) ≠ 0) ∧ (s.bit (portReg (4 * g + p) 0) 23 = false) ∧ ((∀ f ∈ s.dck.frames, f.port ≠ 4 * g + p ∧ f.egress ≠ 4 * g + p)))
      (7) (3) (st [(portReg 31 1, 4)]) := by beta_reduce; refine ⟨?_, ?_, ?_, ?_⟩ <;> decide

theorem test_meets_PortsAndLanes_7 :
    (fun (g : Fin 8) (s : State) => (powered s = true) ∧ (modeDue s g = true) ∧ ((∀ f ∈ s.dck.frames, f.port / 4 ≠ g ∧ f.egress / 4 ≠ g)))
      (7) (st [(grpReg 7 0, 0x000100)]) := by beta_reduce; refine ⟨?_, ?_, ?_⟩ <;> decide

theorem test_meets_PortsAndLanes_8 :
    (fun (l : Fin 32) (s : State) => (powered s = true) ∧ (Tab.get 0 s.pwr.pllTries (4 + l) < 3) ∧ (portState s (laneOwner s l) = 2 ∨ portState s (laneOwner s l) = 3 ∧ firstState (modeActive s (l / 4)) (mediumActive s (l / 4)) = 3))
      (31) (st [(portReg 31 1, 2)]) := by beta_reduce; refine ⟨?_, ?_, ?_⟩ <;> decide

theorem test_meets_PortsAndLanes_9 :
    (fun (s : State) => (powered s = true))
      (State.reset) := by beta_reduce; decide

theorem test_meets_PortsAndLanes_10 :
    (fun (l : Fin 34) (k : Nat) (s : State) => (powered s = true) ∧ (l.val < 32) ∧ (portState s (laneOwner s l) = 4) ∧ (min 63 k < s.fld (laneReg l 0) 23 18) ∧ ((∀ r ∈ s.stk.tests, ¬(r.col = 114 ∧ r.kind = 0x40 + l.val))))
      (31) (0) (st [(portReg 31 1, 4), (laneReg 31 0, 0xFC0000)]) := by beta_reduce; refine ⟨?_, ?_, ?_, ?_, ?_⟩ <;> decide

theorem test_meets_FramesInTheDeck_1 :
    (fun (port : Fin 33) (b : Bytes) (s : State) => (powered s = true) ∧ (b ≠ []) ∧ (portUp s port = true) ∧ (arrivingOn s port = none) ∧ ((∀ f ∈ s.dck.frames, f.id < s.dck.nextId)))
      (32) ([0]) (State.reset) := by beta_reduce; refine ⟨?_, ?_, ?_, ?_, ?_⟩ <;> decide

theorem test_meets_FramesInTheDeck_2 :
    (fun (port : Fin 32) (f : Frame) (ok : Bool) (fu : Nat) (s : State) => (powered s = true) ∧ (arrivingOn s port = some f) ∧ (ok = false ∨ hasFec s port = true ∧ fu ≠ 0))
      (31) ({ Frame.blank with port := 31, stage := .arriving false }) (false) (0) ({ State.reset with dck := { State.reset.dck with frames := [{ Frame.blank with port := 31, stage := .arriving false }] } }) := by beta_reduce; refine ⟨?_, ?_, ?_⟩ <;> decide

theorem test_meets_FramesInTheDeck_3 :
    (fun (port : Fin 32) (f : Frame) (c : Nat) (p : Nat) (tg : Nat) (r : Chan) (s : State) => (powered s = true) ∧ (arrivingOn s port = some f) ∧ (f.failed = false) ∧ (beNat ((f.bytes.drop 12).take 2) ≠ 0x8808) ∧ (applianceDrops s port f.bytes = false) ∧ (64 ≤ f.bytes.length) ∧ (f.bytes.length ≤ s.fld (portReg port 0) 13 0) ∧ (classify s port f.bytes = .bound c p tg) ∧ (Tab.get none s.dck.chans c = some r) ∧ (r.stipple = false) ∧ (s.dataPlane = true) ∧ (s.fld 0x0B0001 23 22 ≠ 2) ∧ (plateState s p = 1 ∨ plateState s p = 2) ∧ (domErasing s r.dom = false) ∧ (domainFits s r.dom f.cells = true))
      (0) (clientFrame) (9) (5) (0) (clientChan) (boundState) := by beta_reduce; refine ⟨?_, ?_, ?_, ?_, ?_, ?_, ?_, ?_, ?_, ?_, ?_, ?_, ?_, ?_, ?_⟩ <;> decide

theorem test_meets_FramesInTheDeck_4 :
    (fun (id : Nat) (f : Frame) (s : State) => (powered s = true) ∧ ((s.dck.frames.find? fun f => f.id == id && (match f.stage with | .arriving _ | .sending => false | _ => true) && decide (f.bind + 2 ^ s.fld 0x018000 7 3 ≤ s.tick)) = some f))
      (0) (Frame.blank) (tick (2 ^ 14) { State.reset with dck := { State.reset.dck with frames := [Frame.blank] } }) := by beta_reduce; refine ⟨?_, ?_⟩ <;> decide

theorem test_meets_FramesInTheDeck_5 :
    (fun (port : Fin 32) (f : Frame) (d : Tab Nat) (s : State) => (powered s = true) ∧ (portUp s port = true) ∧ (s.transmits = true) ∧ ((∀ x ∈ s.dck.frames, ¬(x.egress = port.val ∧ x.stage = .sending))) ∧ (Tab.get 0 s.dck.paused port ≤ s.tick) ∧ (nextFrame s port = some (f, d)))
      (31) ({ Frame.blank with egress := 31, stage := .ready }) ([]) ({ (st [(portReg 31 1, 4), (0x070000, 0x000502), (0x100000, 0x800000), (0x090001, 0x800000)]) with dck := { State.reset.dck with frames := [{ Frame.blank with egress := 31, stage := .ready }] } }) := by beta_reduce; refine ⟨?_, ?_, ?_, ?_, ?_, ?_⟩ <;> decide

theorem test_meets_FramesInTheDeck_6 :
    (fun (g : Fin 4) (p : Fin 4) (s : State) => (powered s = true) ∧ (Tab.get 0 s.dck.pauseSent (4 * g + p) ≠ 0) ∧ (Tab.get 0 s.dck.pauseSent (4 * g + p) - 1 + 2048 ≤ s.tick) ∧ (s.bit (portReg (4 * g + p) 0) 21 = true) ∧ (16 * s.fld (pgReg g 3) 23 12 ≤ groupUse s g) ∧ (portUp s (4 * g + p) = true))
      (3) (3) (tick 2048 { (st [(portReg 15 1, 4), (portReg 15 0, 0x200000)]) with dck := { State.reset.dck with pauseSent := [(15, 1)] } }) := by beta_reduce; refine ⟨?_, ?_, ?_, ?_, ?_, ?_⟩ <;> decide

theorem test_meets_FramesInTheDeck_7 :
    (fun (port : Fin 16) (s : State) => (powered s = true) ∧ (Tab.get 0 s.dck.paused port ≤ s.tick))
      (0) (State.reset) := by beta_reduce; refine ⟨?_, ?_⟩ <;> decide

theorem test_meets_ControlQueues_1 :
    (fun (m : Master) (q : Fin 8) (s : State) => (Reads m (cqReg q 0) s))
      (.keep) (7) (State.reset) := by beta_reduce; decide

theorem test_meets_ControlQueues_2 :
    (fun (m : Master) (q : Fin 8) (p : Nat) (b : Bytes) (l : List (Nat × Bytes)) (s : State) => (Reads m (cqReg q 1) s) ∧ (rxq s q = (p, b) :: l))
      (.keep) (7) (0) ([1, 2]) ([]) ({ State.reset with dck := { State.reset.dck with rxq := [(7, [(0, [1, 2])])] } }) := by beta_reduce; refine ⟨?_, ?_⟩ <;> decide

theorem test_meets_ControlQueues_3 :
    (fun (m : Master) (q : Fin 8) (p : Nat) (b : Bytes) (l : List (Nat × Bytes)) (s : State) => (Reaches m (cqReg q 2) s) ∧ (rxq s q = (p, b) :: l))
      (.keep) (7) (0) ([1, 2]) ([]) ({ State.reset with dck := { State.reset.dck with rxq := [(7, [(0, [1, 2])])] } }) := by beta_reduce; refine ⟨?_, ?_⟩ <;> decide

theorem test_meets_ControlQueues_4 :
    (fun (m : Master) (q : Fin 8) (s : State) => (Reaches m (cqReg q 3) s))
      (.keep) (7) (State.reset) := by beta_reduce; decide

theorem test_meets_ControlQueues_5 :
    (fun (m : Master) (q : Fin 8) (w : Word) (s : State) => (Reaches m (cqReg q 4) s) ∧ (q.val < 4) ∧ (portUp s (4 * q + Word.slice w 20 19) = true) ∧ (s.transmits = true) ∧ (Word.slice w 13 0 ≤ (Tab.get [] s.dck.build q).length) ∧ (Word.slice w 13 0 + 4 ≤ s.fld (portReg (4 * q + Word.slice w 20 19) 0) 13 0) ∧ (Word.slice w 13 0 ≤ 252) ∧ (mayTake s q = true) ∧ (domainFits s 256 1 = true))
      (.keep) (3) (0x1800FC) ({ (st [(portReg 15 1, 4), (domReg 256 0, 1), (0x070000, 0x000502), (0x100000, 0x800000), (0x090001, 0x800000)]) with dck := { State.reset.dck with build := [(3, List.replicate 252 0)] } }) := by beta_reduce; refine ⟨?_, ?_, ?_, ?_, ?_, ?_, ?_, ?_, ?_⟩ <;> decide

theorem test_meets_SpansAndPacketNumbers_1 :
    (fun (s : State) => (powered s = true))
      (State.reset) := by beta_reduce; decide

theorem test_meets_SpansAndPacketNumbers_2 :
    (fun (n : Fin 28) (s : State) => (powered s = true) ∧ (s.spn.faults.contains n.val = true) ∧ (spnState s n ≠ 0) ∧ (Tab.get 0 s.spn.faultAt n < s.now))
      (27) (tick 1 { (st [(spnReg 27 0, 1)]) with spn := { State.reset.spn with faults := [27] } }) := by beta_reduce; refine ⟨?_, ?_, ?_, ?_⟩ <;> decide

theorem test_meets_SpansAndPacketNumbers_3 :
    (fun (n : Fin 28) (k : Nat) (at_ : Nat) (s : State) => (powered s = true) ∧ ((s.spn.tested.find? fun x => x.1 == n.val && decide (x.2.2.2 < s.now)) = some (n.val, k, false, at_)))
      (27) (3) (0) (tick 1 { (st []) with spn := { State.reset.spn with tested := [(27, 3, false, 0)] } }) := by beta_reduce; refine ⟨?_, ?_⟩ <;> decide

theorem test_meets_SpansAndPacketNumbers_4 :
    (fun (n : Fin 28) (k : Nat) (at_ : Nat) (s : State) => (powered s = true) ∧ (spnState s n = 4) ∧ ((s.spn.tested.find? fun x => x.1 == n.val && decide (x.2.2.2 < s.now)) = some (n.val, k, true, at_)) ∧ ((∀ g < 4, (planSpans s.spn.layout g).contains n.val = false)))
      (27) (3) (0) (tick 1 { (st [(spnReg 27 0, 4)]) with spn := { State.reset.spn with tested := [(27, 3, true, 0)] } }) := by beta_reduce; refine ⟨?_, ?_, ?_, ?_⟩ <;> decide

theorem test_meets_SpansAndPacketNumbers_5 :
    (fun (n : Fin 28) (b : Fin 28) (k : Nat) (at_ : Nat) (s : State) => (powered s = true) ∧ ((s.spn.tested.find? fun x => x.1 == n.val && decide (x.2.2.2 < s.now)) = some (n.val, k, true, at_)) ∧ (spnState s n = 3) ∧ (covererOf s n = some b.val) ∧ (∃ g < 4, (planSpans s.spn.layout g).contains b.val = true) ∧ ((∀ g < 4, (planSpans s.spn.layout g).contains n.val = false)))
      (27) (3) (3) (0) (tick 1 { (st [(spnReg 27 0, 3), (spnReg 3 0, 2), (spnReg 3 0x40, 27)]) with spn := { State.reset.spn with tested := [(27, 3, true, 0)], layout := { State.reset.spn.layout with groups := [(2, [3])] } } }) := by beta_reduce; refine ⟨?_, ?_, ?_, ?_, ?_, ?_⟩ <;> decide

theorem test_meets_SpansAndPacketNumbers_6 :
    (fun (w : Word) (s : State) => (powered s = true) ∧ (s.bit 0x021C03 23 = false) ∧ (Word.slice w 4 0 < 28) ∧ (spnState s (Word.slice w 4 0) = 1) ∧ (freeSpan s ≠ none))
      (27) (st [(spnReg 27 0, 1)]) := by beta_reduce; refine ⟨?_, ?_, ?_, ?_, ?_⟩ <;> decide

theorem test_meets_SpansAndPacketNumbers_7 :
    (fun (s : State) => (powered s = true) ∧ (s.bit 0x021C03 23 = true) ∧ (s.spn.swapAt < s.now) ∧ (s.fld 0x021C03 4 0 < 28) ∧ (spnState s (s.fld 0x021C03 4 0) = 1))
      (tick 1 (st [(0x021C03, 0x80001B), (spnReg 27 0, 1)])) := by beta_reduce; refine ⟨?_, ?_, ?_, ?_, ?_⟩ <;> decide

theorem test_meets_SpansAndPacketNumbers_8 :
    (fun (m : Master) (s : State) => (Reads m 0x021C08 s))
      (.keep) (State.reset) := by beta_reduce; decide

theorem test_meets_SpansAndPacketNumbers_9 :
    (fun (m : Master) (s : State) => (Reaches m 0x021C0A s))
      (.keep) (State.reset) := by beta_reduce; decide

theorem test_meets_SpansAndPacketNumbers_10 :
    (fun (i : Fin 32) (x : Truss) (s : State) => (powered s = true) ∧ (Tab.get none s.spn.layout.trusses i = some x) ∧ (x.removed = true) ∧ ((∀ f ∈ s.dck.frames, i.val ∉ f.trusses)))
      (31) (⟨none, 0, none, [], true⟩) ({ State.reset with spn := { State.reset.spn with layout := { State.reset.spn.layout with trusses := [(31, some ⟨none, 0, none, [], true⟩)] } } }) := by beta_reduce; refine ⟨?_, ?_, ?_, ?_⟩ <;> decide

theorem test_meets_PlateFetches_1 :
    (fun (c : Fin 2) (m : Miss) (w : Nat) (s : State) => (powered s = true) ∧ ((s.plc.queue.find? fun m => plateChannel s m.plate == c.val && m.started.isNone && fetchCell s c m) = some m) ∧ (entersPinned s m.plate = false) ∧ (((List.range (cacheWays s)).find? fun w => !(waysUsed s (plateSet s m.plate)).contains w) = some w))
      (⟨plateChannel State.reset 0, plateChannel_lt _ _⟩) (⟨0, 0, none, 0, false, 0, false⟩) (0) ({ State.reset with plc := { State.reset.plc with queue := [⟨0, 0, none, 0, false, 0, false⟩] } }) := by
  refine ⟨by decide, ?_, by decide, by simp only [waysUsed, setLines]; decide⟩
  show List.find? _ [_] = _
  rw [List.find?_cons_of_pos]
  simp only [Bool.and_eq_true, beq_iff_eq]
  exact ⟨⟨rfl, rfl⟩, by rcases plateChannel_or State.reset 0 with h | h <;> simp only [h] <;> decide⟩

theorem test_meets_PlateFetches_2 :
    (fun (p : BitVec 24) (m : Miss) (s : State) => (powered s = true) ∧ (fetchReady s p.toNat = some m) ∧ (s.plc.waiting = []) ∧ ((∀ x ∈ Tab.get [] s.plc.tree (plateChannel s p.toNat), x.2 = false)))
      (0) (⟨0, 0, some 0, 0, false, 0, false⟩) (tick 2 { State.reset with plc := { State.reset.plc with queue := [⟨0, 0, some 0, 0, false, 0, false⟩] } }) := by beta_reduce; refine ⟨?_, ?_, ?_, ?_⟩ <;> decide

theorem test_meets_PlateFetches_3 :
    (fun (p : BitVec 24) (m : Miss) (s : State) => (powered s = true) ∧ (m ∈ s.plc.queue ∨ m ∈ s.plc.waiting) ∧ (m.plate = p.toNat) ∧ (m.late = false) ∧ (m.since + 8 < s.tick))
      (0) (⟨0, 0, none, 0, false, 0, false⟩) (tick 9 { State.reset with plc := { State.reset.plc with queue := [⟨0, 0, none, 0, false, 0, false⟩] } }) := by beta_reduce; refine ⟨?_, ?_, ?_, ?_, ?_⟩ <;> decide

theorem test_meets_PlateFetches_4 :
    (fun (p : BitVec 24) (l : Line) (s : State) => (powered s = true) ∧ (Tab.get none s.plc.cache p.toNat = some l) ∧ (l.pinned = false) ∧ (entersPinned s p.toNat = true))
      (0) (⟨false, 0, true⟩) ({ (st [(0x030000, 0x080017)]) with plc := { State.reset.plc with cache := [(0, some ⟨false, 0, true⟩)], words := [(0, 0x000800)] } }) := by beta_reduce; refine ⟨?_, ?_, ?_, ?_⟩ <;> decide

theorem test_meets_PlateChangesAndDrains_1 :
    (fun (p : BitVec 24) (d : Nat) (k : Nat) (s : State) => (powered s = true) ∧ (s.spn.pausedUntil ≤ s.now) ∧ (k ≤ s.now) ∧ (s.setup = [⟨0, p.toNat, .retire p.toNat d, .stroke k⟩]) ∧ (resident s p.toNat = true) ∧ (retireCheck { s with setup := [] } p.toNat d (some s.now) = stOK))
      (0) (256) (0) ({ State.reset with plc := { State.reset.plc with words := [(0, 0x200000)] }, setup := [⟨0, 0, .retire 0 256, .stroke 0⟩] }) := by beta_reduce; refine ⟨?_, ?_, ?_, ?_, ?_, ?_⟩ <;> decide

theorem test_meets_PlateChangesAndDrains_2 :
    (fun (p : BitVec 24) (s : State) => (powered s = true) ∧ (plateState s p.toNat = 3) ∧ (Tab.get 0 s.plc.recycles p.toNat + 2 ≤ s.tick) ∧ (Tab.get [] s.plc.outgoing p.toNat = []))
      (0) (tick 2 { State.reset with plc := { State.reset.plc with words := [(0, 0x600000)] } }) := by beta_reduce; refine ⟨?_, ?_, ?_, ?_⟩ <;> decide

theorem test_meets_PlateChangesAndDrains_3 :
    (fun (m : Master) (s : State) => (Reaches m 0x030031 s) ∧ (s.bit 0x030031 22 = false) ∧ ((s.rd 0x030030).toNat < plateCapacity s) ∧ (resident s (s.rd 0x030030).toNat = true))
      (.keep) (State.reset) := by beta_reduce; refine ⟨?_, ?_, ?_, ?_⟩ <;> decide

theorem test_meets_PlateChangesAndDrains_4 :
    (fun (p : Nat) (s : State) => (powered s = true) ∧ (s.plc.snapshot = some p) ∧ (resident s p = true))
      (0) ({ State.reset with plc := { State.reset.plc with snapshot := some 0 } }) := by beta_reduce; refine ⟨?_, ?_, ?_⟩ <;> decide

theorem test_meets_PlateChangesAndDrains_5 :
    (fun (m : Master) (c : Fin 2) (w : Word) (s : State) => (Reaches m (sdcReg c 0) s) ∧ (s.bit (sdcReg c 0) 22 = true) ∧ (s.bit (sdcReg c 0) 11 = false) ∧ (Word.bit w 22 = false) ∧ ((channelPlates s c).length ≤ spareSlots s (1 - c)))
      (.keep) (1) (0) (st [(sdcReg 1 0, 0x401000)]) := by beta_reduce; refine ⟨?_, ?_, ?_, ?_, ?_⟩ <;> decide

theorem test_meets_PlateChangesAndDrains_6 :
    (fun (m : Master) (c : Fin 2) (w : Word) (s : State) => (Reaches m (sdcReg c 0) s) ∧ (s.bit (sdcReg c 0) 22 = true) ∧ (s.bit (sdcReg c 0) 11 = true) ∧ (Word.bit w 22 = false))
      (.keep) (1) (0) (st [(sdcReg 1 0, 0x400800)]) := by beta_reduce; refine ⟨?_, ?_, ?_, ?_⟩ <;> decide

theorem test_meets_PlateChangesAndDrains_7 :
    (fun (c : Fin 2) (s : State) => (powered s = true) ∧ (s.bit (sdcReg c 1) 22 = true) ∧ (channelPlates s c = []))
      (1) (st [(sdcReg 1 1, 0x400000)]) := by beta_reduce; refine ⟨?_, ?_, ?_⟩ <;> decide

theorem test_meets_GraverAuthorityAndJobCommand_1 :
    (fun (n : Fin 16) (w : Word) (s : State) => (powered s = true) ∧ (grvState s n = 0 ∨ grvState s n = 4) ∧ (s.bit 0x041001 n = false) ∧ (Word.slice w 8 0 ≤ 256))
      (15) (256) (State.reset) := by beta_reduce; refine ⟨?_, ?_, ?_, ?_⟩ <;> decide

theorem test_meets_GraverAuthorityAndJobCommand_2 :
    (fun (n : Fin 16) (s : State) => (powered s = true) ∧ (grvState s n = 1) ∧ (s.fld (grvReg n 6) 23 0 ≠ 0) ∧ (outOverlap s n = false) ∧ (resultSlots s n = 0))
      (15) (st [(grvReg 15 0, 0x200000), (grvReg 15 6, 0xFFFFFF)]) := by beta_reduce; refine ⟨?_, ?_, ?_, ?_, ?_⟩ <;> decide

theorem test_meets_GraverAuthorityAndJobCommand_3 :
    (fun (n : Fin 16) (s : State) => (powered s = true) ∧ (grvState s n = 1) ∧ (s.fld (grvReg n 6) 23 0 ≠ 0) ∧ (outOverlap s n = false) ∧ (resultSlots s n ≠ 0) ∧ (slotQuotaOk s (grvDom s n) (resultSlots s n) = true))
      (15) (st [(grvReg 15 0, 0x200100), (grvReg 15 6, 0xFFFFFF), (grvReg 15 4, 0x23), (grvReg 15 5, 255), (grvReg 15 8, 1), (0x050001, 64511)]) := by beta_reduce; refine ⟨?_, ?_, ?_, ?_, ?_, ?_⟩ <;> decide

theorem test_meets_GraverAuthorityAndJobCommand_4 :
    (fun (n : Fin 16) (s : State) => (powered s = true) ∧ (grvState s n = 1) ∧ (s.fld (grvReg n 6) 23 0 ≠ 0) ∧ (outOverlap s n = false) ∧ (resultSlots s n ≠ 0) ∧ (slotQuotaOk s (grvDom s n) (resultSlots s n) = false))
      (15) (st [(grvReg 15 0, 0x200100), (grvReg 15 6, 0xFFFFFF), (grvReg 15 4, 0x23), (grvReg 15 5, 255), (grvReg 15 8, 1)]) := by beta_reduce; refine ⟨?_, ?_, ?_, ?_, ?_, ?_⟩ <;> decide

theorem test_meets_GraverAuthorityAndJobCommand_5 :
    (fun (n : Fin 16) (s : State) => (powered s = true) ∧ (grvState s n = 1 ∨ grvState s n = 4))
      (15) (st [(grvReg 15 0, 0x800000)]) := by beta_reduce; refine ⟨?_, ?_⟩ <;> decide

theorem test_meets_GraverAuthorityAndJobCommand_6 :
    (fun (n : Fin 16) (s : State) => (powered s = true) ∧ ((s.grv n).wipeDue = true))
      (15) ({ State.reset with gravers := [(15, { GraverState.init with wipeDue := true })] }) := by beta_reduce; refine ⟨?_, ?_⟩ <;> decide

theorem test_meets_GraverAuthorityAndJobCommand_7 :
    (fun (s : State) => (powered s = true))
      (State.reset) := by beta_reduce; decide

theorem test_meets_GraverAuthorityAndJobCommand_8 :
    (fun (n : Fin 16) (s : State) => (powered s = true) ∧ (grvState s n = 3))
      (15) (st [(grvReg 15 0, 0x600000)]) := by beta_reduce; refine ⟨?_, ?_⟩ <;> decide

theorem test_meets_GraverAuthorityAndJobCommand_9 :
    (fun (n : Fin 16) (s : State) => (powered s = true) ∧ (grvState s n ∈ [0, 1, 4, 5]) ∧ ((s.grv n).staged = none) ∧ ((∀ r ∈ s.stk.tests, ¬(r.col = 28 + n.val ∧ r.kind = 1))))
      (15) (st [(grvReg 15 0, 0x800000)]) := by beta_reduce; refine ⟨?_, ?_, ?_, ?_⟩ <;> decide

theorem test_meets_GraverAuthorityAndJobCommand_10 :
    (fun (fn : Fin 257) (g : Fin 520) (idx : Nat) (f : Flight) (a : GraverArgs) (s : State) => (Takes s 0x30 fn g idx f) ∧ (jobDuration a.kind.toNat a.size = none) ∧ (a.kind.toNat ≠ 0xF0))
      (0) (0) (0) (fl 0x30) (⟨0x02, false, false, 1, [0, 0, 0, 0], []⟩) (flying 0x30 State.reset) := by beta_reduce; refine ⟨?_, ?_, ?_⟩ <;> first | decide | (constructor <;> decide)

theorem test_meets_GraverAuthorityAndJobCommand_11 :
    (fun (fn : Fin 257) (g : Fin 520) (idx : Nat) (f : Flight) (a : GraverArgs) (s : State) => (Takes s 0x30 fn g idx f) ∧ (jobDuration a.kind.toNat a.size ≠ none ∨ a.kind.toNat = 0xF0) ∧ ((∀ n < 16, (grvState s n ≠ 0 ∧ grvState s n ≠ 4) ∨ s.bit 0x041001 n = true)))
      (0) (0) (0) (fl 0x30) (⟨0x02, false, false, 2048, [0, 0, 0, 0], []⟩) (flying 0x30 (st [(0x041001, 0x00FFFF)])) := by beta_reduce; refine ⟨?_, ?_, ?_⟩ <;> first | decide | (constructor <;> decide)

theorem test_meets_GraverAuthorityAndJobCommand_12 :
    (fun (fn : Fin 257) (g : Fin 520) (idx : Nat) (f : Flight) (a : GraverArgs) (s : State) (dur : Nat) => (Takes s 0x30 fn g idx f) ∧ (dur = (jobDuration a.kind.toNat a.size).getD (1 + (Config.freeWord s.free).toNat % (2 ^ 24 - 1))) ∧ (jobDuration a.kind.toNat a.size ≠ none ∨ a.kind.toNat = 0xF0) ∧ (freeGravers s ≠ []))
      (0) (0) (0) (fl 0x30) (⟨0x02, false, false, 2048, [0, 0, 0, 0], []⟩) (flying 0x30 State.reset) (12) := by beta_reduce; refine ⟨?_, ?_, ?_, ?_⟩ <;> first | rfl | decide | (constructor <;> decide)

theorem test_meets_GraverJobs_1 :
    (fun (n : Fin 16) (s : State) => (powered s = true) ∧ (jobMayStart s n = true))
      (15) (tick 1 (st [(grvReg 15 0, 0x400000)])) := by beta_reduce; refine ⟨?_, ?_⟩ <;> decide

theorem test_meets_GraverJobs_2 :
    (fun (n : Fin 16) (s : State) => (powered s = true) ∧ (grvState s n = 3) ∧ ((s.grv n).endAt ≤ s.tick) ∧ ((s.grv n).halt = none) ∧ ((s.grv n).draws = 0) ∧ ((s.grv n).ended = true) ∧ ((s.grv n).cycles ≤ 1000 * s.fld (grvReg n 6) 23 0) ∧ (s.fld (grvReg n 4) 7 0 ∉ [0x01, 0x03, 0x41]) ∧ (s.bit 0x041001 n = false) ∧ (s.fld (grvReg n 7) 19 10 + s.fld (grvReg n 7) 9 0 ≤ 1024))
      (15) ({ (graver 3 0 0 0 0 0) with gravers := [(15, { GraverState.init with ended := true })] }) := by beta_reduce; refine ⟨?_, ?_, ?_, ?_, ?_, ?_, ?_, ?_, ?_, ?_⟩ <;> decide

theorem test_meets_GraverJobs_3 :
    (fun (m : Master) (n : Fin 16) (s : State) => (Reaches m (grvReg n 2) s) ∧ (grvState s n = 2 ∨ grvState s n = 3))
      (.keep) (15) (st [(grvReg 15 0, 0x600000)]) := by beta_reduce; refine ⟨?_, ?_⟩ <;> decide

theorem test_meets_GraverJobs_4 :
    (fun (n : Fin 16) (s : State) => (powered s = true) ∧ ((s.grv n).abort = true) ∧ (grvState s n = 2 ∨ grvState s n = 3) ∧ ((s.grv n).halt ≠ some jFAULT) ∧ (s.bit 0x041001 n = false))
      (15) ({ (graver 3 0 0 0 0 0) with gravers := [(15, { GraverState.init with abort := true })] }) := by beta_reduce; refine ⟨?_, ?_, ?_, ?_, ?_⟩ <;> decide

theorem test_meets_GraverJobs_5 :
    (fun (m : Master) (n : Fin 16) (s : State) => (Reaches m (grvReg n 0x11) s) ∧ (jobLocked s n = false))
      (.keep) (15) (State.reset) := by beta_reduce; refine ⟨?_, ?_⟩ <;> decide

theorem test_meets_GraverJobs_6 :
    (fun (m : Master) (n : Fin 16) (s : State) => (Reaches m (grvReg n 0x13) s) ∧ (bankWordOpen s n = true))
      (.keep) (15) (st [(grvReg 15 0, 0x800000), (grvReg 15 0x12, 0x0042FF)]) := by beta_reduce; refine ⟨?_, ?_⟩ <;> decide

theorem test_meets_GraverJobs_7 :
    (fun (m : Master) (n : Fin 16) (s : State) => (Reads m (grvReg n 0x13) s))
      (.keep) (0) (State.reset) := by beta_reduce; decide

theorem test_meets_GraverArithmetic_1 :
    (fun (c : Instr) (n : Fin 16) (w : Nat) (xb : Nat) (xo : Nat) (yb : Nat) (yo : Nat) (s : State) => (powered s = true) ∧ ((c = .mac n ∧ AtEntry s n 1 ∧ w = 0) ∨ (c = .macw n ∧ AtEntry s n 2 ∧ auxValue (s.grv n) = some w)) ∧ (operand (s.grv n) (entryWord (s.grv n) 1) = (xb, xo)) ∧ (operand (s.grv n) (entryWord (s.grv n) 2) = (yb, yo)) ∧ (rangeOk xb xo (entryLen (s.grv n)) = true) ∧ (rangeOk 4 w (entryLen (s.grv n)) = true) ∧ (lmodOf s n = 0) ∧ (rangeOk yb yo 1 = true))
      (.mac 15) (15) (0) (0) (0) (1) (767) (graver 3 1 768 0 0x2002FF 0) := by beta_reduce; refine ⟨?_, ?_, ?_, ?_, ?_, ?_, ?_, ?_⟩ <;> first | decide | exact .inl ⟨rfl, by constructor <;> decide, rfl⟩

theorem test_meets_GraverArithmetic_2 :
    (fun (c : Instr) (n : Fin 16) (w : Nat) (xb : Nat) (xo : Nat) (yb : Nat) (yo : Nat) (s : State) => (powered s = true) ∧ ((c = .mac n ∧ AtEntry s n 1 ∧ w = 0) ∨ (c = .macw n ∧ AtEntry s n 2 ∧ auxValue (s.grv n) = some w)) ∧ (operand (s.grv n) (entryWord (s.grv n) 1) = (xb, xo)) ∧ (operand (s.grv n) (entryWord (s.grv n) 2) = (yb, yo)) ∧ (rangeOk xb xo (entryLen (s.grv n)) = true) ∧ (rangeOk 4 w (entryLen (s.grv n)) = true) ∧ (lmodOf s n ≠ 0) ∧ (rangeOk yb yo (if Word.bit (entryWord (s.grv n) 0) 17 = true then entryLen (s.grv n) else 1) = true) ∧ (Word.bit (entryWord (s.grv n) 0) 18 = false))
      (.macw 15) (15) (4) (0) (0) (1) (767) ({ (graver 3 2 768 0 0x2002FF 4) with io := (graver 3 2 768 0 0x2002FF 4).io ++ [(grvReg 15 0x18, 3)] }) := by beta_reduce; refine ⟨?_, ?_, ?_, ?_, ?_, ?_, ?_, ?_, ?_⟩ <;> first | decide | exact .inr ⟨rfl, by constructor <;> decide, by decide⟩

theorem test_meets_GraverArithmetic_3 :
    (fun (n : Fin 16) (s : State) => (powered s = true) ∧ (AtEntry s n 3))
      (15) (graver 3 3 0 0 0 0) := by beta_reduce; refine ⟨?_, ?_⟩ <;> first | decide | (constructor <;> decide)

theorem test_meets_GraverArithmetic_4 :
    (fun (n : Fin 16) (s : State) => (powered s = true) ∧ (AtEntry s n 4))
      (15) (graver 3 4 0 0 0 0) := by beta_reduce; refine ⟨?_, ?_⟩ <;> first | decide | (constructor <;> decide)

theorem test_meets_GraverArithmetic_5 :
    (fun (n : Fin 16) (xb : Nat) (xo : Nat) (yb : Nat) (yo : Nat) (s : State) => (powered s = true) ∧ (AtEntry s n 7) ∧ (operand (s.grv n) (entryWord (s.grv n) 1) = (xb, xo)) ∧ (operand (s.grv n) (entryWord (s.grv n) 2) = (yb, yo)) ∧ (rangeOk xb xo (entryLen (s.grv n)) = true) ∧ (rangeOk yb yo (entryLen (s.grv n)) = true))
      (15) (0) (0) (1) (0) (graver 3 7 768 0 0x200000 0) := by beta_reduce; refine ⟨?_, ?_, ?_, ?_, ?_, ?_⟩ <;> first | decide | (constructor <;> decide)

theorem test_meets_GraverMovesAndLoops_1 :
    (fun (n : Fin 16) (xb : Nat) (xo : Nat) (yb : Nat) (yo : Nat) (s : State) => (powered s = true) ∧ (AtEntry s n 5) ∧ (operand (s.grv n) (entryWord (s.grv n) 1) = (xb, xo)) ∧ (operand (s.grv n) (entryWord (s.grv n) 2) = (yb, yo)) ∧ (rangeOk xb xo (entryLen (s.grv n)) = true) ∧ (rangeOk yb yo (entryLen (s.grv n)) = true) ∧ (Word.slice (entryWord (s.grv n) 0) 15 14 = 0))
      (15) (0) (0) (1) (0) (graver 3 5 768 0 0x200000 0) := by beta_reduce; refine ⟨?_, ?_, ?_, ?_, ?_, ?_, ?_⟩ <;> first | decide | (constructor <;> decide)

theorem test_meets_GraverMovesAndLoops_2 :
    (fun (n : Fin 16) (xb : Nat) (xo : Nat) (yb : Nat) (yo : Nat) (s : State) => (powered s = true) ∧ (AtEntry s n 5) ∧ (operand (s.grv n) (entryWord (s.grv n) 1) = (xb, xo)) ∧ (operand (s.grv n) (entryWord (s.grv n) 2) = (yb, yo)) ∧ (rangeOk xb xo (entryLen (s.grv n)) = true) ∧ (rangeOk yb yo (entryLen (s.grv n)) = true) ∧ (Word.slice (entryWord (s.grv n) 0) 15 14 = 2) ∧ (xb ≠ yb))
      (15) (0) (0) (1) (0) (graver 3 5 (768 + 2 ^ 15) 0 0x200000 0) := by beta_reduce; refine ⟨?_, ?_, ?_, ?_, ?_, ?_, ?_, ?_⟩ <;> first | decide | (constructor <;> decide)

theorem test_meets_GraverMovesAndLoops_3 :
    (fun (n : Fin 16) (yb : Nat) (yo : Nat) (ws : List Word) (s : State) => (powered s = true) ∧ (AtEntry s n 6) ∧ (operand (s.grv n) (entryWord (s.grv n) 2) = (yb, yo)) ∧ (rangeOk yb yo (entryLen (s.grv n)) = true) ∧ (s.bit (grvReg n 4) 23 = false ∨ (s.grv n).curveOk = true) ∧ (ldkWords s n (s.grv n) = some ws))
      (15) (1) (0) ([]) (withKey (graver 3 6 0 0 0x200000 0)) := by beta_reduce; refine ⟨?_, ?_, ?_, ?_, ?_, ?_⟩ <;> first | decide | (constructor <;> decide)

theorem test_meets_GraverMovesAndLoops_4 :
    (fun (n : Fin 16) (yb : Nat) (yo : Nat) (since : Nat) (ws : List Word) (s : State) => (powered s = true) ∧ ((s.grv n).stalled = some since) ∧ (grvState s n = 3) ∧ ((s.grv n).halt = none) ∧ (operand (s.grv n) (entryWord (s.grv n) 2) = (yb, yo)) ∧ (ldkWords s n (s.grv n) = some ws) ∧ (yb ≤ 4))
      (15) (4) (0) (0) ([]) (stall (withKey (graver 3 6 0 0 0x800000 0))) := by beta_reduce; refine ⟨?_, ?_, ?_, ?_, ?_, ?_, ?_⟩ <;> first | decide | (constructor <;> decide)

theorem test_meets_GraverMovesAndLoops_5 :
    (fun (n : Fin 16) (xb : Nat) (xo : Nat) (s : State) => (powered s = true) ∧ (AtEntry s n 8) ∧ (operand (s.grv n) (entryWord (s.grv n) 1) = (xb, xo)) ∧ (xb = 7))
      (15) (7) (0) (graver 3 8 1 0xE00000 0 0) := by beta_reduce; refine ⟨?_, ?_, ?_, ?_⟩ <;> first | decide | (constructor <;> decide)

theorem test_meets_GraverMovesAndLoops_6 :
    (fun (n : Fin 16) (xb : Nat) (xo : Nat) (s : State) => (powered s = true) ∧ (AtEntry s n 8) ∧ (operand (s.grv n) (entryWord (s.grv n) 1) = (xb, xo)) ∧ (rangeOk xb xo 1 = true) ∧ (((s.grv n).word xb xo).toNat % 2 = 1) ∧ (3 ≤ ((s.grv n).word xb xo).toNat) ∧ (((s.grv n).word xb xo).toNat < 2 ^ 23))
      (15) (0) (0) (bankWord 0 0x7FFFFF (graver 3 8 1 0 0 0)) := by beta_reduce; refine ⟨?_, ?_, ?_, ?_, ?_, ?_, ?_⟩ <;> first | decide | (constructor <;> decide)

theorem test_meets_GraverMovesAndLoops_7 :
    (fun (n : Fin 16) (s : State) => (powered s = true) ∧ (AtEntry s n 0x10) ∧ ((s.grv n).loops.length < 3))
      (15) (graver 3 0x10 0 5 0 0) := by beta_reduce; refine ⟨?_, ?_, ?_⟩ <;> first | decide | (constructor <;> decide)

theorem test_meets_GraverMovesAndLoops_8 :
    (fun (n : Fin 16) (k : Nat) (back : Nat) (l : List (Nat × Nat)) (s : State) => (powered s = true) ∧ (AtEntry s n 0x11) ∧ ((s.grv n).loops = (k, back) :: l))
      (15) (1) (1) ([]) (looping (graver 3 0x11 0 0 0 0)) := by beta_reduce; refine ⟨?_, ?_, ?_⟩ <;> first | decide | (constructor <;> decide)

theorem test_meets_GraverMovesAndLoops_9 :
    (fun (n : Fin 16) (s : State) => (powered s = true) ∧ (AtEntry s n 0))
      (15) (graver 3 0 0 0 0 0) := by beta_reduce; refine ⟨?_, ?_⟩ <;> first | decide | (constructor <;> decide)

theorem test_meets_KeyStoreAndQuorums_1 :
    (fun (i : BitVec 16) (s : State) => (powered s = true) ∧ ((s.slot i.toNat).state = .destroying) ∧ ((s.slot i.toNat).head = true) ∧ (jobRefers s i.toNat = false))
      (64511) (keyed { keyObject 3 4 with state := .destroying } State.reset) := by beta_reduce; refine ⟨?_, ?_, ?_, ?_⟩ <;> decide

theorem test_meets_KeyStoreAndQuorums_2 :
    (fun (k : Fin 256) (s : State) => (powered s = true) ∧ (tenantState s k = 3) ∧ (tenantHolds s k = false))
      (255) (st [(0x051FF0, 0xC00000)]) := by beta_reduce; refine ⟨?_, ?_, ?_⟩ <;> decide

theorem test_meets_KeyStoreAndQuorums_3 :
    (fun (k : Fin 6) (a : QuorumAction) (s : State) => (powered s = true) ∧ (Tab.get none s.key.quorum k = some a) ∧ (a.since + 2 ^ s.fld 0x050000 4 0 ≤ s.tick))
      (5) (⟨.pier 1 256, [], .caller, [], 0, []⟩) (tick (2 ^ 28) { State.reset with key := { State.reset.key with quorum := [(5, some ⟨.pier 1 256, [], .caller, [], 0, []⟩)] } }) := by beta_reduce; refine ⟨?_, ?_, ?_⟩ <;> decide

theorem test_meets_KeyStoreAndQuorums_4 :
    (fun (n : Fin 67) (d : Fin 257) (k : Fin 6) (s : State) => (Calls s 104 n d) ∧ (expanderReady s 0 = true) ∧ (quorumMet s k (.pier n d) = false) ∧ (Tab.get none s.key.quorum k = none) ∧ ((s.rd (coreReg n 0x4B)).toNat + 11 ≤ shadowBase n) ∧ (11 ≤ (s.rd (coreReg n 0x4C)).toNat))
      (66) (256) (4) (expander 0 (calling 104 [(0x050304, 1)])) := by beta_reduce; refine ⟨?_, ?_, ?_, ?_, ?_, ?_⟩ <;> first | decide | (constructor <;> decide)

theorem test_meets_KeyStoreAndQuorums_5 :
    (fun (n : Fin 67) (d : Fin 257) (k : Fin 6) (s : State) => (Calls s 105 n d) ∧ (Tab.get none s.key.quorum k ≠ none))
      (66) (256) (4) ({ (calling 105 [(0x050304, 2), (0x05021F, 0x800000)]) with key := { State.reset.key with quorum := [(4, some ⟨.pier 1 256, [], .caller, [], 0, []⟩)] } }) := by beta_reduce; refine ⟨?_, ?_⟩ <;> first | decide | (constructor <;> decide)

theorem test_meets_KeyStoreAndQuorums_6 :
    (fun (o : KeyOp) (n : Fin 67) (d : Fin 257) (k : Fin 6) (u : Fin 32) (sig : Bytes) (a : QuorumAction) (s : State) (t : State) => (o.act = .approve k u sig) ∧ (o.due ≤ s.tick) ∧ (o.caller = .pier n d) ∧ (o.withdrawn = none) ∧ (Tab.get none s.key.quorum k = some a) ∧ (s.bit (0x050200 + u) 23 = true) ∧ (u.val ∉ a.approved) ∧ (t = keyOpStep o s))
      (⟨.pier 66 256, none, 0, 0, 0, 0, [], [], .approve 4 31 []⟩) (66) (256) (4) (31) ([]) (⟨.pier 1 256, [], .caller, [], 0, []⟩) ({ (calling 105 [(0x050304, 2), (0x05021F, 0x800000)]) with key := { State.reset.key with quorum := [(4, some ⟨.pier 1 256, [], .caller, [], 0, []⟩)] } }) (keyOpStep ⟨.pier 66 256, none, 0, 0, 0, 0, [], [], .approve 4 31 []⟩ { (calling 105 [(0x050304, 2), (0x05021F, 0x800000)]) with key := { State.reset.key with quorum := [(4, some ⟨.pier 1 256, [], .caller, [], 0, []⟩)] } }) := by beta_reduce; refine ⟨?_, ?_, ?_, ?_, ?_, ?_, ?_, ?_⟩ <;> first | rfl | decide

theorem test_meets_Agreements_1 :
    (fun (i : Fin 5) (s : State) => (powered s = true) ∧ (agreementMay s i = true) ∧ (agreementFree s i = true) ∧ (i.val < 4 ∨ s.fld 0x0B0001 21 19 ≠ 5 ∨ Tab.get [] s.key.agreed 4 = []))
      (3) (agreeing) := by beta_reduce; refine ⟨?_, ?_, ?_, ?_⟩ <;> decide

theorem test_meets_Agreements_2 :
    (fun (i : Fin 5) (s : State) => (powered s = true) ∧ (agreementMay s i = true) ∧ (agreementFree s i = true))
      (3) (agreeing) := by beta_reduce; refine ⟨?_, ?_, ?_⟩ <;> decide

theorem test_meets_Agreements_3 :
    (fun (i : Fin 4) (a : Agreement) (s : State) => (powered s = true) ∧ (agreementAt s i = some a) ∧ (a.step = 1))
      (3) (⟨1, [], [], [], [], 0⟩) ({ State.reset with key := { State.reset.key with agree := [(3, some ⟨1, [], [], [], [], 0⟩)] } }) := by beta_reduce; refine ⟨?_, ?_, ?_⟩ <;> decide

theorem test_meets_Agreements_4 :
    (fun (i : Fin 4) (a : Agreement) (s : State) => (powered s = true) ∧ (agreementAt s i = some a) ∧ (a.step = 2))
      (3) (⟨2, [], [], [], [], 0⟩) ({ State.reset with key := { State.reset.key with agree := [(3, some ⟨2, [], [], [], [], 0⟩)] } }) := by beta_reduce; refine ⟨?_, ?_, ?_⟩ <;> decide

theorem test_meets_Agreements_5 :
    (fun (i : Fin 5) (a : Agreement) (s : State) => (powered s = true) ∧ (agreementAt s i = some a) ∧ (a.step = 0) ∧ (a.failedAt + 2 ^ 22 ≤ s.tick))
      (4) (⟨0, [], [], [], [], 0⟩) (tick (2 ^ 22) { State.reset with key := { State.reset.key with agree := [(4, some ⟨0, [], [], [], [], 0⟩)] } }) := by beta_reduce; refine ⟨?_, ?_, ?_, ?_⟩ <;> decide

theorem test_meets_RingsOfTheHost_1 :
    (fun (m : Master) (g : Fin 520) (s : State) => (Reaches m (ringBase g + 5) s))
      (.pf) (7) (State.reset) := by beta_reduce; decide

theorem test_meets_RingsOfTheHost_2 :
    (fun (g : Fin 520) (s : State) => (powered s = true) ∧ (ringOn s g = true) ∧ (s.bit (ringBase g + 1) 23 = false) ∧ (s.fld (ringBase g + 6) 11 0 ≠ s.fld (ringBase g + 5) 11 0))
      (7) (st [(ringBase 7, 0x800000), (ringBase 7 + 5, 1)]) := by beta_reduce; refine ⟨?_, ?_, ?_, ?_⟩ <;> decide

theorem test_meets_RingsOfTheHost_3 :
    (fun (g : Fin 520) (d : Descriptor) (s : State) => (powered s = true) ∧ (s.hif.fetched = [d]) ∧ (d.g = g) ∧ (d.arrived < s.tick) ∧ (ringRoom s g = true) ∧ (s.bit (ringBase g + 1) 23 = false) ∧ (s.fld (0x0A0400 + g) 6 0 ≠ 0) ∧ (d.dmaOk = true) ∧ (haltedFor s (leAt d.bytes 0 2) = false) ∧ (opcodes.contains (leAt d.bytes 0 2) = true) ∧ (descriptorOk d.bytes = true))
      (7) (⟨7, 0, [0, 0], 0, true⟩) (tick 1 { (st [(ringBase 7, 0x804000), (0x0A0407, 1), (ringBase 7 + 1, 6)]) with hif := { State.reset.hif with fetched := [⟨7, 0, [0, 0], 0, true⟩] } }) := by beta_reduce; refine ⟨?_, ?_, ?_, ?_, ?_, ?_, ?_, ?_, ?_, ?_, ?_⟩ <;> decide

theorem test_meets_RingsOfTheHost_4 :
    (fun (g : Fin 520) (fn : Nat) (at_ : Nat) (c : Completion) (s : State) => (powered s = true) ∧ ((s.hif.due.find? fun (_, h, t, _) => h == g.val && decide (t ≤ s.tick)) = some (fn, g.val, at_, c)) ∧ (ringOn s g = true) ∧ (suppressed s fn c = false))
      (7) (0) (0) (⟨7, 0, 0, ⟨0, 0⟩, 0, 0, [], false⟩) ({ (st [(ringBase 7, 0x800000)]) with hif := { State.reset.hif with due := [(0, 7, 0, ⟨7, 0, 0, ⟨0, 0⟩, 0, 0, [], false⟩)] } }) := by beta_reduce; refine ⟨?_, ?_, ?_, ?_⟩ <;> decide

theorem test_meets_RingsOfTheHost_5 :
    (fun (g : Fin 520) (s : State) => (powered s = true) ∧ (s.hif.unsignalled.contains g.val = true) ∧ (Tab.get 0 s.hif.lastMessage g = 0 ∨ Tab.get 0 s.hif.lastMessage g - 1 + s.fld (ringBase g) 11 0 ≤ s.tick) ∧ (s.hif.flr.contains (ringFn g) = false) ∧ ((ringFn g, s.fld (ringBase g) 21 16) ∉ s.hif.pba))
      (519) ({ State.reset with hif := { State.reset.hif with unsignalled := [519] } }) := by beta_reduce; refine ⟨?_, ?_, ?_, ?_, ?_⟩ <;> decide

theorem test_meets_RingsOfTheHost_6 :
    (fun (g : Fin 520) (s : State) => (powered s = true) ∧ (s.hif.flr.contains (ringFn g) = false) ∧ ((ringFn g, s.fld (ringBase g) 21 16) ∈ s.hif.pba))
      (519) ({ State.reset with hif := { State.reset.hif with pba := [(256, 0)] } }) := by beta_reduce; refine ⟨?_, ?_, ?_⟩ <;> decide

theorem test_meets_RingsOfTheHost_7 :
    (fun (m : Master) (g : Fin 520) (s : State) => (Reaches m (ringBase g) s) ∧ (ringOn s g = false))
      (.vf 255) (519) (State.reset) := by beta_reduce; refine ⟨?_, ?_⟩ <;> decide

theorem test_meets_RingsOfTheHost_8 :
    (fun (m : Master) (g : Fin 520) (s : State) => (Reaches m (ringBase g) s) ∧ (ringOn s g = true))
      (.pf) (7) (st [(ringBase 7, 0x800000)]) := by beta_reduce; refine ⟨?_, ?_⟩ <;> decide

theorem test_meets_HostCommandsAndResets_1 :
    (fun (fn : Fin 257) (g : Fin 520) (idx : Nat) (f : Flight) (s : State) => (Takes s 0x00 fn g idx f))
      (0) (0) (0) (fl 0x00) (flying 0x00 State.reset) := by beta_reduce; first | decide | (constructor <;> decide)

theorem test_meets_HostCommandsAndResets_2 :
    (fun (fn : Fin 257) (g : Fin 520) (idx : Nat) (f : Flight) (s : State) => (powered s = true) ∧ (s.flight g idx = some f) ∧ (f.opcode = 0x00) ∧ (f.fn = fn) ∧ (fenced s f = false) ∧ (commandRuns s (.host fn g idx) = false) ∧ (haltedFor s 0x00 = true))
      (0) (0) (0) (fl 0x00) (flying 0x00 { State.reset with pwr := { State.reset.pwr with safeHold := some 1 } }) := by beta_reduce; refine ⟨?_, ?_, ?_, ?_, ?_, ?_, ?_⟩ <;> decide

theorem test_meets_HostCommandsAndResets_3 :
    (fun (fn : Fin 257) (g : Fin 520) (idx : Nat) (f : Flight) (s : State) => (powered s = true) ∧ (s.flight g idx = some f) ∧ (f.opcode = 0x72) ∧ (f.fn = fn) ∧ (fenced s f = false) ∧ (commandRuns s (.host fn g idx) = false) ∧ (haltedFor s 0x72 = false) ∧ (fn ≠ 0))
      (256) (519) (0) (⟨256, 519, 0, 0x72, 7, false, 0, ⟨0, 0⟩, 0, 0, false, none, []⟩) ({ State.reset with hif := { State.reset.hif with flights := [⟨256, 519, 0, 0x72, 7, false, 0, ⟨0, 0⟩, 0, 0, false, none, []⟩] } }) := by beta_reduce; refine ⟨?_, ?_, ?_, ?_, ?_, ?_, ?_, ?_⟩ <;> decide

theorem test_meets_HostCommandsAndResets_4 :
    (fun (fn : Fin 257) (g : Fin 520) (idx : Nat) (f : Flight) (s : State) (tag : BitVec 32) => (Takes s 0x01 fn g idx f) ∧ ((∀ x, taggedFlight s fn g idx tag = some x → x.graver = none)))
      (0) (0) (0) (fl 0x01) (flying 0x01 State.reset) (0) := by beta_reduce; refine ⟨?_, ?_⟩ <;> first | decide | (constructor <;> decide) | (intro x h; revert h; decide)

theorem test_meets_HostCommandsAndResets_5 :
    (fun (fn : Fin 257) (g : Fin 520) (idx : Nat) (f : Flight) (s : State) (tag : BitVec 32) (x : Flight) (n : Fin 16) => (Takes s 0x01 fn g idx f) ∧ (taggedFlight s fn g idx tag = some x) ∧ (x.graver = some n.val) ∧ (grvState s n = 2 ∨ grvState s n = 3))
      (0) (0) (0) (fl 1) ({ (st [(grvReg 15 0, 0x600000)]) with hif := { State.reset.hif with flights := [fl 1, ⟨0, 0, 1, 0x30, 9, false, 0, ⟨0, 0⟩, 0, 0, true, some 15, []⟩] } }) (9) (⟨0, 0, 1, 0x30, 9, false, 0, ⟨0, 0⟩, 0, 0, true, some 15, []⟩) (15) := by beta_reduce; refine ⟨?_, ?_, ?_, ?_⟩ <;> first | decide | (constructor <;> decide)

theorem test_meets_HostCommandsAndResets_6 :
    (fun (fn : Fin 257) (g : Fin 520) (idx : Nat) (f : Flight) (s : State) (tag : BitVec 32) => (s.flight g idx = some f) ∧ (taggedFlight s fn g idx tag = none))
      (0) (0) (0) (fl 1) (flying 1 State.reset) (0) := by beta_reduce; refine ⟨?_, ?_⟩ <;> first | decide | (constructor <;> decide)

theorem test_meets_HostCommandsAndResets_7 :
    (fun (fn : Fin 257) (g : Fin 520) (idx : Nat) (f : Flight) (s : State) (tag : BitVec 32) (x : Flight) => (s.flight g idx = some f) ∧ (taggedFlight s fn g idx tag = some x) ∧ (x.graver = none) ∧ (quorumOf s x = none))
      (0) (0) (0) (fl 1) ({ (st []) with hif := { State.reset.hif with flights := [fl 1, ⟨0, 0, 1, 0x30, 9, false, 0, ⟨0, 0⟩, 0, 0, true, none, []⟩] } }) (9) (⟨0, 0, 1, 0x30, 9, false, 0, ⟨0, 0⟩, 0, 0, true, none, []⟩) := by beta_reduce; refine ⟨?_, ?_, ?_, ?_⟩ <;> first | decide | (constructor <;> decide)

theorem test_meets_HostCommandsAndResets_8 :
    (fun (fn : Fin 257) (g : Fin 520) (idx : Nat) (f : Flight) (s : State) => (Takes s 0x02 fn g idx f))
      (0) (0) (0) (fl 0x02) (flying 0x02 State.reset) := by beta_reduce; first | decide | (constructor <;> decide)

theorem test_meets_HostCommandsAndResets_9 :
    (fun (s : State) => (powered s = true))
      (State.reset) := by beta_reduce; decide

theorem test_meets_HostCommandsAndResets_10 :
    (fun (f : Fin 257) (s : State) => (powered s = true) ∧ (s.hif.flr.contains f.val = true))
      (256) ({ State.reset with hif := { State.reset.hif with flr := [256] } }) := by beta_reduce; refine ⟨?_, ?_⟩ <;> decide

theorem test_meets_HostCommandsAndResets_11 :
    (fun (s : State) => (powered s = true))
      (State.reset) := by beta_reduce; decide

theorem test_meets_HostCommandsAndResets_12 :
    (fun (s : State) => (powered s = true))
      (State.reset) := by beta_reduce; decide

theorem test_meets_HostCommandsAndResets_13 :
    (fun (s : State) => (powered s = true))
      (State.reset) := by beta_reduce; decide

theorem test_meets_HostCommandsAndResets_14 :
    (fun (s : State) => (powered s = true) ∧ (Tab.get 0 s.pwr.pllTries 2 < 3) ∧ (¬(s.lcs = 5 ∧ s.bit 0x100000 22 = true)))
      (State.reset) := by beta_reduce; refine ⟨?_, ?_, ?_⟩ <;> decide

theorem test_meets_HostCommandsAndResets_15 :
    (fun (s : State) => (powered s = true))
      (State.reset) := by beta_reduce; decide

theorem test_meets_ChannelCommands_2 :
    (fun (fn : Fin 257) (g : Fin 520) (idx : Nat) (f : Flight) (s : State) (e : Effective) (a : ChannelArgs) (n : Nat) => (Takes s 0x10 fn g idx f) ∧ (n = chooseChannel s s.free) ∧ (openStatus s (fnDom fn) a e n ≠ stOK))
      (0) (0) (0) (fl 0x10) (flying 0x10 State.reset) (.none) (⟨false, true, false, 7, 0, 0, 0, false, 0, 0, 16, 0, 0, 100, none⟩) (chooseChannel (flying 0x10 State.reset) (flying 0x10 State.reset).free) := by beta_reduce; refine ⟨?_, ?_, ?_⟩ <;> first | rfl | decide | (constructor <;> decide) | (show stFORMAT ≠ stOK; decide)

theorem test_meets_ChannelCommands_3 :
    (fun (fn : Fin 257) (g : Fin 520) (idx : Nat) (f : Flight) (s : State) (e : Effective) (n : BitVec 24) (c : Change) (i : Instr) => (chanRights s (.host fn g idx) n.toNat = stOK) ∧ (effectiveStatus s e c = stOK) ∧ (Takes s 0x11 fn g idx f ∧ c = .closeChan n.toNat ∧ i = .channelClose (.host fn g idx) e n ∨ (∃ rate, Takes s 0x12 fn g idx f ∧ c = .rateChan n.toNat rate ∧ i = .channelRate (.host fn g idx) e n rate) ∨ ∃ (b : Byte) (p : Option Nat), Takes s 0x13 fn g idx f ∧ pinTarget b.toNat = some p ∧ c = .pinChan n.toNat p ∧ i = .trussPin (.host fn g idx) e n b) ∧ (planFits s ⟨1, n.toNat, c, (effectiveStroke e (fnDom fn) s).1⟩ = true))
      (0) (0) (0) (fl 0x11) (flying 0x11 (chanOpen State.reset)) (.none) (9) (.closeChan 9) (.channelClose (.host 0 0 0) .none 9) := by beta_reduce; refine ⟨?_, ?_, ?_, ?_⟩ <;> first | decide | (constructor <;> decide) | exact .inl ⟨by constructor <;> decide, rfl, rfl⟩

theorem test_meets_ChannelCommands_4 :
    (fun (fn : Fin 257) (g : Fin 520) (idx : Nat) (f : Flight) (s : State) (e : Effective) (n : BitVec 24) (c : Change) (i : Instr) => (chanRights s (.host fn g idx) n.toNat = stOK) ∧ (effectiveStatus s e c = stOK) ∧ (Takes s 0x11 fn g idx f ∧ c = .closeChan n.toNat ∧ i = .channelClose (.host fn g idx) e n ∨ (∃ rate, Takes s 0x12 fn g idx f ∧ c = .rateChan n.toNat rate ∧ i = .channelRate (.host fn g idx) e n rate) ∨ ∃ (b : Byte) (p : Option Nat), Takes s 0x13 fn g idx f ∧ pinTarget b.toNat = some p ∧ c = .pinChan n.toNat p ∧ i = .trussPin (.host fn g idx) e n b) ∧ (planFits s ⟨1, n.toNat, c, (effectiveStroke e (fnDom fn) s).1⟩ = false))
      (0) (0) (0) (fl 0x13) (flying 0x13 (chanOpen State.reset)) (.none) (9) (.pinChan 9 (some 3)) (.trussPin (.host 0 0 0) .none 9 3) := by beta_reduce; refine ⟨?_, ?_, ?_, ?_⟩ <;> first | decide | (constructor <;> decide) | exact .inr (.inr ⟨3, some 3, by constructor <;> decide, by decide, rfl, rfl⟩)

theorem test_meets_ChannelCommands_5 :
    (fun (fn : Fin 257) (g : Fin 520) (idx : Nat) (f : Flight) (s : State) => (powered s = true) ∧ (s.flight g idx = some f) ∧ (f.opcode = 0x11) ∧ (f.fn = fn) ∧ (fenced s f = false) ∧ (commandRuns s (.host fn g idx) = false) ∧ (haltedFor s 0x11 = false) ∧ (fn ≠ 0 → tenantState s (fn - 1) = 1) ∧ (s.fld 0x0B0001 23 22 = 2))
      (0) (0) (0) (fl 0x11) (flying 0x11 (st [(0x0B0001, 0x800000)])) := by beta_reduce; refine ⟨?_, ?_, ?_, ?_, ?_, ?_, ?_, ?_, ?_⟩ <;> first | decide | (constructor <;> decide)

theorem test_meets_ChannelCommands_6 :
    (fun (fn : Fin 257) (g : Fin 520) (idx : Nat) (f : Flight) (s : State) (n : BitVec 24) (r : Chan) => (Takes s 0x11 fn g idx f) ∧ (fn ≠ 0) ∧ (Tab.get none s.dck.chans n.toNat = some r) ∧ (r.dom ≠ fnDom fn))
      (256) (519) (0) (⟨256, 519, 0, 0x11, 7, false, 0, ⟨0, 0⟩, 0, 0, false, none, []⟩) ({ (chanOpen (st [(0x051FF0, 0x400000)])) with hif := { State.reset.hif with flights := [⟨256, 519, 0, 0x11, 7, false, 0, ⟨0, 0⟩, 0, 0, false, none, []⟩] } }) (9) (clientChan) := by beta_reduce; refine ⟨?_, ?_, ?_, ?_⟩ <;> first | decide | (constructor <;> decide)

theorem test_meets_ChannelCommands_7 :
    (fun (fn : Fin 257) (g : Fin 520) (idx : Nat) (f : Flight) (s : State) (e : Effective) (side : Fin 2) (k : Fin 16) (mtch : Word) (act : Word) (da : BitVec 48) (l : List (Nat × Word)) => (Takes s 0x81 fn g idx f) ∧ (l = (if k = 0 then [(ccReg side k 0 + 3, BitVec.ofNat 24 (s.fld (ccReg side k 0 + 3) 23 16 * 2 ^ 16 + Word.slice act 1 0))] else [(ccReg side k 0, mtch &&& 0xE0FFFF), (ccReg side k 0 + 1, BitVec.ofNat 24 (da.toNat / 2 ^ 24)), (ccReg side k 0 + 2, BitVec.ofNat 24 da.toNat), (ccReg side k 0 + 3, act &&& 0xFF0003)])) ∧ (Word.slice act 1 0 ≠ 3) ∧ (effectiveStatus s e (.regs l) = stOK))
      (0) (0) (0) (fl 0x81) (flying 0x81 State.reset) (.none) (1) (15) (0) (0) (0) ([(ccReg 1 15 0, 0), (ccReg 1 15 0 + 1, 0), (ccReg 1 15 0 + 2, 0), (ccReg 1 15 0 + 3, 0)]) := by beta_reduce; refine ⟨?_, ?_, ?_, ?_⟩ <;> first | decide | (constructor <;> decide)

theorem test_meets_ChannelCommands_8 :
    (fun (fn : Fin 257) (g : Fin 520) (idx : Nat) (f : Flight) (s : State) (side : Fin 2) (k : Fin 16) (mtch : Word) (act : Word) (da : BitVec 48) (l : List (Nat × Word)) => (Takes s 0x81 fn g idx f) ∧ (l = (if k = 0 then [(ccReg side k 0 + 3, BitVec.ofNat 24 (s.fld (ccReg side k 0 + 3) 23 16 * 2 ^ 16 + Word.slice act 1 0))] else [(ccReg side k 0, mtch &&& 0xE0FFFF), (ccReg side k 0 + 1, BitVec.ofNat 24 (da.toNat / 2 ^ 24)), (ccReg side k 0 + 2, BitVec.ofNat 24 da.toNat), (ccReg side k 0 + 3, act &&& 0xFF0003)])) ∧ (Word.slice act 1 0 = 3))
      (0) (0) (0) (fl 0x81) (flying 0x81 State.reset) (1) (15) (0) (3) (0) ([(ccReg 1 15 0, 0), (ccReg 1 15 0 + 1, 0), (ccReg 1 15 0 + 2, 0), (ccReg 1 15 0 + 3, 3)]) := by beta_reduce; refine ⟨?_, ?_, ?_⟩ <;> first | decide | (constructor <;> decide)

theorem test_meets_PlateCommands_1 :
    (fun (fn : Fin 257) (g : Fin 520) (idx : Nat) (f : Flight) (s : State) (e : Effective) (a : InstallArgs) (r : Chan) (i : Nat) => (Takes s 0x20 fn g idx f) ∧ (Tab.get none s.dck.chans (Word.slice a.chan 17 0) = some r) ∧ (a.plate.toNat < plateCapacity s) ∧ (chanRights s (.host fn g idx) (Word.slice a.chan 17 0) = stOK) ∧ (sakCheck s (fnDom fn) a.sak.toNat = (stOK, i)) ∧ (installCheck s a.plate.toNat (fnDom fn) a.suite.toNat r.suite (some (effOf s e (fnDom fn))) = stOK) ∧ (plateQuotaOk s (fnDom fn) a.plate.toNat (installsComing s (fnDom fn) a.plate.toNat) = true) ∧ (r.stipple = false) ∧ (effectiveStatus s e (.install a.plate.toNat (fnDom fn) (plateImage s (Word.slice a.chan 17 0) r a (objectWords s i) (s.slot i).ty) a.txCurrent) = stOK))
      (0) (0) (0) (fl 0x20) (flying 0x20 (chanOpen (keyed (keyObject 3 4) State.reset))) (.none) (⟨7, 0, 3, true, 9, 64511, 0, none⟩) (clientChan) (64511) := by beta_reduce; refine ⟨?_, ?_, ?_, ?_, ?_, ?_, ?_, ?_, ?_⟩ <;> first | decide | (constructor <;> decide)

theorem test_meets_PlateCommands_2 :
    (fun (fn : Fin 257) (g : Fin 520) (idx : Nat) (f : Flight) (s : State) (p : BitVec 24) => (Takes s 0x21 fn g idx f) ∧ (p.toNat < plateCapacity s))
      (0) (0) (0) (fl 0x21) (flying 0x21 State.reset) (0x01FFFF) := by beta_reduce; refine ⟨?_, ?_⟩ <;> first | decide | (constructor <;> decide)

theorem test_meets_PlateCommands_3 :
    (fun (fn : Fin 257) (g : Fin 520) (idx : Nat) (f : Flight) (s : State) (p : BitVec 24) => (Takes s 0x22 fn g idx f) ∧ (p.toNat < plateCapacity s))
      (0) (0) (0) (fl 0x22) (flying 0x22 State.reset) (0x01FFFF) := by beta_reduce; refine ⟨?_, ?_⟩ <;> first | decide | (constructor <;> decide)

theorem test_meets_PlateCommands_4 :
    (fun (fn : Fin 257) (g : Fin 520) (idx : Nat) (f : Flight) (s : State) (p : BitVec 24) => (Takes s 0x23 fn g idx f) ∧ (p.toNat < plateCapacity s))
      (0) (0) (0) (fl 0x23) (flying 0x23 State.reset) (0x01FFFF) := by beta_reduce; refine ⟨?_, ?_⟩ <;> first | decide | (constructor <;> decide)

theorem test_meets_PlateCommands_5 :
    (fun (fn : Fin 257) (g : Fin 520) (idx : Nat) (f : Flight) (s : State) (p : BitVec 24) => (Takes s 0x24 fn g idx f) ∧ (p.toNat < plateCapacity s))
      (0) (0) (0) (fl 0x24) (flying 0x24 State.reset) (0x01FFFF) := by beta_reduce; refine ⟨?_, ?_⟩ <;> first | decide | (constructor <;> decide)

theorem test_meets_PlateCommands_6 :
    (fun (fn : Fin 257) (g : Fin 520) (idx : Nat) (f : Flight) (s : State) (p : BitVec 24) => (Takes s 0x25 fn g idx f) ∧ (p.toNat < plateCapacity s) ∧ (plateDomainOk s p.toNat (fnDom fn) = true) ∧ (192 ≤ f.outCap))
      (0) (0) (0) (fl 0x25) (flying 0x25 State.reset) (0x01FFFF) := by beta_reduce; refine ⟨?_, ?_, ?_, ?_⟩ <;> first | decide | (constructor <;> decide)

theorem test_meets_KeyCommands_1 :
    (fun (fn : Fin 257) (g : Fin 520) (idx : Nat) (f : Flight) (s : State) (ty : Byte) (usage : Byte) (flags : Byte) (size : Nat) (o : NewObject) => (Takes s 0x40 fn g idx f) ∧ (flags.toNat < 4) ∧ (generates ty.toNat size = true) ∧ (o = ⟨ty.toNat, size, usage, flags.getLsbD 0, flags.getLsbD 1, if generateJobs ty.toNat size = [] then Config.keyGen ty.toNat size (Config.freshBlock s.free) else [], true⟩) ∧ (objectQuotaOk s (fnDom fn) o = true))
      (0) (0) (0) (fl 0x40) (flying 0x40 (st [(0x050001, 64511)])) (3) (4) (1) (0) (⟨3, 0, 4, true, false, Config.keyGen 3 0 (Config.freshBlock 0), true⟩) := by beta_reduce; refine ⟨?_, ?_, ?_, ?_, ?_⟩ <;> first | rfl | decide | (constructor <;> decide)

theorem test_meets_KeyCommands_2 :
    (fun (fn : Fin 257) (g : Fin 520) (idx : Nat) (f : Flight) (s : State) (parent : BitVec 24) (method : Byte) (ty : Byte) (flags : Byte) (label : Bytes) (context : Bytes) (key : Bytes) (ex : Bool) => (Takes s 0x41 fn g idx f) ∧ (method.toNat ≤ 1) ∧ (flags.toNat < 4) ∧ (1 ≤ label.length) ∧ (label.length ≤ 64) ∧ (context.length ≤ 64) ∧ (derivable ty.toNat ≠ []) ∧ (parentKey s (.host fn g idx) parent.toNat = (stOK, key, ex)) ∧ (flags.getLsbD 0 = true → ex = true))
      (0) (0) (0) (fl 0x41) (flying 0x41 { (st [(0x050001, 64511)]) with key := { State.reset.key with roots := [(256, [1])] } }) (0xFFFFFF) (1) (4) (2) (List.replicate 64 0) (List.replicate 64 0) ([1]) (false) := by beta_reduce; refine ⟨?_, ?_, ?_, ?_, ?_, ?_, ?_, ?_, ?_⟩ <;> first | decide | (constructor <;> decide)

theorem test_meets_KeyCommands_3 :
    (fun (fn : Fin 257) (g : Fin 520) (idx : Nat) (f : Flight) (s : State) (wrap : BitVec 24) (target : BitVec 24) (w : Nat) (i : Nat) => (Takes s 0x42 fn g idx f) ∧ (keyUse s (.host fn g idx) wrap.toNat 7 = (stOK, w)) ∧ (handleCheck s (fnDom fn) target.toNat = (stOK, i)) ∧ ((s.slot i).exportable = true) ∧ ((s.slot w).ty = 2))
      (0) (0) (0) (fl 0x42) (flying 0x42 (keyed (keyObject 2 0x80) State.reset)) (64511) (64511) (64511) (64511) := by beta_reduce; refine ⟨?_, ?_, ?_, ?_, ?_⟩ <;> first | decide | (constructor <;> decide)

theorem test_meets_KeyCommands_4 :
    (fun (fn : Fin 257) (g : Fin 520) (idx : Nat) (f : Flight) (s : State) (wrap : BitVec 24) (flags : Byte) (w : Nat) => (Takes s 0x43 fn g idx f) ∧ (flags.toNat < 4) ∧ (keyUse s (.host fn g idx) wrap.toNat 6 = (stOK, w)) ∧ ((s.slot w).ty = 2))
      (0) (0) (0) (fl 0x43) (flying 0x43 (keyed (keyObject 2 0x40) State.reset)) (64511) (0) (64511) := by beta_reduce; refine ⟨?_, ?_, ?_, ?_⟩ <;> first | decide | (constructor <;> decide)

theorem test_meets_KeyCommands_5 :
    (fun (fn : Fin 257) (g : Fin 520) (idx : Nat) (f : Flight) (s : State) (handle : BitVec 24) (data : Bytes) (i : Nat) => (Takes s 0x44 fn g idx f) ∧ (data.length ≤ 9216) ∧ (keyUse s (.host fn g idx) handle.toNat 0 = (stOK, i)) ∧ ((s.slot i).ty = 4))
      (0) (0) (0) (fl 0x44) (flying 0x44 (keyed (keyObject 4 1) State.reset)) (64511) (List.replicate 9216 0) (64511) := by
  refine ⟨by constructor <;> decide, by simp only [List.length_replicate]; decide, by decide, by decide⟩

theorem test_meets_KeyCommands_6 :
    (fun (fn : Fin 257) (g : Fin 520) (idx : Nat) (f : Flight) (s : State) (handle : BitVec 24) (i : Nat) => (Takes s 0x45 fn g idx f) ∧ (handleCheck s (fnDom fn) handle.toNat = (stOK, i)))
      (0) (0) (0) (fl 0x45) (flying 0x45 (keyed (keyObject 3 4) State.reset)) (64511) (64511) := by beta_reduce; refine ⟨?_, ?_⟩ <;> first | decide | (constructor <;> decide)

theorem test_meets_KeyCommands_7 :
    (fun (fn : Fin 257) (g : Fin 520) (idx : Nat) (f : Flight) (s : State) (handle : BitVec 24) (i : Nat) => (Takes s 0x46 fn g idx f) ∧ (handleCheck s (fnDom fn) handle.toNat = (stOK, i)) ∧ ((s.slot i).persist = false) ∧ (persistQuotaOk s (fnDom fn) (s.slot i).slots = true))
      (0) (0) (0) (fl 0x46) (flying 0x46 (keyed (keyObject 3 4) (st [(0x050004, 1)]))) (64511) (64511) := by beta_reduce; refine ⟨?_, ?_, ?_, ?_⟩ <;> first | decide | (constructor <;> decide)

theorem test_meets_KeyCommands_8 :
    (fun (fn : Fin 257) (g : Fin 520) (idx : Nat) (f : Flight) (s : State) (handle : BitVec 24) (i : Nat) => (Takes s 0x47 fn g idx f) ∧ (handleCheck s (fnDom fn) handle.toNat = (stOK, i)))
      (0) (0) (0) (fl 0x47) (flying 0x47 (keyed (keyObject 3 4) State.reset)) (64511) (64511) := by beta_reduce; refine ⟨?_, ?_⟩ <;> first | decide | (constructor <;> decide)

theorem test_meets_KeyCommands_9 :
    (fun (fn : Fin 257) (g : Fin 520) (idx : Nat) (f : Flight) (s : State) (handle : BitVec 24) (i : Nat) => (Takes s 0x48 fn g idx f) ∧ (handleCheck s (fnDom fn) handle.toNat = (stOK, i)))
      (0) (0) (0) (fl 0x48) (flying 0x48 (keyed (keyObject 3 4) State.reset)) (64511) (64511) := by beta_reduce; refine ⟨?_, ?_⟩ <;> first | decide | (constructor <;> decide)

theorem test_meets_KeyCommands_10 :
    (fun (fn : Fin 257) (g : Fin 520) (idx : Nat) (f : Flight) (s : State) (handle : BitVec 24) (i : Nat) => (Takes s 0x47 fn g idx f) ∧ (handleCheck s (fnDom fn) handle.toNat = (stRIGHTS, i)))
      (0) (0) (0) (fl 0x47) (flying 0x47 (keyed { keyObject 3 4 with dom := 7 } State.reset)) (64511) (64511) := by beta_reduce; refine ⟨?_, ?_⟩ <;> first | decide | (constructor <;> decide)

theorem test_meets_KeyCommands_11 :
    (fun (o : KeyOp) (x : NewObject) (l : List Nat) (s : State) => (o.act = .make x) ∧ (o.due ≤ s.tick) ∧ (x.fresh = true → expanderReady s 0 = true) ∧ (callerDom o.caller < 256 → tenantState s (callerDom o.caller) ≠ 3) ∧ (objectQuotaOk s (callerDom o.caller) x = true) ∧ (x.persist = false) ∧ (l.Nodup) ∧ (l.length = objectSlotCount x.ty x.size) ∧ ((∀ j ∈ l, 1 ≤ j ∧ j ≤ 0xFBFF ∧ (s.slot j).state = .free)))
      (⟨.pier 1 256, none, 0, 0, 0, 0, [], [], .make ⟨3, 0, 4, true, false, [], true⟩⟩) (⟨3, 0, 4, true, false, [], true⟩) ([1]) (tick 0 (expander 0 (st [(0x050001, 64511)]))) := by beta_reduce; refine ⟨?_, ?_, ?_, ?_, ?_, ?_, ?_, ?_, ?_⟩ <;> decide

theorem test_meets_KeyCommands_12 :
    (fun (o : KeyOp) (x : NewObject) (l : List Nat) (s : State) => (o.act = .make x) ∧ (o.due ≤ s.tick) ∧ (x.fresh = true → expanderReady s 0 = true) ∧ (callerDom o.caller < 256 → tenantState s (callerDom o.caller) ≠ 3) ∧ (objectQuotaOk s (callerDom o.caller) x = true) ∧ (x.persist = false) ∧ (l.Nodup) ∧ (l.length = objectSlotCount x.ty x.size) ∧ ((∀ j ∈ l, 1 ≤ j ∧ j ≤ 0xFBFF ∧ (s.slot j).state = .free)))
      (⟨.pier 1 256, none, 0, 0, 0, 0, [], [], .make ⟨3, 0, 4, true, false, [], true⟩⟩) (⟨3, 0, 4, true, false, [], true⟩) ([1]) (tick 0 (expander 0 (st [(0x050001, 64511)]))) := by beta_reduce; refine ⟨?_, ?_, ?_, ?_, ?_, ?_, ?_, ?_, ?_⟩ <;> decide

theorem test_meets_KeyCommands_13 :
    (fun (o : KeyOp) (x : NewObject) (l : List Nat) (s : State) => (o.act = .make x) ∧ (o.due ≤ s.tick) ∧ (x.fresh = true → expanderReady s 0 = true) ∧ (callerDom o.caller < 256 → tenantState s (callerDom o.caller) ≠ 3) ∧ (objectQuotaOk s (callerDom o.caller) x = true) ∧ (x.persist = false) ∧ (l.Nodup) ∧ (l.length = objectSlotCount x.ty x.size) ∧ ((∀ j ∈ l, 1 ≤ j ∧ j ≤ 0xFBFF ∧ (s.slot j).state = .free)))
      (⟨.pier 1 256, none, 0, 0, 0, 0, [], [], .make ⟨3, 0, 4, true, false, [], true⟩⟩) (⟨3, 0, 4, true, false, [], true⟩) ([1]) (tick 0 (expander 0 (st [(0x050001, 64511)]))) := by beta_reduce; refine ⟨?_, ?_, ?_, ?_, ?_, ?_, ?_, ?_, ?_⟩ <;> decide

theorem test_meets_KeyCommands_14 :
    (fun (o : KeyOp) (i : Nat) (s : State) => (o.act = .persist i) ∧ (o.due ≤ s.tick) ∧ ((s.slot i).state = .inUse) ∧ ((s.slot i).persist = false) ∧ (persistQuotaOk s (s.slot i).dom (s.slot i).slots = true))
      (⟨.pier 1 256, none, 0, 0, 0, 0, [], [], .persist 64511⟩) (64511) ((keyed (keyObject 3 4) (st [(0x050004, 1)]))) := by beta_reduce; refine ⟨?_, ?_, ?_, ?_, ?_⟩ <;> decide

theorem test_meets_KeyCommands_15 :
    (fun (o : KeyOp) (i : Nat) (s : State) => (o.act = .persist i) ∧ (o.due ≤ s.tick) ∧ ((s.slot i).state = .inUse) ∧ ((s.slot i).persist = false) ∧ (persistQuotaOk s (s.slot i).dom (s.slot i).slots = true))
      (⟨.pier 1 256, none, 0, 0, 0, 0, [], [], .persist 64511⟩) (64511) ((keyed (keyObject 3 4) (st [(0x050004, 1)]))) := by beta_reduce; refine ⟨?_, ?_, ?_, ?_, ?_⟩ <;> decide

theorem test_meets_KeyCommands_16 :
    (fun (o : KeyOp) (i : Nat) (s : State) => (o.act = .persist i) ∧ (o.due ≤ s.tick) ∧ ((s.slot i).state = .inUse) ∧ ((s.slot i).persist = false) ∧ (persistQuotaOk s (s.slot i).dom (s.slot i).slots = true))
      (⟨.pier 1 256, none, 0, 0, 0, 0, [], [], .persist 64511⟩) (64511) ((keyed (keyObject 3 4) (st [(0x050004, 1)]))) := by beta_reduce; refine ⟨?_, ?_, ?_, ?_, ?_⟩ <;> decide

theorem test_meets_KeyCommands_17 :
    (fun (o : KeyOp) (i : Nat) => (o.act = .destroy i) ∧ (o.counts = []))
      (⟨.pier 1 256, none, 0, 0, 0, 0, [], [], .destroy 64511⟩) (64511) := by beta_reduce; refine ⟨?_, ?_⟩ <;> decide

theorem test_meets_KeyCommands_18 :
    (fun (o : KeyOp) (i : Nat) => (o.act = .destroy i) ∧ (o.counts = []))
      (⟨.pier 1 256, none, 0, 0, 0, 0, [], [], .destroy 64511⟩) (64511) := by beta_reduce; refine ⟨?_, ?_⟩ <;> decide

theorem test_meets_KeyCommands_19 :
    (fun (o : KeyOp) (i : Nat) => (o.act = .destroy i) ∧ (o.counts = []))
      (⟨.pier 1 256, none, 0, 0, 0, 0, [], [], .destroy 64511⟩) (64511) := by beta_reduce; refine ⟨?_, ?_⟩ <;> decide

theorem test_meets_KeyCommands_20 :
    (fun (o : KeyOp) (i : Nat) => (o.act = .destroy i) ∧ (o.counts = []))
      (⟨.pier 1 256, none, 0, 0, 0, 0, [], [], .destroy 64511⟩) (64511) := by beta_reduce; refine ⟨?_, ?_⟩ <;> decide

theorem test_meets_SwitchAndLedgerCommands_1 :
    (fun (fn : Fin 257) (g : Fin 520) (idx : Nat) (f : Flight) (s : State) (kind : Byte) (k : Nat) => (Takes s 0x50 fn g idx f) ∧ (kind.toNat ≤ 1) ∧ (((List.range 4).find? fun k => swState s k != 1 && swState s k != 2) = some k))
      (0) (0) (0) (fl 0x50) (flying 0x50 (st [(swReg 0 1, 1), (swReg 1 1, 2), (swReg 2 1, 1)])) (1) (3) := by beta_reduce; refine ⟨?_, ?_, ?_⟩ <;> first | decide | (constructor <;> decide)

theorem test_meets_SwitchAndLedgerCommands_2 :
    (fun (fn : Fin 257) (g : Fin 520) (idx : Nat) (f : Flight) (s : State) (u : StrokeTime) (kind : Byte) (k : Nat) (d : Nat) => (Takes s 0x50 fn g idx f) ∧ (kind.toNat ≤ 1) ∧ (((List.range 4).find? fun k => swState s k != 1 && swState s k != 2) = some k) ∧ (aheadBy s u = some d) ∧ (16 ≤ d) ∧ (d ≤ 2 ^ 26) ∧ (s.stk.forward = none) ∧ ((∀ j < 4, swState s j = 1 → timeAt s (swReg j 2) ≠ u)) ∧ (kind = 1 → u.num.toNat % 4096 = 0 ∧ s.bit 0x000004 2 = true))
      (0) (0) (0) (fl 0x50) (flying 0x50 (st [(swReg 0 1, 1), (swReg 1 1, 2), (swReg 2 1, 1)])) (⟨0, 16⟩) (0) (3) (16) := by beta_reduce; refine ⟨?_, ?_, ?_, ?_, ?_, ?_, ?_, ?_, ?_⟩ <;> first | decide | (constructor <;> decide)

theorem test_meets_SwitchAndLedgerCommands_3 :
    (fun (fn : Fin 257) (g : Fin 520) (idx : Nat) (f : Flight) (s : State) (kind : Byte) => (Takes s 0x50 fn g idx f) ∧ (kind.toNat ≤ 1) ∧ ((∀ k < 4, swState s k = 1 ∨ swState s k = 2)))
      (0) (0) (0) (fl 0x50) (flying 0x50 (st [(swReg 0 1, 1), (swReg 1 1, 2), (swReg 2 1, 1), (swReg 3 1, 1)])) (1) := by beta_reduce; refine ⟨?_, ?_, ?_⟩ <;> first | decide | (constructor <;> decide)

theorem test_meets_SwitchAndLedgerCommands_4 :
    (fun (fn : Fin 257) (g : Fin 520) (idx : Nat) (f : Flight) (s : State) (k : Byte) => (Takes s 0x51 fn g idx f) ∧ (k.toNat < 4) ∧ (swState s k.toNat = 1))
      (0) (0) (0) (fl 0x51) (flying 0x51 (st [(swReg 3 1, 1)])) (3) := by beta_reduce; refine ⟨?_, ?_, ?_⟩ <;> first | decide | (constructor <;> decide)

theorem test_meets_SwitchAndLedgerCommands_5 :
    (fun (fn : Fin 257) (g : Fin 520) (idx : Nat) (f : Flight) (s : State) (k : Byte) => (Takes s 0x51 fn g idx f) ∧ (k.toNat < 4) ∧ (swState s k.toNat = 2))
      (0) (0) (0) (fl 0x51) (flying 0x51 (st [(swReg 3 1, 2)])) (3) := by beta_reduce; refine ⟨?_, ?_, ?_⟩ <;> first | decide | (constructor <;> decide)

theorem test_meets_SwitchAndLedgerCommands_6 :
    (fun (fn : Fin 257) (g : Fin 520) (idx : Nat) (f : Flight) (s : State) => (Takes s 0x60 fn g idx f) ∧ (64 ≤ f.outCap))
      (0) (0) (0) (fl 0x60) (flying 0x60 State.reset) := by beta_reduce; refine ⟨?_, ?_⟩ <;> first | decide | (constructor <;> decide)

theorem test_meets_SwitchAndLedgerCommands_7 :
    (fun (fn : Fin 257) (g : Fin 520) (idx : Nat) (f : Flight) (s : State) (seq : BitVec 32) (rs : List Bytes) => (Takes s 0x60 fn g idx f) ∧ (rs = ((domainRecords s (fnDom fn)).filter fun r => decide (seq.toNat ≤ recField r 4 4)).take (f.outCap / 168)) ∧ ((∀ r ∈ (domainRecords s (fnDom fn)).head?, recField r 4 4 ≤ seq.toNat)) ∧ (domainRecords s (fnDom fn) = [] → Tab.get 0 s.lgr.seqs (fnDom fn) ≤ seq.toNat) ∧ ((rs.flatMap id).length ≤ f.outCap))
      (0) (0) (0) (fl 0x60) (flying 0x60 State.reset) (0) ([]) := by beta_reduce; refine ⟨?_, ?_, ?_, ?_, ?_⟩ <;> first | decide | (constructor <;> decide)

theorem test_meets_SwitchAndLedgerCommands_8 :
    (fun (fn : Fin 257) (g : Fin 520) (idx : Nat) (f : Flight) (s : State) (seq : BitVec 32) => (Takes s 0x60 fn g idx f) ∧ (domainRecords s (fnDom fn) = []) ∧ (seq.toNat < Tab.get 0 s.lgr.seqs (fnDom fn)))
      (0) (0) (0) (fl 0x60) (flying 0x60 { State.reset with lgr := { State.reset.lgr with seqs := [(256, 1)] } }) (0) := by beta_reduce; refine ⟨?_, ?_, ?_⟩ <;> first | decide | (constructor <;> decide)

theorem test_meets_SwitchAndLedgerCommands_9 :
    (fun (fn : Fin 257) (g : Fin 520) (idx : Nat) (f : Flight) (s : State) => (Takes s 0x60 fn g idx f))
      (0) (0) (0) (fl 0x60) (flying 0x60 State.reset) := by beta_reduce; first | decide | (constructor <;> decide)

theorem test_meets_SwitchAndLedgerCommands_10 :
    (fun (fn : Fin 257) (g : Fin 520) (idx : Nat) (f : Flight) (s : State) => (Takes s 0x60 fn g idx f))
      (0) (0) (0) (fl 0x60) (flying 0x60 State.reset) := by beta_reduce; first | decide | (constructor <;> decide)

theorem test_meets_TenantCommands_1 :
    (fun (g : Fin 520) (idx : Nat) (f : Flight) (s : State) (tn : Fin 256) => (Takes s 0x70 0 g idx f) ∧ (tenantState s tn = 0))
      (0) (0) (fl 0x70) (flying 0x70 State.reset) (255) := by beta_reduce; refine ⟨?_, ?_⟩ <;> first | decide | (constructor <;> decide)

theorem test_meets_TenantCommands_2 :
    (fun (g : Fin 520) (idx : Nat) (f : Flight) (s : State) (tn : Fin 256) => (Takes s 0x71 0 g idx f) ∧ (tenantState s tn = 1 ∨ tenantState s tn = 2))
      (0) (0) (fl 0x71) (flying 0x71 (st [(0x051FF0, 0x800000)])) (255) := by beta_reduce; refine ⟨?_, ?_⟩ <;> first | decide | (constructor <;> decide)

theorem test_meets_TenantCommands_3 :
    (fun (g : Fin 520) (idx : Nat) (f : Flight) (s : State) => (Takes s 0x72 0 g idx f))
      (0) (0) (fl 0x72) (flying 0x72 State.reset) := by beta_reduce; first | decide | (constructor <;> decide)

theorem test_meets_TenantCommands_4 :
    (fun (g : Fin 520) (idx : Nat) (f : Flight) (s : State) => (Takes s 0x73 0 g idx f))
      (0) (0) (fl 0x73) (flying 0x73 State.reset) := by beta_reduce; first | decide | (constructor <;> decide)

theorem test_meets_TenantCommands_5 :
    (fun (g : Fin 520) (idx : Nat) (f : Flight) (s : State) (tn : Fin 256) (e : Effective) => (Takes s 0x74 0 g idx f) ∧ (tenantState s tn = 1 ∨ tenantState s tn = 2) ∧ (effectiveStatus s e (.tenant tn 3) = stOK) ∧ (quorumSize s 5 = 0))
      (0) (0) (fl 0x74) (flying 0x74 (st [(0x051FF0, 0x800000)])) (255) (.none) := by beta_reduce; refine ⟨?_, ?_, ?_, ?_⟩ <;> first | decide | (constructor <;> decide)

theorem test_meets_TenantCommands_6 :
    (fun (g : Fin 520) (idx : Nat) (f : Flight) (s : State) (tn : Fin 256) (e : Effective) => (Takes s 0x74 0 g idx f) ∧ (tenantState s tn = 1 ∨ tenantState s tn = 2) ∧ (effectiveStatus s e (.tenant tn 3) = stOK) ∧ (quorumMet s 5 (.host 0 g idx) = false) ∧ (Tab.get none s.key.quorum 5 = none) ∧ (expanderReady s 0 = true))
      (0) (0) (fl 0x74) (flying 0x74 (expander 0 (st [(0x051FF0, 0x800000), (0x050305, 1)]))) (255) (.none) := by beta_reduce; refine ⟨?_, ?_, ?_, ?_, ?_, ?_⟩ <;> first | decide | (constructor <;> decide)

theorem test_meets_DeviceCommands_1 :
    (fun (g : Fin 520) (idx : Nat) (f : Flight) (s : State) (words : List Word) => (Takes s 0x80 0 g idx f) ∧ (words.length = planWords))
      (0) (0) (fl 0x80) (flying 0x80 State.reset) (List.replicate planWords 0) := by beta_reduce; refine ⟨?_, ?_⟩ <;> first | exact List.length_replicate | (constructor <;> decide)

theorem test_meets_DeviceCommands_2 :
    (fun (g : Fin 520) (idx : Nat) (f : Flight) (s : State) => (Takes s 0x82 0 g idx f) ∧ (bankWorn s 0 = false))
      (0) (0) (fl 0x82) (flying 0x82 State.reset) := by beta_reduce; refine ⟨?_, ?_⟩ <;> first | decide | (constructor <;> decide)

theorem test_meets_DeviceCommands_3 :
    (fun (g : Fin 520) (idx : Nat) (f : Flight) (s : State) => (Takes s 0x83 0 g idx f) ∧ (bankWorn s 0 = false))
      (0) (0) (fl 0x83) (flying 0x83 State.reset) := by beta_reduce; refine ⟨?_, ?_⟩ <;> first | decide | (constructor <;> decide)

theorem test_meets_DeviceCommands_4 :
    (fun (g : Fin 520) (idx : Nat) (f : Flight) (s : State) (key : Bytes) => (Takes s 0x90 0 g idx f) ∧ (key.length = 64) ∧ (quorumSize s 1 = 0))
      (0) (0) (fl 0x90) (flying 0x90 State.reset) (List.replicate 64 0) := by beta_reduce; refine ⟨?_, ?_, ?_⟩ <;> first | decide | (constructor <;> decide)

theorem test_meets_DeviceCommands_5 :
    (fun (g : Fin 520) (idx : Nat) (f : Flight) (s : State) (u : Fin 32) => (Takes s 0x91 0 g idx f) ∧ (s.bit (0x050200 + u) 23 = true) ∧ ((∀ k < 6, quorumSize s k < (enrolled s).length)) ∧ (quorumSize s 1 = 0))
      (0) (0) (fl 0x91) (flying 0x91 (st [(0x05021F, 0x800000)])) (31) := by beta_reduce; refine ⟨?_, ?_, ?_, ?_⟩ <;> first | decide | (constructor <;> decide)

theorem test_meets_DeviceCommands_6 :
    (fun (g : Fin 520) (idx : Nat) (f : Flight) (s : State) (u : Fin 32) (k : Fin 6) => (Takes s 0x91 0 g idx f) ∧ (s.bit (0x050200 + u) 23 = true) ∧ ((enrolled s).length ≤ quorumSize s k))
      (0) (0) (fl 0x91) (flying 0x91 (st [(0x05021F, 0x800000), (0x050305, 1)])) (31) (5) := by beta_reduce; refine ⟨?_, ?_, ?_⟩ <;> first | decide | (constructor <;> decide)

theorem test_meets_DeviceCommands_7 :
    (fun (g : Fin 520) (idx : Nat) (f : Flight) (s : State) (k : Byte) (m : Nat) => (Takes s 0x92 0 g idx f) ∧ (k.toNat ≤ 5) ∧ (m ≤ (enrolled s).length) ∧ (quorumSize s 1 = 0))
      (0) (0) (fl 0x92) (flying 0x92 State.reset) (5) (0) := by beta_reduce; refine ⟨?_, ?_, ?_, ?_⟩ <;> first | decide | (constructor <;> decide)

theorem test_meets_DeviceCommands_8 :
    (fun (g : Fin 520) (idx : Nat) (f : Flight) (s : State) => (Takes s 0xA0 0 g idx f) ∧ (s.lcs = 2) ∧ (s.lcy.transit = none) ∧ (s.lcy.accepted = none) ∧ (nextRecord s < 63) ∧ (quorumSize s 2 = 0))
      (0) (0) (fl 0xA0) (flying 0xA0 (st [(0x070000, 0x000502)])) := by beta_reduce; refine ⟨?_, ?_, ?_, ?_, ?_, ?_⟩ <;> first | decide | (constructor <;> decide)

theorem test_meets_DeviceCommands_9 :
    (fun (g : Fin 520) (idx : Nat) (f : Flight) (s : State) (target : Word) (u : Nat) => (Takes s 0xA0 0 g idx f) ∧ (stateOf target = some u) ∧ (transitionAllowed s.lcs u = false))
      (0) (0) (fl 0xA0) (flying 0xA0 State.reset) (0xF00F0F) (3) := by beta_reduce; refine ⟨?_, ?_, ?_⟩ <;> first | decide | (constructor <;> decide)

theorem test_meets_DeviceCommands_10 :
    (fun (g : Fin 520) (idx : Nat) (f : Flight) (s : State) => (Takes s 0xA1 0 g idx f) ∧ (quorumSize s 4 = 0))
      (0) (0) (fl 0xA1) (flying 0xA1 State.reset) := by beta_reduce; refine ⟨?_, ?_⟩ <;> first | decide | (constructor <;> decide)

theorem test_meets_DeviceCommands_11 :
    (fun (g : Fin 520) (idx : Nat) (f : Flight) (s : State) => (Takes s 0xA1 0 g idx f))
      (0) (0) (fl 0xA1) (flying 0xA1 State.reset) := by beta_reduce; first | decide | (constructor <;> decide)

theorem test_meets_PierCalls_1 :
    (fun (n : Fin 67) (d : Fin 257) (s : State) (m : Fin 16) => (Calls s 80 n d) ∧ (grvState s m = 0 ∨ grvState s m = 4) ∧ (s.bit 0x041001 m = false))
      (66) (256) (calling 80 []) (15) := by beta_reduce; refine ⟨?_, ?_, ?_⟩ <;> first | decide | (constructor <;> decide)

theorem test_meets_PierCalls_2 :
    (fun (n : Fin 67) (d : Fin 257) (s : State) (m : Fin 16) => (Calls s 80 n d) ∧ (grvState s m = 2 ∨ grvState s m = 3))
      (66) (256) (calling 80 [(grvReg 15 0, 0x600000)]) (15) := by beta_reduce; refine ⟨?_, ?_⟩ <;> first | decide | (constructor <;> decide)

theorem test_meets_PierCalls_3 :
    (fun (n : Fin 67) (d : Fin 257) (s : State) (m : Fin 16) (dur : Nat) => (Calls s 81 n d) ∧ (commitStatus s m d dur = stOK))
      (66) (256) (calling 81 [(grvReg 15 0, 0x200100), (grvReg 15 4, 0xF0)]) (15) (1000) := by beta_reduce; refine ⟨?_, ?_⟩ <;> first | decide | (constructor <;> decide)

theorem test_meets_PierCalls_4 :
    (fun (n : Fin 67) (d : Fin 257) (s : State) (m : Fin 16) (dur : Nat) => (Calls s 81 n d) ∧ (commitStatus s m d dur ≠ stOK))
      (66) (256) (calling 81 []) (15) (1) := by beta_reduce; refine ⟨?_, ?_⟩ <;> first | decide | (constructor <;> decide)

theorem test_meets_PierCalls_5 :
    (fun (n : Fin 67) (d : Fin 257) (s : State) (m : Fin 16) => (Calls s 82 n d) ∧ (grvDom s m = d) ∧ (grvState s m = 1 ∨ grvState s m = 4))
      (66) (256) (calling 82 [(grvReg 15 0, 0x800100)]) (15) := by beta_reduce; refine ⟨?_, ?_, ?_⟩ <;> first | decide | (constructor <;> decide)

theorem test_meets_PierCalls_6 :
    (fun (n : Fin 67) (d : Fin 257) (s : State) (m : Fin 16) => (Calls s 82 n d) ∧ (grvDom s m ≠ d))
      (66) (256) (calling 82 []) (15) := by beta_reduce; refine ⟨?_, ?_⟩ <;> first | decide | (constructor <;> decide)

theorem test_meets_PierCalls_7 :
    (fun (n : Fin 67) (d : Fin 257) (s : State) (p : BitVec 24) (sak : BitVec 24) (i : Nat) (l : List Word) (cur : Bool) (w : When) => (Calls s 88 n d) ∧ (sakCheck s d sak.toNat = (stOK, i)) ∧ (s.setup = [⟨0, p.toNat, .install p.toNat d l cur, w⟩]))
      (66) (256) ({ (keyed (keyObject 3 4) (calling 88 [])) with setup := [⟨0, 7, .install 7 256 [] false, .slot 3⟩] }) (7) (64511) (64511) ([]) (false) (.slot 3) := by beta_reduce; refine ⟨?_, ?_, ?_⟩ <;> first | decide | (constructor <;> decide)

theorem test_meets_PierCalls_8 :
    (fun (n : Fin 67) (d : Fin 257) (s : State) (r : Bytes) => (Calls s 112 n d) ∧ (128 ≤ r.length) ∧ (recField r 0 1 = 1) ∧ (recField r 1 1 ≤ 4) ∧ (recField r 2 2 = d) ∧ (recField r 1 1 = 0 → periodRecorded s d (recField r 8 8) = false) ∧ (recField r 4 4 = Tab.get 0 s.lgr.seqs d))
      (66) (256) (calling 112 []) ([1, 4, 1, 0] ++ List.replicate 124 0) := by beta_reduce; refine ⟨?_, ?_, ?_, ?_, ?_, ?_, ?_⟩ <;> first | decide | (constructor <;> decide)

theorem test_meets_PierCalls_9 :
    (fun (n : Fin 67) (d : Fin 257) (s : State) (h : BitVec 24) (i : Nat) => (Calls s 72 n d) ∧ (handleCheck s d h.toNat = (stOK, i)))
      (66) (256) (keyed (keyObject 3 4) (calling 72 [])) (64511) (64511) := by beta_reduce; refine ⟨?_, ?_⟩ <;> first | decide | (constructor <;> decide)

theorem test_meets_KonusMovesAndSums_1 :
    (fun (n : Fin 67) (s : State) (c : CoreState) => (s.core n = c) ∧ (AtInstr s n 1))
      (66) (pier id) ((pier id).core 66) := by beta_reduce; refine ⟨?_, ?_⟩ <;> first | rfl | decide | (constructor <;> decide) | (intro k hk; rcases hk with rfl | rfl | rfl <;> decide)

theorem test_meets_KonusMovesAndSums_2 :
    (fun (n : Fin 67) (s : State) (c : CoreState) => (s.core n = c) ∧ (AtInstr s n 1))
      (66) (pier id) ((pier id).core 66) := by beta_reduce; refine ⟨?_, ?_⟩ <;> first | rfl | decide | (constructor <;> decide) | (intro k hk; rcases hk with rfl | rfl | rfl <;> decide)

theorem test_meets_KonusMovesAndSums_3 :
    (fun (n : Fin 67) (s : State) (c : CoreState) => (s.core n = c) ∧ (AtInstr s n 2))
      (66) (pier id) ((pier id).core 66) := by beta_reduce; refine ⟨?_, ?_⟩ <;> first | rfl | decide | (constructor <;> decide) | (intro k hk; rcases hk with rfl | rfl | rfl <;> decide)

theorem test_meets_KonusMovesAndSums_4 :
    (fun (n : Fin 67) (s : State) (c : CoreState) => (s.core n = c) ∧ (AtInstr s n 2))
      (66) (pier id) ((pier id).core 66) := by beta_reduce; refine ⟨?_, ?_⟩ <;> first | rfl | decide | (constructor <;> decide) | (intro k hk; rcases hk with rfl | rfl | rfl <;> decide)

theorem test_meets_KonusMovesAndSums_5 :
    (fun (n : Fin 67) (s : State) (c : CoreState) => (s.core n = c) ∧ (AtInstr s n 2))
      (66) (pier id) ((pier id).core 66) := by beta_reduce; refine ⟨?_, ?_⟩ <;> first | rfl | decide | (constructor <;> decide) | (intro k hk; rcases hk with rfl | rfl | rfl <;> decide)

theorem test_meets_KonusMovesAndSums_6 :
    (fun (n : Fin 67) (s : State) (c : CoreState) => (s.core n = c) ∧ (AtInstr s n 1))
      (66) (pier id) ((pier id).core 66) := by beta_reduce; refine ⟨?_, ?_⟩ <;> first | rfl | decide | (constructor <;> decide) | (intro k hk; rcases hk with rfl | rfl | rfl <;> decide)

theorem test_meets_KonusMovesAndSums_7 :
    (fun (n : Fin 67) (s : State) (c : CoreState) => (s.core n = c) ∧ (AtInstr s n 2))
      (66) (pier id) ((pier id).core 66) := by beta_reduce; refine ⟨?_, ?_⟩ <;> first | rfl | decide | (constructor <;> decide) | (intro k hk; rcases hk with rfl | rfl | rfl <;> decide)

theorem test_meets_KonusMovesAndSums_8 :
    (fun (n : Fin 67) (s : State) (c : CoreState) => (s.core n = c) ∧ (AtInstr s n 1))
      (66) (pier id) ((pier id).core 66) := by beta_reduce; refine ⟨?_, ?_⟩ <;> first | rfl | decide | (constructor <;> decide) | (intro k hk; rcases hk with rfl | rfl | rfl <;> decide)

theorem test_meets_KonusMovesAndSums_9 :
    (fun (n : Fin 67) (s : State) (c : CoreState) => (s.core n = c) ∧ (AtInstr s n 1))
      (66) (pier id) ((pier id).core 66) := by beta_reduce; refine ⟨?_, ?_⟩ <;> first | rfl | decide | (constructor <;> decide) | (intro k hk; rcases hk with rfl | rfl | rfl <;> decide)

theorem test_meets_KonusMovesAndSums_10 :
    (fun (n : Fin 67) (s : State) (c : CoreState) => (s.core n = c) ∧ (AtInstr s n 1))
      (66) (pier id) ((pier id).core 66) := by beta_reduce; refine ⟨?_, ?_⟩ <;> first | rfl | decide | (constructor <;> decide) | (intro k hk; rcases hk with rfl | rfl | rfl <;> decide)

theorem test_meets_KonusMovesAndSums_11 :
    (fun (n : Fin 67) (s : State) (c : CoreState) => (s.core n = c) ∧ (AtInstr s n 1))
      (66) (pier id) ((pier id).core 66) := by beta_reduce; refine ⟨?_, ?_⟩ <;> first | rfl | decide | (constructor <;> decide) | (intro k hk; rcases hk with rfl | rfl | rfl <;> decide)

theorem test_meets_KonusMovesAndSums_12 :
    (fun (n : Fin 67) (s : State) (c : CoreState) => (s.core n = c) ∧ (AtInstr s n 1))
      (66) (pier id) ((pier id).core 66) := by beta_reduce; refine ⟨?_, ?_⟩ <;> first | rfl | decide | (constructor <;> decide) | (intro k hk; rcases hk with rfl | rfl | rfl <;> decide)

theorem test_meets_KonusMovesAndSums_13 :
    (fun (n : Fin 67) (s : State) (c : CoreState) => (s.core n = c) ∧ (AtInstr s n 2))
      (66) (pier id) ((pier id).core 66) := by beta_reduce; refine ⟨?_, ?_⟩ <;> first | rfl | decide | (constructor <;> decide) | (intro k hk; rcases hk with rfl | rfl | rfl <;> decide)

theorem test_meets_KonusMovesAndSums_14 :
    (fun (n : Fin 67) (s : State) (c : CoreState) => (s.core n = c) ∧ (AtInstr s n 2))
      (66) (pier id) ((pier id).core 66) := by beta_reduce; refine ⟨?_, ?_⟩ <;> first | rfl | decide | (constructor <;> decide) | (intro k hk; rcases hk with rfl | rfl | rfl <;> decide)

theorem test_meets_KonusMovesAndSums_15 :
    (fun (n : Fin 67) (s : State) (c : CoreState) => (s.core n = c) ∧ (AtInstr s n 2))
      (66) (pier id) ((pier id).core 66) := by beta_reduce; refine ⟨?_, ?_⟩ <;> first | rfl | decide | (constructor <;> decide) | (intro k hk; rcases hk with rfl | rfl | rfl <;> decide)

theorem test_meets_KonusMovesAndSums_16 :
    (fun (n : Fin 67) (s : State) (c : CoreState) => (s.core n = c) ∧ (AtInstr s n 2))
      (66) (pier id) ((pier id).core 66) := by beta_reduce; refine ⟨?_, ?_⟩ <;> first | rfl | decide | (constructor <;> decide) | (intro k hk; rcases hk with rfl | rfl | rfl <;> decide)

theorem test_meets_KonusLogicAndProducts_1 :
    (fun (n : Fin 67) (s : State) (c : CoreState) (k : Bool) => (s.core n = c) ∧ (k = (flagsOf c.psr).c) ∧ (AtInstr s n 1))
      (66) (pier id) ((pier id).core 66) (false) := by beta_reduce; refine ⟨?_, ?_, ?_⟩ <;> first | rfl | decide | (constructor <;> decide) | (intro k hk; rcases hk with rfl | rfl | rfl <;> decide)

theorem test_meets_KonusLogicAndProducts_2 :
    (fun (n : Fin 67) (s : State) (c : CoreState) (k : Bool) => (s.core n = c) ∧ (k = (flagsOf c.psr).c) ∧ (AtInstr s n 1))
      (66) (pier id) ((pier id).core 66) (false) := by beta_reduce; refine ⟨?_, ?_, ?_⟩ <;> first | rfl | decide | (constructor <;> decide) | (intro k hk; rcases hk with rfl | rfl | rfl <;> decide)

theorem test_meets_KonusLogicAndProducts_3 :
    (fun (n : Fin 67) (s : State) (c : CoreState) (k : Bool) => (s.core n = c) ∧ (k = (flagsOf c.psr).c) ∧ (AtInstr s n 1))
      (66) (pier id) ((pier id).core 66) (false) := by beta_reduce; refine ⟨?_, ?_, ?_⟩ <;> first | rfl | decide | (constructor <;> decide) | (intro k hk; rcases hk with rfl | rfl | rfl <;> decide)

theorem test_meets_KonusLogicAndProducts_4 :
    (fun (n : Fin 67) (s : State) (c : CoreState) (k : Bool) => (s.core n = c) ∧ (k = (flagsOf c.psr).c) ∧ (AtInstr s n 1))
      (66) (pier id) ((pier id).core 66) (false) := by beta_reduce; refine ⟨?_, ?_, ?_⟩ <;> first | rfl | decide | (constructor <;> decide) | (intro k hk; rcases hk with rfl | rfl | rfl <;> decide)

theorem test_meets_KonusLogicAndProducts_5 :
    (fun (n : Fin 67) (s : State) (c : CoreState) (k : Bool) => (s.core n = c) ∧ (k = (flagsOf c.psr).c) ∧ (AtInstr s n 2))
      (66) (pier id) ((pier id).core 66) (false) := by beta_reduce; refine ⟨?_, ?_, ?_⟩ <;> first | rfl | decide | (constructor <;> decide) | (intro k hk; rcases hk with rfl | rfl | rfl <;> decide)

theorem test_meets_KonusLogicAndProducts_6 :
    (fun (n : Fin 67) (s : State) (c : CoreState) (k : Bool) => (s.core n = c) ∧ (k = (flagsOf c.psr).c) ∧ (AtInstr s n 2))
      (66) (pier id) ((pier id).core 66) (false) := by beta_reduce; refine ⟨?_, ?_, ?_⟩ <;> first | rfl | decide | (constructor <;> decide) | (intro k hk; rcases hk with rfl | rfl | rfl <;> decide)

theorem test_meets_KonusLogicAndProducts_7 :
    (fun (n : Fin 67) (s : State) (c : CoreState) (k : Bool) => (s.core n = c) ∧ (k = (flagsOf c.psr).c) ∧ (AtInstr s n 2))
      (66) (pier id) ((pier id).core 66) (false) := by beta_reduce; refine ⟨?_, ?_, ?_⟩ <;> first | rfl | decide | (constructor <;> decide) | (intro k hk; rcases hk with rfl | rfl | rfl <;> decide)

theorem test_meets_KonusLogicAndProducts_8 :
    (fun (n : Fin 67) (s : State) (c : CoreState) (k : Bool) => (s.core n = c) ∧ (k = (flagsOf c.psr).c) ∧ (AtInstr s n 2))
      (66) (pier id) ((pier id).core 66) (false) := by beta_reduce; refine ⟨?_, ?_, ?_⟩ <;> first | rfl | decide | (constructor <;> decide) | (intro k hk; rcases hk with rfl | rfl | rfl <;> decide)

theorem test_meets_KonusLogicAndProducts_9 :
    (fun (n : Fin 67) (s : State) (c : CoreState) (k : Bool) => (s.core n = c) ∧ (k = (flagsOf c.psr).c) ∧ (AtInstr s n 2))
      (66) (pier id) ((pier id).core 66) (false) := by beta_reduce; refine ⟨?_, ?_, ?_⟩ <;> first | rfl | decide | (constructor <;> decide) | (intro k hk; rcases hk with rfl | rfl | rfl <;> decide)

theorem test_meets_KonusLogicAndProducts_10 :
    (fun (n : Fin 67) (d : Fin 32) (r : Fin 32) (s : State) (c : CoreState) (k : Bool) (v : Word) => (s.core n = c) ∧ (k = (flagsOf c.psr).c) ∧ (AtInstr s n 2) ∧ (v = BitVec.ofNat 24 ((c.reg d).toNat * (c.reg r).toNat)))
      (66) (31) (31) (pier id) ((pier id).core 66) (false) (0) := by beta_reduce; refine ⟨?_, ?_, ?_, ?_⟩ <;> first | rfl | decide | (constructor <;> decide) | (intro k hk; rcases hk with rfl | rfl | rfl <;> decide)

theorem test_meets_KonusLogicAndProducts_11 :
    (fun (n : Fin 67) (d : Fin 32) (r : Fin 32) (s : State) (c : CoreState) (k : Bool) (v : Word) => (s.core n = c) ∧ (k = (flagsOf c.psr).c) ∧ (AtInstr s n 2) ∧ (v = BitVec.ofNat 24 ((c.reg d).toNat * (c.reg r).toNat / 2 ^ 24)))
      (66) (31) (31) (pier id) ((pier id).core 66) (false) (0) := by beta_reduce; refine ⟨?_, ?_, ?_, ?_⟩ <;> first | rfl | decide | (constructor <;> decide) | (intro k hk; rcases hk with rfl | rfl | rfl <;> decide)

theorem test_meets_KonusLogicAndProducts_12 :
    (fun (n : Fin 67) (d : Fin 32) (r : Fin 32) (s : State) (c : CoreState) (k : Bool) (v : Word) => (s.core n = c) ∧ (k = (flagsOf c.psr).c) ∧ (AtInstr s n 2) ∧ (v = BitVec.ofInt 24 ((c.reg d).toInt * (c.reg r).toInt / 2 ^ 24)))
      (66) (31) (31) (pier id) ((pier id).core 66) (false) (0) := by beta_reduce; refine ⟨?_, ?_, ?_, ?_⟩ <;> first | rfl | decide | (constructor <;> decide) | (intro k hk; rcases hk with rfl | rfl | rfl <;> decide)

theorem test_meets_KonusLogicAndProducts_13 :
    (fun (n : Fin 67) (d : Fin 32) (r : Fin 32) (s : State) (c : CoreState) (k : Bool) (v : Word) => (s.core n = c) ∧ (k = (flagsOf c.psr).c) ∧ (AtInstr s n 2) ∧ (v = (if c.reg r = 0 then 0xFFFFFF else BitVec.ofNat 24 ((c.reg d).toNat / (c.reg r).toNat))))
      (66) (31) (31) (pier id) ((pier id).core 66) (false) (0xFFFFFF) := by beta_reduce; refine ⟨?_, ?_, ?_, ?_⟩ <;> first | rfl | decide | (constructor <;> decide) | (intro k hk; rcases hk with rfl | rfl | rfl <;> decide)

theorem test_meets_KonusLogicAndProducts_14 :
    (fun (n : Fin 67) (d : Fin 32) (r : Fin 32) (s : State) (c : CoreState) (k : Bool) (v : Word) => (s.core n = c) ∧ (k = (flagsOf c.psr).c) ∧ (AtInstr s n 2) ∧ (v = BitVec.ofNat 24 ((c.reg d).toNat % (c.reg r).toNat)))
      (66) (31) (31) (pier id) ((pier id).core 66) (false) (0) := by beta_reduce; refine ⟨?_, ?_, ?_, ?_⟩ <;> first | rfl | decide | (constructor <;> decide) | (intro k hk; rcases hk with rfl | rfl | rfl <;> decide)

theorem test_meets_KonusLogicAndProducts_15 :
    (fun (n : Fin 67) (r : Fin 32) (s : State) (c : CoreState) (k : Bool) (m : Nat) => (s.core n = c) ∧ (k = (flagsOf c.psr).c) ∧ (AtInstr s n 2) ∧ (m ≤ 24) ∧ ((∀ i < m, (c.reg r).getLsbD (23 - i) = false)) ∧ (m < 24 → (c.reg r).getLsbD (23 - m) = true))
      (66) (31) (pier id) ((pier id).core 66) (false) (24) := by beta_reduce; refine ⟨?_, ?_, ?_, ?_, ?_, ?_⟩ <;> first | rfl | decide | (constructor <;> decide) | (intro k hk; rcases hk with rfl | rfl | rfl <;> decide)

theorem test_meets_KonusShifts_1 :
    (fun (n : Fin 67) (d : Fin 32) (i : Fin 24) (s : State) (c : CoreState) (a : Word) (v : Word) => (s.core n = c) ∧ (a = c.reg d) ∧ (AtInstr s n 1) ∧ (v = BitVec.ofNat 24 (a.toNat * 2 ^ i.val)))
      (66) (31) (23) (pier id) ((pier id).core 66) (0) (0) := by beta_reduce; refine ⟨?_, ?_, ?_, ?_⟩ <;> first | rfl | decide | (constructor <;> decide) | (intro k hk; rcases hk with rfl | rfl | rfl <;> decide)

theorem test_meets_KonusShifts_2 :
    (fun (n : Fin 67) (d : Fin 32) (i : Fin 24) (s : State) (c : CoreState) (a : Word) (v : Word) => (s.core n = c) ∧ (a = c.reg d) ∧ (AtInstr s n 1) ∧ (v = BitVec.ofNat 24 (a.toNat / 2 ^ i.val)))
      (66) (31) (23) (pier id) ((pier id).core 66) (0) (0) := by beta_reduce; refine ⟨?_, ?_, ?_, ?_⟩ <;> first | rfl | decide | (constructor <;> decide) | (intro k hk; rcases hk with rfl | rfl | rfl <;> decide)

theorem test_meets_KonusShifts_3 :
    (fun (n : Fin 67) (d : Fin 32) (i : Fin 24) (s : State) (c : CoreState) (a : Word) (v : Word) => (s.core n = c) ∧ (a = c.reg d) ∧ (AtInstr s n 1) ∧ (v = BitVec.ofInt 24 (a.toInt / 2 ^ i.val)))
      (66) (31) (23) (pier id) ((pier id).core 66) (0) (0) := by beta_reduce; refine ⟨?_, ?_, ?_, ?_⟩ <;> first | rfl | decide | (constructor <;> decide) | (intro k hk; rcases hk with rfl | rfl | rfl <;> decide)

theorem test_meets_KonusShifts_4 :
    (fun (n : Fin 67) (d : Fin 32) (r : Fin 32) (s : State) (c : CoreState) (a : Word) (v : Word) (k : Nat) => (s.core n = c) ∧ (a = c.reg d) ∧ (AtInstr s n 2) ∧ (k = (c.reg r).toNat % 32) ∧ (v = BitVec.ofNat 24 (a.toNat * 2 ^ k)))
      (66) (31) (31) (pier id) ((pier id).core 66) (0) (0) (0) := by beta_reduce; refine ⟨?_, ?_, ?_, ?_, ?_⟩ <;> first | rfl | decide | (constructor <;> decide) | (intro k hk; rcases hk with rfl | rfl | rfl <;> decide)

theorem test_meets_KonusShifts_5 :
    (fun (n : Fin 67) (d : Fin 32) (r : Fin 32) (s : State) (c : CoreState) (a : Word) (v : Word) (k : Nat) => (s.core n = c) ∧ (a = c.reg d) ∧ (AtInstr s n 2) ∧ (k = (c.reg r).toNat % 32) ∧ (v = BitVec.ofNat 24 (a.toNat / 2 ^ k)))
      (66) (31) (31) (pier id) ((pier id).core 66) (0) (0) (0) := by beta_reduce; refine ⟨?_, ?_, ?_, ?_, ?_⟩ <;> first | rfl | decide | (constructor <;> decide) | (intro k hk; rcases hk with rfl | rfl | rfl <;> decide)

theorem test_meets_KonusShifts_6 :
    (fun (n : Fin 67) (d : Fin 32) (r : Fin 32) (s : State) (c : CoreState) (a : Word) (v : Word) (k : Nat) => (s.core n = c) ∧ (a = c.reg d) ∧ (AtInstr s n 2) ∧ (k = (c.reg r).toNat % 32) ∧ (v = BitVec.ofInt 24 (a.toInt / 2 ^ k)))
      (66) (31) (31) (pier id) ((pier id).core 66) (0) (0) (0) := by beta_reduce; refine ⟨?_, ?_, ?_, ?_, ?_⟩ <;> first | rfl | decide | (constructor <;> decide) | (intro k hk; rcases hk with rfl | rfl | rfl <;> decide)

theorem test_meets_KonusShifts_7 :
    (fun (n : Fin 67) (d : Fin 32) (i : Fin 24) (s : State) (c : CoreState) (a : Word) (v : Word) => (s.core n = c) ∧ (a = c.reg d) ∧ (AtInstr s n 2) ∧ (v = BitVec.ofNat 24 (a.toNat / 2 ^ i.val + a.toNat * 2 ^ (24 - i.val))))
      (66) (31) (23) (pier id) ((pier id).core 66) (0) (0) := by beta_reduce; refine ⟨?_, ?_, ?_, ?_⟩ <;> first | rfl | decide | (constructor <;> decide) | (intro k hk; rcases hk with rfl | rfl | rfl <;> decide)

theorem test_meets_KonusFlow_1 :
    (fun (n : Fin 67) (s : State) (c : CoreState) (cc : Fin 15) => (s.core n = c) ∧ (AtInstr s n 2) ∧ (condition cc (flagsOf c.psr) = true))
      (66) (pier id) ((pier id).core 66) (14) := by beta_reduce; refine ⟨?_, ?_, ?_⟩ <;> first | rfl | decide | (constructor <;> decide) | (intro k hk; rcases hk with rfl | rfl | rfl <;> decide)

theorem test_meets_KonusFlow_2 :
    (fun (n : Fin 67) (s : State) (c : CoreState) (cc : Fin 15) => (s.core n = c) ∧ (AtInstr s n 1) ∧ (condition cc (flagsOf c.psr) = true))
      (66) (pier id) ((pier id).core 66) (14) := by beta_reduce; refine ⟨?_, ?_, ?_⟩ <;> first | rfl | decide | (constructor <;> decide) | (intro k hk; rcases hk with rfl | rfl | rfl <;> decide)

theorem test_meets_KonusFlow_3 :
    (fun (n : Fin 67) (s : State) (c : CoreState) (cc : Fin 15) (long : Bool) => (s.core n = c) ∧ (AtInstr s n (if long = true then 2 else 1)) ∧ (condition cc (flagsOf c.psr) = false))
      (66) (pier id) ((pier id).core 66) (0) (false) := by beta_reduce; refine ⟨?_, ?_, ?_⟩ <;> first | rfl | decide | (constructor <;> decide) | (intro k hk; rcases hk with rfl | rfl | rfl <;> decide)

theorem test_meets_KonusFlow_4 :
    (fun (n : Fin 67) (s : State) (c : CoreState) => (s.core n = c) ∧ (AtInstr s n 1))
      (66) (pier id) ((pier id).core 66) := by beta_reduce; refine ⟨?_, ?_⟩ <;> first | rfl | decide | (constructor <;> decide) | (intro k hk; rcases hk with rfl | rfl | rfl <;> decide)

theorem test_meets_KonusFlow_5 :
    (fun (n : Fin 67) (s : State) (c : CoreState) => (s.core n = c) ∧ (AtInstr s n 2) ∧ (c.slim.toNat + 18 ≤ (c.reg 7).toNat) ∧ (shadowBase n + 2 ≤ c.ssp.toNat) ∧ (dataFault n c false ((c.reg 7).toNat - 1) = none) ∧ (dataFault n c false ((c.reg 7).toNat - 2) = none))
      (66) (pier stacked) ((pier stacked).core 66) := by beta_reduce; refine ⟨?_, ?_, ?_, ?_, ?_, ?_⟩ <;> first | rfl | decide | (constructor <;> decide) | (intro k hk; rcases hk with rfl | rfl | rfl <;> decide)

theorem test_meets_KonusFlow_6 :
    (fun (n : Fin 67) (s : State) (c : CoreState) => (s.core n = c) ∧ (AtInstr s n 1) ∧ (c.slim.toNat + 18 ≤ (c.reg 7).toNat) ∧ (shadowBase n + 2 ≤ c.ssp.toNat) ∧ (dataFault n c false ((c.reg 7).toNat - 1) = none) ∧ (dataFault n c false ((c.reg 7).toNat - 2) = none))
      (66) (pier stacked) ((pier stacked).core 66) := by beta_reduce; refine ⟨?_, ?_, ?_, ?_, ?_, ?_⟩ <;> first | rfl | decide | (constructor <;> decide) | (intro k hk; rcases hk with rfl | rfl | rfl <;> decide)

theorem test_meets_KonusFlow_7 :
    (fun (n : Fin 67) (s : State) (c : CoreState) => (s.core n = c) ∧ (AtInstr s n 1) ∧ (c.ssp.toNat ≠ shadowTop n) ∧ (c.cwp < 15) ∧ (dataFault n c false (c.rp.toNat + 17) = none) ∧ (dataFault n c false (c.rp.toNat + 16) = none) ∧ (c.load c.ssp.toNat = c.load (c.rp.toNat + 17)) ∧ (c.load (c.ssp.toNat + 1) = c.rp))
      (66) (pier (fun c => { stacked c with data := [(0x7010, 0x6000), (0x7011, 5), (0x7802, 5), (0x7803, 0x7000)] })) ((pier (fun c => { stacked c with data := [(0x7010, 0x6000), (0x7011, 5), (0x7802, 5), (0x7803, 0x7000)] })).core 66) := by beta_reduce; refine ⟨?_, ?_, ?_, ?_, ?_, ?_, ?_, ?_⟩ <;> first | rfl | decide | (constructor <;> decide) | (intro k hk; rcases hk with rfl | rfl | rfl <;> decide)

theorem test_meets_KonusFlow_8 :
    (fun (n : Fin 67) (s : State) (c : CoreState) => (s.core n = c) ∧ (AtInstr s n 1) ∧ (Room s n) ∧ (c.ssp.toNat ≠ shadowTop n) ∧ (dataFault n c false (c.rp.toNat + 17) = none) ∧ (dataFault n c false (c.rp.toNat + 16) = none) ∧ (c.load c.ssp.toNat ≠ c.load (c.rp.toNat + 17)))
      (66) (pier (fun c => { stacked c with data := [(0x7802, 5)] })) ((pier (fun c => { stacked c with data := [(0x7802, 5)] })).core 66) := by beta_reduce; refine ⟨?_, ?_, ?_, ?_, ?_, ?_, ?_⟩ <;> first | rfl | decide | (constructor <;> decide) | (intro k hk; rcases hk with rfl | rfl | rfl <;> decide)

theorem test_meets_KonusMemory_1 :
    (fun (n : Fin 67) (b : Fin 32) (o : BitVec 10) (s : State) (c : CoreState) (a : Nat) => (s.core n = c) ∧ (a = (c.reg b + BitVec.ofInt 24 o.toInt).toNat) ∧ (AtInstr s n 2) ∧ (dataFault n c false a = none))
      (66) (31) (0) (pier id) ((pier id).core 66) (0) := by beta_reduce; refine ⟨?_, ?_, ?_, ?_⟩ <;> first | rfl | decide | (constructor <;> decide) | (intro k hk; rcases hk with rfl | rfl | rfl <;> decide)

theorem test_meets_KonusMemory_2 :
    (fun (n : Fin 67) (b : Fin 32) (o : BitVec 10) (s : State) (c : CoreState) (a : Nat) => (s.core n = c) ∧ (a = (c.reg b + BitVec.ofInt 24 o.toInt).toNat) ∧ (AtInstr s n 2) ∧ (dataFault n c true a = none))
      (66) (31) (0) (pier id) ((pier id).core 66) (0) := by beta_reduce; refine ⟨?_, ?_, ?_, ?_⟩ <;> first | rfl | decide | (constructor <;> decide) | (intro k hk; rcases hk with rfl | rfl | rfl <;> decide)

theorem test_meets_KonusMemory_3 :
    (fun (n : Fin 67) (b : Fin 32) (o : BitVec 10) (s : State) (c : CoreState) (a : Nat) (v : Nat) => (s.core n = c) ∧ (a = (c.reg b + BitVec.ofInt 24 o.toInt).toNat) ∧ (AtInstr s n 2) ∧ (Room s n) ∧ (dataFault n c true a = some v))
      (66) (31) (0x200) (pier stacked) ((pier stacked).core 66) (0xFFFE00) (3) := by beta_reduce; refine ⟨?_, ?_, ?_, ?_, ?_⟩ <;> first | rfl | decide | (constructor <;> decide) | (intro k hk; rcases hk with rfl | rfl | rfl <;> decide)

theorem test_meets_KonusMemory_4 :
    (fun (n : Fin 67) (b : Fin 32) (o : BitVec 10) (s : State) (c : CoreState) (a : Nat) => (s.core n = c) ∧ (a = (c.reg b + BitVec.ofInt 24 o.toInt).toNat) ∧ (AtInstr s n 1) ∧ (c.slim.toNat + 1 ≤ (c.reg 7).toNat) ∧ (dataFault n c true ((c.reg 7).toNat - 1) = none))
      (66) (31) (0) (pier (fun c => { c with g := [(7, 1)] })) ((pier (fun c => { c with g := [(7, 1)] })).core 66) (0) := by beta_reduce; refine ⟨?_, ?_, ?_, ?_, ?_⟩ <;> first | rfl | decide | (constructor <;> decide) | (intro k hk; rcases hk with rfl | rfl | rfl <;> decide)

theorem test_meets_KonusMemory_5 :
    (fun (n : Fin 67) (d : Fin 32) (b : Fin 32) (o : BitVec 10) (s : State) (c : CoreState) (a : Nat) => (s.core n = c) ∧ (a = (c.reg b + BitVec.ofInt 24 o.toInt).toNat) ∧ (AtInstr s n 1) ∧ (d ≠ 7) ∧ (dataFault n c false (c.reg 7).toNat = none))
      (66) (6) (31) (0) (pier id) ((pier id).core 66) (0) := by beta_reduce; refine ⟨?_, ?_, ?_, ?_, ?_⟩ <;> first | rfl | decide | (constructor <;> decide) | (intro k hk; rcases hk with rfl | rfl | rfl <;> decide)

theorem test_meets_KonusMemory_6 :
    (fun (n : Fin 67) (b : Fin 32) (o : BitVec 10) (s : State) (c : CoreState) (a : Nat) => (s.core n = c) ∧ (a = (c.reg b + BitVec.ofInt 24 o.toInt).toNat) ∧ (AtInstr s n 2) ∧ (mayRead s (coreMaster s n) a = true))
      (66) (31) (0) (pier (fun c => { c with w := [(23, 0x010001)] })) ((pier (fun c => { c with w := [(23, 0x010001)] })).core 66) (0x010001) := by beta_reduce; refine ⟨?_, ?_, ?_, ?_⟩ <;> first | rfl | decide | (constructor <;> decide) | (intro k hk; rcases hk with rfl | rfl | rfl <;> decide)

theorem test_meets_KonusMemory_7 :
    (fun (n : Fin 67) (b : Fin 32) (o : BitVec 10) (s : State) (c : CoreState) (a : Nat) => (s.core n = c) ∧ (a = (c.reg b + BitVec.ofInt 24 o.toInt).toNat) ∧ (AtInstr s n 2) ∧ (mayRead s (coreMaster s n) a = false) ∧ (n = 0))
      (0) (31) (0) (keystone (fun c => { c with w := [(23, 0x1FFFFF)] })) ((keystone (fun c => { c with w := [(23, 0x1FFFFF)] })).core 0) (0x1FFFFF) := by beta_reduce; refine ⟨?_, ?_, ?_, ?_, ?_⟩ <;> first | rfl | decide | (constructor <;> decide) | (intro k hk; rcases hk with rfl | rfl | rfl <;> decide)

theorem test_meets_KonusMemory_8 :
    (fun (n : Fin 67) (b : Fin 32) (o : BitVec 10) (s : State) (c : CoreState) (a : Nat) => (s.core n = c) ∧ (a = (c.reg b + BitVec.ofInt 24 o.toInt).toNat) ∧ (AtInstr s n 2) ∧ (mayWrite s (coreMaster s n) a = true))
      (66) (31) (0) (pier (fun c => { c with w := [(23, 0x010000)] })) ((pier (fun c => { c with w := [(23, 0x010000)] })).core 66) (0x010000) := by beta_reduce; refine ⟨?_, ?_, ?_, ?_⟩ <;> first | rfl | decide | (constructor <;> decide) | (intro k hk; rcases hk with rfl | rfl | rfl <;> decide)

theorem test_meets_KonusMemory_9 :
    (fun (n : Fin 67) (b : Fin 32) (o : BitVec 10) (s : State) (c : CoreState) (a : Nat) => (s.core n = c) ∧ (a = (c.reg b + BitVec.ofInt 24 o.toInt).toNat) ∧ (AtInstr s n 2) ∧ (Room s n) ∧ (mayWrite s (coreMaster s n) a = false) ∧ (n ≠ 0))
      (66) (31) (0) (pier (fun c => { stacked c with w := [(23, 0x050000)] })) ((pier (fun c => { stacked c with w := [(23, 0x050000)] })).core 66) (0x050000) := by beta_reduce; refine ⟨?_, ?_, ?_, ?_, ?_, ?_⟩ <;> first | rfl | decide | (constructor <;> decide) | (intro k hk; rcases hk with rfl | rfl | rfl <;> decide)

theorem test_meets_KonusSystem_1 :
    (fun (n : Fin 67) (s : State) (c : CoreState) (sr : Fin 32) => (s.core n = c) ∧ (AtInstr s n 2) ∧ (srFault c sr false = none) ∧ (sr ≠ 14) ∧ (sr ≠ 15))
      (66) (pier id) ((pier id).core 66) (16) := by beta_reduce; refine ⟨?_, ?_, ?_, ?_, ?_⟩ <;> first | rfl | decide | (constructor <;> decide) | (intro k hk; rcases hk with rfl | rfl | rfl <;> decide)

theorem test_meets_KonusSystem_2 :
    (fun (n : Fin 67) (s : State) (c : CoreState) (sr : Fin 32) => (s.core n = c) ∧ (AtInstr s n 2) ∧ (Room s n) ∧ (c.priv = 0) ∧ (5 ≤ sr.val) ∧ (sr.val ≤ 9))
      (66) (pier (fun c => { stacked c with psr := 0, udhi := 0x7800, uphi := 0xFFFF })) ((pier (fun c => { stacked c with psr := 0, udhi := 0x7800, uphi := 0xFFFF })).core 66) (9) := by beta_reduce; refine ⟨?_, ?_, ?_, ?_, ?_, ?_⟩ <;> first | rfl | decide | (constructor <;> decide) | (intro k hk; rcases hk with rfl | rfl | rfl <;> decide)

theorem test_meets_KonusSystem_3 :
    (fun (n : Fin 67) (s : State) (c : CoreState) (sr : Fin 32) => (s.core n = c) ∧ (AtInstr s n 2) ∧ (srFault c sr true = none))
      (66) (pier id) ((pier id).core 66) (13) := by beta_reduce; refine ⟨?_, ?_, ?_⟩ <;> first | rfl | decide | (constructor <;> decide) | (intro k hk; rcases hk with rfl | rfl | rfl <;> decide)

theorem test_meets_KonusSystem_4 :
    (fun (n : Fin 67) (s : State) (c : CoreState) (k : Fin 128) => (s.core n = c) ∧ (AtInstr s n 2) ∧ (Room s n) ∧ (n ≠ 0) ∧ (k.val < 64))
      (66) (pier stacked) ((pier stacked).core 66) (63) := by beta_reduce; refine ⟨?_, ?_, ?_, ?_, ?_⟩ <;> first | rfl | decide | (constructor <;> decide) | (intro k hk; rcases hk with rfl | rfl | rfl <;> decide)

theorem test_meets_KonusSystem_5 :
    (fun (n : Fin 67) (s : State) (c : CoreState) => (s.core n = c) ∧ (AtInstr s n 2) ∧ (Room s n) ∧ (n = 0))
      (0) (keystone (fun c => { c with g := [(7, 0x01F800)] })) ((keystone (fun c => { c with g := [(7, 0x01F800)] })).core 0) := by beta_reduce; refine ⟨?_, ?_, ?_, ?_⟩ <;> first | rfl | decide | (constructor <;> decide) | (intro k hk; rcases hk with rfl | rfl | rfl <;> decide)

theorem test_meets_KonusSystem_6 :
    (fun (n : Fin 67) (s : State) (c : CoreState) (k : Fin 128) => (s.core n = c) ∧ (AtInstr s n 2) ∧ (n ≠ 0) ∧ (c.priv ≠ 0) ∧ (k.val ∈ callNumbers) ∧ (s.kept = []) ∧ ((∀ o ∈ s.key.ops, o.withdrawn = none)))
      (66) (pier id) ((pier id).core 66) (112) := by beta_reduce; refine ⟨?_, ?_, ?_, ?_, ?_, ?_, ?_⟩ <;> first | rfl | decide | (constructor <;> decide) | (intro k hk; rcases hk with rfl | rfl | rfl <;> decide)

theorem test_meets_KonusSystem_7 :
    (fun (n : Fin 67) (s : State) (c : CoreState) => (s.core n = c) ∧ (AtInstr s n 2) ∧ (c.priv ≠ 0) ∧ (c.ssp.toNat ≠ shadowTop n) ∧ (c.load (c.ssp.toNat + 1) = c.rp ||| 0x800000) ∧ ((∀ k, k = 16 ∨ k = 17 ∨ k = 18 → dataFault n c false (c.rp.toNat + k) = none)) ∧ (c.load c.ssp.toNat = c.load (c.rp.toNat + 17)) ∧ (Word.slice (c.load (c.rp.toNat + 18)) 19 18 ≤ c.priv) ∧ (Word.slice (c.load (c.rp.toNat + 18)) 19 18 ≠ 2))
      (66) (pier (fun c => { c with ssp := 0x7FFE, rp := 0x7000, data := [(0x7010, 0x6000), (0x7011, 5), (0x7012, 0x040000), (0x7FFE, 5), (0x7FFF, 0x807000)] })) ((pier (fun c => { c with ssp := 0x7FFE, rp := 0x7000, data := [(0x7010, 0x6000), (0x7011, 5), (0x7012, 0x040000), (0x7FFE, 5), (0x7FFF, 0x807000)] })).core 66) := by beta_reduce; refine ⟨?_, ?_, ?_, ?_, ?_, ?_, ?_, ?_, ?_⟩ <;> first | rfl | decide | (constructor <;> decide) | (intro k hk; rcases hk with rfl | rfl | rfl <;> decide)

theorem test_meets_KonusSystem_8 :
    (fun (n : Fin 67) (s : State) (c : CoreState) => (s.core n = c) ∧ (AtInstr s n 2))
      (66) (pier id) ((pier id).core 66) := by beta_reduce; refine ⟨?_, ?_⟩ <;> first | rfl | decide | (constructor <;> decide) | (intro k hk; rcases hk with rfl | rfl | rfl <;> decide)

theorem test_meets_KonusSystem_9 :
    (fun (n : Fin 67) (s : State) (c : CoreState) => (s.core n = c) ∧ (AtInstr s n 2) ∧ (c.priv ≠ 0) ∧ (1 ≤ c.res))
      (66) (pier id) ((pier id).core 66) := by beta_reduce; refine ⟨?_, ?_, ?_, ?_⟩ <;> first | rfl | decide | (constructor <;> decide) | (intro k hk; rcases hk with rfl | rfl | rfl <;> decide)

theorem test_meets_KonusSystem_10 :
    (fun (n : Fin 67) (s : State) (c : CoreState) => (s.core n = c) ∧ (AtInstr s n 2) ∧ (Room s n))
      (66) (pier stacked) ((pier stacked).core 66) := by beta_reduce; refine ⟨?_, ?_, ?_⟩ <;> first | rfl | decide | (constructor <;> decide) | (intro k hk; rcases hk with rfl | rfl | rfl <;> decide)

theorem test_meets_KonusSystem_11 :
    (fun (n : Fin 67) (s : State) (c : CoreState) => (s.core n = c) ∧ (AtInstr s n 2) ∧ (entryFits n c = false))
      (66) (pier id) ((pier id).core 66) := by beta_reduce; refine ⟨?_, ?_, ?_⟩ <;> first | rfl | decide | (constructor <;> decide) | (intro k hk; rcases hk with rfl | rfl | rfl <;> decide)

theorem test_meets_KonusSystem_12 :
    (fun (n : Fin 67) (s : State) (c : CoreState) => (s.core n = c) ∧ (executing s n = true) ∧ (c.stb = []) ∧ (Word.bit c.psr 17 = true) ∧ (enabledPending s n ≠ 0) ∧ (Room s n))
      (66) (intPending) (intPending.core 66) := by beta_reduce; refine ⟨?_, ?_, ?_, ?_, ?_, ?_⟩ <;> first | rfl | decide | (constructor <;> decide) | (intro k hk; rcases hk with rfl | rfl | rfl <;> decide)

theorem test_meets_KonusSystem_13 :
    (fun (n : Fin 67) (s : State) (c : CoreState) (p : BitVec 14) (q : BitVec 14) => (s.core n = c) ∧ (decodeParcels n p q = none) ∧ (AtInstr s n (if twoParcels p = true then 2 else 1)) ∧ (Room s n))
      (66) (pier stacked) ((pier stacked).core 66) (0x33C0) (0) := by beta_reduce; refine ⟨?_, ?_, ?_, ?_⟩ <;> first | rfl | decide | (constructor <;> decide) | (intro k hk; rcases hk with rfl | rfl | rfl <;> decide)

theorem test_meets_KonusSystem_14 :
    (fun (n : Fin 67) (s : State) (c : CoreState) => (s.core n = c) ∧ (AtInstr s n 1) ∧ (Room s n) ∧ (n ≠ 0))
      (66) (pier stacked) ((pier stacked).core 66) := by beta_reduce; refine ⟨?_, ?_, ?_, ?_⟩ <;> first | rfl | decide | (constructor <;> decide) | (intro k hk; rcases hk with rfl | rfl | rfl <;> decide)

theorem test_meets_KonusSystem_15 :
    (fun (n : Fin 67) (s : State) (c : CoreState) => (s.core n = c) ∧ (n ≠ 0))
      (66) (pier id) ((pier id).core 66) := by beta_reduce; refine ⟨?_, ?_⟩ <;> first | rfl | decide | (constructor <;> decide) | (intro k hk; rcases hk with rfl | rfl | rfl <;> decide)

theorem test_meets_KonusSystem_16 :
    (fun (n : Fin 67) (s : State) (c : CoreState) => (s.core n = c) ∧ (n = 0))
      (0) (State.reset) (State.reset.core 0) := by beta_reduce; refine ⟨?_, ?_⟩ <;> first | rfl | decide | (constructor <;> decide) | (intro k hk; rcases hk with rfl | rfl | rfl <;> decide)

theorem test_meets_ParcelsDecode_1 :
    (fun (i : Instr) (n : Fin 67) (p : BitVec 14) => (oneParcel i = some (n, p)))
      (.mov 66 31 31) (66) (1023) := by beta_reduce; decide

theorem test_meets_ParcelsDecode_2 :
    (fun (i : Instr) (n : Fin 67) (p : BitVec 14) (q : BitVec 14) => (twoParcel i = some (n, p, q)))
      (.ld 66 31 31 0x3FF true) (66) (15423) (16383) := by beta_reduce; decide

theorem test_meets_CoreControl_1 :
    (fun (n : Fin 67) (w : Word) (s : State) => (n ≠ 0) ∧ (powered s = true) ∧ (Word.slice w 23 20 = 8) ∧ (coreState s n = 0) ∧ ((s.core n).busy = none))
      (66) (0x800000) ({ (st []) with cores := [(66, (id : CoreState → CoreState) (CoreState.init 66))] }) := by beta_reduce; refine ⟨?_, ?_, ?_, ?_, ?_⟩ <;> decide

theorem test_meets_CoreControl_2 :
    (fun (n : Fin 67) (w : Word) (s : State) => (n ≠ 0) ∧ (powered s = true) ∧ (Word.slice w 23 20 = 0) ∧ (coreState s n = 1) ∧ ((s.core n).stb = []))
      (66) (0) ({ (st [(coreReg 66 0, 0x800000), (coreReg 66 1, 0x200000)]) with cores := [(66, (id : CoreState → CoreState) (CoreState.init 66))] }) := by beta_reduce; refine ⟨?_, ?_, ?_, ?_, ?_⟩ <;> decide

theorem test_meets_CoreControl_3 :
    (fun (n : Fin 67) (s : State) => (n ≠ 0) ∧ (powered s = true))
      (66) ({ (st []) with cores := [(66, (id : CoreState → CoreState) (CoreState.init 66))] }) := by beta_reduce; refine ⟨?_, ?_⟩ <;> decide

theorem test_meets_CoreControl_4 :
    (fun (n : Fin 67) (s : State) (e : Nat) => (n ≠ 0) ∧ (powered s = true) ∧ ((s.core n).busy = some (.reset e)) ∧ (e ≤ s.tick) ∧ ((s.core n).restart = false))
      (66) ({ (st []) with cores := [(66, (fun c => { c with busy := some (.reset 0) } : CoreState → CoreState) (CoreState.init 66))] }) (0) := by beta_reduce; refine ⟨?_, ?_, ?_, ?_, ?_⟩ <;> decide

theorem test_meets_CoreControl_5 :
    (fun (n : Fin 67) (w : Word) (s : State) => (n ≠ 0) ∧ (powered s = true) ∧ (coreRun s n = false) ∧ (Word.bit w 22 = false) ∧ (coreState s n = 0) ∧ ((s.core n).busy = none))
      (66) (0) ({ (st []) with cores := [(66, (id : CoreState → CoreState) (CoreState.init 66))] }) := by beta_reduce; refine ⟨?_, ?_, ?_, ?_, ?_, ?_⟩ <;> decide

theorem test_meets_CoreControl_6 :
    (fun (n : Fin 67) (s : State) (e : Nat) => (n ≠ 0) ∧ (powered s = true) ∧ ((s.core n).busy = some (.pclr e)) ∧ (e ≤ s.tick))
      (66) ({ (st []) with cores := [(66, (fun c => { c with busy := some (.pclr 0) } : CoreState → CoreState) (CoreState.init 66))] }) (0) := by beta_reduce; refine ⟨?_, ?_, ?_, ?_⟩ <;> decide

theorem test_meets_CoreControl_7 :
    (fun (n : Fin 67) (w : Word) (s : State) => (n ≠ 0) ∧ (powered s = true) ∧ (coreRun s n = false) ∧ (Word.slice w 22 21 = 0) ∧ (coreState s n = 0) ∧ ((s.core n).busy = none))
      (66) (0) ({ (st []) with cores := [(66, (id : CoreState → CoreState) (CoreState.init 66))] }) := by beta_reduce; refine ⟨?_, ?_, ?_, ?_, ?_, ?_⟩ <;> decide

theorem test_meets_CoreControl_8 :
    (fun (n : Fin 67) (s : State) (e : Nat) => (n ≠ 0) ∧ (powered s = true) ∧ ((s.core n).busy = some (.dig e)) ∧ (e ≤ s.tick) ∧ ((s.core n).restart = false))
      (66) ({ (st []) with cores := [(66, (fun c => { c with busy := some (.dig 0) } : CoreState → CoreState) (CoreState.init 66))] }) (0) := by beta_reduce; refine ⟨?_, ?_, ?_, ?_, ?_⟩ <;> decide

theorem test_meets_CoreControl_9 :
    (fun (n : Fin 67) (w : Word) (s : State) => (n ≠ 0) ∧ (powered s = true) ∧ (coreRun s n = false) ∧ (Word.slice w 23 20 = 0) ∧ (coreState s n = 0))
      (66) (0) ({ (st []) with cores := [(66, (id : CoreState → CoreState) (CoreState.init 66))] }) := by beta_reduce; refine ⟨?_, ?_, ?_, ?_, ?_⟩ <;> decide

theorem test_meets_CoreControl_10 :
    (fun (n : Fin 67) (s : State) => (n ≠ 0) ∧ (powered s = true) ∧ (coreState s n = 0) ∧ (s.bit (coreReg n 0) 19 = true))
      (66) ({ (st [(coreReg 66 0, 0x080000)]) with cores := [(66, (id : CoreState → CoreState) (CoreState.init 66))] }) := by beta_reduce; refine ⟨?_, ?_, ?_, ?_⟩ <;> decide

theorem test_meets_CoreControl_11 :
    (fun (n : Fin 67) (s : State) => (n ≠ 0) ∧ (powered s = true) ∧ (coreState s n ≠ 0))
      (66) ({ (st [(coreReg 66 1, 0x200000)]) with cores := [(66, (id : CoreState → CoreState) (CoreState.init 66))] }) := by beta_reduce; refine ⟨?_, ?_, ?_⟩ <;> decide

theorem test_meets_CoreControl_12 :
    (fun (n : Fin 67) (s : State) (p : Fin 67) => (n ≠ 0) ∧ (powered s = true) ∧ (coreState s n = 3) ∧ ((s.core n).out = false) ∧ (freeSpare s = some p.val))
      (1) (st [(coreReg 1 1, 0x600000)]) (65) := by beta_reduce; refine ⟨?_, ?_, ?_, ?_, ?_⟩ <;> decide

theorem test_meets_CoreControl_13 :
    (fun (n : Fin 67) (s : State) => (n ≠ 0) ∧ (powered s = true) ∧ (coreState s n = 3) ∧ ((s.core n).out = false) ∧ (freeSpare s = none))
      (1) (st [(coreReg 1 1, 0x600000), (coreReg 65 1, 0x200000), (coreReg 66 1, 0x200000)]) := by beta_reduce; refine ⟨?_, ?_, ?_, ?_, ?_⟩ <;> decide

theorem test_meets_CoreControl_14 :
    (fun (n : Fin 67) (s : State) => (n ≠ 0) ∧ (powered s = true) ∧ (coreState s n = 1) ∧ (freeSpare s = none))
      (66) ({ (st [(coreReg 66 1, 0x200000)]) with cores := [(65, { CoreState.init 65 with spare := false }), (66, { CoreState.init 66 with spare := false })] }) := by beta_reduce; refine ⟨?_, ?_, ?_, ?_⟩ <;> decide

theorem test_meets_KeystoneCalls_1 :
    (fun (n : Fin 67) (w : Word) (s : State) (d : Nat) (a : Nat) => (n ≠ 0) ∧ (powered s = true) ∧ (Word.slice w 17 0 = d) ∧ (d ≠ 0) ∧ (s.bit (coreReg n 0x40) 23 = true) ∧ ((s.core n).release = none) ∧ (a = (s.rdN (coreReg n 0x41) 2 + d + (2 ^ 48 - s.now % 2 ^ 48)) % 2 ^ 48))
      (66) (0x03FFFF) ({ (st [(coreReg 66 0x40, 0x800000), (coreReg 66 0x41, 5)]) with cores := [(66, (id : CoreState → CoreState) (CoreState.init 66))] }) (0x03FFFF) (0x040004) := by beta_reduce; refine ⟨?_, ?_, ?_, ?_, ?_, ?_, ?_⟩ <;> decide

theorem test_meets_KeystoneCalls_2 :
    (fun (n : Fin 67) (s : State) (e : Nat) => (n ≠ 0) ∧ (powered s = true) ∧ ((s.core n).release = some (e, false)) ∧ (e ≤ s.tick) ∧ (s.spn.pausedUntil ≤ s.now) ∧ (s.bit (coreReg n 0x40) 23 = true))
      (66) ({ (st [(coreReg 66 0x40, 0x800000)]) with cores := [(66, (fun c => { c with release := some (0, false) } : CoreState → CoreState) (CoreState.init 66))] }) (0) := by beta_reduce; refine ⟨?_, ?_, ?_, ?_, ?_, ?_⟩ <;> decide

theorem test_meets_KeystoneCalls_3 :
    (fun (n : Fin 67) (s : State) (e : Nat) => (n ≠ 0) ∧ (powered s = true) ∧ ((s.core n).release = some (e, true)) ∧ (e ≤ s.tick) ∧ (s.spn.pausedUntil ≤ s.now) ∧ (s.bit (coreReg n 0x40) 23 = true))
      (66) ({ (st [(coreReg 66 0x40, 0x800000)]) with cores := [(66, (fun c => { c with release := some (0, true) } : CoreState → CoreState) (CoreState.init 66))] }) (0) := by beta_reduce; refine ⟨?_, ?_, ?_, ?_, ?_, ?_⟩ <;> decide

theorem test_meets_KeystoneCalls_4 :
    (fun (n : Fin 67) (s : State) => (n ≠ 0) ∧ (powered s = true) ∧ (coreState s n = 2) ∧ (s.fld (coreReg n 0x60) 14 0 < shadowBase n))
      (66) ({ (st [(coreReg 66 1, 0x400000), (coreReg 66 0x60, 0x77FF)]) with cores := [(66, (id : CoreState → CoreState) (CoreState.init 66))] }) := by beta_reduce; refine ⟨?_, ?_, ?_, ?_⟩ <;> decide

theorem test_meets_KeystoneCalls_5 :
    (fun (n : Fin 67) (s : State) => (n ≠ 0) ∧ (powered s = true) ∧ (coreState s n = 2))
      (66) ({ (st [(coreReg 66 1, 0x400000)]) with cores := [(66, (id : CoreState → CoreState) (CoreState.init 66))] }) := by beta_reduce; refine ⟨?_, ?_, ?_⟩ <;> decide

theorem test_meets_KeystoneCalls_6 :
    (fun (n : Fin 67) (s : State) => (n ≠ 0) ∧ (powered s = true) ∧ (coreState s n ≠ 2))
      (66) ({ (st []) with cores := [(66, (id : CoreState → CoreState) (CoreState.init 66))] }) := by beta_reduce; refine ⟨?_, ?_, ?_⟩ <;> decide

theorem test_meets_RegisterAccess_1 :
    (fun (m : Master) (s : State) => (Reaches m 0x0A0002 s))
      (.pf) (State.reset) := by beta_reduce; decide

theorem test_meets_RegisterAccess_2 :
    (fun (m : Master) (s : State) => (Reaches m 0x070000 s))
      (.keep) (State.reset) := by beta_reduce; decide

theorem test_meets_RegisterAccess_3 :
    (fun (a : Fin 0x1000000) (off : BitVec 26) (be : BitVec 4) (s : State) => (powered s = true) ∧ (be.toNat % 8 = 7) ∧ (4 * a.val = off.toNat))
      (0xFFFFFF) (0x3FFFFFC) (7) (State.reset) := by beta_reduce; refine ⟨?_, ?_, ?_⟩ <;> decide

theorem test_meets_RegisterAccess_4 :
    (fun (a : Fin 0x8000) (off : BitVec 26) (be : BitVec 4) (s : State) => (powered s = true) ∧ (be.toNat % 8 = 7) ∧ (4 * a.val = off.toNat))
      (0x7FFF) (0x1FFFC) (15) (State.reset) := by beta_reduce; refine ⟨?_, ?_, ?_⟩ <;> decide

theorem test_meets_RegisterAccess_5 :
    (fun (be : BitVec 4) (s : State) => (powered s = true) ∧ (be.toNat % 8 ≠ 7))
      (8) (State.reset) := by beta_reduce; refine ⟨?_, ?_⟩ <;> decide

theorem test_meets_RegisterAccess_6 :
    (fun (fn : Fin 257) (off : BitVec 26) (be : BitVec 4) (s : State) => (powered s = true) ∧ (be.toNat % 8 = 7) ∧ (mayWrite s (barMaster fn) (barAddr fn off) = false))
      (0) (0x104000) (7) (State.reset) := by beta_reduce; refine ⟨?_, ?_, ?_⟩ <;> decide

theorem test_meets_RegisterAccess_7 :
    (fun (n : Fin 67) (user : Bool) (a : BitVec 24) (s : State) => (powered s = true) ∧ (mayWrite s (.pier n user) a.toNat = false) ∧ (executing s n = true) ∧ ((s.core n).stb = []) ∧ (Room s n))
      (66) (false) (0x050000) (pier stacked) := by beta_reduce; refine ⟨?_, ?_, ?_, ?_, ?_⟩ <;> first | decide | (constructor <;> decide)

theorem test_meets_RegisterAccess_8 :
    (fun (off : BitVec 26) (s : State) => (Reads .pf 0x0A0000 s) ∧ (off.toNat = 4 * 0x0A0000))
      (0x280000) (State.reset) := by beta_reduce; refine ⟨?_, ?_⟩ <;> decide

theorem test_meets_RegisterAccess_9 :
    (fun (fn : Fin 257) (off : BitVec 26) (s : State) => (Reads (barMaster fn) (barAddr fn off) s))
      (0) (0x280000) (State.reset) := by beta_reduce; decide

theorem test_meets_RegisterAccess_10 :
    (fun (fn : Fin 257) (off : BitVec 26) (s : State) => (powered s = true) ∧ (mayRead s (barMaster fn) (barAddr fn off) = false))
      (0) (0x800100) (State.reset) := by beta_reduce; refine ⟨?_, ?_⟩ <;> decide

theorem test_meets_RegisterAccess_11 :
    (fun (fn : Fin 257) (off : BitVec 26) (s : State) => (Reads (barMaster fn) (barAddr fn off) s))
      (0) (0x280000) (State.reset) := by beta_reduce; decide

theorem test_meets_ArrayCommands_1 :
    (fun (b : Fin 2) (row : Nat) (s : State) => (powered s = true) ∧ (row = s.fld (nvaReg b 1) 18 0) ∧ (commandStatus s b 1 row = 0))
      (1) (176384) (st [(nvaReg 1 1, 176384)]) := by beta_reduce; refine ⟨?_, ?_, ?_⟩ <;> decide

theorem test_meets_ArrayCommands_2 :
    (fun (b : Fin 2) (row : Nat) (s : State) => (powered s = true) ∧ (row = s.fld (nvaReg b 1) 18 0) ∧ (commandStatus s b 2 row = 0))
      (1) (176384) (st [(nvaReg 1 1, 176384)]) := by beta_reduce; refine ⟨?_, ?_, ?_⟩ <;> decide

theorem test_meets_ArrayCommands_3 :
    (fun (b : Fin 2) (row : Nat) (s : State) => (powered s = true) ∧ (row = s.fld (nvaReg b 1) 18 0) ∧ (commandStatus s b 3 row = 0))
      (1) (36864) (st [(nvaReg 1 1, 36864)]) := by beta_reduce; refine ⟨?_, ?_, ?_⟩ <;> decide

theorem test_meets_ArrayCommands_4 :
    (fun (b : Fin 2) (row : Nat) (s : State) => (powered s = true) ∧ (row = s.fld (nvaReg b 1) 18 0) ∧ (commandStatus s b 4 row = 0))
      (1) (36864) (st [(nvaReg 1 1, 36864)]) := by beta_reduce; refine ⟨?_, ?_, ?_⟩ <;> decide

theorem test_meets_ArrayCommands_5 :
    (fun (b : Fin 2) (row : Nat) (s : State) => (powered s = true) ∧ (row = s.fld (nvaReg b 1) 18 0) ∧ (commandStatus s b 1 row ≠ 0))
      (1) (491520) (st [(nvaReg 1 1, 491520)]) := by beta_reduce; refine ⟨?_, ?_, ?_⟩ <;> decide

theorem test_meets_ArrayCommands_6 :
    (fun (b : Fin 2) (w : Word) (row : Nat) (s : State) => (powered s = true) ∧ (row = s.fld (nvaReg b 1) 18 0) ∧ ((windowAdmits (Word.slice w 18 0) && memoriesShown s) = true))
      (1) (7936) (0) (st [(0x070000, 0x000502)]) := by beta_reduce; refine ⟨?_, ?_, ?_⟩ <;> decide

theorem test_meets_ArrayCommands_7 :
    (fun (b : Fin 2) (w : Word) (row : Nat) (s : State) => (powered s = true) ∧ (row = s.fld (nvaReg b 1) 18 0) ∧ ((windowAdmits (Word.slice w 18 0) && memoriesShown s) = false))
      (1) (36864) (0) (State.reset) := by beta_reduce; refine ⟨?_, ?_, ?_⟩ <;> decide

theorem test_meets_ArrayCommands_8 :
    (fun (b : Fin 2) (row : Nat) (s : State) => (powered s = true) ∧ (row = s.fld (nvaReg b 1) 18 0) ∧ ((∀ x < 2, (s.bank x).job = none ∧ (s.bank x).pend = none)) ∧ (s.nva.minVersion.toNat ≤ (imageVersion s (1 - runningBank s)).toNat))
      (1) (0) (State.reset) := by beta_reduce; refine ⟨?_, ?_, ?_, ?_⟩ <;> decide

theorem test_meets_ArrayCommands_9 :
    (fun (b : Fin 2) (row : Nat) (s : State) => (powered s = true) ∧ (row = s.fld (nvaReg b 1) 18 0) ∧ ((imageVersion s (1 - runningBank s)).toNat < s.nva.minVersion.toNat))
      (1) (0) ({ State.reset with nva := { State.reset.nva with minVersion := 1, rows := [(2 ^ 19 + 7936, some 0)] } }) := by beta_reduce; refine ⟨?_, ?_, ?_⟩ <;> decide

theorem test_meets_ArrayCommands_10 :
    (fun (b : Fin 2) (row : Nat) (s : State) (first : Nat) (n : Nat) => (powered s = true) ∧ (row = s.fld (nvaReg b 1) 18 0) ∧ (s.bit 0x060008 23 = false) ∧ (first = s.fld 0x060009 18 0) ∧ (n = s.fld 0x06000A 19 0) ∧ (n ≠ 0) ∧ (first + n ≤ 1920 * 256) ∧ (656 * 256 ≤ first ∨ first + n ≤ 144 * 256))
      (1) (0) (st [(0x06000A, 36864)]) (0) (36864) := by beta_reduce; refine ⟨?_, ?_, ?_, ?_, ?_, ?_, ?_, ?_⟩ <;> decide

theorem test_meets_ArrayCommands_11 :
    (fun (b : Fin 2) (row : Nat) (s : State) => (powered s = true) ∧ (row = s.fld (nvaReg b 1) 18 0) ∧ (s.bit 0x060008 23 = false) ∧ (s.fld 0x06000A 19 0 = 0))
      (1) (0) (State.reset) := by beta_reduce; refine ⟨?_, ?_, ?_, ?_⟩ <;> decide

theorem test_meets_ArrayWork_1 :
    (fun (b : Fin 2) (s : State) (row : Nat) (d : BitVec 168) => (powered s = true) ∧ ((s.bank b).pend = some (.program row d)) ∧ ((s.bank b).job = none) ∧ ((s.bank b).copies = []) ∧ (nvaCell s b = 1) ∧ (copying s b (row / 256) = false))
      (1) (nvaAs (fun b => { b with pend := some (.program 176384 0) }) (cellAs 113 1 State.reset)) (176384) (0) := by beta_reduce; refine ⟨?_, ?_, ?_, ?_, ?_, ?_⟩ <;> decide

theorem test_meets_ArrayWork_2 :
    (fun (b : Fin 2) (s : State) (row : Nat) (daddr : Nat) => (powered s = true) ∧ ((s.bank b).pend = some (.sealWrite row daddr [])) ∧ ((s.bank b).job = none) ∧ ((s.bank b).copies = []) ∧ (nvaCell s b = 1) ∧ (copying s b (row / 256) = false) ∧ (s.nva.booted = true))
      (1) (nvaAs (fun b => { b with pend := some (.sealWrite 36864 0 []) }) (cellAs 113 1 { State.reset with nva := { State.reset.nva with booted := true } })) (36864) (0) := by beta_reduce; refine ⟨?_, ?_, ?_, ?_, ?_, ?_, ?_⟩ <;> decide

theorem test_meets_ArrayWork_3 :
    (fun (b : Fin 2) (s : State) (row : Nat) (since : Nat) (e : Nat) (d : BitVec 168) => (powered s = true) ∧ ((s.bank b).job = some ⟨.program row d, since, e⟩) ∧ (e ≤ s.tick) ∧ (s.nvaRow b row = none))
      (1) (nvaAs (fun b => { b with job := some ⟨.program 176384 0, 0, 0⟩ }) (State.reset)) (176384) (0) (0) (0) := by beta_reduce; refine ⟨?_, ?_, ?_, ?_⟩ <;> decide

theorem test_meets_ArrayWork_4 :
    (fun (b : Fin 2) (s : State) (row : Nat) (since : Nat) (e : Nat) (d : BitVec 168) (d' : BitVec 168) => (powered s = true) ∧ ((s.bank b).job = some ⟨.program row d, since, e⟩) ∧ (e ≤ s.tick) ∧ (s.nvaRow b row = some d'))
      (1) (nvaAs (fun b => { b with job := some ⟨.program 176384 0, 0, 0⟩ }) { State.reset with nva := { State.reset.nva with rows := [(2 ^ 19 + 176384, some 5)] } }) (176384) (0) (0) (0) (5) := by beta_reduce; refine ⟨?_, ?_, ?_, ?_⟩ <;> decide

theorem test_meets_ArrayWork_5 :
    (fun (b : Fin 2) (s : State) (l : Nat) (since : Nat) (e : Nat) => (powered s = true) ∧ ((s.bank b).job = some ⟨.erase l, since, e⟩) ∧ (e ≤ s.tick))
      (1) (nvaAs (fun b => { b with job := some ⟨.erase 689, 0, 0⟩ }) (State.reset)) (689) (0) (0) := by beta_reduce; refine ⟨?_, ?_, ?_⟩ <;> decide

theorem test_meets_ArrayWork_6 :
    (fun (b : Fin 2) (s : State) (row : Nat) (daddr : Nat) (since : Nat) (e : Nat) => (powered s = true) ∧ ((s.bank b).job = some ⟨.sealRead row daddr, since, e⟩) ∧ (e ≤ s.tick) ∧ (s.ppt.sealKey = none))
      (1) (nvaAs (fun b => { b with job := some ⟨.sealRead 36864 0, 0, 0⟩ }) (State.reset)) (36864) (0) (0) (0) := by beta_reduce; refine ⟨?_, ?_, ?_, ?_⟩ <;> decide

theorem test_meets_ArrayWork_7 :
    (fun (b : Fin 2) (s : State) (row : Nat) => (powered s = true) ∧ ((s.bank b).read = some row) ∧ ((s.bank b).job = none) ∧ ((s.bank b).remapDue = []) ∧ (Tab.get 0 (s.bank b).grade (physSector s b (row / 256)) ≠ 2))
      (1) (nvaAs (fun b => { b with read := some 7936 }) (State.reset)) (7936) := by beta_reduce; refine ⟨?_, ?_, ?_, ?_, ?_⟩ <;> decide

theorem test_meets_ArrayWork_8 :
    (fun (b : Fin 2) (s : State) (row : Nat) (errors : Nat) => (powered s = true) ∧ ((s.bank b).read = some row) ∧ ((s.bank b).job = none) ∧ ((s.bank b).remapDue = []) ∧ (2 < errors))
      (1) (nvaAs (fun b => { b with read := some 7936 }) (State.reset)) (7936) (3) := by beta_reduce; refine ⟨?_, ?_, ?_, ?_, ?_⟩ <;> decide

theorem test_meets_ArrayWork_9 :
    (fun (b : Fin 2) (s : State) (l : Nat) (since : Nat) (e : Nat) => (powered s = true) ∧ ((s.bank b).job = some ⟨.copy l [], since, e⟩) ∧ (e ≤ s.tick))
      (1) (nvaAs (fun b => { b with job := some ⟨.copy 700 [], 0, 0⟩ }) (State.reset)) (700) (0) (0) := by beta_reduce; refine ⟨?_, ?_, ?_⟩ <;> decide

theorem test_meets_ArrayWork_10 :
    (fun (b : Fin 2) (s : State) => (powered s = true) ∧ (backCell s b = true) ∧ (slotErased s b (s.bank b).slot = false))
      (1) (slotHeld (cellAs 113 3 State.reset)) := by beta_reduce; refine ⟨?_, ?_, ?_⟩ <;> decide

theorem test_meets_ArrayWork_11 :
    (fun (s : State) => (powered s = true) ∧ (s.nva.swapDue = true))
      ({ State.reset with nva := { State.reset.nva with swapDue := true } }) := by beta_reduce; refine ⟨?_, ?_⟩ <;> decide

theorem test_meets_ArrayWork_12 :
    (fun (s : State) (first : Nat) (n : Nat) (since : Nat) (e : Nat) => (powered s = true) ∧ ((s.bank 0).job = some ⟨.digest first n, since, e⟩) ∧ (e ≤ s.tick) ∧ ((s.bank 1).job = none))
      ({ State.reset with nva := { State.reset.nva with banks := [(0, { NvaBank.init with job := some ⟨.digest 0 5, 0, 0⟩ })] } }) (0) (5) (0) (0) := by beta_reduce; refine ⟨?_, ?_, ?_, ?_⟩ <;> decide

theorem test_meets_ArrayWork_13 :
    (fun (b : Fin 2) (s : State) (l : Nat) => (powered s = true) ∧ (taskTakes s 5 (nvaCell s b) true = true) ∧ ((s.bank b).job = none) ∧ (levelled s b l = true) ∧ ((s.bank b).copies = []))
      (1) (cellAs 113 3 State.reset) (1919) := by beta_reduce; refine ⟨?_, ?_, ?_, ?_, ?_⟩ <;> decide

theorem test_meets_ArrayWork_14 :
    (fun (b : Fin 2) (s : State) => (powered s = true) ∧ (s.nva.seq % 2 = b) ∧ (bankWorn s b = false) ∧ (s.nva.nextAt ≤ s.now) ∧ (taskTakes s 6 (nvaCell s b) true = true) ∧ ((s.bank b).job = none) ∧ (s.pwr.phase = .run) ∧ (s.vdt.image = none))
      (0) (cellAs 112 3 State.reset) := by beta_reduce; refine ⟨?_, ?_, ?_, ?_, ?_, ?_, ?_, ?_⟩ <;> decide

theorem test_meets_LifeCycleTransitions_1 :
    (fun (s : State) (w : Word) (u : Nat) => (powered s = true) ∧ (s.lcy.transit = none) ∧ (s.lcy.accepted = none) ∧ (stateOf w = some u) ∧ (transitionAllowed s.lcs u = true) ∧ (nextRecord s < 63))
      (st [(0x070000, 0x000503)]) (0x000FFF) (5) := by beta_reduce; refine ⟨?_, ?_, ?_, ?_, ?_, ?_⟩ <;> decide

theorem test_meets_LifeCycleTransitions_2 :
    (fun (s : State) (w : Word) (u : Nat) => (powered s = true) ∧ (s.lcy.transit = none) ∧ (s.lcy.accepted = none) ∧ (stateOf w = some u) ∧ (transitionAllowed s.lcs u = false))
      (State.reset) (0x0F0F0F) (2) := by beta_reduce; refine ⟨?_, ?_, ?_, ?_, ?_⟩ <;> decide

theorem test_meets_LifeCycleTransitions_3 :
    (fun (s : State) (w : Word) => (powered s = true) ∧ (s.lcy.transit = none) ∧ (s.lcy.accepted = none) ∧ (stateOf w = none))
      (State.reset) (0) := by beta_reduce; refine ⟨?_, ?_, ?_, ?_⟩ <;> decide

theorem test_meets_LifeCycleTransitions_4 :
    (fun (s : State) (m : Master) => (powered s = true) ∧ (m ≠ .keep) ∧ (Reaches m 0x070002 s))
      (st [(0x078000, 0x800000)]) (.debug) := by beta_reduce; refine ⟨?_, ?_, ?_⟩ <;> decide

theorem test_meets_LifeCycleTransitions_5 :
    (fun (s : State) (w : Word) (cause : Nat) => (powered s = true) ∧ (s.lcy.accepted = some (w, cause)))
      ({ State.reset with lcy := { State.reset.lcy with accepted := some (0x0F0F0F, 2) } }) (0x0F0F0F) (2) := by beta_reduce; refine ⟨?_, ?_⟩ <;> decide

theorem test_meets_LifeCycleTransitions_6 :
    (fun (s : State) (x : Transit) (rest : List Nat) => (powered s = true) ∧ (s.lcy.transit = some x) ∧ (x.step = .intent) ∧ (x.endAt ≤ s.tick) ∧ (x.todo = 1 :: rest))
      (transit 0xF00F0F .intent [1, 6] State.reset) (⟨0xF00F0F, 0x0F0F0F, 2, 1, .intent, 0, [1, 6], false⟩) ([6]) := by beta_reduce; refine ⟨?_, ?_, ?_, ?_, ?_⟩ <;> decide

theorem test_meets_LifeCycleTransitions_7 :
    (fun (s : State) (x : Transit) => (powered s = true) ∧ (s.lcy.transit = some x) ∧ (x.step = .mark 6) ∧ (x.endAt ≤ s.tick) ∧ (x.todo = []) ∧ (x.abandon = false))
      (transit 0xF00F0F (.mark 6) [] State.reset) (⟨0xF00F0F, 0x0F0F0F, 2, 1, (.mark 6), 0, [], false⟩) := by beta_reduce; refine ⟨?_, ?_, ?_, ?_, ?_, ?_⟩ <;> decide

theorem test_meets_LifeCycleTransitions_8 :
    (fun (s : State) (x : Transit) => (powered s = true) ∧ (s.lcy.transit = some x) ∧ (x.step = .copies) ∧ (x.endAt ≤ s.tick) ∧ (x.target ≠ codewordOf 1))
      (transit 0xF00F0F .copies [] State.reset) (⟨0xF00F0F, 0x0F0F0F, 2, 1, .copies, 0, [], false⟩) := by beta_reduce; refine ⟨?_, ?_, ?_, ?_, ?_⟩ <;> decide

theorem test_meets_LifeCycleTransitions_9 :
    (fun (s : State) (x : Transit) (k : Nat) => (powered s = true) ∧ (s.lcy.transit = some x) ∧ (x.step = .provision k) ∧ (k + 2 ^ 24 ≤ s.tick))
      (tick (2 ^ 24) (transit 0xF0F0F0 (.provision 0) [] State.reset)) (⟨0xF0F0F0, 0x0F0F0F, 2, 1, (.provision 0), 0, [], false⟩) (0) := by beta_reduce; refine ⟨?_, ?_, ?_, ?_⟩ <;> decide

theorem test_meets_DebugOperations_1 :
    (fun (n : Fin 67) (s : State) => (powered s = true) ∧ (debugLevel s = 2) ∧ (n.val ∉ s.lcy.halted) ∧ ((s.core n).stb = []))
      (66) (st [(0x078000, 0x800000)]) := by beta_reduce; refine ⟨?_, ?_, ?_, ?_⟩ <;> decide

theorem test_meets_DebugOperations_2 :
    (fun (n : Fin 67) (s : State) (p : Fin 67) => (powered s = true) ∧ (debugLevel s = 1) ∧ (s.bit 0x078003 0 = true) ∧ (n ≠ 0) ∧ (pierListed s n = true) ∧ (n.val ∉ s.lcy.halted) ∧ (coreRun s n = true) ∧ ((s.core n).stb = []) ∧ (freeSpare s = some p.val) ∧ (p ≠ n))
      (64) (st [(0x078000, 0x400000), (0x078003, 1), (0x078006, 0xFFFFFF), (coreReg 64 0, 0x800000), (coreReg 64 1, 0x200000)]) (65) := by beta_reduce; refine ⟨?_, ?_, ?_, ?_, ?_, ?_, ?_, ?_, ?_, ?_⟩ <;> decide

theorem test_meets_DebugOperations_3 :
    (fun (s : State) => (powered s = true) ∧ (debugLevel s = 1) ∧ (s.bit 0x078003 0 = false))
      (st [(0x078000, 0x400000)]) := by beta_reduce; refine ⟨?_, ?_, ?_⟩ <;> decide

theorem test_meets_DebugOperations_4 :
    (fun (n : Fin 67) (s : State) => (powered s = true) ∧ (debugLevel s = 2) ∧ (n ≠ 0) ∧ (n.val ∈ s.lcy.halted) ∧ (coreState s n = 1) ∧ (coreRun s n = true) ∧ (s.pwr.phase = .run) ∧ (s.pwr.safeHold = none) ∧ ((s.core n).idle = false) ∧ ((s.core n).stb = []) ∧ (mayFetch n (s.core n) (s.core n).pc.toNat = true) ∧ (Tab.get 0 (s.core n).prog (s.core n).pc.toNat = parcel 13 5 0))
      (66) (halted 2 [] (fun c => { c with prog := [(0, parcel 13 5 0)] })) := by beta_reduce; refine ⟨?_, ?_, ?_, ?_, ?_, ?_, ?_, ?_, ?_, ?_, ?_, ?_⟩ <;> decide

theorem test_meets_DebugOperations_5 :
    (fun (n : Fin 67) (s : State) => (powered s = true) ∧ (debugLevel s = 2) ∧ (n.val ∈ s.lcy.halted))
      (66) (halted 2 [] (id)) := by beta_reduce; refine ⟨?_, ?_, ?_⟩ <;> decide

theorem test_meets_DebugOperations_6 :
    (fun (n : Fin 67) (s : State) => (powered s = true) ∧ (debugLevel s = 2) ∧ (n.val ∈ s.lcy.halted))
      (66) (halted 2 [] (id)) := by beta_reduce; refine ⟨?_, ?_, ?_⟩ <;> decide

theorem test_meets_DebugOperations_7 :
    (fun (n : Fin 67) (s : State) => (powered s = true) ∧ (debugLevel s = 2) ∧ (n.val ∈ s.lcy.halted) ∧ ((s.rd 0x078011).toNat < shadowTop n))
      (66) (halted 2 [(0x078011, 0x7FFF)] (id)) := by beta_reduce; refine ⟨?_, ?_, ?_, ?_⟩ <;> decide

theorem test_meets_DebugOperations_8 :
    (fun (s : State) => (powered s = true) ∧ (debugLevel s = 1) ∧ (s.bit 0x078003 1 = false))
      (st [(0x078000, 0x400000)]) := by beta_reduce; refine ⟨?_, ?_, ?_⟩ <;> decide

theorem test_meets_DebugOperations_9 :
    (fun (n : Fin 67) (s : State) => (powered s = true) ∧ (debugLevel s = 2) ∧ (n.val ∈ s.lcy.halted) ∧ ((s.rd 0x078011).toNat < 32))
      (66) (halted 2 [(0x078011, 31)] (id)) := by beta_reduce; refine ⟨?_, ?_, ?_, ?_⟩ <;> decide

theorem test_meets_DebugOperations_10 :
    (fun (n : Fin 67) (s : State) => (powered s = true) ∧ (debugLevel s = 2) ∧ (n.val ∈ s.lcy.halted) ∧ ((s.rd 0x078011).toNat < shadowTop n))
      (66) (halted 2 [(0x078011, 0x7FFF)] (id)) := by beta_reduce; refine ⟨?_, ?_, ?_, ?_⟩ <;> decide

theorem test_meets_DebugOperations_11 :
    (fun (s : State) => (powered s = true) ∧ (debugLevel s = 1))
      (st [(0x078000, 0x400000)]) := by beta_reduce; refine ⟨?_, ?_⟩ <;> decide

theorem test_meets_DebugOperations_12 :
    (fun (s : State) => (powered s = true) ∧ (debugLevel s = 2))
      (halted 2 [] (id)) := by beta_reduce; refine ⟨?_, ?_⟩ <;> decide

theorem test_meets_DebugOperations_13 :
    (fun (s : State) => (powered s = true) ∧ (debugLevel s = 2))
      (halted 2 [] (id)) := by beta_reduce; refine ⟨?_, ?_⟩ <;> decide

theorem test_meets_DebugOperations_14 :
    (fun (s : State) => (powered s = true) ∧ (debugLevel s ≠ 0))
      (halted 1 [] (id)) := by beta_reduce; refine ⟨?_, ?_⟩ <;> decide

theorem test_meets_DebugOperations_15 :
    (fun (s : State) => (powered s = true) ∧ (debugLevel s ≠ 0))
      (halted 1 [] (id)) := by beta_reduce; refine ⟨?_, ?_⟩ <;> decide

theorem test_meets_DebugOperations_16 :
    (fun (s : State) => (powered s = true) ∧ (debugLevel s ≠ 0))
      (halted 1 [] (id)) := by beta_reduce; refine ⟨?_, ?_⟩ <;> decide

theorem test_meets_DebugOperations_17 :
    (fun (s : State) => (powered s = true) ∧ (debugLevel s = 0))
      (State.reset) := by beta_reduce; refine ⟨?_, ?_⟩ <;> decide

theorem test_meets_DebugOperations_18 :
    (fun (s : State) => (powered s = true))
      (State.reset) := by beta_reduce; decide

theorem test_meets_DebugOperations_19 :
    (fun (s : State) => (powered s = true) ∧ (debugLevel s = 1) ∧ ((certExpiryTime s).toNat ≤ s.now))
      (st [(0x078000, 0x400000)]) := by beta_reduce; refine ⟨?_, ?_, ?_⟩ <;> decide

theorem test_meets_ParapetSources_1 :
    (fun (s : State) (i : Fin 8) (k : Nat) => (powered s = true) ∧ (s.bit (cswReg i) 23 = true) ∧ (s.fld (cswReg i) 3 0 + 1 ≤ k) ∧ (Quiet s i))
      (st [(cswReg 7, 0x800000)]) (7) (1) := by beta_reduce; refine ⟨?_, ?_, ?_, ?_⟩ <;> decide

theorem test_meets_ParapetSources_2 :
    (fun (s : State) (i : Fin 8) (k : Nat) => (powered s = true) ∧ (s.bit (cswReg i) 23 = false ∨ k ≤ s.fld (cswReg i) 3 0))
      (st [(cswReg 7, 0)]) (7) (0) := by beta_reduce; refine ⟨?_, ?_⟩ <;> decide

theorem test_meets_ParapetSources_3 :
    (fun (s : State) (i : Fin 16) (k : Nat) => (powered s = true) ∧ (loopArmed s i = true) ∧ (s.fld (grdReg i) 3 0 + 1 ≤ k) ∧ (Quiet s (8 + i)))
      (st [(grdReg 15, 0x800000)]) (15) (1) := by beta_reduce; refine ⟨?_, ?_, ?_, ?_⟩ <;> decide

theorem test_meets_ParapetSources_4 :
    (fun (s : State) (i : Fin 16) (k : Nat) => (powered s = true) ∧ (loopArmed s i = false ∨ k ≤ s.fld (grdReg i) 3 0))
      (State.reset) (15) (0) := by beta_reduce; refine ⟨?_, ?_⟩ <;> decide

theorem test_meets_ParapetSources_5 :
    (fun (s : State) (v : Fin 7) (c : Fin 2) (mv : Nat) (ns : Nat) => (powered s = true) ∧ (mv < s.fld (0x080020 + v) 11 0 ∨ s.fld (0x080020 + v) 23 12 < mv) ∧ (1000 ≤ ns) ∧ (s.ppt.testing ≠ some (0x80 + 2 * v.val + c.val)) ∧ (Quiet s (32 + v)))
      (st [(0x080026, 0xFFE001)]) (6) (1) (0xFFF) (1000) := by beta_reduce; refine ⟨?_, ?_, ?_, ?_, ?_⟩ <;> decide

theorem test_meets_ParapetSources_6 :
    (fun (s : State) (v : Fin 7) (mv : Nat) => (powered s = true) ∧ (s.fld (0x080020 + v) 11 0 ≤ mv) ∧ (mv ≤ s.fld (0x080020 + v) 23 12))
      (st [(0x080026, 0xFFF001)]) (6) (0xFFF) := by beta_reduce; refine ⟨?_, ?_, ?_⟩ <;> decide

theorem test_meets_ParapetSources_7 :
    (fun (s : State) (v : Fin 7) (mv : Nat) (ns : Nat) => (powered s = true) ∧ (nominalMv v < 10 * (max mv (nominalMv v) - min mv (nominalMv v))) ∧ (2 ≤ ns) ∧ (Quiet s 39))
      (State.reset) (6) (0) (2) := by beta_reduce; refine ⟨?_, ?_, ?_, ?_⟩ <;> decide

theorem test_meets_ParapetSources_8 :
    (fun (s : State) (c : Fin 2) (hz : Nat) (n : Nat) => (powered s = true) ∧ (100 * hz < 99 * 156250000 ∨ 101 * 156250000 < 100 * hz) ∧ (64 ≤ n) ∧ (s.ppt.testing ≠ some (0x8E + c.val)) ∧ (Quiet s 40))
      (State.reset) (1) (0) (64) := by beta_reduce; refine ⟨?_, ?_, ?_, ?_, ?_⟩ <;> decide

theorem test_meets_ParapetSources_9 :
    (fun (s : State) (hz : Nat) => (powered s = true) ∧ (99 * 156250000 ≤ 100 * hz) ∧ (100 * hz ≤ 101 * 156250000))
      (State.reset) (156250000) := by beta_reduce; refine ⟨?_, ?_, ?_⟩ <;> decide

theorem test_meets_ParapetSources_10 :
    (fun (s : State) (c : Fin 2) (w : Nat) => (powered s = true) ∧ (w < 320) ∧ (s.ppt.testing ≠ some (0x8E + c.val)) ∧ (Quiet s 41))
      (State.reset) (1) (319) := by beta_reduce; refine ⟨?_, ?_, ?_, ?_⟩ <;> decide

theorem test_meets_ParapetSources_11 :
    (fun (s : State) (c : Fin 2) => (powered s = true) ∧ (s.ppt.testing ≠ some (0x8E + c.val)) ∧ (Quiet s 42))
      (State.reset) (1) := by beta_reduce; refine ⟨?_, ?_, ?_⟩ <;> decide

theorem test_meets_ParapetSources_12 :
    (fun (s : State) (n : Nat) => (powered s = true) ∧ (4 ≤ n) ∧ (Quiet s 25))
      (State.reset) (4) := by beta_reduce; refine ⟨?_, ?_, ?_⟩ <;> decide

theorem test_meets_ParapetSources_13 :
    (fun (s : State) => (powered s = true) ∧ (Quiet s 43))
      (State.reset) := by beta_reduce; refine ⟨?_, ?_⟩ <;> decide

theorem test_meets_ParapetSources_14 :
    (fun (s : State) (q : Byte) => (powered s = true) ∧ (s.now % 2 ^ 10 = 0) ∧ (s.fld 0x080028 15 8 < q.toNat) ∧ (s.fld 0x080028 7 0 ≤ q.toNat) ∧ (Quiet s 44))
      (st [(0x080028, 0x00FE00)]) (0xFF) := by beta_reduce; refine ⟨?_, ?_, ?_, ?_, ?_⟩ <;> decide

theorem test_meets_ParapetSources_15 :
    (fun (s : State) (q : Byte) => (powered s = true) ∧ (s.now % 2 ^ 10 = 0) ∧ (q.toNat ≤ s.fld 0x080028 15 8) ∧ (s.fld 0x080028 7 0 ≤ q.toNat))
      (st [(0x080028, 0x00FE00)]) (0xFE) := by beta_reduce; refine ⟨?_, ?_, ?_, ?_⟩ <;> decide

theorem test_meets_ParapetSources_16 :
    (fun (s : State) (i : Fin 24) (ns : Nat) => (powered s = true) ∧ (s.bit 0x08002E i = true) ∧ (100 ≤ ns) ∧ (s.ppt.testing ≠ some (0x92 + i.val / 8)) ∧ (Quiet s 46))
      (st [(0x08002E, 0x800000)]) (23) (100) := by beta_reduce; refine ⟨?_, ?_, ?_, ?_, ?_⟩ <;> decide

theorem test_meets_ParapetSources_17 :
    (fun (s : State) (i : Fin 24) (ns : Nat) => (powered s = true) ∧ (s.bit 0x08002E i = false ∨ ns < 100))
      (st [(0x08002E, 0x800000)]) (23) (99) := by beta_reduce; refine ⟨?_, ?_⟩ <;> decide

theorem test_meets_ParapetSources_18 :
    (fun (s : State) => (powered s = true) ∧ (Quiet s 24))
      (State.reset) := by beta_reduce; refine ⟨?_, ?_⟩ <;> decide

theorem test_meets_ParapetSources_19 :
    (fun (s : State) (i : Fin 8) => (powered s = true) ∧ (s.bit (cswReg i) 23 = true) ∧ (¬ Quiet s i))
      (st [(cswReg 7, 0x800000), (0x080004, 0x000080)]) (7) := by beta_reduce; refine ⟨?_, ?_, ?_⟩ <;> decide

theorem test_meets_ParapetSources_20 :
    (fun (s : State) => (powered s = true))
      (State.reset) := by beta_reduce; decide

theorem test_meets_ParapetResponses_1 :
    (fun (s : State) (src : Fin 64) => (powered s = true) ∧ (s.ppt.fired = [⟨src, 1, false⟩]) ∧ (s.ppt.trec = none))
      ({ State.reset with ppt := { State.reset.ppt with fired := [⟨63, 1, false⟩] } }) (63) := by beta_reduce; refine ⟨?_, ?_, ?_⟩ <;> decide

theorem test_meets_ParapetResponses_2 :
    (fun (s : State) (src : Fin 64) => (powered s = true) ∧ (s.ppt.fired = [⟨src, 2, false⟩]) ∧ (s.ppt.lockdown = none) ∧ (s.ppt.erased = none))
      ({ State.reset with ppt := { State.reset.ppt with fired := [⟨63, 2, false⟩] } }) (63) := by beta_reduce; refine ⟨?_, ?_, ?_, ?_⟩ <;> decide

theorem test_meets_ParapetResponses_3 :
    (fun (s : State) (src : Fin 64) => (powered s = true) ∧ (s.ppt.fired = [⟨src, 3, false⟩]) ∧ (s.ppt.erased = none))
      ({ State.reset with ppt := { State.reset.ppt with fired := [⟨63, 3, false⟩] } }) (63) := by beta_reduce; refine ⟨?_, ?_, ?_⟩ <;> decide

theorem test_meets_ParapetResponses_4 :
    (fun (s : State) (k : Nat) => (powered s = true) ∧ (s.ppt.eraseLeft = some k))
      ({ State.reset with ppt := { State.reset.ppt with eraseLeft := some 2 } }) (2) := by beta_reduce; refine ⟨?_, ?_⟩ <;> decide

theorem test_meets_ParapetResponses_5 :
    (fun (s : State) => (powered s = true) ∧ (s.ppt.release = true) ∧ (s.ppt.erased = none) ∧ (lockdownHeld s = false) ∧ (s.pwr.safeHold = none))
      ({ State.reset with ppt := { State.reset.ppt with release := true } }) := by beta_reduce; refine ⟨?_, ?_, ?_, ?_, ?_⟩ <;> decide

theorem test_meets_ParapetResponses_6 :
    (fun (s : State) => (powered s = true) ∧ (s.ppt.release = true) ∧ (s.ppt.erased = none) ∧ (lockdownHeld s = true))
      ({ (st [(0x080006, 0x008000)]) with ppt := { State.reset.ppt with release := true } }) := by beta_reduce; refine ⟨?_, ?_, ?_, ?_⟩ <;> decide

theorem test_meets_ParapetResponses_7 :
    (fun (s : State) (c : Nat) => (powered s = true) ∧ (s.pwr.safeHoldDue = some c) ∧ (s.pwr.safeHold = none))
      ({ State.reset with pwr := { State.reset.pwr with safeHoldDue := some 4 } }) (4) := by beta_reduce; refine ⟨?_, ?_, ?_⟩ <;> decide

theorem test_meets_ParapetResponses_8 :
    (fun (s : State) (w : Word) => (powered s = true) ∧ (Word.bit w 23 = false) ∧ (Word.bit w 21 = false))
      (State.reset) (0) := by beta_reduce; refine ⟨?_, ?_, ?_⟩ <;> decide

theorem test_meets_ParapetResponses_9 :
    (fun (s : State) (w : Word) => (powered s = true) ∧ (Word.slice w 23 22 = 0))
      (State.reset) (0) := by beta_reduce; refine ⟨?_, ?_⟩ <;> decide

theorem test_meets_ParapetResponses_10 :
    (fun (s : State) (m : Master) => (powered s = true) ∧ (Reaches m 0x080042 s))
      (State.reset) (.keep) := by beta_reduce; refine ⟨?_, ?_⟩ <;> decide

theorem test_meets_ParapetResponses_11 :
    (fun (s : State) (i : Fin 16) (w : Word) (v : Nat) => (powered s = true) ∧ (v = w.toNat % 128 * 2 ^ 24 + (Tab.get 0 s.ppt.seedLo i).toNat) ∧ (v ≠ 0))
      (State.reset) (15) (1) (2 ^ 24) := by beta_reduce; refine ⟨?_, ?_, ?_⟩ <;> decide

theorem test_meets_EntropyEvents_1 :
    (fun (s : State) (k : Fin 4) (apt : Bool) (bits : List Bool) => (powered s = true) ∧ (srcState s k = 1) ∧ ((if apt = true then proportionFails bits else repetitionFails bits) = true) ∧ ((∀ r ∈ s.stk.tests, ¬ (r.col = 114 ∧ r.kind = 0x20 + k))))
      (st [(srcReg 3, 0x200000)]) (3) (false) (List.replicate 41 true) := by beta_reduce; refine ⟨?_, ?_, ?_, ?_⟩ <;> decide

theorem test_meets_EntropyEvents_2 :
    (fun (s : State) (apt : Bool) (bits : List Bool) => (powered s = true) ∧ ((if apt = true then proportionFails bits else repetitionFails bits) = false))
      (State.reset) (false) (List.replicate 40 true) := by beta_reduce; refine ⟨?_, ?_⟩ <;> decide

theorem test_meets_EntropyEvents_3 :
    (fun (s : State) (k : Fin 4) (apt : Bool) (bits : List Bool) => (powered s = true) ∧ (srcState s k = 0) ∧ ((if apt = true then proportionFails bits else repetitionFails bits) = true))
      (State.reset) (3) (false) (List.replicate 41 true) := by beta_reduce; refine ⟨?_, ?_, ?_⟩ <;> decide

theorem test_meets_EntropyEvents_4 :
    (fun (s : State) => (powered s = true) ∧ (1536 ≤ s.ent.bits) ∧ (s.ent.pool.length < 8))
      ({ State.reset with ent := { State.reset.ent with bits := 1536 } }) := by beta_reduce; refine ⟨?_, ?_, ?_⟩ <;> decide

theorem test_meets_EntropyEvents_5 :
    (fun (s : State) => (powered s = true) ∧ (1536 ≤ s.ent.bits) ∧ (s.ent.pool.length = 8))
      ({ State.reset with ent := { State.reset.ent with bits := 1536, pool := List.replicate 8 0 } }) := by beta_reduce; refine ⟨?_, ?_, ?_⟩ <;> decide

theorem test_meets_EntropyEvents_6 :
    (fun (s : State) => (powered s = true) ∧ (s.ent.bits < 1536))
      (State.reset) := by beta_reduce; refine ⟨?_, ?_⟩ <;> decide

theorem test_meets_EntropyEvents_7 :
    (fun (s : State) (k : Fin 4) => (powered s = true) ∧ (srcState s k = 0) ∧ (Tab.get 0 s.ent.since k + 128 ≤ s.tick))
      (tick 128 State.reset) (3) := by beta_reduce; refine ⟨?_, ?_, ?_⟩ <;> decide

theorem test_meets_EntropyEvents_8 :
    (fun (s : State) (k : Fin 4) (since : Nat) => (powered s = true) ∧ (s.ent.testing = [(k.val, since)]) ∧ (since + 128 ≤ s.tick) ∧ (s.cell 114 = 2) ∧ (srcState s k = 3))
      (cellAs 114 2 (tick 128 { (st [(srcReg 3, 0x600000)]) with ent := { State.reset.ent with testing := [(3, 0)] } })) (3) (0) := by beta_reduce; refine ⟨?_, ?_, ?_, ?_, ?_⟩ <;> decide

theorem test_meets_EntropyEvents_9 :
    (fun (s : State) (i : Fin 6) (e : BitVec 384) (n : BitVec 384) (rest : List (BitVec 384)) => (powered s = true) ∧ (seeded s i = false) ∧ (katFailed s = false) ∧ ((drbgOrder.takeWhile (· != i.val)).all (seeded s) = true) ∧ (s.ent.pool = e :: n :: rest))
      ({ (st ([0, 1, 2, 3, 4].map fun i => (drbgReg i 1, 0x800000))) with ent := { State.reset.ent with pool := [1, 2] } }) (5) (1) (2) ([]) := by beta_reduce; refine ⟨?_, ?_, ?_, ?_, ?_⟩ <;> decide

theorem test_meets_EntropyEvents_10 :
    (fun (s : State) (i : Fin 6) (x : BitVec 384) (rest : List (BitVec 384)) => (powered s = true) ∧ (s.now % 4096 = 512 + 128 * i) ∧ (seeded s i = true) ∧ ((s.drbg i).reseedAt ≠ some s.now) ∧ (s.ent.pool = x :: rest))
      (tick 1152 { (st [(drbgReg 5 1, 0x800000)]) with ent := { State.reset.ent with pool := [1] } }) (5) (1) ([]) := by beta_reduce; refine ⟨?_, ?_, ?_, ?_, ?_⟩ <;> decide

theorem test_meets_EntropyEvents_11 :
    (fun (s : State) (i : Fin 6) => (powered s = true) ∧ (s.now % 4096 = 512 + 128 * i) ∧ (seeded s i = true) ∧ ((s.drbg i).reseedAt ≠ some s.now) ∧ (s.ent.pool = []))
      (tick 1152 (st [(drbgReg 5 1, 0x800000)])) (5) := by beta_reduce; refine ⟨?_, ?_, ?_, ?_, ?_⟩ <;> decide

theorem test_meets_EntropyEvents_12 :
    (fun (s : State) (i : Fin 6) (x : BitVec 384) (rest : List (BitVec 384)) => (powered s = true) ∧ (drbgBlocked s i = true) ∧ (s.ent.pool = x :: rest))
      ({ (st [(drbgReg 5 1, 0xC00000)]) with ent := { State.reset.ent with pool := [1] } }) (5) (1) ([]) := by beta_reduce; refine ⟨?_, ?_, ?_⟩ <;> decide

theorem test_meets_EntropyEvents_13 :
    (fun (s : State) (w : Word) (rest : List Word) => (powered s = true) ∧ ((s.drbg 0).buf = w :: rest) ∧ (seeded s 0 = true) ∧ (drbgBlocked s 0 = false) ∧ (katFailed s = false))
      ({ (st [(drbgReg 0 1, 0x800000)]) with ent := { State.reset.ent with drbg := [(0, ⟨[], [7], 0, none⟩)] } }) (7) ([]) := by beta_reduce; refine ⟨?_, ?_, ?_, ?_, ?_⟩ <;> decide

theorem test_meets_EntropyEvents_14 :
    (fun (s : State) => (powered s = true) ∧ (seeded s 0 = false))
      (State.reset) := by beta_reduce; refine ⟨?_, ?_⟩ <;> decide

theorem test_meets_EntropyEvents_15 :
    (fun (s : State) => (powered s = true) ∧ (katFailed s = false))
      (State.reset) := by beta_reduce; refine ⟨?_, ?_⟩ <;> decide

theorem test_meets_ViaductMessages_1 :
    (fun (s : State) (m : Message) => (powered s = true) ∧ (viaductRuns s = true) ∧ (pairKeyed s = true) ∧ ((∀ x r p h e, Message.heartbeat x r p h e ∉ s.vdt.sent)) ∧ (m = .heartbeat s.stk.time (vdtRole s) (pairState s) (s.bit 0x0B0001 16) s.vdt.stamp))
      (paired 1 4 []) (.heartbeat (paired 1 4 []).stk.time (vdtRole (paired 1 4 [])) (pairState (paired 1 4 [])) ((paired 1 4 []).bit 0x0B0001 16) (paired 1 4 []).vdt.stamp) := by beta_reduce; refine ⟨?_, ?_, ?_, ?_, ?_⟩ <;> first | decide | rfl | (intro _ _ _ _ _ h; cases h)

theorem test_meets_ViaductMessages_2 :
    (fun (s : State) (b : Beat) => (powered s = true) ∧ (viaductHears s = true) ∧ (b.icvOk = false) ∧ (s.vdt.sweep = none))
      (paired 2 4 []) (⟨⟨0, 0⟩, 7, none, 0, 1, 4, true, false⟩) := by beta_reduce; refine ⟨?_, ?_, ?_, ?_⟩ <;> decide

theorem test_meets_ViaductMessages_3 :
    (fun (s : State) (b : Beat) => (powered s = true) ∧ (viaductHears s = true) ∧ (b.icvOk = false) ∧ (s.vdt.sweep.isSome = true))
      ({ (paired 2 4 []) with vdt := { State.reset.vdt with sweep := some 0 } }) (⟨⟨0, 0⟩, 7, none, 0, 1, 4, true, false⟩) := by beta_reduce; refine ⟨?_, ?_, ?_, ?_⟩ <;> decide

theorem test_meets_ViaductMessages_4 :
    (fun (s : State) (b : Beat) => (powered s = true) ∧ (viaductHears s = true) ∧ (b.icvOk = true))
      (paired 2 4 []) (⟨⟨0, 0⟩, 7, none, 0, 1, 4, true, true⟩) := by beta_reduce; refine ⟨?_, ?_, ?_⟩ <;> decide

theorem test_meets_ViaductMessages_5 :
    (fun (s : State) => (powered s = true) ∧ (vdtRole s = 2) ∧ (viaductHears s = true))
      (paired 2 4 []) := by beta_reduce; refine ⟨?_, ?_, ?_⟩ <;> decide

theorem test_meets_ViaductMessages_6 :
    (fun (s : State) (p : BitVec 24) (v : BitVec 64) => (powered s = true) ∧ (Tab.get none s.plc.extending p.toNat = some v.toNat) ∧ (viaductHears s = true) ∧ (plateCurrent s p.toNat (plateGen s p.toNat) = true))
      ({ (paired 1 4 []) with plc := { State.reset.plc with extending := [(0, some 5)] } }) (0) (5) := by beta_reduce; refine ⟨?_, ?_, ?_, ?_⟩ <;> decide

theorem test_meets_ViaductMessages_7 :
    (fun (s : State) => (powered s = true) ∧ (vdtRole s = 2) ∧ (viaductHears s = true))
      (paired 2 4 []) := by beta_reduce; refine ⟨?_, ?_, ?_⟩ <;> decide

theorem test_meets_ViaductMessages_8 :
    (fun (s : State) (k : StrokeTime) (f : Frame) => (powered s = true) ∧ (s.vdt.markWait = [k.toNat]) ∧ (viaductHears s = true) ∧ (s.dck.frames = [f]) ∧ (f.stage = .held k.toNat) ∧ (portUp s f.egress = true))
      ({ (paired 1 4 [(portReg 0 1, 4)]) with vdt := { State.reset.vdt with markWait := [9] }, dck := { State.reset.dck with frames := [{ Frame.blank with stage := .held 9 }] } }) (⟨0, 9⟩) ({ Frame.blank with stage := .held 9 }) := by beta_reduce; refine ⟨?_, ?_, ?_, ?_, ?_, ?_⟩ <;> decide

theorem test_meets_ViaductMessages_9 :
    (fun (s : State) => (powered s = true) ∧ (vdtRole s = 2) ∧ (viaductHears s = true))
      (paired 2 3 []) := by beta_reduce; refine ⟨?_, ?_, ?_⟩ <;> decide

theorem test_meets_ViaductMessages_10 :
    (fun (s : State) => (powered s = true) ∧ (vdtRole s = 2) ∧ (viaductHears s = true))
      (paired 2 3 []) := by beta_reduce; refine ⟨?_, ?_, ?_⟩ <;> decide

theorem test_meets_ViaductMessages_11 :
    (fun (s : State) => (powered s = true) ∧ (vdtRole s = 2) ∧ (viaductHears s = true))
      (paired 2 3 []) := by beta_reduce; refine ⟨?_, ?_, ?_⟩ <;> decide

theorem test_meets_ViaductMessages_12 :
    (fun (s : State) (a : Nat) => (powered s = true) ∧ (vdtRole s = 2) ∧ (viaductHears s = true) ∧ (setupRegister a = true) ∧ (a ≠ 0x018000) ∧ (a ≠ 0x030000))
      (paired 2 3 []) (0x051000) := by beta_reduce; refine ⟨?_, ?_, ?_, ?_, ?_, ?_⟩ <;> decide

theorem test_meets_ViaductMessages_13 :
    (fun (s : State) => (powered s = true) ∧ (vdtRole s = 2) ∧ (viaductHears s = true))
      (paired 2 3 []) := by beta_reduce; refine ⟨?_, ?_, ?_⟩ <;> decide

theorem test_meets_ViaductMessages_14 :
    (fun (s : State) (id : Nat) => (powered s = true) ∧ (vdtRole s = 1) ∧ (viaductHears s = true) ∧ (¬ (pairState s = 3 ∧ s.vdt.resync = some id)))
      (paired 1 4 []) (0) := by beta_reduce; refine ⟨?_, ?_, ?_, ?_⟩ <;> decide

theorem test_meets_ViaductMessages_15 :
    (fun (s : State) (id : Nat) => (powered s = true) ∧ (vdtRole s = 1) ∧ (viaductHears s = true) ∧ (pairState s = 3) ∧ (s.vdt.resync = some id))
      ({ (paired 1 3 []) with vdt := { State.reset.vdt with resync := some 7 } }) (7) := by beta_reduce; refine ⟨?_, ?_, ?_, ?_, ?_⟩ <;> decide

theorem test_meets_ViaductMessages_16 :
    (fun (s : State) => (powered s = true) ∧ (vdtRole s = 2) ∧ (viaductHears s = true))
      (paired 2 4 []) := by beta_reduce; refine ⟨?_, ?_, ?_⟩ <;> decide

theorem test_meets_ViaductMessages_17 :
    (fun (s : State) => (powered s = true) ∧ (vdtRole s = 2) ∧ (viaductHears s = true))
      (paired 2 4 []) := by beta_reduce; refine ⟨?_, ?_, ?_⟩ <;> decide

theorem test_meets_ViaductMessages_18 :
    (fun (s : State) (x : StrokeTime) (d : Nat) => (powered s = true) ∧ (vdtRole s = 2) ∧ (pairState s = 4) ∧ (viaductHears s = true) ∧ (aheadBy s x = some d))
      (paired 2 4 []) (⟨0, 4⟩) (4) := by beta_reduce; refine ⟨?_, ?_, ?_, ?_, ?_⟩ <;> decide

theorem test_meets_ViaductMessages_19 :
    (fun (s : State) (d : Nat) => (powered s = true) ∧ (s.fld 0x0B000B 2 0 = 1) ∧ (viaductHears s = true) ∧ (aheadBy s (handoverTime s) = some d) ∧ (4 ≤ d))
      (paired 1 4 [(0x0B000B, 1), (0x0B0008, 4)]) (4) := by beta_reduce; refine ⟨?_, ?_, ?_, ?_, ?_⟩ <;> decide

theorem test_meets_ViaductMessages_20 :
    (fun (s : State) => (powered s = true) ∧ (s.vdt.holdAt ≠ some s.tick))
      (State.reset) := by beta_reduce; refine ⟨?_, ?_⟩ <;> decide

theorem test_meets_ViaductMessages_21 :
    (fun (s : State) => (powered s = true) ∧ (s.vdt.holdAt = some s.tick))
      ({ State.reset with vdt := { State.reset.vdt with holdAt := some 0 } }) := by beta_reduce; refine ⟨?_, ?_⟩ <;> decide

theorem test_meets_ViaductPair_1 :
    (fun (s : State) => (powered s = true) ∧ (s.bit 0x0B0000 22 = true) ∧ (s.bit 0x0B0001 18 = false))
      (st [(0x0B0000, 0x400000)]) := by beta_reduce; refine ⟨?_, ?_, ?_⟩ <;> decide

theorem test_meets_ViaductPair_2 :
    (fun (s : State) => (powered s = true) ∧ (s.bit 0x0B0001 18 = true) ∧ (pairState s = 0 ∨ pairState s = 5))
      (paired 0 5 []) := by beta_reduce; refine ⟨?_, ?_, ?_⟩ <;> decide

theorem test_meets_ViaductPair_3 :
    (fun (s : State) => (powered s = true) ∧ (s.bit 0x0B0001 18 = true) ∧ (1 ≤ pairState s) ∧ (pairState s ≤ 4) ∧ (s.plc.extending = []) ∧ (s.dck.frames = []))
      (paired 1 4 []) := by beta_reduce; refine ⟨?_, ?_, ?_, ?_, ?_, ?_⟩ <;> decide

theorem test_meets_ViaductPair_4 :
    (fun (s : State) => (powered s = true) ∧ (8 ≤ s.fld 0x0B0001 7 0) ∧ (2 ≤ pairState s) ∧ (pairState s ≤ 4) ∧ (s.plc.extending = []) ∧ (s.dck.frames = []))
      ((paired 1 4 []).put 0x0B0001 7 0 8) := by beta_reduce; refine ⟨?_, ?_, ?_, ?_, ?_, ?_⟩ <;> decide

theorem test_meets_ViaductPair_5 :
    (fun (s : State) => (powered s = true) ∧ (s.fld 0x0B0001 7 0 < 8))
      ((paired 1 4 []).put 0x0B0001 7 0 7) := by beta_reduce; refine ⟨?_, ?_⟩ <;> decide

theorem test_meets_ViaductPair_6 :
    (fun (s : State) (k : Nat) => (powered s = true) ∧ (k ∈ s.vdt.markWait) ∧ (k + 8 ≤ s.now) ∧ (1 ≤ pairState s) ∧ (pairState s ≤ 4) ∧ (s.plc.extending = []) ∧ (s.dck.frames = []))
      (tick 8 { (paired 1 4 []) with vdt := { State.reset.vdt with markWait := [0] } }) (0) := by beta_reduce; refine ⟨?_, ?_, ?_, ?_, ?_, ?_, ?_⟩ <;> decide

theorem test_meets_ViaductPair_7 :
    (fun (s : State) (id : Nat) (e : Nat) => (powered s = true) ∧ ((id, e) ∈ s.vdt.setups) ∧ (e ≤ s.now) ∧ (1 ≤ pairState s) ∧ (pairState s ≤ 4) ∧ (s.plc.extending = []) ∧ (s.dck.frames = []))
      ({ (paired 1 1 []) with vdt := { State.reset.vdt with setups := [(3, 0)] } }) (3) (0) := by beta_reduce; refine ⟨?_, ?_, ?_, ?_, ?_, ?_, ?_⟩ <;> decide

theorem test_meets_ViaductPair_8 :
    (fun (s : State) => (powered s = true) ∧ (s.vdt.sweep = none) ∧ (viaductHears s = true) ∧ (2 ≤ pairState s) ∧ (pairState s = 2 ∨ s.now % 2 ^ 14 = 0))
      (tick (2 ^ 14) (paired 1 4 [])) := by beta_reduce; refine ⟨?_, ?_, ?_, ?_, ?_⟩ <;> decide

theorem test_meets_ViaductPair_9 :
    (fun (s : State) (b : Nat) => (powered s = true) ∧ (s.vdt.sweep = some b) ∧ (b + 64 ≤ s.tick) ∧ (s.vdt.samples.length < 64))
      (tick 64 { (paired 1 4 []) with vdt := { State.reset.vdt with sweep := some 0 } }) (0) := by beta_reduce; refine ⟨?_, ?_, ?_, ?_⟩ <;> decide

theorem test_meets_ViaductPair_10 :
    (fun (s : State) (b : Nat) (x : Int) (y : Int) => (powered s = true) ∧ (s.vdt.sweep = some b) ∧ (b + 64 ≤ s.tick) ∧ (64 ≤ s.vdt.samples.length) ∧ (x = medianOf (s.vdt.samples.map (·.1)) / 2) ∧ (y = medianOf (s.vdt.samples.map (·.2))) ∧ (pairState s = 4) ∧ (x.natAbs ≤ 8))
      (tick 64 { (paired 1 4 []) with vdt := { State.reset.vdt with sweep := some 0, samples := List.replicate 64 (-16, 0) } }) (0) (-8) (0) := by beta_reduce; refine ⟨?_, ?_, ?_, ?_, ?_, ?_, ?_, ?_⟩ <;> decide

theorem test_meets_ViaductPair_11 :
    (fun (s : State) (b : Nat) (x : Int) => (powered s = true) ∧ (s.vdt.sweep = some b) ∧ (b + 64 ≤ s.tick) ∧ (64 ≤ s.vdt.samples.length) ∧ (x = medianOf (s.vdt.samples.map (·.1)) / 2) ∧ (pairState s = 4) ∧ (125 < x.natAbs) ∧ (s.plc.extending = []) ∧ (s.dck.frames = []))
      (tick 64 { (paired 1 4 []) with vdt := { State.reset.vdt with sweep := some 0, samples := List.replicate 64 (-252, 0) } }) (0) (-126) := by beta_reduce; refine ⟨?_, ?_, ?_, ?_, ?_, ?_, ?_, ?_, ?_⟩ <;> decide

theorem test_meets_ViaductPair_12 :
    (fun (s : State) (m : Master) (w : Word) => (powered s = true) ∧ (Reaches m 0x0B0004 s) ∧ (Word.slice w 22 21 = 0) ∧ (handoverCause s = 0))
      (paired 1 4 [(0x0B0008, 16)]) (.keep) (0) := by beta_reduce; refine ⟨?_, ?_, ?_, ?_⟩ <;> decide

theorem test_meets_ViaductPair_13 :
    (fun (s : State) (m : Master) (w : Word) => (powered s = true) ∧ (Reaches m 0x0B0004 s) ∧ (Word.slice w 22 21 = 0) ∧ (handoverCause s ≠ 0))
      (State.reset) (.keep) (0) := by beta_reduce; refine ⟨?_, ?_, ?_, ?_⟩ <;> decide

theorem test_meets_ViaductPair_14 :
    (fun (s : State) (m : Master) (w : Word) => (powered s = true) ∧ (Reaches m 0x0B0004 s) ∧ (Word.bit w 23 = false) ∧ (Word.bit w 21 = false))
      (State.reset) (.keep) (0) := by beta_reduce; refine ⟨?_, ?_, ?_, ?_⟩ <;> decide

theorem test_meets_ViaductPair_15 :
    (fun (s : State) (m : Master) (w : Word) => (powered s = true) ∧ (Reaches m 0x0B0004 s) ∧ (Word.slice w 23 22 = 0) ∧ (2 ≤ pairState s) ∧ (s.bit 0x0B0001 15 = true) ∧ (s.bit 0x0B0001 18 = true) ∧ (vdtRole s ≠ 2))
      ((paired 1 2 []).put 0x0B0001 15 15 1) (.keep) (0) := by beta_reduce; refine ⟨?_, ?_, ?_, ?_, ?_, ?_, ?_⟩ <;> decide

theorem test_meets_ViaductPair_16 :
    (fun (s : State) => (powered s = true) ∧ (takeoverDue s = true))
      ({ ((paired 2 4 []).put 0x0B0001 7 0 8) with vdt := { State.reset.vdt with holdLow := 8 } }) := by beta_reduce; refine ⟨?_, ?_⟩ <;> decide

theorem test_meets_ViaductPair_17 :
    (fun (s : State) => (powered s = true) ∧ (takeoverDue s = false))
      (paired 2 4 []) := by beta_reduce; refine ⟨?_, ?_⟩ <;> decide

theorem test_meets_ViaductPair_18 :
    (fun (s : State) => (powered s = true) ∧ (vdtRole s = 1) ∧ (s.fld 0x0B000B 2 0 = 2) ∧ (handoverTime s = s.stk.time))
      (paired 1 4 [(0x0B000B, 2)]) := by beta_reduce; refine ⟨?_, ?_, ?_, ?_⟩ <;> decide

theorem test_meets_ViaductPair_19 :
    (fun (s : State) => (powered s = true) ∧ (vdtRole s = 2) ∧ (s.vdt.handoverTo = some s.now))
      ({ (paired 2 4 []) with vdt := { State.reset.vdt with handoverTo := some 0 } }) := by beta_reduce; refine ⟨?_, ?_, ?_⟩ <;> decide

theorem test_meets_ContactlessReader_1 :
    (fun (s : State) (m : Master) (l : List Token) => (powered s = true) ∧ (Reaches m 0x0C0004 s) ∧ ((∀ x ∈ l, x.uid.length = 7 ∨ (x.utvetos = false ∧ (x.uid.length = 4 ∨ x.uid.length = 10)))))
      (State.reset) (.keep) ([⟨false, [1, 2, 3, 4, 5, 6, 7], 0x20⟩]) := by beta_reduce; refine ⟨?_, ?_, ?_⟩ <;> first | decide | (intro x h; cases h with | head => exact .inl rfl | tail _ h => cases h)

theorem test_meets_ContactlessReader_2 :
    (fun (s : State) (m : Master) => (powered s = true) ∧ (Reaches m 0x0C0004 s))
      (State.reset) (.keep) := by beta_reduce; refine ⟨?_, ?_⟩ <;> decide

theorem test_meets_ContactlessReader_3 :
    (fun (s : State) (m : Master) => (powered s = true) ∧ (Reaches m 0x0C0004 s))
      (State.reset) (.keep) := by beta_reduce; refine ⟨?_, ?_⟩ <;> decide

theorem test_meets_ContactlessReader_4 :
    (fun (s : State) (m : Master) => (powered s = true) ∧ (Reaches m 0x0C0004 s))
      (State.reset) (.keep) := by beta_reduce; refine ⟨?_, ?_⟩ <;> decide

theorem test_meets_ContactlessReader_5 :
    (fun (s : State) (m : Master) => (powered s = true) ∧ (Reaches m 0x0C0004 s))
      (State.reset) (.keep) := by beta_reduce; refine ⟨?_, ?_⟩ <;> decide

theorem test_meets_ContactlessReader_6 :
    (fun (s : State) (m : Master) => (powered s = true) ∧ (Reaches m 0x0C0004 s))
      (State.reset) (.keep) := by beta_reduce; refine ⟨?_, ?_⟩ <;> decide

theorem test_meets_ContactlessReader_7 :
    (fun (s : State) (m : Master) => (powered s = true) ∧ (Reaches m 0x0C0004 s))
      (State.reset) (.keep) := by beta_reduce; refine ⟨?_, ?_⟩ <;> decide

theorem test_meets_ContactlessReader_8 :
    (fun (s : State) (m : Master) => (powered s = true) ∧ (Reaches m 0x0C0004 s))
      (State.reset) (.keep) := by beta_reduce; refine ⟨?_, ?_⟩ <;> decide

theorem test_meets_ContactlessReader_9 :
    (fun (s : State) (l : List Token) => (powered s = true) ∧ (∃ x ∈ l, x.uid.length ≠ 7 ∧ (x.utvetos = true ∨ (x.uid.length ≠ 4 ∧ x.uid.length ≠ 10))))
      (State.reset) ([⟨false, [1, 2], 0x20⟩]) := by beta_reduce; exact ⟨by decide, ⟨false, [1, 2], 0x20⟩, List.mem_cons_self, by decide⟩

theorem test_meets_ContactlessReader_10 :
    (fun (s : State) (e : Nat) (b : Nat) (r : Nat) (rx : Bytes) => (powered s = true) ∧ (s.clr.busy = some ⟨2, e, .answer (.ok rx) r, b⟩) ∧ (e < 8) ∧ (b < s.tick) ∧ (s.clr.abort = none) ∧ (clrState s = 5))
      (tick 5 { (st [(0x0C0001, 0x500000)]) with clr := { State.reset.clr with busy := some ⟨2, 7, .answer (.ok []) 0, 0⟩ } }) (7) (0) (0) ([]) := by beta_reduce; refine ⟨?_, ?_, ?_, ?_, ?_, ?_⟩ <;> decide

theorem test_meets_ContactlessReader_11 :
    (fun (s : State) (e : Nat) (b : Nat) (rx : Bytes) => (powered s = true) ∧ (s.clr.busy = some ⟨3, e, .answer (.ok rx) 0, b⟩) ∧ (rx.length ≤ 256) ∧ (b < s.tick) ∧ (s.clr.abort = none) ∧ (clrState s = 5))
      (tick 5 { (st [(0x0C0001, 0x500000)]) with clr := { State.reset.clr with busy := some ⟨3, 7, .answer (.ok []) 0, 0⟩ } }) (7) (0) ([]) := by beta_reduce; refine ⟨?_, ?_, ?_, ?_, ?_, ?_⟩ <;> decide

theorem test_meets_ContactlessReader_12 :
    (fun (s : State) (e : Nat) (b : Nat) (op : Nat) => (powered s = true) ∧ (s.clr.busy = some ⟨op, e, .answer .timeout 0, b⟩) ∧ (2 ≤ op) ∧ (op ≤ 4) ∧ (e < 8) ∧ (s.clr.abort = none) ∧ (s.clr.awaited + (repeats s ⟨op, e, .answer .timeout 0, b⟩ + 1 - s.clr.retries) * waitLimit s ⟨op, e, .answer .timeout 0, b⟩ ≤ s.tick))
      (tick 1099511627776 { (st []) with clr := { State.reset.clr with busy := some ⟨4, 7, .answer .timeout 0, 0⟩ } }) (7) (0) (4) := by beta_reduce; refine ⟨?_, ?_, ?_, ?_, ?_, ?_, ?_⟩ <;> decide

theorem test_meets_ContactlessReader_13 :
    (fun (s : State) (e : Nat) (b : Nat) => (powered s = true) ∧ (s.clr.busy = some ⟨5, e, .open_, b⟩) ∧ (e < 8) ∧ (b < s.tick) ∧ (s.clr.abort = none))
      (tick 5 { (st []) with clr := { State.reset.clr with busy := some ⟨5, 7, .open_, 0⟩ } }) (7) (0) := by beta_reduce; refine ⟨?_, ?_, ?_, ?_, ?_⟩ <;> decide

theorem test_meets_ContactlessReader_14 :
    (fun (s : State) (e : Nat) (b : Nat) => (powered s = true) ∧ (s.clr.busy = some ⟨6, e, .unlock (some 0), b⟩) ∧ (b < s.tick) ∧ (s.clr.abort = none))
      (tick 5 { (st []) with clr := { State.reset.clr with busy := some ⟨6, 0, .unlock (some 0), 0⟩ } }) (0) (0) := by beta_reduce; refine ⟨?_, ?_, ?_, ?_⟩ <;> decide

theorem test_meets_ContactlessReader_15 :
    (fun (s : State) (e : Nat) (b : Nat) (v : Byte) => (powered s = true) ∧ (s.clr.busy = some ⟨6, e, .unlock (some v), b⟩) ∧ (v = 1 ∨ v = 2 ∨ v = 0xFF) ∧ (b < s.tick) ∧ (s.clr.abort = none))
      (tick 5 { (st []) with clr := { State.reset.clr with busy := some ⟨6, 0, .unlock (some 2), 0⟩ } }) (0) (0) (2) := by beta_reduce; refine ⟨?_, ?_, ?_, ?_, ?_⟩ <;> decide

theorem test_meets_ContactlessReader_16 :
    (fun (s : State) (e : Nat) (b : Nat) (v : Byte) => (powered s = true) ∧ (s.clr.busy = some ⟨6, e, .unlock (some v), b⟩) ∧ (v ≠ 0) ∧ (v ≠ 1) ∧ (v ≠ 2) ∧ (v ≠ 0xFF) ∧ (b < s.tick) ∧ (s.clr.abort = none))
      (tick 5 { (st []) with clr := { State.reset.clr with busy := some ⟨6, 0, .unlock (some 5), 0⟩ } }) (0) (0) (5) := by beta_reduce; refine ⟨?_, ?_, ?_, ?_, ?_, ?_, ?_, ?_⟩ <;> decide

theorem test_meets_ContactlessReader_17 :
    (fun (s : State) (e : Nat) (b : Nat) (n : Nat) => (powered s = true) ∧ (s.clr.busy = some ⟨1, e, .tokens [] n, b⟩) ∧ (n ≤ 16) ∧ (b < s.tick) ∧ (s.clr.abort = none) ∧ (s.clr.hold = false))
      (tick 5 { (st []) with clr := { State.reset.clr with busy := some ⟨1, 0, .tokens [] 16, 0⟩ } }) (0) (0) (16) := by beta_reduce; refine ⟨?_, ?_, ?_, ?_, ?_, ?_⟩ <;> decide

theorem test_meets_ContactlessReader_18 :
    (fun (s : State) => (powered s = true) ∧ (clrState s = 2) ∧ (s.clr.settled ≤ s.tick))
      (tick 5 { (st [(0x0C0001, 0x200000)]) with clr := { State.reset.clr with settled := 5 } }) := by beta_reduce; refine ⟨?_, ?_, ?_⟩ <;> decide

theorem test_meets_ContactlessReader_19 :
    (fun (s : State) => (powered s = true) ∧ (s.bit 0x0C0001 23 = true))
      (st [(0x0C0001, 0x800000)]) := by beta_reduce; refine ⟨?_, ?_⟩ <;> decide

theorem test_meets_ContactlessReader_20 :
    (fun (s : State) (x : ClrOp) (c : Bool) => (powered s = true) ∧ (s.clr.busy = some x) ∧ (x.op ≠ 1) ∧ (x.op ≠ 5) ∧ (c = true ∨ s.clr.awaited + waitLimit s x ≤ s.tick) ∧ (s.clr.retries < repeats s x))
      (tick 1099511627776 { (st [(tokReg 7 0, 0x040000)]) with clr := { State.reset.clr with busy := some ⟨3, 7, .open_, 0⟩, retries := 1 } }) (⟨3, 7, .open_, 0⟩) (false) := by beta_reduce; refine ⟨?_, ?_, ?_, ?_, ?_, ?_⟩ <;> decide

theorem test_meets_ContactlessReader_21 :
    (fun (s : State) (x : ClrOp) (c : Bool) => (powered s = true) ∧ (s.clr.busy = some x) ∧ (x.op ≠ 1) ∧ (x.op ≠ 5) ∧ (c = true ∨ s.clr.awaited + waitLimit s x ≤ s.tick) ∧ (repeats s x ≤ s.clr.retries) ∧ (x.entry < 8))
      (tick 1099511627776 { (st []) with clr := { State.reset.clr with busy := some ⟨2, 7, .open_, 0⟩, retries := 3 } }) (⟨2, 7, .open_, 0⟩) (false) := by beta_reduce; refine ⟨?_, ?_, ?_, ?_, ?_, ?_, ?_⟩ <;> decide

theorem test_meets_ContactlessReader_22 :
    (fun (s : State) (x : ClrOp) (n : Byte) => (powered s = true) ∧ (s.clr.busy = some x) ∧ (blockOp s x = true) ∧ (1 ≤ n.toNat) ∧ (n.toNat ≤ 59))
      (tick 5 { (st [(tokReg 7 0, 0x040000)]) with clr := { State.reset.clr with busy := some ⟨3, 7, .open_, 0⟩ } }) (⟨3, 7, .open_, 0⟩) (59) := by beta_reduce; refine ⟨?_, ?_, ?_, ?_, ?_⟩ <;> decide

theorem test_meets_ContactlessReader_23 :
    (fun (s : State) (x : ClrOp) (n : Byte) => (powered s = true) ∧ (s.clr.busy = some x) ∧ (blockOp s x = true) ∧ (n.toNat = 0 ∨ 59 < n.toNat))
      (tick 5 { (st [(tokReg 7 0, 0x040000)]) with clr := { State.reset.clr with busy := some ⟨3, 7, .open_, 0⟩ } }) (⟨3, 7, .open_, 0⟩) (60) := by beta_reduce; refine ⟨?_, ?_, ?_, ?_⟩ <;> decide

theorem test_meets_ContactlessReader_24 :
    (fun (s : State) (a : BitVec 12) (p : BitVec 12) => (powered s = true) ∧ (clrState s = 1) ∧ (s.clr.pinged + 8 * s.fld 0x0C000C 15 0 ≤ s.tick) ∧ (((a.toNat : Int) - s.fld 0x0C000D 23 12).natAbs + ((p.toNat : Int) - s.fld 0x0C000D 11 0).natAbs ≤ s.fld 0x0C000C 23 16))
      (st [(0x0C0001, 0x100000), (0x0C000C, 0x050000)]) (5) (0) := by beta_reduce; refine ⟨?_, ?_, ?_, ?_⟩ <;> decide

theorem test_meets_ContactlessReader_25 :
    (fun (s : State) (a : BitVec 12) (p : BitVec 12) => (powered s = true) ∧ (clrState s = 1) ∧ (s.clr.pinged + 8 * s.fld 0x0C000C 15 0 ≤ s.tick) ∧ (s.fld 0x0C000C 23 16 < ((a.toNat : Int) - s.fld 0x0C000D 23 12).natAbs + ((p.toNat : Int) - s.fld 0x0C000D 11 0).natAbs))
      (st [(0x0C0001, 0x100000), (0x0C000C, 0x050000)]) (6) (0) := by beta_reduce; refine ⟨?_, ?_, ?_, ?_⟩ <;> decide

theorem test_meets_ContactlessReader_26 :
    (fun (s : State) (e : Fin 8) => (powered s = true) ∧ (quietExpired s e = true))
      (tick 2500000 { (st [(0x0C0100 + 8 * 7, 0xB00000)]) with clr := { State.reset.clr with quiet := [] } }) (7) := by beta_reduce; refine ⟨?_, ?_⟩ <;> decide

theorem test_meets_ContactlessReader_27 :
    (fun (s : State) (e : Fin 8) => (powered s = true) ∧ (quietExpired s e = false))
      (State.reset) (7) := by beta_reduce; refine ⟨?_, ?_⟩ <;> decide

theorem test_meets_ContactCard_1 :
    (fun (s : State) (m : Master) => (powered s = true) ∧ (Reaches m 0x0C1004 s))
      (State.reset) (.keep) := by beta_reduce; refine ⟨?_, ?_⟩ <;> decide

theorem test_meets_ContactCard_2 :
    (fun (s : State) (m : Master) => (powered s = true) ∧ (Reaches m 0x0C1004 s))
      (State.reset) (.keep) := by beta_reduce; refine ⟨?_, ?_⟩ <;> decide

theorem test_meets_ContactCard_3 :
    (fun (s : State) (m : Master) => (powered s = true) ∧ (Reaches m 0x0C1004 s))
      (State.reset) (.keep) := by beta_reduce; refine ⟨?_, ?_⟩ <;> decide

theorem test_meets_ContactCard_4 :
    (fun (s : State) (m : Master) => (powered s = true) ∧ (Reaches m 0x0C1004 s))
      (State.reset) (.keep) := by beta_reduce; refine ⟨?_, ?_⟩ <;> decide

theorem test_meets_ContactCard_5 :
    (fun (s : State) (m : Master) => (powered s = true) ∧ (Reaches m 0x0C1004 s))
      (State.reset) (.keep) := by beta_reduce; refine ⟨?_, ?_⟩ <;> decide

theorem test_meets_ContactCard_6 :
    (fun (s : State) (b : Nat) => (powered s = true) ∧ (s.icc.busy = some ⟨1, .atr none, b⟩) ∧ (b < s.tick) ∧ (s.icc.retryAt = none) ∧ (s.icc.abort = false))
      (tick 5 { (st []) with icc := { State.reset.icc with busy := some ⟨1, .atr none, 0⟩ } }) (0) := by beta_reduce; refine ⟨?_, ?_, ?_, ?_, ?_⟩ <;> decide

theorem test_meets_ContactCard_7 :
    (fun (s : State) (b : Nat) (rx : Bytes) => (powered s = true) ∧ (s.icc.busy = some ⟨2, .answer (.ok rx), b⟩) ∧ (rx.length ≤ 258) ∧ (b < s.tick) ∧ (s.icc.retryAt = none) ∧ (s.icc.abort = false) ∧ (iccState s = 4))
      (tick 5 { (st [(0x0C1001, 0x080000)]) with icc := { State.reset.icc with busy := some ⟨2, .answer (.ok []), 0⟩ } }) (0) ([]) := by beta_reduce; refine ⟨?_, ?_, ?_, ?_, ?_, ?_, ?_⟩ <;> decide

theorem test_meets_ContactCard_8 :
    (fun (s : State) (b : Nat) => (powered s = true) ∧ (s.icc.busy = some ⟨2, .answer .protocol, b⟩) ∧ (b < s.tick) ∧ (s.icc.retryAt = none) ∧ (s.icc.abort = false))
      (tick 5 { (st []) with icc := { State.reset.icc with busy := some ⟨2, .answer .protocol, 0⟩ } }) (0) := by beta_reduce; refine ⟨?_, ?_, ?_, ?_, ?_⟩ <;> decide

theorem test_meets_ContactCard_9 :
    (fun (s : State) (b : Nat) => (powered s = true) ∧ (s.icc.busy = some ⟨3, .open_, b⟩) ∧ (b < s.tick) ∧ (s.icc.retryAt = none) ∧ (s.icc.abort = false))
      (tick 5 { (st []) with icc := { State.reset.icc with busy := some ⟨3, .open_, 0⟩ } }) (0) := by beta_reduce; refine ⟨?_, ?_, ?_, ?_, ?_⟩ <;> decide

theorem test_meets_ContactCard_10 :
    (fun (s : State) (b : Nat) => (powered s = true) ∧ (s.icc.busy = some ⟨5, .resynch true, b⟩) ∧ (b < s.tick) ∧ (s.icc.retryAt = none) ∧ (s.icc.abort = false))
      (tick 5 { (st []) with icc := { State.reset.icc with busy := some ⟨5, .resynch true, 0⟩ } }) (0) := by beta_reduce; refine ⟨?_, ?_, ?_, ?_, ?_⟩ <;> decide

theorem test_meets_ContactCard_11 :
    (fun (s : State) (x : IccOp) => (powered s = true) ∧ (s.icc.busy = some x) ∧ (s.icc.retries < 2))
      (tick 5 { (st []) with icc := { State.reset.icc with busy := some ⟨2, .open_, 0⟩, retries := 1 } }) (⟨2, .open_, 0⟩) := by beta_reduce; refine ⟨?_, ?_, ?_⟩ <;> decide

theorem test_meets_ContactCard_12 :
    (fun (s : State) (x : IccOp) => (powered s = true) ∧ (s.icc.busy = some x) ∧ (s.icc.retries = 2))
      (tick 5 { (st []) with icc := { State.reset.icc with busy := some ⟨2, .open_, 0⟩, retries := 2 } }) (⟨2, .open_, 0⟩) := by beta_reduce; refine ⟨?_, ?_, ?_⟩ <;> decide

theorem test_meets_ContactCard_13 :
    (fun (s : State) (x : IccOp) => (powered s = true) ∧ (s.icc.busy = some x) ∧ (2 < s.icc.retries))
      (tick 5 { (st []) with icc := { State.reset.icc with busy := some ⟨2, .open_, 0⟩, retries := 3 } }) (⟨2, .open_, 0⟩) := by beta_reduce; refine ⟨?_, ?_, ?_⟩ <;> decide

theorem test_meets_ContactCard_14 :
    (fun (s : State) (x : IccOp) (n : Byte) => (powered s = true) ∧ (s.icc.busy = some x) ∧ (n ≠ 0))
      (tick 5 { (st []) with icc := { State.reset.icc with busy := some ⟨2, .open_, 0⟩ } }) (⟨2, .open_, 0⟩) (1) := by beta_reduce; refine ⟨?_, ?_, ?_⟩ <;> decide

theorem test_meets_ContactCard_15 :
    (fun (s : State) (b : Nat) => (powered s = true) ∧ (s.icc.retryAt = some b) ∧ (b ≤ s.tick))
      (tick 5 { (st []) with icc := { State.reset.icc with retryAt := some 5 } }) (5) := by beta_reduce; refine ⟨?_, ?_, ?_⟩ <;> decide

theorem test_meets_ContactCard_16 :
    (fun (s : State) (b : Nat) (a : Bytes) => (powered s = true) ∧ (s.icc.retryAt = some b) ∧ (b ≤ s.tick) ∧ ((atrProtocols a).contains 1 = true) ∧ (s.fld 0x0C1001 21 20 = 2) ∧ (atrClasses a / 2 % 2 = 1))
      (tick 5 { (st [(0x0C1001, 0x200000)]) with icc := { State.reset.icc with retryAt := some 5 } }) (5) ([0x3B, 0x80, 0x81, 0x1F, 0x02]) := by beta_reduce; refine ⟨?_, ?_, ?_, ?_, ?_, ?_⟩ <;> decide

theorem test_meets_ContactCard_17 :
    (fun (s : State) => (powered s = true) ∧ (s.bit 0x0C1001 23 = true))
      (st [(0x0C1001, 0x800000)]) := by beta_reduce; refine ⟨?_, ?_⟩ <;> decide

theorem test_meets_ContactCard_18 :
    (fun (s : State) => (powered s = true) ∧ (s.bit 0x0C1001 23 = false))
      (State.reset) := by beta_reduce; refine ⟨?_, ?_⟩ <;> decide

theorem test_meets_ContactCard_19 :
    (fun (s : State) (n : Nat) => (powered s = true) ∧ (s.bit 0x0C1001 22 = true) ∧ ((s.fld 0x0C1001 21 20 = 2 ∧ 60 < n) ∨ (s.fld 0x0C1001 21 20 = 1 ∧ 40 < n)))
      (st [(0x0C1001, 0x600000)]) (61) := by beta_reduce; refine ⟨?_, ?_, ?_⟩ <;> decide

theorem test_meets_ContactCard_20 :
    (fun (s : State) (n : Nat) => (powered s = true) ∧ (n ≤ 40))
      (State.reset) (40) := by beta_reduce; refine ⟨?_, ?_⟩ <;> decide

theorem test_meets_RemovableCard_1 :
    (fun (s : State) (m : Master) => (powered s = true) ∧ (Reaches m 0x0C2004 s))
      (State.reset) (.keep) := by beta_reduce; refine ⟨?_, ?_⟩ <;> decide

theorem test_meets_RemovableCard_2 :
    (fun (s : State) (m : Master) (l : List Bytes) => (powered s = true) ∧ (Reaches m 0x0C2004 s) ∧ ((∀ x ∈ l, x.length = 512)))
      (State.reset) (.keep) ([List.replicate 512 0]) := by beta_reduce; refine ⟨?_, ?_, ?_⟩ <;> first | decide | (intro x h; cases h with | head => exact List.length_replicate | tail _ h => cases h)

theorem test_meets_RemovableCard_3 :
    (fun (s : State) (m : Master) => (powered s = true) ∧ (Reaches m 0x0C2004 s))
      (State.reset) (.keep) := by beta_reduce; refine ⟨?_, ?_⟩ <;> decide

theorem test_meets_RemovableCard_4 :
    (fun (s : State) (m : Master) => (powered s = true) ∧ (Reaches m 0x0C2004 s))
      (State.reset) (.keep) := by beta_reduce; refine ⟨?_, ?_⟩ <;> decide

theorem test_meets_RemovableCard_5 :
    (fun (s : State) (m : Master) => (powered s = true) ∧ (Reaches m 0x0C2004 s))
      (State.reset) (.keep) := by beta_reduce; refine ⟨?_, ?_⟩ <;> decide

theorem test_meets_RemovableCard_6 :
    (fun (s : State) (l : List Bytes) => (powered s = true) ∧ (∃ x ∈ l, x.length ≠ 512))
      (State.reset) ([[1]]) := by beta_reduce; exact ⟨by decide, [1], List.mem_cons_self, by decide⟩

theorem test_meets_RemovableCard_7 :
    (fun (s : State) (b : Nat) (blocks : Nat) (d : Fin 6) (u : Bool) (q : BoxUse) => (powered s = true) ∧ (s.rmc.busy = some ⟨1, .init true d blocks u, b, q, false⟩) ∧ (blocks < 2 ^ 32) ∧ (b < s.tick) ∧ (s.rmc.abort = false))
      (tick 5 { (st []) with rmc := { State.reset.rmc with busy := some ⟨1, .init true 5 (2 ^ 32 - 1) false, 0, .raw, false⟩ } }) (0) (2 ^ 32 - 1) (5) (false) (.raw) := by beta_reduce; refine ⟨?_, ?_, ?_, ?_, ?_⟩ <;> decide

theorem test_meets_RemovableCard_8 :
    (fun (s : State) (b : Nat) (blocks : Nat) (d : Fin 6) (u : Bool) (q : BoxUse) => (powered s = true) ∧ (s.rmc.busy = some ⟨1, .init false d blocks u, b, q, false⟩) ∧ (b < s.tick) ∧ (s.rmc.abort = false))
      (tick 5 { (st []) with rmc := { State.reset.rmc with busy := some ⟨1, .init false 5 0 false, 0, .raw, false⟩ } }) (0) (0) (5) (false) (.raw) := by beta_reduce; refine ⟨?_, ?_, ?_, ?_⟩ <;> decide

theorem test_meets_RemovableCard_9 :
    (fun (s : State) (b : Nat) (op : Nat) (q : BoxUse) => (powered s = true) ∧ (s.rmc.busy = some ⟨op, .open_, b, q, false⟩) ∧ (2 ≤ op) ∧ (op ≤ 3) ∧ (b < s.tick) ∧ (s.rmc.abort = false) ∧ (rmcState s = 4) ∧ (rmcBlocks s ≤ s.fld 0x0C200A 15 0))
      (tick 5 { (st [(0x0C2001, 0x020000)]) with rmc := { State.reset.rmc with busy := some ⟨3, .open_, 0, .raw, false⟩ } }) (0) (3) (.raw) := by beta_reduce; refine ⟨?_, ?_, ?_, ?_, ?_, ?_, ?_, ?_⟩ <;> decide

theorem test_meets_RemovableCard_10 :
    (fun (s : State) (b : Nat) (l : List Bytes) (k : Bool) (r : Bool) (q : BoxUse) => (powered s = true) ∧ (s.rmc.busy = some ⟨2, .read l false k r, b, q, false⟩) ∧ (b < s.tick) ∧ (s.rmc.abort = false) ∧ (rmcState s = 4) ∧ (s.fld 0x0C2001 20 18 ≠ 5))
      (tick 5 { (st [(0x0C2001, 0x020000)]) with rmc := { State.reset.rmc with busy := some ⟨2, .read [] false false false, 0, .raw, false⟩ } }) (0) ([]) (false) (false) (.raw) := by beta_reduce; refine ⟨?_, ?_, ?_, ?_, ?_, ?_⟩ <;> decide

theorem test_meets_RemovableCard_11 :
    (fun (s : State) (b : Nat) (l : List Bytes) (k : Bool) (r : Bool) (q : BoxUse) => (powered s = true) ∧ (s.rmc.busy = some ⟨2, .read l false k r, b, q, false⟩) ∧ (b < s.tick) ∧ (s.rmc.abort = false) ∧ (s.fld 0x0C2001 20 18 = 5) ∧ (s.rmc.retune = false))
      (tick 5 { (st [(0x0C2001, 0x940000)]) with rmc := { State.reset.rmc with busy := some ⟨2, .read [] false false false, 0, .raw, false⟩ } }) (0) ([]) (false) (false) (.raw) := by beta_reduce; refine ⟨?_, ?_, ?_, ?_, ?_, ?_⟩ <;> decide

theorem test_meets_RemovableCard_12 :
    (fun (s : State) (x : RmcOp) => (powered s = true) ∧ (s.rmc.busy = some x) ∧ (x.op = 2) ∧ (s.fld 0x0C2001 20 18 = 5) ∧ (rmcState s = 4) ∧ (s.rmc.retune = true))
      (tick 5 { (st [(0x0C2001, 0x160000)]) with rmc := { State.reset.rmc with busy := some ⟨2, .open_, 0, .raw, false⟩, retune := true } }) (⟨2, .open_, 0, .raw, false⟩) := by beta_reduce; refine ⟨?_, ?_, ?_, ?_, ?_, ?_⟩ <;> decide

theorem test_meets_RemovableCard_13 :
    (fun (s : State) (b : Nat) (q : BoxUse) => (powered s = true) ∧ (s.rmc.busy = some ⟨3, .write false, b, q, false⟩) ∧ (b < s.tick) ∧ (s.rmc.abort = false))
      (tick 5 { (st []) with rmc := { State.reset.rmc with busy := some ⟨3, .write false, 0, .raw, false⟩ } }) (0) (.raw) := by beta_reduce; refine ⟨?_, ?_, ?_, ?_⟩ <;> decide

theorem test_meets_RemovableCard_14 :
    (fun (s : State) (b : Nat) => (powered s = true) ∧ (s.rmc.busy = some ⟨2, .open_, b, .offer, false⟩) ∧ (b < s.tick) ∧ (s.rmc.abort = false) ∧ (rmcBlocks s ≤ s.fld 0x0C200A 15 0) ∧ (quorumSize s 3 = 0))
      (tick 5 { (st []) with rmc := { State.reset.rmc with busy := some ⟨2, .open_, 0, .offer, false⟩ } }) (0) := by beta_reduce; refine ⟨?_, ?_, ?_, ?_, ?_, ?_⟩ <;> decide

theorem test_meets_RemovableCard_15 :
    (fun (s : State) (b : Nat) => (powered s = true) ∧ (s.rmc.busy = some ⟨2, .open_, b, .restore, false⟩) ∧ (b < s.tick) ∧ (s.rmc.abort = false) ∧ (rmcBlocks s ≤ s.fld 0x0C200A 15 0) ∧ (quorumSize s 3 = 0))
      (tick 5 { (st []) with rmc := { State.reset.rmc with busy := some ⟨2, .open_, 0, .restore, false⟩ } }) (0) := by beta_reduce; refine ⟨?_, ?_, ?_, ?_, ?_, ?_⟩ <;> decide

theorem test_meets_RemovableCard_16 :
    (fun (s : State) => (powered s = true) ∧ (s.fld 0x0C2001 20 18 = 5) ∧ (rmcState s = 3) ∧ (s.rmc.retune = true ∨ s.rmc.tunedAt + 2 ^ 22 ≤ s.tick))
      (tick 4194304 { (st [(0x0C2001, 0x158000)]) with rmc := { State.reset.rmc with tunedAt := 0 } }) := by beta_reduce; refine ⟨?_, ?_, ?_, ?_⟩ <;> decide

theorem test_meets_RemovableCard_17 :
    (fun (s : State) (x : RmcOp) => (powered s = true) ∧ (s.rmc.busy = some x))
      (tick 5 { (st []) with rmc := { State.reset.rmc with busy := some ⟨2, .open_, 0, .raw, false⟩ } }) (⟨2, .open_, 0, .raw, false⟩) := by beta_reduce; refine ⟨?_, ?_⟩ <;> decide

theorem test_meets_RemovableCard_18 :
    (fun (s : State) => (powered s = true) ∧ (s.bit 0x0C2001 23 = true))
      (st [(0x0C2001, 0x800000)]) := by beta_reduce; refine ⟨?_, ?_⟩ <;> decide

theorem test_meets_RemovableCard_19 :
    (fun (s : State) => (powered s = true) ∧ (s.bit 0x0C2001 23 = false))
      (State.reset) := by beta_reduce; refine ⟨?_, ?_⟩ <;> decide

theorem test_meets_LedgerPeriods_1 :
    (fun (s : State) (m : Master) => (powered s = true) ∧ (Reaches m 0x0D0010 s))
      (State.reset) (.keep) := by beta_reduce; refine ⟨?_, ?_⟩ <;> decide

theorem test_meets_LedgerPeriods_2 :
    (fun (s : State) (m : Master) => (powered s = true) ∧ (Reaches m 0x0D000F s))
      (State.reset) (.keep) := by beta_reduce; refine ⟨?_, ?_⟩ <;> decide

theorem test_meets_LedgerPeriods_3 :
    (fun (s : State) (n : Nat) (r : Chan) => (powered s = true) ∧ (s.stk.time.num.toNat % 2 ^ 16 = 0) ∧ (s.stk.done.contains 3 = false) ∧ (s.dck.chans = [(n, some r)]) ∧ (r.dom ≤ 256))
      (chanOpen State.reset) (9) (clientChan) := by beta_reduce; refine ⟨?_, ?_, ?_, ?_, ?_⟩ <;> decide

theorem test_meets_LedgerPeriods_4 :
    (fun (s : State) => (powered s = true) ∧ (s.stk.time.num.toNat % 2 ^ 16 ≠ 0))
      (tick 1 State.reset) := by beta_reduce; refine ⟨?_, ?_⟩ <;> decide

theorem test_meets_LedgerPeriods_5 :
    (fun (s : State) => (powered s = true) ∧ (s.lgr.setDue = none) ∧ (wallValid s = true) ∧ (periodEnd s ≤ wallNow s) ∧ (snapHeld s = false) ∧ (s.lgr.advanced = false))
      (tick 5 { (st [(0x0D0001, 0x800000)]) with lgr := { State.reset.lgr with anchorW := 3600 * 10 ^ 7 } }) := by beta_reduce; refine ⟨?_, ?_, ?_, ?_, ?_, ?_⟩ <;> decide

theorem test_meets_LedgerPeriods_6 :
    (fun (s : State) => (powered s = true) ∧ (s.lgr.setDue = none) ∧ (wallValid s = true) ∧ (periodEnd s ≤ wallNow s) ∧ (snapHeld s = true) ∧ (s.lgr.late = false))
      (tick 5 { (st [(0x0D0001, 0xC00000)]) with lgr := { State.reset.lgr with anchorW := 3600 * 10 ^ 7 } }) := by beta_reduce; refine ⟨?_, ?_, ?_, ?_, ?_, ?_⟩ <;> decide

theorem test_meets_LedgerPeriods_7 :
    (fun (s : State) => (powered s = true) ∧ (s.lgr.setDue = none) ∧ (wallValid s = false ∨ wallNow s < periodEnd s))
      (State.reset) := by beta_reduce; refine ⟨?_, ?_, ?_⟩ <;> decide

theorem test_meets_LedgerPeriods_8 :
    (fun (s : State) (w : Nat) => (powered s = true) ∧ (s.lgr.setDue = some w) ∧ (w ≠ wallNow s))
      (tick 5 { (st []) with lgr := { State.reset.lgr with setDue := some 100 } }) (100) := by beta_reduce; refine ⟨?_, ?_, ?_⟩ <;> decide

theorem test_meets_LedgerPeriods_9 :
    (fun (s : State) (w : Nat) => (powered s = true) ∧ (s.lgr.setDue = some w) ∧ (w = wallNow s))
      (tick 5 { (st []) with lgr := { State.reset.lgr with setDue := some 40 } }) (40) := by beta_reduce; refine ⟨?_, ?_, ?_⟩ <;> decide

theorem test_meets_LampChannels_1 :
    (fun (s : State) (k : Fin 6) => (powered s = true) ∧ (lampStarts s k = false))
      (tick 1 State.reset) (5) := by beta_reduce; refine ⟨?_, ?_⟩ <;> decide

theorem test_meets_LampChannels_2 :
    (fun (s : State) (k : Fin 6) (c : Bool) => (powered s = true) ∧ (lampStarts s k = true) ∧ (lampDrive s k (s.rd (lampReg k 0)) (s.rd (lampReg k 1)) = (c, none)))
      (State.reset) (5) (false) := by beta_reduce; refine ⟨?_, ?_, ?_⟩ <;> decide

theorem test_meets_LampChannels_3 :
    (fun (s : State) (k : Fin 6) (c : Bool) (d : Nat) (p : Nat) (half : Nat) => (powered s = true) ∧ (lampStarts s k = true) ∧ (lampDrive s k (s.rd (lampReg k 0)) (s.rd (lampReg k 1)) = (c, some (d, p))) ∧ (s.bit (lampReg k 2) 20 = false) ∧ ((s.lamp k).retryAt = none) ∧ (half = d * 2 ^ s.fld (lampReg k 0) 20 18) ∧ (p = 0 ∨ (p = 1 ∧ s.stk.time.num.toNat / 2 ^ 19 % 2 = 0) ∨ (p = 2 ∧ s.stk.time.num.toNat / 2 ^ 17 % 2 = 0)))
      ((st [(lampReg 5 0, 0x800000), (lampReg 5 1, 0x000080)])) (5) (false) (128) (0) (128) := by beta_reduce; refine ⟨?_, ?_, ?_, ?_, ?_, ?_, ?_⟩ <;> decide

theorem test_meets_LampChannels_4 :
    (fun (s : State) (k : Fin 6) (c : Bool) (d : Nat) (p : Nat) => (powered s = true) ∧ (lampStarts s k = true) ∧ (lampDrive s k (s.rd (lampReg k 0)) (s.rd (lampReg k 1)) = (c, some (d, p))) ∧ (s.bit (lampReg k 2) 20 = false) ∧ ((s.lamp k).retryAt = none) ∧ ((p = 1 ∧ s.stk.time.num.toNat / 2 ^ 19 % 2 = 1) ∨ (p = 2 ∧ s.stk.time.num.toNat / 2 ^ 17 % 2 = 1)))
      (tick (2 ^ 19) (st [(lampReg 5 0, 0x800000), (lampReg 5 1, 0x400080)])) (5) (false) (128) (1) := by beta_reduce; refine ⟨?_, ?_, ?_, ?_, ?_, ?_⟩ <;> decide

theorem test_meets_LampChannels_5 :
    (fun (s : State) (k : Fin 6) => (powered s = true) ∧ (s.fld (lampReg k 2) 23 21 = 1) ∧ (2 * s.tick < (s.lamp k).lit) ∧ ((s.lamp k).undo = none) ∧ (s.fld (lampReg k 2) 17 16 < 3))
      ({ (st [(lampReg 5 2, 0x220000)]) with lamps := [(5, ⟨none, 1, 0, 0, none, none, 0⟩)] }) (5) := by beta_reduce; refine ⟨?_, ?_, ?_, ?_, ?_⟩ <;> decide

theorem test_meets_LampChannels_6 :
    (fun (s : State) (k : Fin 6) => (powered s = true) ∧ (s.fld (lampReg k 2) 23 21 = 1) ∧ (2 * s.tick < (s.lamp k).lit) ∧ ((s.lamp k).undo = none) ∧ (s.fld (lampReg k 2) 17 16 = 3))
      ({ (st [(lampReg 5 2, 0x230000)]) with lamps := [(5, ⟨none, 1, 0, 0, none, none, 0⟩)] }) (5) := by beta_reduce; refine ⟨?_, ?_, ?_, ?_, ?_⟩ <;> decide

theorem test_meets_LampChannels_7 :
    (fun (s : State) (k : Fin 6) (st : Word) (ev : Word) (o : Nat) (g : Nat) => (powered s = true) ∧ (s.fld (lampReg k 2) 23 21 = 1) ∧ (2 * s.tick < (s.lamp k).lit) ∧ ((s.lamp k).undo = some (st, ev, o, g)) ∧ (Word.slice st 17 16 < 3))
      ({ (st [(lampReg 5 2, 0x200000)]) with lamps := [(5, ⟨none, 1, 0, 0, some (0, 0, 0, 0), none, 0⟩)] }) (5) (0) (0) (0) (0) := by beta_reduce; refine ⟨?_, ?_, ?_, ?_, ?_⟩ <;> decide

theorem test_meets_LampChannels_8 :
    (fun (s : State) (k : Fin 6) => (powered s = true) ∧ (s.fld (lampReg k 2) 23 21 ≠ 1))
      (State.reset) (5) := by beta_reduce; refine ⟨?_, ?_⟩ <;> decide

theorem test_meets_LampChannels_9 :
    (fun (s : State) (k : Fin 6) (n : Nat) => (powered s = true) ∧ (lampStarts s k = true) ∧ (s.fld (lampReg k 2) 23 21 = 2) ∧ ((s.lamp k).retryAt = some n) ∧ (n ≤ s.tick))
      ({ (st [(lampReg 5 2, 0x400000)]) with lamps := [(5, ⟨none, 1, 0, 0, none, some 0, 0⟩)] }) (5) (0) := by beta_reduce; refine ⟨?_, ?_, ?_, ?_, ?_⟩ <;> decide

theorem test_meets_LampChannels_10 :
    (fun (s : State) (k : Fin 6) (n : Nat) => (powered s = true) ∧ ((s.lamp k).retryAt = some n) ∧ (s.tick < n))
      ({ (st [(lampReg 5 2, 0x400000)]) with lamps := [(5, ⟨none, 1, 0, 0, none, some 1, 0⟩)] }) (5) (1) := by beta_reduce; refine ⟨?_, ?_, ?_⟩ <;> decide

theorem test_meets_LampChannels_11 :
    (fun (s : State) (k : Fin 6) => (powered s = true) ∧ (s.fld (lampReg k 2) 23 21 = 1) ∧ ((s.lamp k).since + 2 ^ 16 ≤ s.tick))
      (tick (2 ^ 16) (st [(lampReg 5 2, 0x220000)])) (5) := by beta_reduce; refine ⟨?_, ?_, ?_⟩ <;> decide

theorem test_meets_LampChannels_12 :
    (fun (s : State) (k : Fin 6) (m : Master) => (powered s = true) ∧ (Reaches m (lampReg k 3) s))
      (State.reset) (5) (.keep) := by beta_reduce; refine ⟨?_, ?_⟩ <;> decide

theorem test_meets_PerformanceCounters_1 :
    (fun (s : State) (n : Fin 32) => (powered s = true) ∧ (pmcFrozen s = false) ∧ (pmcLoading s (2 * (n.val / 2)) = false) ∧ (pmcLoading s (2 * (n.val / 2) + 1) = false) ∧ (pmcChained s n = false) ∧ (s.bit (pmcCounter n) 23 = true) ∧ (2 ^ 48 ≤ s.rdN (pmcCounter n + 5) 2 + Tab.get 0 s.pmc.add n))
      ({ (st [(pmcCounter 31, 0x800000), (pmcCounter 31 + 5, 0xFFFFFF), (pmcCounter 31 + 6, 0xFFFFFF)]) with pmc := { State.reset.pmc with add := [(31, 1)] } }) (31) := by beta_reduce; refine ⟨?_, ?_, ?_, ?_, ?_, ?_, ?_⟩ <;> decide

theorem test_meets_PerformanceCounters_2 :
    (fun (s : State) => (powered s = true) ∧ (pmcFrozen s = true))
      (st [(0x0F0000, 0x800000)]) := by beta_reduce; refine ⟨?_, ?_⟩ <;> decide

theorem test_meets_PerformanceCounters_3 :
    (fun (s : State) (m : Master) (n : Fin 32) => (powered s = true) ∧ (Reaches m (pmcCounter n + 6) s) ∧ (pmcMayWrite s m (pmcCounter n) = true))
      (State.reset) (.keep) (31) := by beta_reduce; refine ⟨?_, ?_, ?_⟩ <;> decide

theorem test_meets_PerformanceCounters_4 :
    (fun (s : State) (m : Master) (n : Fin 32) => (powered s = true) ∧ (Reaches m (pmcCounter n + 6) s) ∧ (pmcMayWrite s m (pmcCounter n) = false))
      (st [(pmcCounter 31, 0x050000)]) (.pier 66 false) (31) := by beta_reduce; refine ⟨?_, ?_, ?_⟩ <;> decide

theorem test_meets_PerformanceCounters_5 :
    (fun (s : State) (m : Master) (w : Word) => (powered s = true) ∧ (m = .keep ∨ m = .pf) ∧ (Word.bit w 20 = false))
      (State.reset) (.pf) (0xE00000) := by beta_reduce; refine ⟨?_, ?_, ?_⟩ <;> decide

theorem test_meets_PerformanceCounters_6 :
    (fun (s : State) (c : Fin 67) => (powered s = true) ∧ (c ≠ 0))
      (State.reset) (66) := by beta_reduce; refine ⟨?_, ?_⟩ <;> decide

theorem test_meets_PerformanceCounters_7 :
    (fun (s : State) (m : Master) => (powered s = true) ∧ (m = .keep ∨ m = .pf))
      (State.reset) (.pf) := by beta_reduce; refine ⟨?_, ?_⟩ <;> decide

theorem test_meets_PerformanceCounters_8 :
    (fun (s : State) (d : Option Nat) => (powered s = true) ∧ (aheadBy s (timeAt s 0x0F0008) = d) ∧ (d = none ∨ d = some 0) ∧ (s.bit 0x0F0000 21 = true))
      (st [(0x0F0000, 0x200000)]) (some 0) := by beta_reduce; refine ⟨?_, ?_, ?_, ?_⟩ <;> decide

theorem test_meets_PerformanceCounters_9 :
    (fun (s : State) => (powered s = true) ∧ (s.bit 0x0F0000 21 = false))
      (State.reset) := by beta_reduce; refine ⟨?_, ?_⟩ <;> decide

theorem test_meets_PerformanceCounters_10 :
    (fun (s : State) (m : Master) (h : Fin 4) (w : Word) => (powered s = true) ∧ (Reaches m (pmcHist h) s) ∧ (pmcMayWrite s m (pmcHist h) = true) ∧ (pmcMayOwn m (Word.slice w 22 16) = true))
      (State.reset) (.keep) (3) (0) := by beta_reduce; refine ⟨?_, ?_, ?_, ?_⟩ <;> decide

theorem test_meets_PowerAndReset_1 :
    (fun (mv : Nat) => (mv < 2700))
      (2699) := by beta_reduce; decide

theorem test_meets_PowerAndReset_2 :
    (fun (mv : Nat) => (2900 < mv))
      (2901) := by beta_reduce; decide

theorem test_meets_PowerAndReset_3 :
    (fun (mv : Nat) => (2700 ≤ mv) ∧ (mv ≤ 2900))
      (2900) := by beta_reduce; refine ⟨?_, ?_⟩ <;> decide

theorem test_meets_PowerAndReset_5 :
    (fun (us : Nat) => (us < 1000))
      (0) := by beta_reduce; decide

theorem test_meets_PowerAndReset_6 :
    (fun (us : Nat) => (1000 ≤ us))
      (1000) := by beta_reduce; decide

theorem test_meets_PowerAndReset_7 :
    (fun (s : State) (k : Nat) (mv : Nat) => (s.pwr.phase = .hold) ∧ (430 ≤ k) ∧ (700 + 5 * s.fld 0x100007 3 0 < mv))
      (tick 0 { (st []) with pwr := { State.reset.pwr with phase := .hold } }) (430) (776) := by beta_reduce; refine ⟨?_, ?_, ?_⟩ <;> decide

theorem test_meets_PowerAndReset_8 :
    (fun (s : State) (k : Nat) (mv : Nat) => (s.pwr.phase ≠ .hold ∨ k < 430 ∨ mv ≤ 700 + 5 * s.fld 0x100007 3 0))
      (tick 0 { (st []) with pwr := { State.reset.pwr with phase := .hold } }) (429) (0) := by beta_reduce; decide

theorem test_meets_PowerAndReset_9 :
    (fun (s : State) (c : Nat) => (s.pwr.resetDue = some c) ∧ (s.pwr.phase = .warned) ∧ (s.pwr.warnAt + 58 ≤ s.tick))
      (tick 58 { (st []) with pwr := { State.reset.pwr with phase := .warned, resetDue := some 4 } }) (4) := by beta_reduce; refine ⟨?_, ?_, ?_⟩ <;> decide

theorem test_meets_PowerAndReset_10 :
    (fun (s : State) => (s.pwr.resetDue = none))
      (State.reset) := by beta_reduce; decide

theorem test_meets_PowerAndReset_11 :
    (fun (n : Nat) => (n < 1000))
      (999) := by beta_reduce; decide

theorem test_meets_PowerAndReset_12 :
    (fun (s : State) (n : Nat) => (1000 ≤ n) ∧ (s.pwr.phase = .run))
      (State.reset) (1000) := by beta_reduce; refine ⟨?_, ?_⟩ <;> decide

theorem test_meets_PowerAndReset_13 :
    (fun (s : State) (n : Nat) => (1000 ≤ n) ∧ (s.pwr.phase = .reset))
      (tick 0 { (st []) with pwr := { State.reset.pwr with phase := .reset } }) (1000) := by beta_reduce; refine ⟨?_, ?_⟩ <;> decide

theorem test_meets_PowerAndReset_14 :
    (fun (s : State) (ns : Nat) => (s.pwr.phase = .run) ∧ (s.bit 0x100005 22 = true) ∧ (100 ≤ ns))
      (st [(0x100005, 0x400000)]) (100) := by beta_reduce; refine ⟨?_, ?_, ?_⟩ <;> decide

theorem test_meets_PowerAndReset_15 :
    (fun (s : State) (ns : Nat) => (s.pwr.phase = .run) ∧ (s.bit 0x100005 22 = false) ∧ (100 ≤ ns))
      (st [(0x100005, 0)]) (100) := by beta_reduce; refine ⟨?_, ?_, ?_⟩ <;> decide

theorem test_meets_PowerAndReset_16 :
    (fun (s : State) (mv : Nat) (ns : Nat) => (s.pwr.phase = .run) ∧ (mv < 700 + 5 * s.fld 0x100007 3 0) ∧ (200 ≤ ns))
      (st []) (0) (200) := by beta_reduce; refine ⟨?_, ?_, ?_⟩ <;> decide

theorem test_meets_PowerAndReset_17 :
    (fun (s : State) (ns : Nat) => (s.pwr.phase ≠ .run ∨ ns < 100))
      (tick 0 { (st []) with pwr := { State.reset.pwr with phase := .warned } }) (0) := by beta_reduce; decide

theorem test_meets_PowerAndReset_18 :
    (fun (s : State) => (s.pwr.phase = .warned) ∧ (s.pwr.resetDue = none) ∧ (s.pwr.warnAt + 63 ≤ s.tick))
      (tick 63 { (st []) with pwr := { State.reset.pwr with phase := .warned } }) := by beta_reduce; refine ⟨?_, ?_, ?_⟩ <;> decide

theorem test_meets_PowerAndReset_19 :
    (fun (s : State) (p : Fin 38) => (s.pwr.phase = .run) ∧ (s.fld 0x100000 21 18 = 0) ∧ (s.bit 0x100000 17 = false) ∧ (Tab.get 0 s.pwr.pllTries p < 2))
      (tick 0 { (st []) with pwr := { State.reset.pwr with pllTries := [(37, 1)] } }) (37) := by beta_reduce; refine ⟨?_, ?_, ?_, ?_⟩ <;> decide

theorem test_meets_PowerAndReset_20 :
    (fun (s : State) => (s.pwr.phase = .run) ∧ (s.fld 0x100000 21 18 = 0) ∧ (s.bit 0x100000 17 = false) ∧ (Tab.get 0 s.pwr.pllTries 0 = 2))
      (tick 0 { (st []) with pwr := { State.reset.pwr with pllTries := [(0, 2)] } }) := by beta_reduce; refine ⟨?_, ?_, ?_, ?_⟩ <;> decide

theorem test_meets_PowerAndReset_21 :
    (fun (s : State) (m : Master) => (Reaches m 0x100004 s) ∧ (m = .keep) ∧ (s.pwr.resetDue = none))
      (State.reset) (.keep) := by beta_reduce; refine ⟨?_, ?_, ?_⟩ <;> decide

theorem test_meets_PowerAndReset_22 :
    (fun (s : State) (m : Master) (w : Word) => (Reaches m 0x100004 s) ∧ (w ≠ 0x5AA5C3))
      (State.reset) (.keep) (0) := by beta_reduce; refine ⟨?_, ?_⟩ <;> decide

theorem test_meets_PowerAndReset_23 :
    (fun (s : State) (m : Master) => (Reaches m 0x100006 s) ∧ (m = .keep))
      (State.reset) (.keep) := by beta_reduce; refine ⟨?_, ?_⟩ <;> decide

theorem test_meets_PowerAndReset_24 :
    (fun (s : State) (m : Master) (w : Word) => (Reaches m 0x100006 s) ∧ (w ≠ 0xA55A3C))
      (State.reset) (.keep) (0) := by beta_reduce; refine ⟨?_, ?_⟩ <;> decide

theorem test_meets_PowerAndReset_25 :
    (fun (s : State) => (powered s = true) ∧ (s.pwr.safeHold = none) ∧ (2 ^ s.fld 0x100005 15 11 / 2 ≤ s.pwr.wdAge))
      (tick 0 { (st []) with pwr := { State.reset.pwr with wdAge := 2 ^ 30 } }) := by beta_reduce; refine ⟨?_, ?_, ?_⟩ <;> decide

theorem test_meets_PowerAndReset_26 :
    (fun (s : State) => (s.pwr.wdAge < 2 ^ s.fld 0x100005 15 11 / 2))
      (st [(0x100005, 0x000800)]) := by beta_reduce; decide

theorem test_meets_PowerAndReset_27 :
    (fun (s : State) => (s.pwr.phase = .run) ∧ (s.pwr.safeHold = none) ∧ (2 ^ s.fld 0x100005 15 11 ≤ s.pwr.wdAge))
      (tick 0 { (st []) with pwr := { State.reset.pwr with wdAge := 2 ^ 30 } }) := by beta_reduce; refine ⟨?_, ?_, ?_⟩ <;> decide

theorem test_meets_PowerAndReset_28 :
    (fun (s : State) => (s.pwr.wdAge < 2 ^ s.fld 0x100005 15 11))
      (State.reset) := by beta_reduce; decide

theorem test_meets_PowerAndReset_29 :
    (fun (s : State) => (s.pwr.phase = .run) ∧ (s.pwr.safeHold.isSome = true) ∧ (s.fld 0x100005 4 0 ≠ 0) ∧ (2 ^ s.fld 0x100005 4 0 ≤ s.pwr.holdAge))
      (tick 0 { (st [(0x100005, 1)]) with pwr := { State.reset.pwr with safeHold := some 1, holdAge := 2 } }) := by beta_reduce; refine ⟨?_, ?_, ?_, ?_⟩ <;> decide

theorem test_meets_PowerAndReset_30 :
    (fun (s : State) => (s.fld 0x100005 4 0 = 0 ∨ s.pwr.safeHold = none))
      (State.reset) := by beta_reduce; decide

theorem test_meets_BootAndApplianceMode_1 :
    (fun (s : State) => (s.pwr.phase ≠ .run ∨ s.fld 0x100000 23 18 ≠ 0))
      (st [(0x100000, 0x800000)]) := by beta_reduce; decide

theorem test_meets_BootAndApplianceMode_2 :
    (fun (s : State) (env : BootEnv) => (s.pwr.phase = .run) ∧ (s.fld 0x100000 23 18 = 0) ∧ (s.pwr.resetDue = none) ∧ (env.fabricPll = false))
      (State.reset) (⟨false, true, true, 0, true, true, true, true, true, 0⟩) := by beta_reduce; refine ⟨?_, ?_, ?_, ?_⟩ <;> decide

theorem test_meets_BootAndApplianceMode_3 :
    (fun (s : State) (env : BootEnv) (u : State) => (s.pwr.phase = .run) ∧ (s.fld 0x100000 23 18 = 0) ∧ (s.pwr.resetDue = none) ∧ (env.fabricPll = true) ∧ (unfinishedRecord (bootZero s) = none) ∧ (u = levelShow (lifeCycleRead (bootZero s))) ∧ (u.lcs = 5))
      ({ State.reset with nva := { State.reset.nva with rows := [] } }) (⟨true, true, true, 0, true, true, true, true, true, 0⟩) (levelShow (lifeCycleRead (bootZero ({ State.reset with nva := { State.reset.nva with rows := [] } })))) := by beta_reduce; refine ⟨?_, ?_, ?_, ?_, ?_, ?_, ?_⟩ <;> decide

theorem test_meets_BootAndApplianceMode_4 :
    (fun (s : State) (env : BootEnv) (u : State) => (s.pwr.phase = .run) ∧ (s.fld 0x100000 23 18 = 0) ∧ (s.pwr.resetDue = none) ∧ (env.fabricPll = true) ∧ (unfinishedRecord (bootZero s) = none) ∧ (u = levelShow (lifeCycleRead (bootZero s))) ∧ (u.lcs ≠ 5) ∧ (env.image0 = false) ∧ (env.image1 = false))
      (State.reset) (⟨true, false, false, 0, true, true, true, true, true, 0⟩) (levelShow (lifeCycleRead (bootZero State.reset))) := by beta_reduce; refine ⟨?_, ?_, ?_, ?_, ?_, ?_, ?_, ?_, ?_⟩ <;> decide

theorem test_meets_BootAndApplianceMode_5 :
    (fun (s : State) (env : BootEnv) (u : State) (b : Nat) => (s.pwr.phase = .run) ∧ (s.fld 0x100000 23 18 = 0) ∧ (s.pwr.resetDue = none) ∧ (env.fabricPll = true) ∧ (unfinishedRecord (bootZero s) = none) ∧ (u = levelShow (lifeCycleRead (bootZero s))) ∧ (u.lcs ≠ 5) ∧ (bootBank env (bootRecover u) = some b) ∧ (env.pierImage = true))
      (State.reset) (⟨true, true, true, 0, true, true, true, true, true, 0⟩) (levelShow (lifeCycleRead (bootZero State.reset))) (0) := by beta_reduce; refine ⟨?_, ?_, ?_, ?_, ?_, ?_, ?_, ?_, ?_⟩ <;> decide

theorem test_meets_BootAndApplianceMode_6 :
    (fun (s : State) => (s.pwr.phase = .run) ∧ (s.fld 0x100000 23 18 = 10) ∧ (s.pwr.resetDue = none) ∧ (s.bit 0x090001 23 = true))
      (st [(0x100000, 0x280000), (0x090001, 0x800000)]) := by beta_reduce; refine ⟨?_, ?_, ?_, ?_⟩ <;> decide

theorem test_meets_BootAndApplianceMode_7 :
    (fun (s : State) => (s.fld 0x100000 23 18 ≠ 10 ∨ s.bit 0x090001 23 = false))
      (State.reset) := by beta_reduce; decide

theorem test_meets_BootAndApplianceMode_8 :
    (fun (s : State) (n : Nat) => (s.stk.quiet = some n) ∧ (2500000 ≤ n) ∧ (s.lcs = 2) ∧ (s.nva.config = none) ∧ (s.dataPlane = true))
      ({ (st [(0x070000, 0x000502), (0x100000, 0x800000)]) with stk := { State.reset.stk with quiet := some 2500000 } }) (2500000) := by beta_reduce; refine ⟨?_, ?_, ?_, ?_, ?_⟩ <;> decide

theorem test_meets_BootAndApplianceMode_9 :
    (fun (s : State) (n : Nat) => (s.stk.quiet = some n) ∧ (n < 2500000))
      ({ State.reset with stk := { State.reset.stk with quiet := some 0 } }) (0) := by beta_reduce; refine ⟨?_, ?_⟩ <;> decide

theorem test_meets_BootAndApplianceMode_10 :
    (fun (s : State) => (powered s = true) ∧ (s.stk.endAppliance = true))
      ({ State.reset with stk := { State.reset.stk with endAppliance := true } }) := by beta_reduce; refine ⟨?_, ?_⟩ <;> decide

theorem test_meets_BootAndApplianceMode_11 :
    (fun (s : State) => (s.stk.endAppliance = false))
      (State.reset) := by beta_reduce; decide

theorem test_meets_BootAndApplianceMode_12 :
    (fun (s : State) (g : Fin 4) (i : Nat) (b : Nat) => (powered s = true) ∧ (s.stk.appliance = true) ∧ (lineGroupUp s g = false) ∧ (Tab.get (0, 0) s.stk.tries g = (i, b)) ∧ (i < 5) ∧ (b + 2 ^ 22 ≤ s.tick))
      (tick (2 ^ 22) { State.reset with stk := { State.reset.stk with appliance := true } }) (3) (0) (0) := by beta_reduce; refine ⟨?_, ?_, ?_, ?_, ?_, ?_⟩ <;> decide

theorem test_meets_BootAndApplianceMode_13 :
    (fun (s : State) (g : Fin 4) => (lineGroupUp s g = true))
      (st [(portReg 31 1, 4)]) (3) := by beta_reduce; decide

theorem test_meets_ResetLeavesGraversEmpty_1 :
    (fun (t : State) => (t = State.reset ∨ ∃ (c : Nat) (s : State), t = deviceReset c s))
      (State.reset) := .inl rfl

theorem test_meets_ResetLeavesGraversEmpty_2 :
    (fun (t : State) (g : GraverState) => (t = State.reset ∨ ∃ (c : Nat) (s : State), t = deviceReset c s) ∧ (g.list = []))
      (State.reset) (GraverState.init) := ⟨.inl rfl, rfl⟩

theorem test_meets_ResetLeavesGraversEmpty_3 :
    (fun (t : State) => (t = State.reset ∨ ∃ (c : Nat) (s : State), t = deviceReset c s))
      (State.reset) := .inl rfl

theorem test_meets_ResetLeavesGraversEmpty_4 :
    (fun (t : State) => (t = State.reset ∨ ∃ (c : Nat) (s : State), t = deviceReset c s))
      (State.reset) := .inl rfl

end Sys2Proof.Tests
end

section
/-! SUPPORT. A core's memory past its store buffer, its windows, and what an exception entry stores and sets (R211, R224, R234). -/

namespace Sys2Proof.Machine

/-- A word written past the store buffer supersedes the pending stores of its address, and no others. -/
theorem CoreState.pending_store (c : CoreState) (a : Nat) (w : Word) (b : Nat) :
    (c.store a w).pending b = if b = a then none else c.pending b := by
  unfold CoreState.pending CoreState.store
  rw [← List.filter_reverse]
  induction c.stb.reverse with
  | nil => simp
  | cons e l ih =>
    cases e with
    | data x y =>
      by_cases hx : x = a
      · by_cases hb : b = a
        · simp_all
        · simpa [hx, hb, Ne.symm hb] using ih
      · by_cases hxb : x = b
        · simp [hxb, hxb ▸ hx]
        · simpa [hx, hxb] using ih
    | io x y z => simpa using ih

/-- What a core loads after a write past its store buffer. -/
theorem CoreState.load_store (c : CoreState) (a : Nat) (w : Word) (b : Nat) :
    (c.store a w).load b = if b = a then w else c.load b := by
  unfold CoreState.load
  rw [CoreState.pending_store]
  by_cases h : b = a <;> simp [h, CoreState.store, CoreState.poke, Tab.get_set]

theorem CoreState.load_congr {c d : CoreState} (hs : d.stb = c.stb) (hd : d.data = c.data) (a : Nat) : d.load a = c.load a := by
  unfold CoreState.load CoreState.pending
  rw [hs, hd]

theorem CoreState.setReg_seven (c : CoreState) (v : Word) : c.setReg 7 v = { c with g := Tab.set 0 c.g 7 v } := by
  unfold CoreState.setReg
  rw [if_pos (by decide)]

theorem CoreState.foldl_store_eq (l : List Nat) (f : Nat → Nat) (g : Nat → Word) (c : CoreState) :
    ∃ stb data, l.foldl (fun (d : CoreState) k => d.store (f k) (g k)) c = { c with stb := stb, data := data } := by
  induction l generalizing c with
  | nil => exact ⟨c.stb, c.data, rfl⟩
  | cons k l ih => exact ih (c.store (f k) (g k))

theorem CoreState.spill_eq (c : CoreState) : ∃ stb data res, c.spill = { c with stb := stb, data := data, res := res } := by
  unfold CoreState.spill
  extract_lets f r d
  obtain ⟨stb, data, h⟩ : ∃ stb data, d = { c with stb := stb, data := data } := CoreState.foldl_store_eq ..
  exact ⟨stb, data, d.res - 1, by rw [h]⟩

/-- A spill moves a window to memory; the registers that the core sees stay. -/
theorem CoreState.makeRoom_eq (c : CoreState) :
    ∃ stb data res, c.makeRoom.1 = { c with stb := stb, data := data, res := res } := by
  unfold CoreState.makeRoom
  split
  · exact c.spill_eq
  · exact ⟨c.stb, c.data, c.res, rfl⟩

theorem State.core_setCore (s : State) (n : Nat) (c : CoreState) (m : Nat) :
    (s.setCore n c).core m = if m = n then c else s.core m := by
  unfold State.core State.setCore
  by_cases h : m = n
  · subst h; simp [Tab.get_set]
  · simp [h, Tab.get_set_ne]

/-- The memory of core `c` after the stores of an exception entry (R234): four words of the record at g7 − 20, then the shadow entry. -/
def entryMemory (c : CoreState) (cause resume : Word) : CoreState :=
  let r := (c.reg 7).toNat - 20
  (((((c.store (r + 19) cause).store (r + 18) c.psr).store (r + 17) resume).store (r + 16) c.rp).store (c.ssp.toNat - 2) resume).store
    (c.ssp.toNat - 2 + 1) (BitVec.ofNat 24 r ||| 0x800000)

/-- An exception entry is its stores and a change of the named registers. -/
theorem entryCore_eq (n v cause eval : Nat) (resume : Word) (c : CoreState) (r : Word) (hr : r = BitVec.ofNat 24 ((c.reg 7).toNat - 20)) :
    entryCore n v cause eval resume c = { entryMemory c (BitVec.ofNat 24 cause) resume with
      g := Tab.set 0 c.g 7 r
      recordOf := Tab.set 0 c.recordOf c.cwp r
      rp := r
      ssp := BitVec.ofNat 24 (c.ssp.toNat - 2)
      cwp := (c.cwp + 1) % 15
      res := c.res + 1
      epc := resume
      esr := c.psr
      ecause := BitVec.ofNat 24 cause
      eval := BitVec.ofNat 24 eval
      psr := Word.put (Word.put c.psr 19 18 (if n = 0 then 3 else 1)) 17 17 0
      pc := c.vbase + BitVec.ofNat 24 (2 * v)
      idle := false } := by
  subst hr
  simp only [entryCore, entryMemory, CoreState.shadowPush, CoreState.nextWindow, CoreState.setReg_seven, CoreState.store, CoreState.poke]

theorem entryMemory_load (c : CoreState) (cause resume : Word) (a : Nat) :
    (entryMemory c cause resume).load a =
      if a = c.ssp.toNat - 2 + 1 then BitVec.ofNat 24 ((c.reg 7).toNat - 20) ||| 0x800000
      else if a = c.ssp.toNat - 2 then resume
      else if a = (c.reg 7).toNat - 20 + 16 then c.rp
      else if a = (c.reg 7).toNat - 20 + 17 then resume
      else if a = (c.reg 7).toNat - 20 + 18 then c.psr
      else if a = (c.reg 7).toNat - 20 + 19 then cause
      else c.load a := by
  unfold entryMemory
  simp only [CoreState.load_store]

theorem ofNat_toNat_sub {a : Word} {k : Nat} (h : k ≤ a.toNat) : BitVec.ofNat 24 (a.toNat - k) = a - BitVec.ofNat 24 k := by
  bv_omega

theorem bounds_of_entryFits {n : Nat} {c : CoreState} (h : entryFits n c = true) :
    20 ≤ (c.reg 7).toNat ∧ shadowBase n + 2 ≤ c.ssp.toNat := by
  simp only [entryFits, Bool.and_eq_true, Bool.not_eq_true', decide_eq_false_iff_not] at h
  omega

end Sys2Proof.Machine
end

section
/-! SUPPORT. Taking an exception: the core that `enter` leaves, and what the rest of the device keeps (R234). -/

namespace Sys2Proof.Machine

/-- The cores and registers of `t` are those of `s` but for what the cycles of core `n` are charged to: its count of cycles and its
spill counter CORE_n_SPILL. -/
structure Charged (n : Nat) (s t : State) : Prop where
  core : ∃ u, t.core n = { s.core n with used := u }
  others : OthersKept s t n
  regs : ∀ a, a ≠ coreReg n 0x12 → t.rd a = s.rd a

theorem Charged.of_eq {n : Nat} {s t : State} (hc : t.cores = s.cores) (hi : t.io = s.io) : Charged n s t := by
  have core (m : Nat) : t.core m = s.core m := by unfold State.core; rw [hc]
  exact ⟨⟨(s.core n).used, core n⟩, fun m _ => core m, fun a _ => State.rd_congr hi a⟩

theorem Charged.trans {n : Nat} {r s t : State} (h : Charged n r s) (g : Charged n s t) : Charged n r t := by
  obtain ⟨⟨u, hu⟩, ho, hr⟩ := h
  obtain ⟨⟨v, hv⟩, go, gr⟩ := g
  exact ⟨⟨v, by rw [hv, hu]⟩, fun m hm => (go m hm).trans (ho m hm), fun a ha => (gr a ha).trans (hr a ha)⟩

theorem charged_useCycles (n k : Nat) (s : State) : Charged n s (useCycles n k s) where
  core := ⟨(s.core n).used + k, (State.core_setCore ..).trans (if_pos rfl)⟩
  others _ hm := (State.core_setCore ..).trans (if_neg hm)
  regs _ _ := rfl

theorem charged_windowCount (n k priv : Nat) (s : State) : Charged n s (windowCount n false k priv s) := by
  unfold windowCount
  split
  · exact .of_eq rfl rfl
  · exact ⟨⟨(s.core n).used, rfl⟩, fun _ _ => rfl, fun a ha => State.rd_wr_ne _ _ ha⟩

theorem charged_fetchCost (n : Nat) (s : State) : Charged n s (fetchCost n s) := by
  unfold fetchCost
  extract_lets a r f hit
  split
  · next hn =>
    subst hn
    split
    · exact .of_eq rfl rfl
    · split
      · exact .of_eq rfl rfl
      · exact (Charged.of_eq rfl rfl).trans ((charged_useCycles 0 6 _).trans (.of_eq rfl rfl))
  · exact .of_eq rfl rfl

theorem drainFirst_of_drained {n : Nat} {s : State} (h : (s.core n).stb = []) : drainFirst n s = s := by
  unfold drainFirst
  rw [h]
  rfl

/-- An entry that finds room makes `entryCore` of the core; the rest is the charge for its cycles. -/
theorem enter_charged (n v low eval : Nat) (resume : Word) (s : State) (hd : (s.core n).stb = []) (hf : entryFits n (s.core n) = true) :
    Charged n (s.setCore n (entryCore n v (v * 2 ^ 8 + low) eval resume (s.core n).makeRoom.1)) (enter n v low eval resume s) := by
  unfold enter
  rw [drainFirst_of_drained hd]
  extract_lets s₀ pwr s₁ c
  have hs : s₁.cores = s.cores ∧ s₁.io = s.io := by
    unfold s₁
    split
    · exact ⟨rfl, rfl⟩
    · split <;> exact ⟨rfl, rfl⟩
  obtain ⟨hcores, hio⟩ := hs
  have hc : c = s.core n := by unfold c State.core; rw [hcores]
  rw [hc, hf]
  simp only [Bool.not_true, Bool.false_eq_true, if_false]
  refine .trans ?_ (charged_fetchCost n _)
  refine .trans ?_ (.of_eq (State.pmcEvent_cores _ _) (State.pmcEvent_io _ _))
  refine .trans ?_ (charged_windowCount n _ _ _)
  refine .trans ?_ (charged_useCycles n _ _)
  exact .of_eq (congrArg (fun x => Tab.set (CoreState.init n) x n _) hcores) hio

/-- What `Enters` says of the core alone: `d` is core `n` after an entry that found it as `c`, with room in its windows. -/
structure EntryMade (n v cause eval : Nat) (resume : Word) (c d : CoreState) : Prop where
  pc : d.pc = c.vbase + BitVec.ofNat 24 (2 * v)
  epc : d.epc = resume
  esr : d.esr = c.psr
  ecause : d.ecause = BitVec.ofNat 24 cause
  eval : d.eval = BitVec.ofNat 24 eval
  psr : d.psr = Word.put (Word.put c.psr 19 18 (if n = 0 then 3 else 1)) 17 17 0
  rp : d.rp = c.reg 7 - 20
  g7 : d.reg 7 = c.reg 7 - 20
  record : d.load ((c.reg 7).toNat - 1) = BitVec.ofNat 24 cause ∧ d.load ((c.reg 7).toNat - 2) = c.psr
    ∧ d.load ((c.reg 7).toNat - 3) = resume ∧ d.load ((c.reg 7).toNat - 4) = c.rp
  shadow : d.ssp = c.ssp - 2 ∧ d.load (c.ssp.toNat - 2) = resume ∧ d.load (c.ssp.toNat - 1) = d.rp ||| 0x800000
  window : d.cwp = (c.cwp + 1) % 15

/-- An entry into windows with room, whose record lies below its shadow entry, so that neither overwrites the other. -/
theorem entryMade_entryCore (n v cause eval u : Nat) (resume : Word) (c d : CoreState) (h20 : 20 ≤ (c.reg 7).toNat)
    (hssp : (c.reg 7).toNat + 2 ≤ c.ssp.toNat) (hd : d = { entryCore n v cause eval resume c with used := u }) :
    EntryMade n v cause eval resume c d := by
  rw [entryCore_eq _ _ _ _ _ _ (c.reg 7 - 20) (ofNat_toNat_sub h20).symm] at hd
  have hrp : d.rp = c.reg 7 - 20 := by rw [hd]
  have hload (a : Nat) : d.load a = (entryMemory c (BitVec.ofNat 24 cause) resume).load a :=
    CoreState.load_congr (by rw [hd]) (by rw [hd]) a
  simp only [entryMemory_load] at hload
  exact {
    pc := by rw [hd]
    epc := by rw [hd]
    esr := by rw [hd]
    ecause := by rw [hd]
    eval := by rw [hd]
    psr := by rw [hd]
    rp := hrp
    g7 := by rw [hd]; exact (Tab.get_set ..).trans (if_pos rfl)
    record := by
      refine ⟨?_, ?_, ?_, ?_⟩ <;> rw [hload]
      · iterate 5 rw [if_neg (by omega)]
        rw [if_pos (by omega)]
      · iterate 4 rw [if_neg (by omega)]
        rw [if_pos (by omega)]
      · iterate 3 rw [if_neg (by omega)]
        rw [if_pos (by omega)]
      · iterate 2 rw [if_neg (by omega)]
        rw [if_pos (by omega)]
    shadow := by
      refine ⟨by rw [hd]; exact ofNat_toNat_sub (by omega), ?_, ?_⟩ <;> rw [hload]
      · rw [if_neg (by omega), if_pos rfl]
      · rw [if_pos (by omega), hrp, ofNat_toNat_sub h20]; rfl
    window := by rw [hd] }

/-- Every exception that finds room and an empty store buffer is entered as R234 says, whether or not a window spills. -/
theorem enters_enter (n v low eval : Nat) (resume : Word) (s : State) (hd : (s.core n).stb = []) (hr : Room s n) :
    Enters s (enter n v low eval resume s) n v low eval resume := by
  obtain ⟨hf, hg7⟩ := hr
  obtain ⟨⟨u, hcore⟩, others, regs⟩ := enter_charged n v low eval resume s hd hf
  obtain ⟨h20, hssp⟩ := bounds_of_entryFits hf
  obtain ⟨stb, data, res, hroom⟩ := (s.core n).makeRoom_eq
  rw [State.core_setCore, if_pos rfl, hroom] at hcore
  have below : ((s.core n).reg 7).toNat + 2 ≤ (s.core n).ssp.toNat := by omega
  obtain ⟨pc, epc, esr, ecause, eval', psr, rp, g7, record, shadow, window⟩ :=
    entryMade_entryCore n v _ eval u resume { s.core n with stb := stb, data := data, res := res } _ h20 below hcore
  have rest : OthersKept s (enter n v low eval resume s) n := fun m hm =>
    (others m hm).trans ((State.core_setCore ..).trans (if_neg hm))
  exact ⟨pc, epc, esr, ecause, eval', psr, rp, g7, record, shadow, window, rest, regs⟩

end Sys2Proof.Machine
end

section
/-! SUPPORT. Register accesses: who reaches which register, what an access out of grant or with a failed mark leaves, and what the
commands of a register access come to (R2–R5, R7, R29, R30). -/

namespace Sys2Proof.Machine

/-! ### Counters -/

/-- Writes of registers change the register table alone. -/
theorem State.wrN_onlyIo (s : State) (a n v : Nat) : { s.wrN a n v with io := s.io } = s := by
  have key (n : Nat) : ∀ (r : State) (a v : Nat), s = { r with io := s.io } → { r.wrN a n v with io := s.io } = s := by
    induction n with
    | zero => exact fun r a v h => h.symm
    | succ n ih => exact fun r a v h => ih (r.wr a (BitVec.ofNat 24 v)) (a + 1) (v / 2 ^ 24) h
  exact key n s a v rfl

theorem RegsKept.of_io {s t u : State} {l : List Nat} (h : RegsKept s t l) (hio : u.io = t.io) : RegsKept s u l :=
  fun a ha => (State.rd_congr hio a).trans (h a ha)

theorem State.rdN_of_io {s t : State} (h : t.io = s.io) (a n : Nat) : t.rdN a n = s.rdN a n :=
  State.rdN_congr fun b _ _ => State.rd_congr h b

theorem State.count_onlyIo (s : State) (a k : Nat) : { s.count a k with io := s.io } = s := State.wrN_onlyIo ..

/-- A 48-bit counter is two registers (R5). -/
theorem State.regsKept_count (s : State) (a k : Nat) : RegsKept s (s.count a k) [a, a + 1] := by
  intro b hb
  simp only [List.mem_cons, List.not_mem_nil, or_false, not_or] at hb
  exact State.rd_count_ne s k hb.1 hb.2

/-! ### Masters -/

@[simp] theorem isKeep_eq_true_iff (m : Master) : isKeep m = true ↔ m = .keep := by
  cases m <;> simp [isKeep]

theorem barMaster_zero : barMaster 0 = .pf := rfl

theorem barMaster_succ (v : Fin 256) (h : v.val + 1 < 257) : barMaster ⟨v.val + 1, h⟩ = .vf v := by
  unfold barMaster
  rw [dif_neg (by simp)]
  simp

theorem barAddr_zero (off : BitVec 26) : barAddr 0 off = off.toNat / 4 := rfl

theorem barAddr_succ (v : Fin 256) (h : v.val + 1 < 257) (off : BitVec 26) :
    barAddr ⟨v.val + 1, h⟩ off = 0x800000 + 0x8000 * v.val + off.toNat / 4 % 0x8000 := by
  unfold barAddr
  rw [if_neg (by simp)]
  simp

theorem accessRefused_bar (fn : Fin 257) (a : Nat) (s : State) : accessRefused (barMaster fn) a s = s.count 0x0A001C := by
  unfold barMaster
  split <;> rfl

theorem readMarkFail_bar (fn : Fin 257) (a : Nat) (s : State) :
    readMarkFail (barMaster fn) a s = State.count { markMismatch s with answered := false } 0x0A001E := by
  unfold barMaster
  split <;> rfl

/-! ### Accesses within and out of grant (R30) -/

section
variable {s : State} {m : Master} {a : Nat}

/-- Within the grant a write is the register's own. -/
theorem regWrite_of_reaches (h : Reaches m a s) (w : Word) : regWrite m a w s = ioWrite m a w s := by
  obtain ⟨hp, hw⟩ := h
  simp [regWrite, hp, hw]

theorem regWrite_of_refused (hp : powered s = true) (h : mayWrite s m a = false) (w : Word) : regWrite m a w s = accessRefused m a s := by
  simp [regWrite, hp, h]

theorem regRead_of_reads (h : Reads m a s) : regRead m a true s = answering (ioRead m a s).1 (ioRead m a s).2 := by
  obtain ⟨hp, hr⟩ := h
  simp [regRead, answering, hp, hr]

theorem regRead_of_refused (hp : powered s = true) (h : mayRead s m a = false) (mark : Bool) :
    regRead m a mark s = answering 0 (accessRefused m a s) := by
  simp [regRead, answering, hp, h]

theorem regRead_of_badMark (h : Reads m a s) : regRead m a false s = readMarkFail m a s := by
  obtain ⟨hp, hr⟩ := h
  simp [regRead, hp, hr]

end

/-! ### A failed word mark -/

/-- A failed mark on a running device shows at once in no register but PPT_B_STAT, and there only where its class erases. -/
theorem markMismatch_rd {s : State} (hp : powered s = true) {a : Nat} (ha : a ≠ 0x080041) : (markMismatch s).rd a = s.rd a := by
  have hoff : decide (s.pwr.phase = .off) = false := by
    unfold powered at hp
    cases h : s.pwr.phase <;> simp_all
  unfold markMismatch pptFire
  have hl : pptLasting 47 = false := by decide
  simp only [hoff, hl, State.onlyIf, Bool.false_eq_true, if_false]
  split
  · exact State.rd_put_ne _ _ _ _ ha
  · rfl

/-! ### Writes of the registers that the statement names -/

/-- A dword's word is its low 24 bits. -/
theorem setWidth_low_dword (w : BitVec 32) : (w &&& 0x00FFFFFF).setWidth 24 = w.setWidth 24 := by
  apply BitVec.eq_of_toNat_eq
  rw [BitVec.toNat_setWidth, BitVec.toNat_setWidth, BitVec.toNat_and]
  exact (congrArg (· % 2 ^ 24) (Nat.and_two_pow_sub_one_eq_mod w.toNat 24)).trans (Nat.mod_mod ..)

theorem regAt_hifEvtEn : regAt 0x0A0002 = some ⟨0xa0002, [], 0x0, 0x0, 0x1f, 0x0, 0x0, none, []⟩ := rfl
theorem regAt_lcsState : regAt 0x070000 = none := rfl

theorem plainWrite_of_unlisted {a : Nat} (h : regAt a = none) (keep : Bool) (w : Word) (s : State) : plainWrite keep a w s = s := by
  unfold plainWrite
  rw [h]

theorem maskWrite_zero (x y : Word) : maskWrite x y 0 = x := by
  simpa [maskWrite] using BitVec.and_allOnes (x := x)

/-- A register of RWK bits alone takes them from KEEP and from no other master (R7). -/
theorem plainWrite_rwk {a mask : Nat} (h : regAt a = some ⟨a, [], 0, 0, mask, 0, 0, none, []⟩) (m : Master) (w : Word) (s : State) :
    plainWrite (isKeep m) a w s = s.wr a (if m = .keep then maskWrite (s.rd a) w mask else s.rd a) := by
  have ones (x : Word) : x &&& 16777215#24 = x := BitVec.and_allOnes
  unfold plainWrite
  rw [h]
  by_cases hk : m = .keep
  · simp [plainValue, keepReserved, maskWrite_zero, ones, hk, isKeep]
  · simp [plainValue, keepReserved, maskWrite_zero, ones, hk]

/-! ### What the two commands come to -/

theorem exec_registerWrite_io (m : Master) (a : BitVec 24) (w : BitVec 32) (s : State) :
    exec (.registerWrite (.io m a) w) s = .next (regWrite m a.toNat (w.setWidth 24) s) := rfl

theorem exec_registerWrite_bar (fn : Fin 257) (off : BitVec 26) {be : BitVec 4} (hb : be.toNat % 8 = 7) (w : BitVec 32) (s : State) :
    exec (.registerWrite (.bar fn off be) w) s = .next (regWrite (barMaster fn) (barAddr fn off) (w.setWidth 24) s) :=
  congrArg Host.Outcome.next (if_pos hb)

theorem exec_registerWrite_bar_partial (fn : Fin 257) (off : BitVec 26) {be : BitVec 4} (hb : be.toNat % 8 ≠ 7) (w : BitVec 32) {s : State}
    (hp : powered s = true) : exec (.registerWrite (.bar fn off be) w) s = .next (s.count 0x0A001A) :=
  congrArg Host.Outcome.next ((if_neg hb).trans (if_pos hp))

theorem exec_hostRegisterRead (fn : Fin 257) (off : BitVec 26) (mark : Bool) (s : State) :
    exec (.hostRegisterRead fn off mark) s = .next { regRead (barMaster fn) (barAddr fn off) mark s with
      dword := (regRead (barMaster fn) (barAddr fn off) mark s).answer.setWidth 32 } := rfl

/-- HIF_EVT_EN stands for the code RWK (R7). -/
theorem exec_hostRegisterRead_of_reads {fn : Fin 257} {off : BitVec 26} {s : State} (h : Reads (barMaster fn) (barAddr fn off) s) :
    exec (.hostRegisterRead fn off true) s = .next { answering (ioRead (barMaster fn) (barAddr fn off) s).1
      (ioRead (barMaster fn) (barAddr fn off) s).2 with dword := (ioRead (barMaster fn) (barAddr fn off) s).1.setWidth 32 } := by
  rw [exec_hostRegisterRead, regRead_of_reads h]
  rfl

end Sys2Proof.Machine
end

section
/-! PROOFS. The statement about register accesses, clause by clause. -/

namespace Sys2Proof.Machine

/-! ### Writes -/

theorem hifEvtEn_write (m : Master) (w : BitVec 32) (s : State) (h : Reaches m 0x0A0002 s) :
    Does (.registerWrite (.io m 0x0A0002) w) s fun t => { t with io := s.io } = s
      ∧ (∀ a, a ≠ 0x0A0002 → t.rd a = s.rd a)
      ∧ t.rd 0x0A0002 = if m = .keep then (s.rd 0x0A0002 &&& ~~~0x00001F) ||| (w.setWidth 24 &&& 0x00001F) else s.rd 0x0A0002 := by
  have e : regWrite m 0x0A0002 (w.setWidth 24) s = s.wr 0x0A0002 _ :=
    (regWrite_of_reaches h _).trans (plainWrite_rwk regAt_hifEvtEn m _ s)
  exact ⟨_, (exec_registerWrite_io ..).trans (congrArg _ e), rfl, fun a ha => State.rd_wr_ne _ _ ha, State.rd_wr_self ..⟩

/-- LCS_STATE stands for the code RO (R7). -/
theorem lcsState_write (m : Master) (w : BitVec 32) (s : State) (h : Reaches m 0x070000 s) :
    Does (.registerWrite (.io m 0x070000) w) s fun t => { t with io := s.io } = s ∧ ∀ a, t.rd a = s.rd a := by
  have e : regWrite m 0x070000 (w.setWidth 24) s = s :=
    (regWrite_of_reaches h _).trans (plainWrite_of_unlisted regAt_lcsState (isKeep m) (w.setWidth 24) s)
  exact ⟨s, (exec_registerWrite_io ..).trans (congrArg _ e), rfl, fun _ => rfl⟩

/-- The physical function's BAR0 is all of I/O space (R3). -/
theorem pf_bar_write (a : Fin 0x1000000) (off : BitVec 26) (be : BitVec 4) (w : BitVec 32) (s : State) (hb : be.toNat % 8 = 7)
    (ha : 4 * a.val = off.toNat) :
    exec (.registerWrite (.bar 0 off be) w) s = exec (.registerWrite (.io .pf (BitVec.ofNat 24 a)) (w &&& 0x00FFFFFF)) s := by
  have hoff : barAddr 0 off = (BitVec.ofNat 24 a.val).toNat := by
    rw [barAddr_zero, BitVec.toNat_ofNat]
    omega
  rw [exec_registerWrite_bar 0 off hb, exec_registerWrite_io, setWidth_low_dword, hoff, barMaster_zero]

/-- A virtual function's BAR0 is its tenant's window (R3). -/
theorem vf_bar_write (v : Fin 256) (a : Fin 0x8000) (off : BitVec 26) (be : BitVec 4) (w : BitVec 32) (s : State) (hb : be.toNat % 8 = 7)
    (ha : 4 * a.val = off.toNat) :
    exec (.registerWrite (.bar ⟨v.val + 1, by omega⟩ off be) w) s
      = exec (.registerWrite (.io (.vf v) (BitVec.ofNat 24 (0x800000 + 0x8000 * v.val + a))) (w &&& 0x00FFFFFF)) s := by
  have hv : v.val + 1 < 257 := by omega
  have hoff : barAddr ⟨v.val + 1, hv⟩ off = (BitVec.ofNat 24 (0x800000 + 0x8000 * v.val + a)).toNat := by
    rw [barAddr_succ, BitVec.toNat_ofNat]
    omega
  rw [exec_registerWrite_bar _ off hb, exec_registerWrite_io, setWidth_low_dword, hoff, barMaster_succ]

/-- Byte enables that do not cover the word (R4). -/
theorem partial_bar_write (fn : Fin 257) (off : BitVec 26) (w : BitVec 32) (be : BitVec 4) (s : State) (hp : powered s = true)
    (hb : be.toNat % 8 ≠ 7) :
    Does (.registerWrite (.bar fn off be) w) s fun t => RegsKept s t [0x0A001A, 0x0A001B] ∧ { t with io := s.io } = s
      ∧ t.rdN 0x0A001A 2 = min (s.rdN 0x0A001A 2 + 1) (2 ^ 48 - 1) :=
  ⟨_, exec_registerWrite_bar_partial fn off hb w hp, State.regsKept_count s 0x0A001A 1, State.count_onlyIo s 0x0A001A 1,
    State.rdN_count s 0x0A001A 1⟩

/-- A host's write out of grant (R30). -/
theorem refused_bar_write (fn : Fin 257) (off : BitVec 26) (w : BitVec 32) (be : BitVec 4) (s : State) (hp : powered s = true)
    (hb : be.toNat % 8 = 7) (hw : mayWrite s (barMaster fn) (barAddr fn off) = false) :
    Does (.registerWrite (.bar fn off be) w) s fun t => RegsKept s t [0x0A001C, 0x0A001D] ∧ { t with io := s.io } = s
      ∧ t.rdN 0x0A001C 2 = min (s.rdN 0x0A001C 2 + 1) (2 ^ 48 - 1) := by
  have e : exec (.registerWrite (.bar fn off be) w) s = .next (s.count 0x0A001C) := by
    rw [exec_registerWrite_bar fn off hb, regWrite_of_refused hp hw, accessRefused_bar]
  exact ⟨_, e, State.regsKept_count s 0x0A001C 1, State.count_onlyIo s 0x0A001C 1, State.rdN_count s 0x0A001C 1⟩

/-- A pier's write out of grant takes IO_RIGHTS, vector 5 (R30). -/
theorem refused_pier_write (n : Fin 67) (user : Bool) (a : BitVec 24) (w : BitVec 32) (s : State) (hp : powered s = true)
    (hw : mayWrite s (.pier n user) a.toNat = false) (hx : executing s n = true) (hd : (s.core n).stb = []) (hr : Room s n) :
    Does (.registerWrite (.io (.pier n user) a) w) s fun t => Enters s t n 5 0 a.toNat (s.core n).pc := by
  have e : exec (.registerWrite (.io (.pier n user) a) w) s = .next (enter n 5 0 a.toNat (s.core n).pc s) := by
    rw [exec_registerWrite_io, regWrite_of_refused hp hw]
    exact congrArg _ (if_pos hx)
  exact ⟨_, e, enters_enter n 5 0 a.toNat _ s hd hr⟩

/-! ### Reads -/

theorem ioRead_hifStat (s : State) : ioRead .pf 0x0A0000 s = (s.rd 0x0A0000, s) := rfl

theorem hifStat_read (off : BitVec 26) (s : State) (h : Reads .pf 0x0A0000 s) (ho : off.toNat = 4 * 0x0A0000) :
    Does (.hostRegisterRead 0 off true) s fun t => t = { answering (s.rd 0x0A0000) s with dword := (s.rd 0x0A0000).setWidth 32 } := by
  have ha : barAddr 0 off = 0x0A0000 := by rw [barAddr_zero]; omega
  have e := exec_hostRegisterRead_of_reads (fn := 0) (off := off) (s := s) (by rw [ha]; exact h)
  rw [ha, barMaster_zero, ioRead_hifStat] at e
  exact ⟨_, e, rfl⟩

theorem bar_read (fn : Fin 257) (off : BitVec 26) (s : State) (h : Reads (barMaster fn) (barAddr fn off) s) :
    Does (.hostRegisterRead fn off true) s fun t => t.answer = (ioRead (barMaster fn) (barAddr fn off) s).1 ∧ t.answered = true
      ∧ t.dword.toNat = t.answer.toNat :=
  ⟨_, exec_hostRegisterRead_of_reads h, rfl, rfl, BitVec.toNat_setWidth_of_le (by decide)⟩

/-- A host's read out of grant (R30). -/
theorem refused_bar_read (fn : Fin 257) (off : BitVec 26) (mark : Bool) (s : State) (hp : powered s = true)
    (hr : mayRead s (barMaster fn) (barAddr fn off) = false) :
    Does (.hostRegisterRead fn off mark) s fun t => t.answer = 0 ∧ t.answered = true ∧ t.dword = 0 ∧ RegsKept s t [0x0A001C, 0x0A001D]
      ∧ t.rdN 0x0A001C 2 = min (s.rdN 0x0A001C 2 + 1) (2 ^ 48 - 1) := by
  have e : exec (.hostRegisterRead fn off mark) s = .next { answering 0 (s.count 0x0A001C) with dword := 0 } := by
    rw [exec_hostRegisterRead, regRead_of_refused hp hr, accessRefused_bar]
    rfl
  refine ⟨_, e, rfl, rfl, rfl, ?_, ?_⟩
  · exact (State.regsKept_count s 0x0A001C 1).of_io (by rfl)
  · exact (State.rdN_of_io (s := s.count 0x0A001C) (by rfl) _ _).trans (State.rdN_count s 0x0A001C 1)

/-- A host's read whose word mark fails (R2, R4). -/
theorem badMark_bar_read (fn : Fin 257) (off : BitVec 26) (s : State) (h : Reads (barMaster fn) (barAddr fn off) s) :
    Does (.hostRegisterRead fn off false) s fun t => t.answered = false ∧ t.rdN 0x0A001E 2 = min (s.rdN 0x0A001E 2 + 1) (2 ^ 48 - 1) := by
  have e : ∃ d, exec (.hostRegisterRead fn off false) s =
      .next { State.count { markMismatch s with answered := false } 0x0A001E with dword := d } := by
    rw [exec_hostRegisterRead, regRead_of_badMark h, readMarkFail_bar]
    exact ⟨_, rfl⟩
  obtain ⟨d, e⟩ := e
  refine ⟨_, e, ?_, ?_⟩
  · exact State.count_answered { markMismatch s with answered := false } 0x0A001E 1
  · have hkept : State.rdN { markMismatch s with answered := false } 0x0A001E 2 = s.rdN 0x0A001E 2 :=
      State.rdN_congr fun b h1 h2 => markMismatch_rd h.1 (by omega)
    rw [← hkept, ← State.rdN_count]
    exact State.rdN_of_io (s := State.count { markMismatch s with answered := false } 0x0A001E) (by rfl) _ _

/-! ### Values of several words (R5) -/

theorem wide_value (s : State) (a n v : Nat) : (∀ i < n, (s.wrN a n v).rd (a + i) = BitVec.ofNat 24 (v / 2 ^ (24 * i)))
    ∧ (s.wrN a n v).rdN a n = v % 2 ^ (24 * n) ∧ s.rdN a (n + 1) = (s.rd a).toNat + 2 ^ 24 * s.rdN (a + 1) n := by
  refine ⟨fun i hi => ?_, State.rdN_wrN s a n v, rfl⟩
  rw [State.rd_wrN, if_pos (by omega), Nat.add_sub_cancel_left]

/-- Settles O42: one lemma for each clause; the two writes through BAR0 agree with the master's own write whether or not the device is
powered. -/
theorem registerAccess : Obligations.RegisterAccess := by
  unfold Obligations.RegisterAccess
  exact ⟨hifEvtEn_write, lcsState_write, fun a off be w s _ => pf_bar_write a off be w s,
    fun v a off be w s _ => vf_bar_write v a off be w s, partial_bar_write, refused_bar_write, refused_pier_write, hifStat_read,
    bar_read, refused_bar_read, badMark_bar_read, wide_value⟩

end Sys2Proof.Machine
end

section
/-! SUPPORT. Fields and bits of a register after a write of a field, and the commands whose effect needs a device that runs. -/

namespace Sys2Proof.Machine

/-! ### Fields -/

section
variable (s : State) {a b hi lo i j : Nat} (v : Nat)

@[simp] theorem State.fld_put_self (h : lo ≤ hi) (hh : hi < 24) : (s.put a hi lo v).fld a hi lo = v % 2 ^ (hi + 1 - lo) := by
  rw [State.fld, State.rd_put_self, Word.slice_put _ _ _ _ h hh]

/-- A field above or below the one that is written. -/
@[simp] theorem State.fld_put_apart (h : lo ≤ hi) (hh : hi < 24) (hj : j ≤ i) (g : i < lo ∨ hi < j) :
    (s.put a hi lo v).fld a i j = s.fld a i j := by
  rw [State.fld, State.rd_put_self]
  rcases g with g | g
  · exact Word.slice_put_below _ _ _ _ _ _ h hh hj g
  · exact Word.slice_put_above _ _ _ _ _ _ h hh g

@[simp] theorem State.fld_put_ne (h : b ≠ a) : (s.put a hi lo v).fld b i j = s.fld b i j := by
  rw [State.fld, State.rd_put_ne s hi lo v h, State.fld]

theorem State.bit_eq_fld : s.bit a i = (s.fld a i i == 1) := Word.bit_eq ..

@[simp] theorem State.bit_put_self (hh : i < 24) : (s.put a i i v).bit a i = (v % 2 == 1) := by
  rw [State.bit, State.rd_put_self, Word.bit_put _ _ _ hh]

@[simp] theorem State.bit_put_apart (h : lo ≤ hi) (hh : hi < 24) (g : i < lo ∨ hi < i) : (s.put a hi lo v).bit a i = s.bit a i := by
  rw [State.bit_eq_fld, State.bit_eq_fld, State.fld_put_apart s v h hh (Nat.le_refl i) g]

@[simp] theorem State.bit_put_ne (h : b ≠ a) : (s.put a hi lo v).bit b i = s.bit b i := by
  rw [State.bit_eq_fld, State.bit_eq_fld, State.fld_put_ne s v h]

end

@[simp] theorem State.fld_wr_self (s : State) (a hi lo : Nat) (w : Word) : (s.wr a w).fld a hi lo = Word.slice w hi lo := by
  rw [State.fld, State.rd_wr_self]

@[simp] theorem State.bit_wr_self (s : State) (a i : Nat) (w : Word) : (s.wr a w).bit a i = Word.bit w i := by
  rw [State.bit, State.rd_wr_self]

/-! ### The registers that are kept -/

theorem RegsKept.refl (s : State) (l : List Nat) : RegsKept s s l := fun _ _ => rfl

theorem RegsKept.trans {s t u : State} {l : List Nat} (h : RegsKept s t l) (g : RegsKept t u l) : RegsKept s u l :=
  fun a ha => (g a ha).trans (h a ha)

theorem State.regsKept_put (s : State) (a hi lo v : Nat) : RegsKept s (s.put a hi lo v) [a] :=
  fun _ hb => State.rd_put_ne s hi lo v (List.ne_of_not_mem_cons hb)

theorem State.regsKept_flag (s : State) (a i : Nat) (x : Bool) : RegsKept s (s.flag a i x) [a] :=
  State.regsKept_put s a i i _

/-! ### Effects of the main domain -/

/-- On a device that runs, an effect of the main domain takes place. -/
theorem does_of_live {c : Instr} {f : State → State} {s : State} {P : State → Prop} (hp : powered s = true)
    (e : exec c s = .next (live f s)) (h : P (f s)) : Does c s P :=
  ⟨f s, e.trans (congrArg _ (if_pos hp)), h⟩

end Sys2Proof.Machine
end

section
/-! SUPPORT. The lamp channels: what each operation of Machine/Lamps.lean does to the channel and to its registers (R410–R416). -/

namespace Sys2Proof.Machine

/-! ### A channel and its registers -/

@[simp] theorem lampReg_inj (k i j : Nat) : lampReg k i = lampReg k j ↔ i = j := by
  unfold lampReg
  omega

/-- No register of a channel is LMP_EVT. -/
@[simp] theorem lampReg_ne_evt (k o : Nat) : lampReg k o ≠ 0x0E0002 := by
  unfold lampReg
  omega

@[simp] theorem evt_ne_lampReg (k o : Nat) : 0x0E0002 ≠ lampReg k o := (lampReg_ne_evt k o).symm

section
variable (s : State) (k : Nat) (l : Lamp)

@[simp] theorem State.lamp_setLamp : (s.setLamp k l).lamp k = l := by
  unfold State.lamp State.setLamp
  rw [Tab.get_set, if_pos rfl]

@[simp] theorem State.setLamp_rd (a : Nat) : (s.setLamp k l).rd a = s.rd a := by rfl
@[simp] theorem State.setLamp_fld (a hi lo : Nat) : (s.setLamp k l).fld a hi lo = s.fld a hi lo := by rfl
@[simp] theorem State.setLamp_bit (a i : Nat) : (s.setLamp k l).bit a i = s.bit a i := by rfl
@[simp] theorem State.setLamp_stk : (s.setLamp k l).stk = s.stk := by rfl
@[simp] theorem State.put_tick (a hi lo v : Nat) : (s.put a hi lo v).tick = s.tick := by rfl
@[simp] theorem State.flag_tick (a i : Nat) (b : Bool) : (s.flag a i b).tick = s.tick := by rfl
@[simp] theorem State.setLamp_pwr : (s.setLamp k l).pwr = s.pwr := by rfl
@[simp] theorem State.setLamp_ppt : (s.setLamp k l).ppt = s.ppt := by rfl
@[simp] theorem State.setLamp_key : (s.setLamp k l).key = s.key := by rfl
@[simp] theorem State.wr_lamp (a : Nat) (w : Word) : (s.wr a w).lamp k = s.lamp k := by rfl
@[simp] theorem State.put_lamp (a hi lo v : Nat) : (s.put a hi lo v).lamp k = s.lamp k := by rfl
@[simp] theorem State.raise_lamp (a i : Nat) : (s.raise a i).lamp k = s.lamp k := by rfl
@[simp] theorem State.flag_lamp (a i : Nat) (b : Bool) : (s.flag a i b).lamp k = s.lamp k := by rfl

end

theorem RegsKept.setLamp {s t : State} {regs : List Nat} (h : RegsKept s t regs) (k : Nat) (l : Lamp) : RegsKept s (t.setLamp k l) regs :=
  fun a ha => (State.setLamp_rd t k l a).trans (h a ha)

/-! ### A retry (R415) -/

section
variable {s : State} {k : Nat}

/-- A retry that is due starts the channel; else nothing happens. -/
theorem lampRetry_cases (s : State) (k : Nat) : lampRetry k s = s
    ∨ lampRetry k s = (s.put (lampReg k 2) 23 21 1).setLamp k { s.lamp k with retryAt := none, since := s.tick } := by
  unfold lampRetry
  extract_lets due
  split_ifs
  · exact .inr rfl
  · exact .inl rfl

theorem lampRetry_due {n : Nat} (hs : lampStarts s k = true) (hw : s.fld (lampReg k 2) 23 21 = 2) (hr : (s.lamp k).retryAt = some n)
    (hn : n ≤ s.tick) :
    lampRetry k s = (s.put (lampReg k 2) 23 21 1).setLamp k { s.lamp k with retryAt := none, since := s.tick } := by
  simp [lampRetry, hs, hw, hr, hn]

theorem lampRetry_early {n : Nat} (hr : (s.lamp k).retryAt = some n) (hn : s.tick < n) : lampRetry k s = s := by
  simp [lampRetry, hr, Nat.not_le.mpr hn]

/-- A retry writes STATE alone. -/
theorem lampRetry_regsKept (s : State) (k : Nat) : RegsKept s (lampRetry k s) [lampReg k 2] := by
  rcases lampRetry_cases s k with e | e <;> rw [e]
  · exact .refl _ _
  · exact RegsKept.setLamp (State.regsKept_put s _ _ _ _) _ _

/-- A retry leaves the channel's settings. -/
@[simp] theorem lampRetry_rd {o : Nat} (ho : o ≠ 2) : (lampRetry k s).rd (lampReg k o) = s.rd (lampReg k o) :=
  lampRetry_regsKept s k _ (by simp [ho])

theorem lampRetry_fld {i j : Nat} (hj : j ≤ i) (hi : i < 21) : (lampRetry k s).fld (lampReg k 2) i j = s.fld (lampReg k 2) i j := by
  rcases lampRetry_cases s k with e | e <;> rw [e]
  rw [State.setLamp_fld, State.fld_put_apart _ _ (by decide) (by decide) hj (.inl hi)]

theorem lampRetry_bit {i : Nat} (hi : i < 21) : (lampRetry k s).bit (lampReg k 2) i = s.bit (lampReg k 2) i := by
  rw [State.bit_eq_fld, State.bit_eq_fld, lampRetry_fld (Nat.le_refl i) hi]

@[simp] theorem lampRetry_stk : (lampRetry k s).stk = s.stk := by
  rcases lampRetry_cases s k with e | e <;> rw [e]
  rw [State.setLamp_stk, State.put_stk]

@[simp] theorem lampRetry_opens : ((lampRetry k s).lamp k).opens = (s.lamp k).opens := by
  rcases lampRetry_cases s k with e | e <;> rw [e]
  rw [State.lamp_setLamp]

theorem lampRetry_retryAt (h : (s.lamp k).retryAt = none) : ((lampRetry k s).lamp k).retryAt = none := by
  rcases lampRetry_cases s k with e | e <;> rw [e]
  · exact h
  · rw [State.lamp_setLamp]

/-- Of the registers, an indication looks at the life-cycle state and at the quorum size. -/
theorem lampDrive_congr {t : State} (hpwr : t.pwr = s.pwr) (hppt : t.ppt = s.ppt) (hstk : t.stk = s.stk) (hkey : t.key = s.key)
    (hlcs : t.rd 0x070000 = s.rd 0x070000) (hquorum : t.rd 0x050300 = s.rd 0x050300) (cfg duty : Word) :
    lampDrive t k cfg duty = lampDrive s k cfg duty := by
  have hi : lampIndication t = lampIndication s := by
    have hl : t.lcs = s.lcs := congrArg (Word.slice · 2 0) hlcs
    have hq : quorumSize t 0 = quorumSize s 0 := congrArg (Word.slice · 5 0) hquorum
    unfold lampIndication
    rw [hpwr, hppt, hstk, hkey, hl, hq]
  rw [lampDrive, hi, lampDrive]

@[simp] theorem lampRetry_drive (cfg duty : Word) : lampDrive (lampRetry k s) k cfg duty = lampDrive s k cfg duty := by
  have hlcs : 0x070000 ≠ lampReg k 2 := by unfold lampReg; omega
  have hquorum : 0x050300 ≠ lampReg k 2 := by unfold lampReg; omega
  rcases lampRetry_cases s k with e | e <;> rw [e]
  apply lampDrive_congr <;> simp [State.rd_put_ne, hlcs, hquorum]

end

/-! ### The settings of a period (R410, R415, R417) -/

/-- What a period start writes before the period's pulse: STATE, AUTO_ACTIVE and the settings taken. -/
def lampTake (k st : Nat) (auto : Bool) (s : State) : State :=
  ((s.put (lampReg k 2) 23 21 st).flag (lampReg k 2) 18 auto).setLamp k { s.lamp k with
    cfg := some (s.rd (lampReg k 0), s.rd (lampReg k 1))
    lit := 0
    undo := none
    retryAt := if st = 1 then none else (s.lamp k).retryAt
    since := if st = 1 ∧ s.fld (lampReg k 2) 23 21 ≠ 1 then s.tick else (s.lamp k).since }

/-- In `t` channel `k` has taken the settings that `s` holds, is in state `st` and sends no pulse yet. -/
structure SettingsTaken (k st : Nat) (auto : Bool) (s t : State) : Prop where
  state : t.fld (lampReg k 2) 23 21 = st
  auto : t.bit (lampReg k 2) 18 = auto
  isOpen : t.bit (lampReg k 2) 19 = s.bit (lampReg k 2) 19
  imeas : t.fld (lampReg k 2) 7 0 = s.fld (lampReg k 2) 7 0
  cfg : (t.lamp k).cfg = some (s.rd (lampReg k 0), s.rd (lampReg k 1))
  lit : (t.lamp k).lit = 0
  opens : (t.lamp k).opens = (s.lamp k).opens
  stk : t.stk = s.stk
  regs : RegsKept s t [lampReg k 2]

theorem settingsTaken_lampTake {st : Nat} (hst : st < 8) (k : Nat) (auto : Bool) (s : State) :
    SettingsTaken k st auto s (lampTake k st auto (lampRetry k s)) where
  state := by simp [lampTake, State.flag, Nat.mod_eq_of_lt hst]
  auto := by cases auto <;> simp [lampTake, State.flag]
  isOpen := by simp [lampTake, State.flag, lampRetry_bit]
  imeas := by simp [lampTake, State.flag, lampRetry_fld]
  cfg := by simp [lampTake]
  lit := by simp [lampTake]
  opens := by simp [lampTake]
  stk := by simp [lampTake]
  regs :=
    have put := State.regsKept_put (lampRetry k s) (lampReg k 2) 23 21 st
    have flag := State.regsKept_flag ((lampRetry k s).put (lampReg k 2) 23 21 st) (lampReg k 2) 18 auto
    ((lampRetry_regsKept s k).trans (put.trans flag)).setLamp k _

section
variable {s : State} {k : Nat} {c : Bool}

/-- A channel that is not driven goes off, whatever LATCHED or RETRY_WAIT holds (log 68). -/
theorem lampPeriodStart_off (i : Byte) (hs : lampStarts s k = true)
    (hd : lampDrive s k (s.rd (lampReg k 0)) (s.rd (lampReg k 1)) = (c, none)) :
    lampPeriodStart k i s = lampTake k 0 c (lampRetry k s) := by
  simp [lampPeriodStart, hs, hd, lampState, lampTake]

/-- A channel that is driven, without a latched short or a scheduled retry, runs and sends the period's pulse. -/
theorem lampPeriodStart_run (i : Byte) {d p : Nat} (hs : lampStarts s k = true)
    (hd : lampDrive s k (s.rd (lampReg k 0)) (s.rd (lampReg k 1)) = (c, some (d, p))) (hshort : s.bit (lampReg k 2) 20 = false)
    (hr : (s.lamp k).retryAt = none) :
    lampPeriodStart k i s = lampPulse k d p (s.rd (lampReg k 0)) i (lampTake k 1 c (lampRetry k s)) := by
  have hrun : lampState (lampRetry k s) k true = 1 := by
    simp [lampState, lampRetry_bit, hshort, lampRetry_retryAt hr]
  simp [lampPeriodStart, hs, hd, hrun, lampTake]

end

/-! ### Measurement (R413) -/

/-- A measured pulse before OPEN follows it: IMEAS and the counts of open and good measurements. -/
def lampCount (k current : Nat) (imeas : Byte) (s : State) : State :=
  let bad : Bool := decide (imeas.toNat < 2 * (current + 1))
  (s.put (lampReg k 2) 7 0 imeas.toNat).setLamp k { s.lamp k with
    opens := if bad then (s.lamp k).opens + 1 else 0
    goods := if bad then 0 else (s.lamp k).goods + 1 }

section
variable {s : State} {k : Nat} {current : Nat} {imeas : Byte}

/-- After the count OPEN sets with its event, or clears, or stays. -/
theorem lampMeasure_cases (s : State) (k current : Nat) (imeas : Byte) :
    lampMeasure k current imeas s = ((lampCount k current imeas s).put (lampReg k 2) 19 19 1).raise 0x0E0002 (6 + k)
    ∨ lampMeasure k current imeas s = (lampCount k current imeas s).put (lampReg k 2) 19 19 0
    ∨ lampMeasure k current imeas s = lampCount k current imeas s := by
  unfold lampMeasure
  extract_lets l bad t opens goods u
  change (if _ then State.raise (State.put (lampCount ..) ..) .. else if _ then State.put (lampCount ..) .. else lampCount ..) = _ ∨ _
  split_ifs
  · exact .inl rfl
  · exact .inr (.inl rfl)
  · exact .inr (.inr rfl)

/-- After the count a measurement writes, of STAT, OPEN alone. -/
theorem lampMeasure_fld {i j : Nat} (hj : j ≤ i) (hopen : i < 19 ∨ 19 < j) :
    (lampMeasure k current imeas s).fld (lampReg k 2) i j = (lampCount k current imeas s).fld (lampReg k 2) i j := by
  rcases lampMeasure_cases s k current imeas with e | e | e <;> rw [e]
  · simp [State.raise, hj, hopen]
  · simp [hj, hopen]

@[simp] theorem lampMeasure_state : (lampMeasure k current imeas s).fld (lampReg k 2) 23 21 = s.fld (lampReg k 2) 23 21 := by
  rw [lampMeasure_fld (by decide) (by decide)]
  simp [lampCount]

@[simp] theorem lampMeasure_auto : (lampMeasure k current imeas s).bit (lampReg k 2) 18 = s.bit (lampReg k 2) 18 := by
  rw [State.bit_eq_fld, State.bit_eq_fld, lampMeasure_fld (by decide) (by decide)]
  simp [lampCount]

@[simp] theorem lampMeasure_imeas : (lampMeasure k current imeas s).fld (lampReg k 2) 7 0 = imeas.toNat := by
  have hbyte : imeas.toNat < 256 := imeas.isLt
  rw [lampMeasure_fld (by decide) (by decide)]
  simp [lampCount, Nat.mod_eq_of_lt hbyte]

@[simp] theorem lampMeasure_lamp : (lampMeasure k current imeas s).lamp k = (lampCount k current imeas s).lamp k := by
  rcases lampMeasure_cases s k current imeas with e | e | e <;> rw [e]
  · simp [State.raise]
  · simp

theorem lampMeasure_opens : ((lampMeasure k current imeas s).lamp k).opens =
    if imeas.toNat < 2 * (current + 1) then (s.lamp k).opens + 1 else 0 := by
  simp [lampCount]

end

/-! ### The pulse of a period (R410, R412, R414) -/

/-- The length in half strokes of the pulse of the period at stroke `n`: stretched in the 256th period of a channel whose pulses are
too short to measure. -/
def pulseLength (n duty : Nat) (cfg : Word) : Nat :=
  let half := duty * 2 ^ Word.slice cfg 20 18
  let last : Bool := n / lampPeriod cfg % 256 == 255
  let stretch : Bool := decide (0 < half ∧ half < 20) && Word.bit cfg 21 && last
  if stretch then 20 else half

/-- A pulse of `lit` half strokes starts: a measured one keeps what a short would take it back to. -/
def lampLight (k lit : Nat) (s : State) : State :=
  s.setLamp k { s.lamp k with
    lit := 2 * s.tick + lit
    undo := if 20 ≤ lit then some (s.rd (lampReg k 2), s.rd 0x0E0002, (s.lamp k).opens, (s.lamp k).goods) else none }

section
variable {n d half : Nat} {cfg : Word} (hhalf : half = d * 2 ^ Word.slice cfg 20 18)
include hhalf

theorem pulseLength_long (h : 20 ≤ half) : pulseLength n d cfg = half := by
  subst hhalf
  simp [pulseLength, Nat.not_lt.mpr h]

theorem pulseLength_stretched (h0 : 0 < half) (h : half < 20) (hen : Word.bit cfg 21 = true) (hn : n / lampPeriod cfg % 256 = 255) :
    pulseLength n d cfg = 20 := by
  subst hhalf
  simp only [pulseLength, h0, h, hen, hn]
  rfl

theorem pulseLength_short (h : Word.bit cfg 21 = false ∨ n / lampPeriod cfg % 256 ≠ 255) : pulseLength n d cfg = half := by
  subst hhalf
  rcases h with h | h <;> simp [pulseLength, h]

end

section
variable {s : State} {k d p len : Nat} {cfg : Word} {i : Byte}

theorem patternOn_congr {t : State} (h : t.stk = s.stk) : patternOn t p = patternOn s p := by
  unfold patternOn
  rw [h]

theorem patternOn_shown (h : p = 0 ∨ (p = 1 ∧ s.stk.time.num.toNat / 2 ^ 19 % 2 = 0) ∨ (p = 2 ∧ s.stk.time.num.toNat / 2 ^ 17 % 2 = 0)) :
    patternOn s p = true := by
  rcases h with rfl | ⟨rfl, h⟩ | ⟨rfl, h⟩
  · rfl
  · exact beq_iff_eq.mpr h
  · exact beq_iff_eq.mpr h

theorem patternOn_gated (h : (p = 1 ∧ s.stk.time.num.toNat / 2 ^ 19 % 2 = 1) ∨ (p = 2 ∧ s.stk.time.num.toNat / 2 ^ 17 % 2 = 1)) :
    patternOn s p = false := by
  rcases h with ⟨rfl, h⟩ | ⟨rfl, h⟩
  · exact beq_eq_false_iff_ne.mpr (by omega)
  · exact beq_eq_false_iff_ne.mpr (by omega)

theorem lampPulse_gated (h : patternOn s p = false) : lampPulse k d p cfg i s = s := by
  rw [lampPulse, h]
  rfl

theorem lampPulse_on (h : patternOn s p = true) (hl : pulseLength s.stk.time.num.toNat d cfg = len) : lampPulse k d p cfg i s =
    (s.onlyIf (decide (0 < len)) (lampLight k len)).onlyIf (decide (20 ≤ len)) (lampMeasure k (Word.slice cfg 5 0) i) := by
  subst hl
  rw [lampPulse, h]
  rfl

theorem lampPulse_measured (h : patternOn s p = true) (hl : pulseLength s.stk.time.num.toNat d cfg = len) (h20 : 20 ≤ len) :
    lampPulse k d p cfg i s = lampMeasure k (Word.slice cfg 5 0) i (lampLight k len s) := by
  have h0 : 0 < len := by omega
  simp [lampPulse_on h hl, State.onlyIf, h20, h0]

theorem lampPulse_unmeasured (h : patternOn s p = true) (hl : pulseLength s.stk.time.num.toNat d cfg = len) (h0 : 0 < len)
    (h20 : len < 20) : lampPulse k d p cfg i s = lampLight k len s := by
  simp [lampPulse_on h hl, State.onlyIf, h0, Nat.not_le.mpr h20]

/-- A pulse starts and is measured, starts without a measurement, or is not sent. -/
theorem lampPulse_cases (s : State) (k d p : Nat) (cfg : Word) (i : Byte) : lampPulse k d p cfg i s = s ∨ ∃ len,
    lampPulse k d p cfg i s = lampLight k len s ∨ lampPulse k d p cfg i s = lampMeasure k (Word.slice cfg 5 0) i (lampLight k len s) := by
  cases h : patternOn s p with
  | false => exact .inl (lampPulse_gated h)
  | true =>
    rcases Nat.eq_zero_or_pos (pulseLength s.stk.time.num.toNat d cfg) with h0 | h0
    · exact .inl (lampPulse_on h h0)
    · rcases Nat.lt_or_ge (pulseLength s.stk.time.num.toNat d cfg) 20 with h20 | h20
      · exact .inr ⟨_, .inl (lampPulse_unmeasured h rfl h0 h20)⟩
      · exact .inr ⟨_, .inr (lampPulse_measured h rfl h20)⟩

/-- No pulse changes STATE, AUTO_ACTIVE or the settings taken. -/
theorem lampPulse_keeps (s : State) (k d p : Nat) (cfg : Word) (i : Byte) :
    (lampPulse k d p cfg i s).fld (lampReg k 2) 23 21 = s.fld (lampReg k 2) 23 21
    ∧ (lampPulse k d p cfg i s).bit (lampReg k 2) 18 = s.bit (lampReg k 2) 18
    ∧ ((lampPulse k d p cfg i s).lamp k).cfg = (s.lamp k).cfg := by
  rcases lampPulse_cases s k d p cfg i with e | ⟨len, e | e⟩ <;> rw [e]
  · exact ⟨rfl, rfl, rfl⟩
  · simp [lampLight]
  · simp [lampLight, lampCount]

end

/-! ### A short (R415) -/

/-- The measurement of a stretched pulse is taken back. -/
def lampTakeBack (k : Nat) (st ev : Word) (o g : Nat) (s : State) : State :=
  ((s.wr (lampReg k 2) st).put 0x0E0002 (6 + k) (6 + k) (Word.slice ev (6 + k) (6 + k))).setLamp k { s.lamp k with opens := o, goods := g }

/-- What a short takes back before anything else: the measurement of the present pulse, where it is stretched. -/
def lampUndo (k : Nat) (s : State) : State :=
  match (s.lamp k).undo with
  | some (st, ev, o, g) => lampTakeBack k st ev o g s
  | none => s

/-- The sink turns off with the event of a short. -/
def lampOff (k : Nat) (s : State) : State :=
  (s.raise 0x0E0002 k).setLamp k { s.lamp k with lit := 0, undo := none, retryAt := some (s.tick + 1024) }

/-- The sink is off until a retry. -/
def lampWait (k : Nat) (s : State) : State :=
  ((lampOff k s).put (lampReg k 2) 17 16 (s.fld (lampReg k 2) 17 16 + 1)).put (lampReg k 2) 23 21 2

/-- The sink is latched off. -/
def lampLatch (k : Nat) (s : State) : State :=
  (((lampOff k s).put (lampReg k 2) 20 20 1).put (lampReg k 2) 23 21 3).setLamp k { (lampOff k s).lamp k with retryAt := none }

section
variable {s : State} {k : Nat}

theorem lampShort_idle (h : s.fld (lampReg k 2) 23 21 ≠ 1) : lampShort k s = s := if_neg fun g => h g.1

theorem lampUndo_none (h : (s.lamp k).undo = none) : lampUndo k s = s := by rw [lampUndo, h]

theorem lampUndo_some {st ev : Word} {o g : Nat} (h : (s.lamp k).undo = some (st, ev, o, g)) :
    lampUndo k s = lampTakeBack k st ev o g s := by rw [lampUndo, h]

theorem lampShort_lit (hrun : s.fld (lampReg k 2) 23 21 = 1) (hlit : 2 * s.tick < (s.lamp k).lit) : lampShort k s =
    if (lampUndo k s).fld (lampReg k 2) 17 16 < 3 then lampWait k (lampUndo k s) else lampLatch k (lampUndo k s) := by
  rw [lampShort, if_pos ⟨hrun, hlit⟩]
  rfl

end

/-! ### Clearing a short (R416) -/

/-- A write of LMP_k_CTL is CLR_SHORT. -/
theorem ioWrite_lampCtl (m : Master) (k : Fin 6) (w : Word) (s : State) : ioWrite m (lampReg k 3) w s = clrShort k w s := by
  have hk := k.isLt
  have hblock : lampReg k 3 / 0x10000 = 0xE := by unfold lampReg; omega
  have hctl : 0x0E0010 ≤ lampReg k 3 ∧ lampReg k 3 < 0x0E0028 ∧ lampReg k 3 % 4 = 3 := by unfold lampReg; omega
  have hchannel : (lampReg k 3 - 0x0E0010) / 4 = k := by unfold lampReg; omega
  calc ioWrite m (lampReg k 3) w s
    _ = lmpWrite m (lampReg k 3) w s := by rw [ioWrite, hblock]; rfl
    _ = clrShort k w s := by rw [lmpWrite, if_pos hctl, hchannel]

/-- CLR_SHORT clears SHORT and RETRIES; LATCHED ends. -/
theorem clrShort_eq (s : State) (k : Nat) {w : Word} (hw : Word.bit w 0 = true) : clrShort k w s =
    ((s.onlyIf (s.fld (lampReg k 2) 23 21 == 3) (·.put (lampReg k 2) 23 21 0)).put (lampReg k 2) 20 20 0).put (lampReg k 2) 17 16 0 := by
  rw [clrShort, hw]
  rfl

end Sys2Proof.Machine
end

section
/-! PROOFS. The statement about the lamp channels, clause by clause. -/

namespace Sys2Proof.Machine

section
variable {s : State} {k : Fin 6}

/-! ### A period's start (R410, R412–R414) -/

theorem lampPeriodStart_between (hp : powered s = true) (i : Byte) (hs : lampStarts s k = false) :
    Does (.lampPeriodStart k i) s fun t => t = s :=
  does_of_live hp rfl (by simp [lampPeriodStart, hs])

theorem lampPeriodStart_notDriven (hp : powered s = true) (i : Byte) (c : Bool) (hs : lampStarts s k = true)
    (hd : lampDrive s k (s.rd (lampReg k 0)) (s.rd (lampReg k 1)) = (c, none)) :
    Does (.lampPeriodStart k i) s fun t => t.fld (lampReg k 2) 23 21 = 0 ∧ t.bit (lampReg k 2) 18 = c
      ∧ (t.lamp k).cfg = some (s.rd (lampReg k 0), s.rd (lampReg k 1)) ∧ (t.lamp k).lit = 0 ∧ RegsKept s t [lampReg k 2] := by
  have h := settingsTaken_lampTake (st := 0) (by decide) k c s
  refine does_of_live hp rfl ?_
  rw [lampPeriodStart_off i hs hd]
  exact ⟨h.state, h.auto, h.cfg, h.lit, h.regs⟩

/-- A period whose pattern pulses: the channel runs, and what it measures depends on the pulse's length. -/
theorem lampPeriodStart_pulse (hp : powered s = true) (i : Byte) (c : Bool) (d p half : Nat) (hs : lampStarts s k = true)
    (hd : lampDrive s k (s.rd (lampReg k 0)) (s.rd (lampReg k 1)) = (c, some (d, p))) (hshort : s.bit (lampReg k 2) 20 = false)
    (hr : (s.lamp k).retryAt = none) (hhalf : half = d * 2 ^ s.fld (lampReg k 0) 20 18)
    (hpat : p = 0 ∨ (p = 1 ∧ s.stk.time.num.toNat / 2 ^ 19 % 2 = 0) ∨ (p = 2 ∧ s.stk.time.num.toNat / 2 ^ 17 % 2 = 0)) :
    Does (.lampPeriodStart k i) s fun t => t.fld (lampReg k 2) 23 21 = 1 ∧ t.bit (lampReg k 2) 18 = c
      ∧ (t.lamp k).cfg = some (s.rd (lampReg k 0), s.rd (lampReg k 1))
      ∧ (20 ≤ half → (t.lamp k).lit = 2 * s.tick + half ∧ t.fld (lampReg k 2) 7 0 = i.toNat
        ∧ (t.lamp k).opens = (if i.toNat < 2 * (s.fld (lampReg k 0) 5 0 + 1) then (s.lamp k).opens + 1 else 0))
      ∧ (0 < half → half < 20 → s.bit (lampReg k 0) 21 = true → s.stk.time.num.toNat / lampPeriod (s.rd (lampReg k 0)) % 256 = 255 →
        (t.lamp k).lit = 2 * s.tick + 20 ∧ t.fld (lampReg k 2) 7 0 = i.toNat)
      ∧ (0 < half → half < 20 → s.bit (lampReg k 0) 21 = false ∨ s.stk.time.num.toNat / lampPeriod (s.rd (lampReg k 0)) % 256 ≠ 255 →
        (t.lamp k).lit = 2 * s.tick + half ∧ t.fld (lampReg k 2) 7 0 = s.fld (lampReg k 2) 7 0
          ∧ t.bit (lampReg k 2) 19 = s.bit (lampReg k 2) 19 ∧ (t.lamp k).opens = (s.lamp k).opens) := by
  have h := settingsTaken_lampTake (st := 1) (by decide) k c s
  refine does_of_live hp rfl ?_
  rw [lampPeriodStart_run i hs hd hshort hr]
  generalize lampTake k 1 c (lampRetry k s) = u at h
  have on : patternOn u p = true := (patternOn_congr h.stk).trans (patternOn_shown hpat)
  have htick : u.tick = s.tick := congrArg Stk.ticks h.stk
  obtain ⟨hstate, hauto, hcfg⟩ := lampPulse_keeps u k d p (s.rd (lampReg k 0)) i
  refine ⟨hstate.trans h.state, hauto.trans h.auto, hcfg.trans h.cfg, fun h20 => ?_, fun h0 h20 hen hn => ?_, fun h0 h20 hno => ?_⟩
  · rw [lampPulse_measured on (pulseLength_long hhalf h20) h20]
    refine ⟨?_, lampMeasure_imeas, ?_⟩
    · simp [lampLight, lampCount, htick]
    · rw [lampMeasure_opens, lampLight, State.lamp_setLamp, h.opens]
      rfl
  · rw [← h.stk] at hn
    rw [lampPulse_measured on (pulseLength_stretched hhalf h0 h20 hen hn) (Nat.le_refl 20)]
    simp [lampLight, lampCount, htick]
  · rw [← h.stk] at hno
    rw [lampPulse_unmeasured on (pulseLength_short hhalf hno) h0 h20]
    simp [lampLight, htick, h.imeas, h.isOpen, h.opens]

/-- A period that the pattern gates off sends no pulse and makes no measurement. -/
theorem lampPeriodStart_gated (hp : powered s = true) (i : Byte) (c : Bool) (d p : Nat) (hs : lampStarts s k = true)
    (hd : lampDrive s k (s.rd (lampReg k 0)) (s.rd (lampReg k 1)) = (c, some (d, p))) (hshort : s.bit (lampReg k 2) 20 = false)
    (hr : (s.lamp k).retryAt = none)
    (hpat : (p = 1 ∧ s.stk.time.num.toNat / 2 ^ 19 % 2 = 1) ∨ (p = 2 ∧ s.stk.time.num.toNat / 2 ^ 17 % 2 = 1)) :
    Does (.lampPeriodStart k i) s fun t => t.fld (lampReg k 2) 23 21 = 1 ∧ (t.lamp k).lit = 0
      ∧ t.fld (lampReg k 2) 7 0 = s.fld (lampReg k 2) 7 0 ∧ t.bit (lampReg k 2) 19 = s.bit (lampReg k 2) 19
      ∧ (t.lamp k).opens = (s.lamp k).opens := by
  have h := settingsTaken_lampTake (st := 1) (by decide) k c s
  refine does_of_live hp rfl ?_
  rw [lampPeriodStart_run i hs hd hshort hr, lampPulse_gated ((patternOn_congr h.stk).trans (patternOn_gated hpat))]
  exact ⟨h.state, h.lit, h.imeas, h.isOpen, h.opens⟩

/-! ### A short (R415) -/

theorem lampShort_retries (hp : powered s = true) (hrun : s.fld (lampReg k 2) 23 21 = 1) (hlit : 2 * s.tick < (s.lamp k).lit)
    (hundo : (s.lamp k).undo = none) (hr : s.fld (lampReg k 2) 17 16 < 3) :
    Does (.lampShort k) s fun t => t.fld (lampReg k 2) 23 21 = 2 ∧ t.fld (lampReg k 2) 17 16 = s.fld (lampReg k 2) 17 16 + 1
      ∧ t.bit 0x0E0002 k = true ∧ (t.lamp k).retryAt = some (s.tick + 1024) ∧ (t.lamp k).lit = 0 := by
  have hk : k.val < 24 := by omega
  have hnext : s.fld (lampReg k 2) 17 16 + 1 < 4 := by omega
  refine does_of_live hp rfl ?_
  rw [lampShort_lit hrun hlit, lampUndo_none hundo, if_pos hr]
  simp [lampWait, lampOff, State.raise, hk, Nat.mod_eq_of_lt hnext]

theorem lampShort_latches (hp : powered s = true) (hrun : s.fld (lampReg k 2) 23 21 = 1) (hlit : 2 * s.tick < (s.lamp k).lit)
    (hundo : (s.lamp k).undo = none) (hr : s.fld (lampReg k 2) 17 16 = 3) :
    Does (.lampShort k) s fun t => t.fld (lampReg k 2) 23 21 = 3 ∧ t.bit (lampReg k 2) 20 = true ∧ t.bit 0x0E0002 k = true
      ∧ (t.lamp k).retryAt = none := by
  have hk : k.val < 24 := by omega
  refine does_of_live hp rfl ?_
  rw [lampShort_lit hrun hlit, lampUndo_none hundo, if_neg (Nat.not_lt.mpr hr.ge)]
  simp [lampLatch, lampOff, State.raise, hk]

/-- A short within a stretched pulse discards the pulse's measurement. -/
theorem lampShort_discards (hp : powered s = true) (st ev : Word) (o g : Nat) (hrun : s.fld (lampReg k 2) 23 21 = 1)
    (hlit : 2 * s.tick < (s.lamp k).lit) (hundo : (s.lamp k).undo = some (st, ev, o, g)) (hr : Word.slice st 17 16 < 3) :
    Does (.lampShort k) s fun t => (t.lamp k).opens = o ∧ (t.lamp k).goods = g ∧ t.fld (lampReg k 2) 7 0 = Word.slice st 7 0
      ∧ t.bit (lampReg k 2) 19 = Word.bit st 19 ∧ t.bit 0x0E0002 (6 + k) = Word.bit ev (6 + k) ∧ t.fld (lampReg k 2) 23 21 = 2 := by
  have hk : k.val < 24 ∧ 6 + k.val < 24 := by omega
  have hev : Word.slice ev (6 + k) (6 + k) % 2 = Word.slice ev (6 + k) (6 + k) :=
    Nat.mod_eq_of_lt (by simpa using Word.slice_lt ev (6 + k) (6 + k))
  refine does_of_live hp rfl ?_
  have hr' : (lampTakeBack k st ev o g s).fld (lampReg k 2) 17 16 < 3 := by simpa [lampTakeBack] using hr
  rw [lampShort_lit hrun hlit, lampUndo_some hundo, if_pos hr']
  simp [lampWait, lampOff, lampTakeBack, State.raise, hk, hev, Word.bit_eq ev]

theorem lampShort_offAlready (hp : powered s = true) (h : s.fld (lampReg k 2) 23 21 ≠ 1) : Does (.lampShort k) s fun t => t = s :=
  does_of_live hp rfl (lampShort_idle h)

/-! ### Retries and their end (R415) -/

theorem lampRetry_starts (hp : powered s = true) (n : Nat) (hs : lampStarts s k = true) (hw : s.fld (lampReg k 2) 23 21 = 2)
    (hr : (s.lamp k).retryAt = some n) (hn : n ≤ s.tick) :
    Does (.lampRetry k) s fun t => t.fld (lampReg k 2) 23 21 = 1 ∧ t.lamp k = { s.lamp k with retryAt := none, since := s.tick }
      ∧ RegsKept s t [lampReg k 2] := by
  refine does_of_live hp rfl ⟨?_, ?_, lampRetry_regsKept s k⟩
  · simp [lampRetry_due hs hw hr hn]
  · simp [lampRetry_due hs hw hr hn]

theorem lampRetry_waits (hp : powered s = true) (n : Nat) (hr : (s.lamp k).retryAt = some n) (hn : s.tick < n) :
    Does (.lampRetry k) s fun t => t = s :=
  does_of_live hp rfl (lampRetry_early hr hn)

theorem lampRetriesReset_clears (hp : powered s = true) (hrun : s.fld (lampReg k 2) 23 21 = 1) (hn : (s.lamp k).since + 2 ^ 16 ≤ s.tick) :
    Does (.lampRetriesReset k) s fun t => t.fld (lampReg k 2) 17 16 = 0 ∧ RegsKept s t [lampReg k 2] ∧ t.lamps = s.lamps := by
  refine does_of_live hp rfl ?_
  rw [lampRetriesReset, if_pos ⟨hrun, hn⟩]
  exact ⟨State.fld_put_self s 0 (by decide) (by decide), State.regsKept_put s _ _ _ _, State.put_lamps ..⟩

/-! ### Clearing a short (R416) -/

theorem clrShort_resumes (m : Master) (w : Word) (h : Reaches m (lampReg k 3) s) :
    Does (.clrShort m k w) s fun t => t.bit (lampReg k 2) 20 = false ∧ t.fld (lampReg k 2) 17 16 = 0 ∧ RegsKept s t [lampReg k 2]
      ∧ t.fld (lampReg k 2) 23 21 = if s.fld (lampReg k 2) 23 21 = 3 then 0 else s.fld (lampReg k 2) 23 21 := by
  have e : regWrite m (lampReg k 3) (Word.put w 0 0 1) s = clrShort k (Word.put w 0 0 1) s :=
    (regWrite_of_reaches h _).trans (ioWrite_lampCtl m k _ s)
  refine ⟨clrShort k (Word.put w 0 0 1) s, congrArg _ e, ?_⟩
  rw [clrShort_eq s k (by simp)]
  by_cases h3 : s.fld (lampReg k 2) 23 21 = 3
  · have kept := (State.regsKept_put s (lampReg k 2) 23 21 0).trans (State.regsKept_put _ _ 20 20 0)
    simpa [State.onlyIf, h3] using kept.trans (State.regsKept_put _ _ 17 16 0)
  · have kept := (State.regsKept_put s (lampReg k 2) 20 20 0).trans (State.regsKept_put _ _ 17 16 0)
    simpa [State.onlyIf, h3] using kept

end

/-- Settles O56: one lemma for each clause. That a channel which is not driven shows OFF whatever LATCHED holds is log entry 68's
reading of R416. -/
theorem lampChannels : Obligations.LampChannels := by
  unfold Obligations.LampChannels
  exact fun s hp k => ⟨lampPeriodStart_between hp, lampPeriodStart_notDriven hp, lampPeriodStart_pulse hp, lampPeriodStart_gated hp,
    lampShort_retries hp, lampShort_latches hp, lampShort_discards hp, lampShort_offAlready hp, lampRetry_starts hp, lampRetry_waits hp,
    lampRetriesReset_clears hp, clrShort_resumes⟩

end Sys2Proof.Machine
end

section
/-! SUPPORT. Scopes: what an operation keeps of the state, and the registers that it may write. -/

namespace Sys2Proof.Machine

theorem State.bit_congr {s t : State} (h : t.io = s.io) (a i : Nat) : t.bit a i = s.bit a i :=
  congrArg (Word.bit · i) (State.rd_congr h a)

/-- A part of the state that shows no register, and the registers that an operation which keeps that part may write. -/
structure Scope where
  /-- What the part holds. -/
  Part : Type
  /-- The part of a state. -/
  view : State → Part
  /-- The addresses of the registers that may be written. -/
  writes : Nat → Prop
  noRegs : ∀ (s : State) (io : Tab Word), view { s with io := io } = view s

theorem Scope.view_wr (F : Scope) (s : State) (a : Nat) (w : Word) : F.view (s.wr a w) = F.view s := F.noRegs s _

/-- `t` comes from `s` within the scope `F`: the part of `F` is as in `s`, and so is every register that `F` does not name. -/
structure Keeps (F : Scope) (s t : State) : Prop where
  view : F.view t = F.view s
  regs : ∀ a, ¬ F.writes a → t.rd a = s.rd a

theorem Keeps.refl (F : Scope) (s : State) : Keeps F s s := ⟨rfl, fun _ _ => rfl⟩

section
variable {F : Scope} {r s t : State} {a : Nat}

theorem Keeps.trans (h : Keeps F r s) (g : Keeps F s t) : Keeps F r t :=
  ⟨g.view.trans h.view, fun a ha => (g.regs a ha).trans (h.regs a ha)⟩

theorem Keeps.bit (h : Keeps F s t) (ha : ¬ F.writes a) (i : Nat) : t.bit a i = s.bit a i := congrArg (Word.bit · i) (h.regs a ha)

/-- An update beside the scope's part and the registers. -/
theorem Keeps.beside (h : Keeps F r s) (hv : F.view t = F.view s) (hio : t.io = s.io) : Keeps F r t :=
  h.trans ⟨hv, fun a _ => State.rd_congr hio a⟩

theorem Keeps.wr (h : Keeps F r s) (ha : F.writes a) (w : Word) : Keeps F r (s.wr a w) :=
  h.trans ⟨F.view_wr s a w, fun _ hb => State.rd_wr_ne s w fun e => hb (e ▸ ha)⟩

theorem Keeps.put (h : Keeps F r s) (ha : F.writes a) (hi lo v : Nat) : Keeps F r (s.put a hi lo v) := h.wr ha _

theorem Keeps.zero (h : Keeps F r s) (n : Nat) (ha : ∀ k < n, F.writes (a + k)) : Keeps F r (s.zero a n) := by
  induction n generalizing s a with
  | zero => exact h
  | succ n ih =>
    refine ih (h.wr (ha 0 (Nat.succ_pos n)) 0) fun k hk => ?_
    rw [Nat.add_right_comm]
    exact ha (k + 1) (Nat.succ_lt_succ hk)

theorem Keeps.ite {c : Prop} [Decidable c] (hs : Keeps F r s) (ht : Keeps F r t) : Keeps F r (if c then s else t) := by
  split
  · exact hs
  · exact ht

theorem Keeps.onlyIf {b : Bool} {f : State → State} (h : Keeps F r s) (hf : Keeps F r (f s)) : Keeps F r (s.onlyIf b f) := .ite hf h

theorem Keeps.each {α : Type} {l : List α} {f : α → State → State} (h : Keeps F r s)
    (hf : ∀ x ∈ l, ∀ t, Keeps F r t → Keeps F r (f x t)) : Keeps F r (s.each l f) := by
  unfold State.each
  induction l generalizing s with
  | nil => exact h
  | cons x l ih => exact ih (hf x (List.mem_cons_self ..) s h) fun y hy => hf y (List.mem_cons_of_mem x hy)

end

end Sys2Proof.Machine
end

section
/-! SUPPORT. The pins of a device that is unpowered, held or in reset (R31): what `pinsRest` writes. -/

namespace Sys2Proof.Machine

/-- Power, the parapet and the stroke unit stay; the registers of `W` may be written. -/
def powerScope (W : Nat → Prop) : Scope where
  Part := Pwr × Ppt × Stk
  view t := (t.pwr, t.ppt, t.stk)
  writes := W
  noRegs _ _ := rfl

section
variable {W : Nat → Prop} {r s t : State}

theorem Keeps.pwr (h : Keeps (powerScope W) s t) : t.pwr = s.pwr := congrArg (·.1) h.view
theorem Keeps.ppt (h : Keeps (powerScope W) s t) : t.ppt = s.ppt := congrArg (·.2.1) h.view
theorem Keeps.stk (h : Keeps (powerScope W) s t) : t.stk = s.stk := congrArg (·.2.2) h.view

theorem keeps_setPort (hW : ∀ a, a / 0x10000 = 1 → W a) {port : Nat} (hp : port < 32) (st : Nat) (h : Keeps (powerScope W) r s) :
    Keeps (powerScope W) r (setPort port st s) := by
  have hport : W (portReg port 1) := hW _ (by unfold portReg; omega)
  have hgroup : W (grpReg (port / 4) 1) := hW _ (by unfold grpReg; omega)
  exact Keeps.wr (Keeps.put (h.beside (by rfl) (by rfl)) hport 2 0 st) hgroup _

theorem keeps_linesIdle (hW : ∀ a, a / 0x10000 = 1 ∨ a / 0x10000 = 0xB → W a) (h : Keeps (powerScope W) r s) :
    Keeps (powerScope W) r (linesIdle s) := by
  refine Keeps.put (.each h fun port hport t ht => ?_) (hW _ (by decide)) 18 18 0
  rw [List.mem_range'_1] at hport
  exact keeps_setPort (fun a ha => hW a (.inl ha)) (by omega) 0 ht

theorem keeps_clrShow (hW : W 0x0C0001) (h : Keeps (powerScope W) r s) : Keeps (powerScope W) r (clrShow s) :=
  ((h.put hW _ _ _).put hW _ _ _).put hW _ _ _

theorem keeps_tokFree (hW : ∀ a, a / 0x10000 = 0xC → W a) {e : Nat} (he : e < 8) (h : Keeps (powerScope W) r s) :
    Keeps (powerScope W) r (tokFree e s) := by
  refine keeps_clrShow (hW _ (by decide)) (Keeps.zero (h.beside (by rfl) (by rfl)) 5 fun k hk => hW _ ?_)
  unfold tokReg
  omega

theorem keeps_fieldOff (hW : ∀ a, a / 0x10000 = 0xC → W a) (h : Keeps (powerScope W) r s) : Keeps (powerScope W) r (fieldOff s) := by
  have hstat : (powerScope W).writes 0x0C0001 := hW _ (by decide)
  unfold fieldOff
  extract_lets s₁ s₂ s₃ clr s₄
  have h₁ : Keeps (powerScope W) r s₁ := .each h fun e he t ht => .ite (keeps_tokFree hW (List.mem_range.mp he) ht) ht
  have h₂ : Keeps (powerScope W) r s₂ := h₁.onlyIf (h₁.beside rfl rfl)
  clear_value s₂
  have h₄ : Keeps (powerScope W) r s₄ := (h₂.put hstat 23 23 0).beside rfl rfl
  exact .ite h₄ (h₄.put hstat _ _ _)

theorem keeps_iccDeactivate (hstat : W 0x0C1001) (hclock : W 0x0C1009) (h : Keeps (powerScope W) r s) :
    Keeps (powerScope W) r (iccDeactivate s) := by
  have hoff := ((h.put hstat 22 22 0).put hstat 21 20 0).wr hclock 0
  exact .ite hoff (hoff.put hstat _ _ _)

theorem keeps_rmcPowerOff (hstat : W 0x0C2001) (h : Keeps (powerScope W) r s) : Keeps (powerScope W) r (rmcPowerOff s) := h.put hstat _ _ _

end

/-- The intermediate states are made opaque, so that no step compares two register tables by evaluating them. -/
theorem fieldOff_fieldBit (s : State) : (fieldOff s).bit 0x0C0001 23 = false := by
  unfold fieldOff
  extract_lets s₁ s₂ s₃ clr s₄
  have h₃ : s₃.bit 0x0C0001 23 = false := State.bit_put_self s₂ 0 (by decide)
  clear_value s₃
  have h₄ : s₄.bit 0x0C0001 23 = false := (State.bit_congr (by rfl) _ _).trans h₃
  clear_value s₄
  split
  · exact h₄
  · rw [State.bit_put_apart _ _ (by decide) (by decide) (by decide), h₄]

theorem iccDeactivate_activeBit (s : State) : (iccDeactivate s).bit 0x0C1001 22 = false := by
  unfold iccDeactivate
  extract_lets s₁
  have h : s₁.bit 0x0C1001 22 = false := by
    rw [State.bit, State.rd_wr_ne _ _ (by decide)]
    exact (State.bit_put_apart _ _ (by decide) (by decide) (by decide)).trans (State.bit_put_self s 0 (by decide))
  split
  · exact h
  · rw [State.bit_put_apart _ _ (by decide) (by decide) (by decide), h]

/-- The blocks of the registers that a device shows its resting pins in: ports, host, viaduct, custodian interfaces, lamps. -/
def pinBlock (a : Nat) : Prop := a / 0x10000 ∈ [1, 0xA, 0xB, 0xC, 0xE]

/-- In `t` the pins rest (R31): HOLD_OUT is low, the contactless field is off and the contact card is not active; power, the parapet, the
stroke unit and the registers of the other blocks are as in `s`. -/
structure PinsRest (s t : State) : Prop where
  pwr : t.pwr = s.pwr
  ppt : t.ppt = s.ppt
  stk : t.stk = s.stk
  holdOut : t.bit 0x0B0001 16 = false
  field : t.bit 0x0C0001 23 = false
  card : t.bit 0x0C1001 22 = false
  regs : ∀ a, ¬ pinBlock a → t.rd a = s.rd a

theorem PinsRest.bit {s t : State} (h : PinsRest s t) {a : Nat} (ha : ¬ pinBlock a) (i : Nat) : t.bit a i = s.bit a i :=
  congrArg (Word.bit · i) (h.regs a ha)

theorem keeps_setLamp {W : Nat → Prop} {r s : State} (h : Keeps (powerScope W) r s) (k : Nat) (l : Lamp) :
    Keeps (powerScope W) r (s.setLamp k l) := h.beside rfl rfl

theorem keeps_lampsOff {r s : State} (h : Keeps (powerScope pinBlock) r s) :
    Keeps (powerScope pinBlock) r (s.each (List.range 6) fun k s => (s.put (lampReg k 2) 23 21 0).setLamp k Lamp.init) := by
  refine .each h fun k hk t ht => keeps_setLamp (.put ht (?_ : pinBlock (lampReg k 2)) 23 21 0) k Lamp.init
  rw [List.mem_range] at hk
  have hblock : lampReg k 2 / 0x10000 = 0xE := by unfold lampReg; omega
  simp [pinBlock, hblock]

theorem pinsRest_rests (s : State) : PinsRest s (pinsRest s) := by
  unfold pinsRest
  extract_lets s₁ s₂
  have port (a : Nat) (ha : a / 0x10000 = 1) : pinBlock a := by simp [pinBlock, ha]
  have line (a : Nat) (ha : a / 0x10000 = 1 ∨ a / 0x10000 = 0xB) : pinBlock a := by rcases ha with ha | ha <;> simp [pinBlock, ha]
  have card (a : Nat) (ha : a / 0x10000 = 0xC) : pinBlock a := by simp [pinBlock, ha]
  have ports : Keeps (powerScope pinBlock) s (s.each (List.range 16) (setPort · 0)) :=
    .each (.refl _ s) fun p hp _ ht => keeps_setPort port (by rw [List.mem_range] at hp; omega) 0 ht
  have h₁ : Keeps (powerScope pinBlock) s s₁ := (keeps_linesIdle line ports).wr (by simp [powerScope, pinBlock]) 0
  have h₂ : Keeps (powerScope pinBlock) s (s₂.put 0x0B0001 16 16 0) := (keeps_lampsOff h₁).put (line _ (by decide)) 16 16 0
  have held : (s₂.put 0x0B0001 16 16 0).bit 0x0B0001 16 = false := State.bit_put_self s₂ 0 (by decide)
  generalize s₂.put 0x0B0001 16 16 0 = u at h₂ held
  have field : Keeps (powerScope (· / 0x10000 = 0xC)) u (fieldOff u) := keeps_fieldOff (fun _ ha => ha) (.refl _ u)
  have cards : Keeps (powerScope (0x0C1000 ≤ ·)) (fieldOff u) (rmcPowerOff (iccDeactivate (fieldOff u))) :=
    keeps_rmcPowerOff (by decide) (keeps_iccDeactivate (by decide) (by decide) (.refl _ _))
  have sdCard : Keeps (powerScope (· = 0x0C2001)) (iccDeactivate (fieldOff u)) (rmcPowerOff (iccDeactivate (fieldOff u))) :=
    keeps_rmcPowerOff rfl (.refl _ _)
  have all : Keeps (powerScope pinBlock) s (rmcPowerOff (iccDeactivate (fieldOff u))) :=
    keeps_rmcPowerOff (card _ (by decide)) (keeps_iccDeactivate (card _ (by decide)) (card _ (by decide)) (keeps_fieldOff card h₂))
  exact {
    pwr := all.pwr
    ppt := all.ppt
    stk := all.stk
    holdOut := (cards.bit (show ¬ 0x0C1000 ≤ 0x0B0001 by decide) 16).trans
      ((field.bit (show ¬ 0x0B0001 / 0x10000 = 0xC by decide) 16).trans held)
    field := (cards.bit (show ¬ 0x0C1000 ≤ 0x0C0001 by decide) 23).trans (fieldOff_fieldBit u)
    card := (sdCard.bit (show ¬ 0x0C1001 = 0x0C2001 by decide) 22).trans (iccDeactivate_activeBit _)
    regs := all.regs }

/-- The device stays in reset for want of its fabric PLL, in boot stop. -/
def noPll (t : State) : State := pinsRest { t.put 0x100000 22 22 1 with pwr := { t.pwr with phase := .reset } }

theorem noPll_holds (t : State) :
    (noPll t).pwr.phase = .reset ∧ (noPll t).bit 0x100000 22 = true ∧ (noPll t).bit 0x0B0001 16 = false := by
  have stop : (t.put 0x100000 22 22 1).bit 0x100000 22 = true := State.bit_put_self t 1 (by decide)
  unfold noPll
  generalize t.put 0x100000 22 22 1 = u at stop
  have rest := pinsRest_rests { u with pwr := { t.pwr with phase := .reset } }
  have shown := rest.bit (a := 0x100000) (by simp [pinBlock]) 22
  exact ⟨congrArg (·.phase) rest.pwr, shown.trans ((State.bit_congr (s := u) (by rfl) _ _).trans stop), rest.holdOut⟩

end Sys2Proof.Machine
end

section
/-! SUPPORT. The device reset (R434): what it keeps of the backup domain and what it leaves of the rest. -/

namespace Sys2Proof.Machine

theorem Tab.get_filter {α : Type} (d : α) (p : Nat → Bool) {k : Nat} (hk : p k = true) (t : Tab α) :
    Tab.get d (t.filter fun x => p x.1) k = Tab.get d t k := by
  induction t with
  | nil => rfl
  | cons x t ih =>
    obtain ⟨j, v⟩ := x
    by_cases hj : j = k
    · subst hj
      simp [hk, Tab.get]
    · by_cases hp : p j = true <;> simp [hp, Tab.get, hj, ih]

theorem resetKeeping_rd (s : State) {a : Nat} (ha : keptRegister a = true) : (resetKeeping s).rd a = s.rd a :=
  Tab.get_filter (ioReset a) keptRegister ha s.io

/-- What PWR_RCAUSE holds after a reset of cause `c` (R446). -/
def resetCause (c : Nat) (p : Pwr) : Word :=
  BitVec.ofNat 24 (c * 2 ^ 20 + p.heldCause * 2 ^ 17 + (if p.holdDone = true then 2 ^ 16 else 0))

/-- All but the registers and what their latches held at the reset stays; of the registers, those of the NVA and of the life cycle may be
written. -/
def resetScope : Scope where
  Part := State
  view t := { t with io := [], latchBase := [] }
  writes a := a / 0x10000 = 6 ∨ a / 0x10000 = 7
  noRegs _ _ := rfl

section
variable {r s : State}

theorem keeps_nvaShow (h : Keeps resetScope r s) : Keeps resetScope r (nvaShow s) := by
  have hw (a : Nat) (ha : a / 0x10000 = 6) : resetScope.writes a := .inl ha
  refine .put (.each (.wr (.put h (hw _ (by decide)) _ _ _) (hw _ (by decide)) _) fun b hb t ht => ?_) (hw _ (by decide)) _ _ _
  refine ht.put (hw _ ?_) _ _ _
  simp only [List.mem_cons, List.not_mem_nil, or_false] at hb
  unfold nvaReg
  omega

theorem keeps_lifeCycleRead (h : Keeps resetScope r s) : Keeps resetScope r (lifeCycleRead s) := by
  have hw (a : Nat) (ha : a / 0x10000 = 7) : resetScope.writes a := .inr ha
  exact .wr (.wr h (hw _ (by decide)) _) (hw _ (by decide)) _

end

/-- A device reset is `resetKeeping` and PWR_RCAUSE, but for the class register that both domains share and what the NVA and
the life cycle show. -/
theorem keeps_deviceReset (c : Nat) (s : State) : ∃ w,
    Keeps resetScope (((resetKeeping s).wr 0x08000A w).wr 0x100001 (resetCause c s.pwr)) (deviceReset c s) := by
  unfold deviceReset
  extract_lets t₀ t₁ t₂ t₃ t₄
  have h₃ : Keeps resetScope t₂ t₃ := .put (.refl _ t₂) (show _ ∨ _ from .inl (by decide)) 22 21 _
  have h₄ : Keeps resetScope t₂ t₄ := keeps_lifeCycleRead (keeps_nvaShow h₃)
  clear_value t₄
  exact ⟨_, h₄.beside rfl rfl⟩

/-- `t` is the device that a reset of cause `c` makes of `s` (R434, R446): it runs from stroke time 0 with an empty key store and no core
begun; the backup domain and the waiting commands are as in `s`. -/
structure Restarted (c : Nat) (s t : State) : Prop where
  phase : t.pwr.phase = .run
  time : t.stk.time = ⟨0, 0⟩
  pending : t.pending = s.pending
  resetDue : t.pwr.resetDue = none
  slots : t.key.slots = []
  cores : t.cores = []
  backup : ∀ a, 0x080040 ≤ a → a < 0x080120 → t.rd a = s.rd a
  trec : t.ppt.trec = s.ppt.trec
  sealKey : t.ppt.sealKey = s.ppt.sealKey
  rcause : t.rd 0x100001 = resetCause c s.pwr

theorem resetKeeping_pending (s : State) : (resetKeeping s).pending = s.pending := rfl
theorem resetKeeping_trec (s : State) : (resetKeeping s).ppt.trec = s.ppt.trec := rfl
theorem resetKeeping_sealKey (s : State) : (resetKeeping s).ppt.sealKey = s.ppt.sealKey := rfl

theorem restarted_of_keeps {c : Nat} {s t : State} {w : Word}
    (h : Keeps resetScope (((resetKeeping s).wr 0x08000A w).wr 0x100001 (resetCause c s.pwr)) t) : Restarted c s t := by
  have hv : resetScope.view t = resetScope.view (resetKeeping s) :=
    h.view.trans ((resetScope.view_wr ..).trans (resetScope.view_wr ..))
  exact {
    phase := congrArg (·.pwr.phase) hv
    time := congrArg (·.stk.time) hv
    pending := (congrArg (·.pending) hv).trans (resetKeeping_pending s)
    resetDue := congrArg (·.pwr.resetDue) hv
    slots := congrArg (·.key.slots) hv
    cores := congrArg (·.cores) hv
    backup a hlo hhi := by
      have kept : keptRegister a = true := by simp [keptRegister, hlo, hhi]
      have out : ¬ resetScope.writes a := by
        rintro (ha | ha) <;> omega
      rw [h.regs a out, State.rd_wr_ne _ _ (by omega), State.rd_wr_ne _ _ (by omega), resetKeeping_rd s kept]
    trec := (congrArg (·.ppt.trec) hv).trans (resetKeeping_trec s)
    sealKey := (congrArg (·.ppt.sealKey) hv).trans (resetKeeping_sealKey s)
    rcause := (h.regs _ (show ¬ (0x100001 / 0x10000 = 6 ∨ 0x100001 / 0x10000 = 7) by decide)).trans (State.rd_wr_self ..) }

theorem restarted_deviceReset (c : Nat) (s : State) : Restarted c s (deviceReset c s) := by
  obtain ⟨w, h⟩ := keeps_deviceReset c s
  exact restarted_of_keeps h

end Sys2Proof.Machine
end

section
/-! SUPPORT. The hold-up duties begin (R435, R438), and commands whose effect is known. -/

namespace Sys2Proof.Machine

theorem dutiesBegin_phase (s : State) : (dutiesBegin s).pwr.phase = .warned := by
  unfold dutiesBegin
  extract_lets s₁ s₂ pwr hif s₃ s₄
  have h₃ : s₃.pwr.phase = .warned := rfl
  have h : Steady s₃ (linesIdle (holdShow false (zeroStores (faultJobs s₄)))) :=
    steady_linesIdle _ (steady_holdShow _ _ (steady_zeroStores _ (steady_faultJobs _ (steady_reserveRecord _ _ _ (.refl s₃)))))
  exact h.phase.trans h₃

/-- A reset that is asked for while the device runs begins the duties, whatever cause stands. -/
theorem resetDuties_askReset {s : State} (hrun : s.pwr.phase = .run) (c : Nat) : (resetDuties (askReset c s)).pwr.phase = .warned := by
  have due : (askReset c s).pwr.resetDue.isSome = true := by
    unfold askReset
    cases s.pwr.resetDue <;> rfl
  have run : (askReset c s).pwr.phase = .run := hrun
  rw [resetDuties, due, run]
  exact dutiesBegin_phase _

theorem powered_of_run {s : State} (h : s.pwr.phase = .run) : powered s = true := by simp [powered, h]

theorem powered_of_warned {s : State} (h : s.pwr.phase = .warned) : powered s = true := by simp [powered, h]

/-- An effect that leaves the state as it is leaves it so whether or not the device runs. -/
theorem live_of_eq {f : State → State} {s : State} (h : f s = s) : live f s = s := by
  rw [live, h, ite_self]

/-- A command that answers `f s`, where `f s` is known to be `t`. -/
theorem does_of_eq {c : Instr} {f : State → State} {s t : State} {P : State → Prop} (e : exec c s = .next (f s)) (h : f s = t)
    (ht : P t) : Does c s P :=
  ⟨t, e.trans (congrArg _ h), ht⟩

end Sys2Proof.Machine
end

section
/-! SUPPORT. The backup domain's tick and its power-on (R288–R291, R301–R303). -/

namespace Sys2Proof.Machine

/-! ### The samples of a tick -/

/-- Power, the stroke unit and the domain's stamp stay, and so does the tick counter. -/
def sampleScope : Scope where
  Part := Pwr × Stk × StrokeTime × Nat
  view t := (t.pwr, t.stk, t.ppt.stamp, t.ppt.stampTicks)
  writes a := a < 0x080044 ∨ 0x080045 < a
  noRegs _ _ := rfl

section
variable {r s : State}

theorem Keeps.samples {t : State} (h : Keeps sampleScope s t) :
    t.pwr = s.pwr ∧ t.stk = s.stk ∧ t.ppt.stamp = s.ppt.stamp ∧ t.ppt.stampTicks = s.ppt.stampTicks :=
  ⟨congrArg (·.1) h.view, congrArg (·.2.1) h.view, congrArg (·.2.2.1) h.view, congrArg (·.2.2.2) h.view⟩

theorem keeps_trecShow (h : Keeps sampleScope r s) : Keeps sampleScope r (trecShow s) := by
  have hstat : sampleScope.writes 0x080041 := .inl (by decide)
  unfold trecShow
  split
  · exact (h.zero 7 fun k _ => .inr (by omega)).put hstat 22 22 0
  · exact Keeps.put (.each h fun j _ t ht => ht.wr (.inr (by omega)) _) hstat 22 22 1

theorem keeps_trecTake (src cls : Nat) (h : Keeps sampleScope r s) : Keeps sampleScope r (trecTake src cls s) := by
  unfold trecTake
  split
  · exact h
  · exact keeps_trecShow (h.beside (by rfl) (by rfl))

theorem keeps_pptCountLatch {src : Nat} (hsrc : src < 64) (cls : Nat) (h : Keeps sampleScope r s) :
    Keeps sampleScope r (pptCountLatch src cls s) := by
  have hcount : Keeps sampleScope r (s.bump (0x080100 + src) 23 0) := h.put (.inr (by omega)) _ _ _
  exact .ite hcount ((hcount.put (.inl (by omega)) _ _ _).put (.inl (by decide)) _ _ _)

theorem keeps_eraseStepOne (h : Keeps sampleScope r s) : Keeps sampleScope r (eraseStepOne s) :=
  Keeps.put (h.beside (by rfl) (by rfl)) (.inl (by decide)) _ _ _

theorem keeps_pptFire {src : Nat} (hsrc : src < 64) (h : Keeps sampleScope r s) : Keeps sampleScope r (pptFire src s) := by
  unfold pptFire
  extract_lets c off s₁ s₂ ppt s₃
  have h₁ : Keeps sampleScope r s₁ := h.onlyIf (h.put (.inl (by omega)) _ _ _)
  have h₂ : Keeps sampleScope r s₂ := h₁.onlyIf (keeps_trecTake src c (keeps_pptCountLatch hsrc c h₁))
  clear_value s₂
  have h₃ : Keeps sampleScope r s₃ := h₂.beside rfl rfl
  exact h₃.onlyIf (keeps_eraseStepOne h₃)

theorem keeps_pptClear {src : Nat} (hsrc : src < 64) (h : Keeps sampleScope r s) : Keeps sampleScope r (pptClear src s) :=
  h.put (.inl (by omega)) _ _ _

theorem keeps_pptBegin {src : Nat} (hsrc : src < 64) (h : Keeps sampleScope r s) : Keeps sampleScope r (pptBegin src s) :=
  .ite h (keeps_pptFire hsrc h)

theorem keeps_switchSample {n : Nat} (hn : n < 8) (level : Bool) (h : Keeps sampleScope r s) :
    Keeps sampleScope r (switchSample n level s) := by
  have hsrc : n < 64 := by omega
  have calm : Keeps sampleScope r (pptClear n { s with ppt := { s.ppt with swRun := Tab.set 0 s.ppt.swRun n 0 } }) :=
    keeps_pptClear hsrc (h.beside (by rfl) (by rfl))
  have away := h.beside (F := sampleScope)
    (t := { s with ppt := { s.ppt with swRun := Tab.set 0 s.ppt.swRun n (Tab.get 0 s.ppt.swRun n + 1) } }) rfl rfl
  unfold switchSample
  split
  · exact calm
  · split
    · exact calm
    · exact .ite (keeps_pptBegin hsrc away) away

theorem keeps_loopSample {n : Nat} (hn : n < 16) (level : Bool) (h : Keeps sampleScope r s) :
    Keeps sampleScope r (loopSample n level s) := by
  have hsrc : 8 + n < 64 := by omega
  unfold loopSample
  split
  · exact keeps_pptClear hsrc (h.beside (by rfl) (by rfl))
  · extract_lets ok run lfsr ppt s₁
    have h₁ : Keeps sampleScope r s₁ := h.beside rfl rfl
    exact .ite (keeps_pptClear hsrc h₁) (.ite (keeps_pptBegin hsrc h₁) h₁)

end

/-- What a tick does before it samples: the counter counts and the stamp follows stroke time, or the time since it did. -/
def backupCount (s : State) : State :=
  let s := s.wrN 0x080044 2 ((s.rdN 0x080044 2 + 1) % 2 ^ 48)
  if s.pwr.phase = .off then { s with ppt := { s.ppt with stampTicks := s.ppt.stampTicks + 1 } }
  else { s with ppt := { s.ppt with stamp := s.stk.time, stampTicks := 0 } }

theorem keeps_backupTick (csw : BitVec 8) (loops : BitVec 16) (s : State) :
    Keeps sampleScope (backupCount s) (backupTick csw loops s) :=
  .each (.each (.refl _ (backupCount s)) fun n hn _ ht => keeps_switchSample (List.mem_range.mp hn) (csw.getLsbD n) ht) fun n hn _ ht =>
    keeps_loopSample (List.mem_range.mp hn) (loops.getLsbD n) ht

theorem backupCount_pwr (s : State) : (backupCount s).pwr = s.pwr := by
  unfold backupCount
  extract_lets s₁
  have h₁ : s₁.pwr = s.pwr := State.wrN_pwr ..
  split <;> exact h₁

theorem backupCount_stk (s : State) : (backupCount s).stk = s.stk := by
  unfold backupCount
  extract_lets s₁
  have h₁ : s₁.stk = s.stk := State.wrN_stk ..
  split <;> exact h₁

theorem backupCount_count (s : State) : (backupCount s).rdN 0x080044 2 = (s.rdN 0x080044 2 + 1) % 2 ^ 48 := by
  have h := State.rdN_wrN s 0x080044 2 ((s.rdN 0x080044 2 + 1) % 2 ^ 48)
  rw [Nat.mod_mod] at h
  unfold backupCount
  extract_lets s₁
  split <;> exact (State.rdN_of_io (s := s₁) (by rfl) _ _).trans h

theorem backupCount_stamp (s : State) : (backupCount s).ppt.stamp = if s.pwr.phase = .off then s.ppt.stamp else s.stk.time := by
  unfold backupCount
  simp only [State.wrN_pwr]
  split <;> simp

theorem backupCount_stampTicks (s : State) :
    (backupCount s).ppt.stampTicks = if s.pwr.phase = .off then s.ppt.stampTicks + 1 else 0 := by
  unfold backupCount
  simp only [State.wrN_pwr]
  split <;> simp

/-! ### The domain's power-on -/

theorem keeps_stepOne (s : State) :
    Keeps (powerScope fun _ => True) { s with ppt := { s.ppt with sealKey := none, swRun := [], loopRun := [], lfsr := [], seedLo := [] } }
      (stepOne s) := by
  unfold stepOne
  extract_lets ppt s₁ s₂ s₃
  have h₂ : Keeps (powerScope fun _ => True) s₁ s₂ := .each (.wr (.refl _ _) trivial _) fun _ _ _ ht => ht.wr trivial _
  have h₃ : Keeps (powerScope fun _ => True) s₁ s₃ := .each h₂ fun _ _ _ ht => ht.wr trivial _
  exact .each h₃ fun _ _ _ ht => ht.put trivial _ _ _

theorem stepOne_stk (s : State) : (stepOne s).stk = s.stk := (keeps_stepOne s).stk

theorem stepOne_sealKey (s : State) : (stepOne s).ppt.sealKey = none := by
  rw [(keeps_stepOne s).ppt]

/-- The backup domain's registers after its power-on; the parapet's state is not reset yet. -/
def backupCleared (s : State) : State :=
  ((((s.wr 0x080004 0).zero 0x080042 0xBE).zero 0x080100 32).wr 0x080041 (ioReset 0x080041)).raise 0x080041 20

theorem backupCleared_rd (s : State) {a : Nat} (hlo : 0x080042 ≤ a) (hhi : a < 0x080100) : (backupCleared s).rd a = 0 := by
  unfold backupCleared
  rw [State.rd_raise, if_neg (by omega), State.rd_wr_ne _ _ (by omega), State.rd_zero, if_neg (by omega), State.rd_zero, if_pos (by omega)]

theorem backupCleared_count (s : State) : (backupCleared s).rdN 0x080044 2 = 0 := by
  simp [State.rdN, backupCleared_rd]

theorem backupCleared_bpor (s : State) : (backupCleared s).bit 0x080041 20 = true := State.bit_put_self _ 1 (by decide)

theorem backupCleared_stk (s : State) : (backupCleared s).stk = s.stk := by simp [backupCleared]

theorem backupCleared_ppt (s : State) : (backupCleared s).ppt = s.ppt := by simp [backupCleared]

theorem backupPowerOn_eq (s : State) : backupPowerOn s =
    { backupCleared (stepOne s) with
      ppt := { (backupCleared (stepOne s)).ppt with stamp := ⟨0, 0⟩, stampTicks := 0, trec := none }
      pwr := { (backupCleared (stepOne s)).pwr with heldCause := 0, backupReset := true } } := rfl

/-! ### What is kept sealed -/

/-- A synchronisation writes the SEALED class alone. -/
theorem vaultSync_eq (s : State) : ∃ v, vaultSync s = { s with nva := { s.nva with vault := v } } := by
  unfold vaultSync
  split
  · split
    · exact ⟨_, rfl⟩
    · exact ⟨s.nva.vault, rfl⟩
  · exact ⟨s.nva.vault, rfl⟩

end Sys2Proof.Machine
end

section
/-! PROOFS. The statement about power and reset, clause by clause. -/

namespace Sys2Proof.Machine

section
variable {s : State}

/-! ### The backup domain's supplies and its tick (R291, R302, R431) -/

/-- Main power has gone with VDD_AUX (log 102). -/
theorem vbatSwitch_toBattery (mv : Nat) (h : mv < 2700) :
    Does (.vbatSwitch mv) s fun t => t.pwr = { s.pwr with phase := .off } ∧ t.bit 0x080041 21 = true
      ∧ t.ppt = s.ppt ∧ t.stk = s.stk ∧ t.bit 0x0B0001 16 = false ∧ t.bit 0x0C0001 23 = false ∧ t.bit 0x0C1001 22 = false := by
  refine ⟨vbatSwitch mv s, rfl, ?_⟩
  obtain ⟨v, hv⟩ := vaultSync_eq s
  rw [vbatSwitch, if_pos h, hv]
  have onBattery : (State.raise { s with nva := { s.nva with vault := v } } 0x080041 21).bit 0x080041 21 = true :=
    State.bit_put_self _ 1 (by decide)
  have ppt : (State.raise { s with nva := { s.nva with vault := v } } 0x080041 21).ppt = s.ppt := State.raise_ppt ..
  have stk : (State.raise { s with nva := { s.nva with vault := v } } 0x080041 21).stk = s.stk := State.raise_stk ..
  generalize State.raise { s with nva := { s.nva with vault := v } } 0x080041 21 = u at onBattery ppt stk
  have rest := pinsRest_rests { u with pwr := { s.pwr with phase := .off } }
  have shown := rest.bit (a := 0x080041) (by simp [pinBlock]) 21
  exact ⟨rest.pwr, shown.trans ((State.bit_congr (s := u) (by rfl) _ _).trans onBattery), rest.ppt.trans ppt, rest.stk.trans stk,
    rest.holdOut, rest.field, rest.card⟩

theorem vbatSwitch_toAux (mv : Nat) (h : 2900 < mv) :
    Does (.vbatSwitch mv) s fun t => t.bit 0x080041 21 = false ∧ t.pwr = s.pwr ∧ t.ppt = s.ppt ∧ RegsKept s t [0x080041] := by
  refine ⟨vbatSwitch mv s, rfl, ?_⟩
  rw [vbatSwitch, if_neg (by omega), if_pos h]
  exact ⟨State.bit_put_self s 0 (by decide), State.put_pwr .., State.put_ppt .., State.regsKept_put s _ _ _ _⟩

theorem vbatSwitch_between (mv : Nat) (hlo : 2700 ≤ mv) (hhi : mv ≤ 2900) : Does (.vbatSwitch mv) s fun t => t = s :=
  ⟨vbatSwitch mv s, rfl, by rw [vbatSwitch, if_neg (by omega), if_neg (by omega)]⟩

theorem backupPowerOn_resets :
    Does .backupPowerOn s fun t => t.ppt.trec = none ∧ t.ppt.sealKey = none ∧ t.bit 0x080041 20 = true ∧ t.pwr.heldCause = 0
      ∧ t.pwr.backupReset = true ∧ t.rdN 0x080044 2 = 0 ∧ t.stk = s.stk := by
  refine ⟨backupPowerOn s, rfl, ?_⟩
  have sealKey : (backupCleared (stepOne s)).ppt.sealKey = none := by rw [backupCleared_ppt, stepOne_sealKey]
  have bpor := backupCleared_bpor (stepOne s)
  have count := backupCleared_count (stepOne s)
  have stk : (backupCleared (stepOne s)).stk = s.stk := by rw [backupCleared_stk, stepOne_stk]
  rw [backupPowerOn_eq]
  generalize backupCleared (stepOne s) = u at sealKey bpor count stk
  exact ⟨rfl, sealKey, (State.bit_congr (s := u) (by rfl) _ _).trans bpor, rfl, rfl,
    (State.rdN_of_io (s := u) (by rfl) _ _).trans count, stk⟩

theorem backupTick_counts (csw : BitVec 8) (loops : BitVec 16) :
    Does (.backupTick csw loops) s fun t => t.rdN 0x080044 2 = (s.rdN 0x080044 2 + 1) % 2 ^ 48
      ∧ t.ppt.stamp = (if s.pwr.phase = .off then s.ppt.stamp else s.stk.time)
      ∧ t.ppt.stampTicks = (if s.pwr.phase = .off then s.ppt.stampTicks + 1 else 0) ∧ t.pwr = s.pwr ∧ t.stk = s.stk := by
  have h := keeps_backupTick csw loops s
  have count : (backupTick csw loops s).rdN 0x080044 2 = (backupCount s).rdN 0x080044 2 := by
    refine State.rdN_congr fun b hlo hhi => h.regs b ?_
    rintro (hb | hb) <;> omega
  obtain ⟨pwr, stk, stamp, ticks⟩ := h.samples
  exact ⟨backupTick csw loops s, rfl, count.trans (backupCount_count s), stamp.trans (backupCount_stamp s),
    ticks.trans (backupCount_stampTicks s), pwr.trans (backupCount_pwr s), stk.trans (backupCount_stk s)⟩

/-! ### Resets (R430, R434, R435, R439) -/

theorem mainPowerOn_early (us : Nat) (h : us < 1000) : Does (.mainPowerOn us) s fun t => t = s := ⟨mainPowerOn us s, rfl, if_pos h⟩

theorem mainPowerOn_resets (us : Nat) (h : 1000 ≤ us) :
    Does (.mainPowerOn us) s fun t => t.pwr.phase = .run ∧ t.stk.time = ⟨0, 0⟩ ∧ t.pending = s.pending ∧ t.key.slots = [] ∧ t.cores = []
      ∧ (∀ a, 0x080040 ≤ a → a < 0x080120 → t.rd a = s.rd a) ∧ t.ppt.trec = s.ppt.trec ∧ t.ppt.sealKey = s.ppt.sealKey
      ∧ t.rd 0x100001 = BitVec.ofNat 24 ((if s.pwr.backupReset = true then 7 else 0) * 2 ^ 20 + s.pwr.heldCause * 2 ^ 17
        + (if s.pwr.holdDone = true then 2 ^ 16 else 0)) := by
  obtain ⟨v, hv⟩ := vaultSync_eq s
  have e : mainPowerOn us s = deviceReset (if s.pwr.backupReset then 7 else 0) { s with nva := { s.nva with vault := v } } := by
    rw [mainPowerOn, if_neg (by omega), hv]
  have r := restarted_deviceReset (if s.pwr.backupReset then 7 else 0) { s with nva := { s.nva with vault := v } }
  rw [← e] at r
  exact ⟨mainPowerOn us s, rfl, r.phase, r.time, r.pending, r.slots, r.cores, r.backup, r.trec, r.sealKey, r.rcause⟩

theorem powerReturn_resets (k mv : Nat) (hhold : s.pwr.phase = .hold) (hk : 430 ≤ k) (hmv : 700 + 5 * s.fld 0x100007 3 0 < mv) :
    Does (.powerReturn k mv) s fun t => t.pwr.phase = .run ∧ t.stk.time = ⟨0, 0⟩ ∧ t.pending = s.pending
      ∧ (∀ a, 0x080040 ≤ a → a < 0x080120 → t.rd a = s.rd a)
      ∧ t.rd 0x100001 = BitVec.ofNat 24 (6 * 2 ^ 20 + s.pwr.heldCause * 2 ^ 17 + (if s.pwr.holdDone = true then 2 ^ 16 else 0)) := by
  have r := restarted_deviceReset 6 s
  have e : powerReturn k mv s = deviceReset 6 s := if_pos ⟨hhold, hk, hmv⟩
  exact does_of_eq rfl e ⟨r.phase, r.time, r.pending, r.backup, r.rcause⟩

theorem powerReturn_waits (k mv : Nat) (h : s.pwr.phase ≠ .hold ∨ k < 430 ∨ mv ≤ 700 + 5 * s.fld 0x100007 3 0) :
    Does (.powerReturn k mv) s fun t => t = s := by
  refine ⟨powerReturn k mv s, rfl, if_neg ?_⟩
  rintro ⟨hhold, hk, hmv⟩
  unfold monitorTrip at hmv
  rcases h with h | h | h
  · exact h hhold
  · omega
  · omega

theorem deviceReset_afterDuties (c : Nat) (hdue : s.pwr.resetDue = some c) (hwarned : s.pwr.phase = .warned)
    (hdone : s.pwr.warnAt + 58 ≤ s.tick) :
    Does .deviceReset s fun t => t.pwr.phase = .run ∧ t.stk.time = ⟨0, 0⟩ ∧ t.pending = s.pending ∧ t.pwr.resetDue = none
      ∧ t.key.slots = [] ∧ (∀ a, 0x080040 ≤ a → a < 0x080120 → t.rd a = s.rd a) ∧ t.ppt.sealKey = s.ppt.sealKey
      ∧ t.rd 0x100001 = BitVec.ofNat 24 (c * 2 ^ 20 + s.pwr.heldCause * 2 ^ 17 + 2 ^ 16) := by
  have done : dutiesDone s = true := by simp [dutiesDone, hwarned, hdone]
  refine does_of_live (f := deviceResetDue) (powered_of_warned hwarned) rfl ?_
  rw [deviceResetDue, hdue]
  simp only [done, if_true]
  have r := restarted_deviceReset c { s with pwr := { s.pwr with holdDone := true } }
  exact ⟨r.phase, r.time, r.pending, r.resetDue, r.slots, r.backup, r.sealKey, r.rcause⟩

theorem deviceReset_notDue (h : s.pwr.resetDue = none) : Does .deviceReset s fun t => t = s :=
  ⟨live deviceResetDue s, rfl, live_of_eq (by rw [deviceResetDue, h])⟩

theorem rstN_short (n : Nat) (h : n < 1000) : Does (.rstN n) s fun t => t = s := ⟨rstN n s, rfl, if_pos h⟩

theorem rstN_beginsDuties (n : Nat) (h : 1000 ≤ n) (hrun : s.pwr.phase = .run) : Does (.rstN n) s fun t => t.pwr.phase = .warned := by
  refine ⟨rstN n s, rfl, ?_⟩
  rw [rstN, if_neg (by omega), if_neg (by simp [hrun]), if_pos (powered_of_run hrun)]
  exact resetDuties_askReset hrun 1

/-- A device held for want of its fabric PLL has no duties (log 54). -/
theorem rstN_resets (n : Nat) (h : 1000 ≤ n) (hreset : s.pwr.phase = .reset) :
    Does (.rstN n) s fun t => t.pwr.phase = .run ∧ t.stk.time = ⟨0, 0⟩ := by
  have e : rstN n s = deviceReset 1 s := by rw [rstN, if_neg (by omega), if_pos hreset]
  exact does_of_eq rfl e ⟨deviceReset_phase 1 s, deviceReset_time 1 s⟩

/-! ### The power-fail warning and the hold (R438) -/

theorem powerFailWarning_pin (mv ns : Nat) (hrun : s.pwr.phase = .run) (hen : s.bit 0x100005 22 = true) (hns : 100 ≤ ns) :
    Does (.powerFailWarning true mv ns) s fun t => t.pwr.phase = .warned ∧ t.bit 0x100000 15 = true := by
  have e : powerFailWarning true mv ns s = (dutiesBegin s).put 0x100000 15 15 1 := by
    simp [powerFailWarning, hrun, hen, Nat.not_lt.mpr hns]
  have phase := dutiesBegin_phase s
  generalize dutiesBegin s = u at e phase
  exact does_of_eq rfl e ⟨(congrArg (·.phase) (State.put_pwr ..)).trans phase, State.bit_put_self u 1 (by decide)⟩

theorem powerFailWarning_pinNotEnabled (mv ns : Nat) (hrun : s.pwr.phase = .run) (hen : s.bit 0x100005 22 = false) (hns : 100 ≤ ns) :
    Does (.powerFailWarning true mv ns) s fun t => t.bit 0x100000 15 = true ∧ t.pwr = s.pwr ∧ RegsKept s t [0x100000] := by
  have e : powerFailWarning true mv ns s = s.put 0x100000 15 15 1 := by simp [powerFailWarning, hrun, hen, Nat.not_lt.mpr hns]
  exact does_of_eq rfl e ⟨State.bit_put_self s 1 (by decide), State.put_pwr .., State.regsKept_put s _ _ _ _⟩

theorem powerFailWarning_monitor (mv ns : Nat) (hrun : s.pwr.phase = .run) (hmv : mv < 700 + 5 * s.fld 0x100007 3 0) (hns : 200 ≤ ns) :
    Does (.powerFailWarning false mv ns) s fun t => t.pwr.phase = .warned := by
  have e : powerFailWarning false mv ns s = dutiesBegin s := by simp [powerFailWarning, monitorTrip, hrun, hmv, hns]
  exact does_of_eq rfl e (dutiesBegin_phase s)

theorem powerFailWarning_ignored (p : Bool) (mv ns : Nat) (h : s.pwr.phase ≠ .run ∨ ns < 100) :
    Does (.powerFailWarning p mv ns) s fun t => t = s := by
  refine ⟨powerFailWarning p mv ns s, rfl, ?_⟩
  rcases h with h | h
  · simp [powerFailWarning, h]
  · cases p with
    | true => simp [powerFailWarning, h]
    | false => simp [powerFailWarning, show ¬ 200 ≤ ns by omega]

theorem powerFailHold_afterDuties (hwarned : s.pwr.phase = .warned) (hdue : s.pwr.resetDue = none) (hdone : s.pwr.warnAt + 63 ≤ s.tick) :
    Does .powerFailHold s fun t => t.pwr = { s.pwr with phase := .hold, holdDone := true } ∧ t.stk = s.stk ∧ t.ppt = s.ppt
      ∧ t.bit 0x0B0001 16 = false ∧ t.bit 0x0C0001 23 = false ∧ t.bit 0x0C1001 22 = false := by
  have e : powerFailHold s = pinsRest { s with pwr := { s.pwr with phase := .hold, holdDone := true } } := by
    simp [powerFailHold, hwarned, hdue, hdone]
  have rest := pinsRest_rests { s with pwr := { s.pwr with phase := .hold, holdDone := true } }
  exact does_of_eq (f := powerFailHold) rfl e ⟨rest.pwr, rest.stk, rest.ppt, rest.holdOut, rest.field, rest.card⟩

/-! ### The PLLs (R433) -/

/-- A lock that may still be tried again. -/
theorem pllLockTimeout_retries (p : Fin 38) (hrun : s.pwr.phase = .run) (hstep : s.fld 0x100000 21 18 = 0)
    (hlock : s.bit 0x100000 17 = false) (htries : Tab.get 0 s.pwr.pllTries p < 2) :
    Does (.pllLockTimeout p) s fun t => t = { s with
      pwr := { s.pwr with pllTries := Tab.set 0 s.pwr.pllTries p (Tab.get 0 s.pwr.pllTries p + 1) } } := by
  refine ⟨pllLockTimeout p s, rfl, ?_⟩
  have count : min 3 (Tab.get 0 s.pwr.pllTries p + 1) = Tab.get 0 s.pwr.pllTries p + 1 := by omega
  rw [pllLockTimeout, if_neg (by simp [hrun, hstep, hlock])]
  simp only [count]
  rw [if_neg (by omega)]

/-- The fabric PLL fails: the device stays in reset, in boot stop (log 54). -/
theorem pllLockTimeout_fabric (hrun : s.pwr.phase = .run) (hstep : s.fld 0x100000 21 18 = 0) (hlock : s.bit 0x100000 17 = false)
    (htries : Tab.get 0 s.pwr.pllTries 0 = 2) :
    Does (.pllLockTimeout 0) s fun t => t.pwr.phase = .reset ∧ t.bit 0x100000 22 = true ∧ t.bit 0x0B0001 16 = false := by
  refine ⟨pllLockTimeout 0 s, rfl, ?_⟩
  have count : min 3 (Tab.get 0 s.pwr.pllTries 0 + 1) = 3 := by omega
  rw [pllLockTimeout, if_neg (by simp [hrun, hstep, hlock])]
  simp only [count, and_self, if_true]
  exact noPll_holds _

/-! ### PWR_CTL and the watchdog's service (R435, R436, R446) -/

theorem ioWrite_pwrCtl (m : Master) (w : Word) (s : State) : ioWrite m 0x100004 w s = pwrCtlWrite (isKeep m) w s := rfl

theorem ioWrite_pwrWdog (m : Master) (w : Word) (s : State) : ioWrite m 0x100006 w s = s.onlyIf (isKeep m) (wdogWrite w) := rfl

theorem pwrCtl_asksReset (m : Master) (h : Reaches m 0x100004 s) (hm : m = .keep) (hdue : s.pwr.resetDue = none) :
    Does (.pwrCtl m 0x5AA5C3) s fun t => t = { s with pwr := { s.pwr with resetDue := some 2 } } := by
  refine ⟨regWrite m 0x100004 0x5AA5C3 s, rfl, ?_⟩
  rw [regWrite_of_reaches h, ioWrite_pwrCtl, hm, pwrCtlWrite, if_pos (by decide), hdue]
  rfl

theorem pwrCtl_discards (m : Master) (w : Word) (h : Reaches m 0x100004 s) (hw : w ≠ 0x5AA5C3) :
    Does (.pwrCtl m w) s fun t => t = s := by
  refine ⟨regWrite m 0x100004 w s, rfl, ?_⟩
  rw [regWrite_of_reaches h, ioWrite_pwrCtl, pwrCtlWrite, beq_false_of_ne hw, Bool.and_false]
  rfl

theorem pwrWdog_services (m : Master) (h : Reaches m 0x100006 s) (hm : m = .keep) :
    Does (.pwrWdog m 0xA55A3C) s fun t => t = { s with pwr := { s.pwr with wdAge := 0 } } := by
  refine ⟨regWrite m 0x100006 0xA55A3C s, rfl, ?_⟩
  rw [regWrite_of_reaches h, ioWrite_pwrWdog, hm, State.onlyIf, if_pos (by decide), wdogWrite, if_pos rfl]

theorem pwrWdog_discards (m : Master) (w : Word) (h : Reaches m 0x100006 s) (hw : w ≠ 0xA55A3C) :
    Does (.pwrWdog m w) s fun t => t = s := by
  refine ⟨regWrite m 0x100006 w s, rfl, ?_⟩
  rw [regWrite_of_reaches h, ioWrite_pwrWdog, State.onlyIf, wdogWrite, if_neg hw, ite_self]

/-! ### The watchdog and the SAFE-HOLD timer (R436, R437) -/

theorem wdogWarn_raises (hp : powered s = true) (hsafe : s.pwr.safeHold = none) (h : 2 ^ s.fld 0x100005 15 11 / 2 ≤ s.pwr.wdAge) :
    Does .wdogWarn s fun t => t.bit 0x100002 1 = true ∧ RegsKept s t [0x100002] ∧ t.pwr = s.pwr := by
  refine does_of_live (f := wdogWarn) hp rfl ?_
  rw [wdogWarn, if_pos ⟨by rw [hsafe]; rfl, h⟩]
  exact ⟨State.bit_put_self s 1 (by decide), State.regsKept_put s _ _ _ _, State.put_pwr ..⟩

theorem wdogWarn_early (h : s.pwr.wdAge < 2 ^ s.fld 0x100005 15 11 / 2) : Does .wdogWarn s fun t => t = s :=
  ⟨live wdogWarn s, rfl, live_of_eq (if_neg fun g => absurd g.2 (Nat.not_le.mpr h))⟩

theorem watchdogExpiry_beginsDuties (hrun : s.pwr.phase = .run) (hsafe : s.pwr.safeHold = none)
    (h : 2 ^ s.fld 0x100005 15 11 ≤ s.pwr.wdAge) : Does .watchdogExpiry s fun t => t.pwr.phase = .warned := by
  refine does_of_live (f := watchdogExpiry) (powered_of_run hrun) rfl ?_
  rw [watchdogExpiry, if_pos ⟨by rw [hsafe]; rfl, h, hrun⟩]
  exact resetDuties_askReset hrun 3

theorem watchdogExpiry_early (h : s.pwr.wdAge < 2 ^ s.fld 0x100005 15 11) : Does .watchdogExpiry s fun t => t = s :=
  ⟨live watchdogExpiry s, rfl, live_of_eq (if_neg fun g => absurd g.2.1 (Nat.not_le.mpr h))⟩

theorem safeHoldTimer_beginsDuties (hrun : s.pwr.phase = .run) (hsafe : s.pwr.safeHold.isSome = true) (hlog : s.fld 0x100005 4 0 ≠ 0)
    (h : 2 ^ s.fld 0x100005 4 0 ≤ s.pwr.holdAge) : Does .safeHoldTimer s fun t => t.pwr.phase = .warned := by
  refine does_of_live (f := safeHoldTimer) (powered_of_run hrun) rfl ?_
  have e : safeHoldTimer s = resetDuties (askReset 4 s) := if_pos ⟨hsafe, hlog, h, hrun⟩
  rw [e]
  exact resetDuties_askReset hrun 4

theorem safeHoldTimer_stopped (h : s.fld 0x100005 4 0 = 0 ∨ s.pwr.safeHold = none) : Does .safeHoldTimer s fun t => t = s := by
  refine ⟨live safeHoldTimer s, rfl, live_of_eq (if_neg ?_)⟩
  rintro ⟨hsafe, hlog, -⟩
  rcases h with h | h
  · exact hlog h
  · simp [h] at hsafe

end

/-- Settles O58: one lemma for each clause. Beside the rules the clauses rest on the log's readings: a fabric PLL that does not lock on its
third try leaves the device in reset (entry 54); the duties are done 58 strokes after the warning (entry 100); without VDD_AUX main power is
absent (entry 102); PWR_RCAUSE shows the SAFE-HOLD cause latched before the reset (entry 117). -/
theorem powerAndReset : Obligations.PowerAndReset := by
  unfold Obligations.PowerAndReset
  exact fun s => ⟨vbatSwitch_toBattery, vbatSwitch_toAux, vbatSwitch_between, backupPowerOn_resets, mainPowerOn_early, mainPowerOn_resets,
    powerReturn_resets, powerReturn_waits, deviceReset_afterDuties, deviceReset_notDue, rstN_short, rstN_beginsDuties, rstN_resets,
    powerFailWarning_pin, powerFailWarning_pinNotEnabled, powerFailWarning_monitor, powerFailWarning_ignored, powerFailHold_afterDuties,
    pllLockTimeout_retries, pllLockTimeout_fabric, pwrCtl_asksReset, pwrCtl_discards, pwrWdog_services, pwrWdog_discards,
    wdogWarn_raises, wdogWarn_early, watchdogExpiry_beginsDuties, watchdogExpiry_early, safeHoldTimer_beginsDuties,
    safeHoldTimer_stopped, backupTick_counts⟩

end Sys2Proof.Machine
end
